-- ==== Sys2Proof/Word.lean ====
section
/-! DEFINITION. Word.lean: the byte, the 64-bit word (R9, R10) and the sparse map from a number to a value by which the state
holds memory, registers and every numbered object. -/
namespace Sys2Proof

/-- A byte of memory. -/
abbrev Byte := BitVec 8

/-- A 64-bit register or memory word. -/
abbrev Word := BitVec 64

/-- Pairs of a number and a value, numbers strictly rising in the canonical form. -/
abbrev SMap (β : Type) := List (Nat × β)

end Sys2Proof
end

