-- ==== Sys2Proof/Syntax.lean ====
section
/-! DEFINITION. Syntax.lean: the commands of the block, one constructor of `Instr` per row of spec/opcode_table.json, and
the types of their operands. A command is an operation or event of the table: a register access, an instruction of a core or
of a command processor, a message of a port, an event of a pin or of a timer. -/
namespace Sys2Proof

/-- Who makes a register access (R10 to R14, R217, R350, R351): function f = port × 64 + v, management firmware, or a command
processor. -/
inductive Accessor where
  | fn (f : Nat)
  | fw
  | cp (p : Nat)
  deriving DecidableEq, Repr

/-- Who executes a sequencer instruction: resident r of physical core n (R378), or command processor p (R96). -/
inductive Seqr where
  | core (n r : Nat)
  | cp (p : Nat)
  deriving DecidableEq, Repr

/-- The predicate bits of an instruction word (R75): psel in 51:49, pneg in 48. -/
structure Pred where
  psel : Nat
  pneg : Bool
  deriving DecidableEq, Repr

/-- The operand field of an instruction word, bits 47:0 (R75). -/
abbrev Ops := BitVec 48

/-- The condition of `seq.cmp` and `seq.cmpi` (R88). -/
inductive Cond where
  | eq | ne | lt | ge | ltu | geu
  deriving DecidableEq, Repr

/-- The size of a scalar access (R88): b, h, w, d. -/
inductive Size where
  | b | h | w | d
  deriving DecidableEq, Repr

/-- The status of a memory request (R160), in the order of its codes. -/
inductive MemStatus where
  | ok | decode | islandOff | poison | integrity | absent | exportRefused | keyRefused | epochNack
  deriving DecidableEq, Repr

/-- What made a memory request, and to whom its reply goes (R160, R412): a started LOAD or gather of a core, a read-ahead of
stream st and tile k, a scalar access, a store, a piece of DMA channel x, an index line of engine e, the descriptor fetch of
channel x, a command processor, management firmware, the agent of a port, a host port. -/
inductive Owner where
  | loadIns (n r : Nat)
  | ahead (n r st k : Nat)
  | scalar (n r : Nat)
  | storeIns (n r : Nat)
  | dmaPiece (x : Nat)
  | indexLine (e line : Nat)
  | descFetch (x : Nat)
  | cpAccess (p : Nat)
  | fw
  | agent (k : Nat)
  | host (h : Nat)
  deriving DecidableEq, Repr

/-- What a memory request does: read, write these bytes, or add atomically to an 8-byte word (R166). -/
inductive MemOp where
  | read
  | write (data : List Byte)
  | add (v : Word)
  deriving DecidableEq, Repr

/-- The error that the memory meets at this access (R165, R172): none, corrected, or uncorrectable. -/
inductive CellErr where
  | none | corrected | uncorrectable
  deriving DecidableEq, Repr

/-- The error that the fabric makes in this request's flits (R262): none, a corrected word, an uncorrectable payload word, a
header word whose second source copy is intact, a header word whose copy is lost too. -/
inductive FabErr where
  | none | corrected | payload | headerCopied | headerLost
  deriving DecidableEq, Repr

/-- A memory request as it reaches a boundary (R31): its owner, entry number of the owner's island (R412), address, length,
operation, key selector (R168), composition and epoch where it carries them (R324), its traffic class as R269 numbers them (R187), whether
the leaf that translated it logs writes (R222, R241), the island identity of the fabric segment where an error arises, and the errors met. -/
structure MemReq where
  owner : Owner
  entry : Nat
  addr : Nat
  len : Nat
  op : MemOp
  sel : Nat
  comp : Option Nat
  epoch : Nat
  cls : Nat
  log : Bool
  seg : Nat
  cellErr : CellErr
  fabErr : FabErr
  deriving DecidableEq, Repr

/-- A reservation request as it reaches a RECV station (R50, R122, R124): the sender's core (behind port `port` where one is named),
the sender's resident and the dispatch number of its instruction, its composition and epoch, the tile queue it names, and the
shape and format it sends; a sender behind a port is named by its message's tag in `src`. -/
structure Reservation where
  src : Nat
  srcR : Nat
  ins : Nat
  port : Option Nat
  comp : Nat
  epoch : Nat
  tq : Nat
  rows : Nat
  rowBytes : Nat
  format : Nat
  deriving DecidableEq, Repr

/-- What a binding zero-fills (R169): a near-memory partition of a stack, or a core's scratchpad. -/
inductive FillTarget where
  | part (stack p : Nat)
  | core (n : Nat)
  deriving DecidableEq, Repr

/-- What the guarantee monitor measured for one reservation entry in a window (R198): bytes delivered and bytes offered. -/
structure WindowSample where
  entry : Nat
  delivered : Nat
  offered : Nat
  deriving DecidableEq, Repr

/-- A unit that holds translations (R230): core n's LOAD or STORE micro-TLB, engine e's, or the level-2 unit of a half. -/
inductive TlbUnit where
  | load (n : Nat)
  | store (n : Nat)
  | eng (e : Nat)
  | half (h : Nat)
  deriving DecidableEq, Repr

/-- A SYNC message as it arrives: the number that it names, and the fabric segment that has dropped its flit for an uncorrectable error, where one has
(R247, R262). -/
structure SyncMsg where
  what : Nat
  lost : Option Nat
  deriving DecidableEq, Repr

/-- A place in a partner's stream of frames: the key phase and the counter (R273, R276). -/
structure FramePoint where
  phase : Nat
  ctr : Nat
  deriving DecidableEq, Repr

/-- A segment of a tile on its way to its receiver: the tag of its transfer, its byte position within the tile, whether it is poisoned (R124, R262,
R285). -/
structure TileSeg where
  tag : Nat
  off : Nat
  poison : Bool
  deriving DecidableEq, Repr

/-- What a bring-up step of a port found (R277, R278): whether the step itself succeeded (lock, codewords, signature, first
heartbeat), the lanes of each direction found bad, and what the partner declared: its role, its node identity, whether its
certificate chain verifies and the trust anchor that it verifies to, and whether it is a ULK-7400 whose port names this device as its twin. -/
structure BringUp where
  ok : Bool
  badTx : Nat
  badRx : Nat
  role : Nat
  node : Nat
  chainOk : Bool
  anchor : List Byte
  namesUs : Bool
  deriving DecidableEq, Repr

/-- A segment of a frame with its descriptor (R269): bits 31:26 of the descriptor stand in `zero`; the data in clear. -/
structure Segment where
  kind : Nat
  hops : Nat
  dest : Nat
  cls : Nat
  zero : Nat
  data : List Byte
  deriving DecidableEq, Repr

/-- A frame on a port (R268): the fields of its header, the zero fields gathered in `zero`, its segments in clear; and what the
receiver found of it: how many of its codewords were corrected and how many could not be, whether the tag verifies (R272). -/
structure Frame where
  ftype : Nat
  phase : Nat
  island : Nat
  ack : Nat
  ctr : Nat
  dt : Nat
  zero : Nat
  segs : List Segment
  corrected : Nat
  uncorrected : Nat
  tagOk : Bool
  deriving DecidableEq, Repr

/-- A port message (R282): op, status, sealed, number of data segments, tag, offset, group, length, aux and the metadata words. -/
structure PortMsg where
  op : Nat
  status : Nat
  sealedReq : Bool
  ndata : Nat
  tag : Nat
  offset : Nat
  group : Nat
  length : Nat
  aux : Nat
  metaWords : List Nat
  deriving DecidableEq, Repr

/-- A message with the traffic class that its requester gave it (R178, R269). -/
structure ClassMsg where
  cls : Nat
  msg : PortMsg
  deriving DecidableEq, Repr

/-- A queue of commands (R352): queue q, or the admin queue of function f. -/
inductive QRef where
  | queue (q : Nat)
  | admin (f : Nat)
  deriving DecidableEq, Repr

/-- An engine the watchdogs and the ladder name (R409, R411). -/
inductive Engine where
  | core (n r : Nat)
  | chan (x : Nat)
  | cp (p : Nat)
  | agent (k : Nat)
  | unit (u : TlbUnit)
  deriving DecidableEq, Repr

/-- How a quarantine replay ends (R415). -/
inductive ReplayEnd where
  | clean | hang
  deriving DecidableEq, Repr

/-- The channel of an SPDM request (R429): the DOE mailbox of a physical function's host port, or a management session. -/
inductive SpdmChan where
  | doe (h : Nat)
  | session (i : Nat)
  deriving DecidableEq, Repr

/-- A client's opening of a management session (R431, R432): whether it offers TLS 1.3, one of the two suites, the group and the
signature scheme; its public key, the chain over it, and the proof that it holds the key. -/
structure ClientHello where
  tls13 : Bool
  suite : Bool
  group : Bool
  scheme : Bool
  key : List Byte
  chain : List Byte
  proof : List Byte
  deriving DecidableEq, Repr

/-- A credential entry (R432): the SHA-256 digest of a public key and the role mask: bit 0 OBSERVE, 1 OPERATE, 2 MAINTAIN, 3 ADMIN. -/
structure Credential where
  digest : List Byte
  roles : Nat
  deriving DecidableEq, Repr

/-- An administrative write of a management session (R432): the trust anchors, the credential entries, the operator device
certificate (none: empty), the node identity. -/
inductive AdminChange where
  | anchors (l : List (List Byte))
  | credentials (l : List Credential)
  | certificate (chain : List Byte)
  | nodeId (n : Nat)
  deriving DecidableEq, Repr

/-- The sillage register that console command SIL sets (R467). -/
inductive SilReg where
  | cfg | filt | rd
  deriving DecidableEq, Repr

/-- The commands: one constructor per row of spec/opcode_table.json, in its order. Each docstring names the row's rules. -/
inductive Instr where
  /-- REGISTER_WRITE: R10-R15, R351: wrong size/alignment -> Unsupported Request, data discarded; no register or not visible to who -> ignored; else
each field with no row of its own by its type (RW set, W1C clear, W1S set, RO ignored), with the conditions its Meaning gives (ignored while enabled,
clamped ...). -/
  | registerWrite (who : Accessor) (off : Nat) (size : Nat) (v : Word)
  /-- RC_FIELD_READ: R13,R199: answers the register's value in lastAccess and clears its RC fields in the same access. -/
  | rcFieldRead (who : Accessor) (off : Nat) (size : Nat)
  /-- GATE_REQUEST: R28,R29,R32,R317,R20: refused while a dependent is ON / cluster bound / homed compositions; queued while a transition runs; else
quiesce: transition gating begins, DT stamped. -/
  | gateRequest (i : Nat) (retain : Bool)
  /-- GATE_DRAIN_END: R29,R24: gating domain isolated, retained or powered off; what R24 says is lost is lost; micro-TLB lost; next queued request served. -/
  | gateDrainEnd (i : Nat)
  /-- GATING_FAILED: R30: 10 us after quiesce: back to ON, fault record GATING_FAILED code 0, PWR_DOM result FAILED. -/
  | gatingFailed (i : Nat) (fifos : Nat)
  /-- DOMAIN_WAKE: R28,R29: brings the OFF domains it depends on up first; transition waking begins, credit bound stamped. -/
  | domainWake (i : Nat)
  /-- WAKE_CREDITS_COMPLETE: R34,R294,R257: isolation released, ON, DT replica loaded, held SYNC messages delivered. -/
  | wakeCreditsComplete (i : Nat)
  /-- WAKE_CREDIT_TIMEOUT: R34: 1 us: isolation kept, back to OFF or RETAIN, fault record GATING_FAILED code 1. -/
  | wakeCreditTimeout (i : Nat) (missing : Nat)
  /-- CLOCK_CHANGE: R35,R24,R248: island clock set if offered by its kind; no flit lost. -/
  | clockChange (i : Nat) (mhz : Nat)
  /-- REQUEST_AT_BOUNDARY: R31,R158-R167,R171-R173,R255,R324,R441,R180,R241,R262: judged (DECODE, ISLAND_OFF/half-asleep NACK, EPOCH_NACK,
KEY_REFUSED, tag, poison, MAC) and performed; its reply is put in flight. -/
  | requestAtBoundary (q : MemReq)
  /-- STATION_INSTRUCTION_START: R102,R100,R43,R44,R45,R80: head of station u's queue takes tokens, checks, starts; or fault R74. -/
  | stationInstructionStart (n : Nat) (r : Nat) (u : Nat)
  /-- STATION_INSTRUCTION_COMPLETE: R102,R48,R49,R152,R474: oldest started instruction performs its effect, tokens change, sflags set, watches
observe; ends seq.wait. -/
  | stationInstructionComplete (n : Nat) (r : Nat) (u : Nat)
  /-- QUEUE_DEADLOCK: R47: fault when every queued head waits on a token nobody provides and nothing is outstanding. -/
  | queueDeadlock (n : Nat) (r : Nat)
  /-- READ_AHEAD_TILE: R53,R54: stream k reads the next tile ahead into the EMPTY set head handle, FILLING; a fault is held. -/
  | readAheadTile (n : Nat) (r : Nat) (k : Nat)
  /-- PARKED_PULL_WAKE: R58,R61: parked seq.pull repeats, or leaves when done = N. -/
  | parkedPullWake (n : Nat) (r : Nat)
  /-- PREEMPTION_REQUEST: R65,R90: dispatch stops, sequencer instruction resolved, read-ahead returned to EMPTY. -/
  | preemptionRequest (n : Nat) (r : Nat)
  /-- TILE_BOUNDARY_REACHED: R65,R68,R396: with nothing started, state saved to the slot the pre-emption names (or kept in place). -/
  | tileBoundaryReached (n : Nat) (r : Nat)
  /-- TILE_BUDGET_EXPIRE: R66,R391: core reported overrunning, overrun counted. -/
  | tileBudgetExpire (n : Nat) (r : Nat)
  /-- CORE_RESUME_FILL: R69,R79,R83: state restored from the slot, recorded loads replayed first, icache invalidated. -/
  | coreResumeFill (n : Nat) (r : Nat) (slot : Nat)
  /-- ICACHE_LINE_FILL: R83,R95: line installed and dispatch resumes, or FETCH_FAULT / FETCH_ALIGN. -/
  | icacheLineFill (n : Nat) (r : Nat) (va : Nat) (ok : Bool)
  /-- SETUP_RELEASE: R94,R56: held setup takes effect once its objects are free. -/
  | setupRelease (n : Nat) (r : Nat)
  /-- SEQ_NOP: R88,R95,R75: a word with no other row of its own: seq.nop does nothing; reserved unit, undefined opcode or nonzero zero-field raises
ILLEGAL_INSTRUCTION, on a core 0xC0-0xC4 PRIVILEGED_INSTRUCTION. -/
  | seqNop (q : Seqr) (w : Word)
  /-- SEQ_ADD: R88 RR format: rd = ra op rb; pc + 8; encoding checks R87, R95. -/
  | seqAdd (q : Seqr) (p : Pred) (ops : Ops)
  /-- SEQ_SUB: R88 RR format: rd = ra op rb; pc + 8; encoding checks R87, R95. -/
  | seqSub (q : Seqr) (p : Pred) (ops : Ops)
  /-- SEQ_MUL: R88 RR format: rd = ra op rb; pc + 8; encoding checks R87, R95. -/
  | seqMul (q : Seqr) (p : Pred) (ops : Ops)
  /-- SEQ_MULHU: R88 RR format: rd = ra op rb; pc + 8; encoding checks R87, R95. -/
  | seqMulhu (q : Seqr) (p : Pred) (ops : Ops)
  /-- SEQ_AND: R88 RR format: rd = ra op rb; pc + 8; encoding checks R87, R95. -/
  | seqAnd (q : Seqr) (p : Pred) (ops : Ops)
  /-- SEQ_OR: R88 RR format: rd = ra op rb; pc + 8; encoding checks R87, R95. -/
  | seqOr (q : Seqr) (p : Pred) (ops : Ops)
  /-- SEQ_XOR: R88 RR format: rd = ra op rb; pc + 8; encoding checks R87, R95. -/
  | seqXor (q : Seqr) (p : Pred) (ops : Ops)
  /-- SEQ_SHL: R88 RR format: rd = ra op rb; pc + 8; encoding checks R87, R95. -/
  | seqShl (q : Seqr) (p : Pred) (ops : Ops)
  /-- SEQ_SHR: R88 RR format: rd = ra op rb; pc + 8; encoding checks R87, R95. -/
  | seqShr (q : Seqr) (p : Pred) (ops : Ops)
  /-- SEQ_SRA: R88 RR format: rd = ra op rb; pc + 8; encoding checks R87, R95. -/
  | seqSra (q : Seqr) (p : Pred) (ops : Ops)
  /-- SEQ_MIN: R88 RR format: rd = ra op rb; pc + 8; encoding checks R87, R95. -/
  | seqMin (q : Seqr) (p : Pred) (ops : Ops)
  /-- SEQ_MAX: R88 RR format: rd = ra op rb; pc + 8; encoding checks R87, R95. -/
  | seqMax (q : Seqr) (p : Pred) (ops : Ops)
  /-- SEQ_MINU: R88 RR format: rd = ra op rb; pc + 8; encoding checks R87, R95. -/
  | seqMinu (q : Seqr) (p : Pred) (ops : Ops)
  /-- SEQ_MAXU: R88 RR format: rd = ra op rb; pc + 8; encoding checks R87, R95. -/
  | seqMaxu (q : Seqr) (p : Pred) (ops : Ops)
  /-- SEQ_DIVU: R88 RR format: rd = ra op rb; pc + 8; encoding checks R87, R95. -/
  | seqDivu (q : Seqr) (p : Pred) (ops : Ops)
  /-- SEQ_REMU: R88 RR format: rd = ra op rb; pc + 8; encoding checks R87, R95. -/
  | seqRemu (q : Seqr) (p : Pred) (ops : Ops)
  /-- SEQ_ADDI: R88 RI format: rd = ra op imm; pc + 8; encoding checks R87, R95. -/
  | seqAddi (q : Seqr) (p : Pred) (ops : Ops)
  /-- SEQ_ANDI: R88 RI format: rd = ra op imm; pc + 8; encoding checks R87, R95. -/
  | seqAndi (q : Seqr) (p : Pred) (ops : Ops)
  /-- SEQ_ORI: R88 RI format: rd = ra op imm; pc + 8; encoding checks R87, R95. -/
  | seqOri (q : Seqr) (p : Pred) (ops : Ops)
  /-- SEQ_XORI: R88 RI format: rd = ra op imm; pc + 8; encoding checks R87, R95. -/
  | seqXori (q : Seqr) (p : Pred) (ops : Ops)
  /-- SEQ_SHLI: R88 RI format: rd = ra op imm; pc + 8; encoding checks R87, R95. -/
  | seqShli (q : Seqr) (p : Pred) (ops : Ops)
  /-- SEQ_SHRI: R88 RI format: rd = ra op imm; pc + 8; encoding checks R87, R95. -/
  | seqShri (q : Seqr) (p : Pred) (ops : Ops)
  /-- SEQ_SRAI: R88 RI format: rd = ra op imm; pc + 8; encoding checks R87, R95. -/
  | seqSrai (q : Seqr) (p : Pred) (ops : Ops)
  /-- SEQ_MOVI: R88 RI format: rd = ra op imm; pc + 8; encoding checks R87, R95. -/
  | seqMovi (q : Seqr) (p : Pred) (ops : Ops)
  /-- SEQ_MOVHI: R88 RI format: rd = ra op imm; pc + 8; encoding checks R87, R95. -/
  | seqMovhi (q : Seqr) (p : Pred) (ops : Ops)
  /-- SEQ_CMP: R88 CR format: pd = (ra cond rb). -/
  | seqCmp (q : Seqr) (c : Cond) (p : Pred) (ops : Ops)
  /-- SEQ_CMPI: R88 CI format: pd = (ra cond imm). -/
  | seqCmpi (q : Seqr) (c : Cond) (p : Pred) (ops : Ops)
  /-- SEQ_PAND: R88 PL format: pd = pa and pb. -/
  | seqPand (q : Seqr) (p : Pred) (ops : Ops)
  /-- SEQ_POR: R88 PL format: pd = pa or pb. -/
  | seqPor (q : Seqr) (p : Pred) (ops : Ops)
  /-- SEQ_PXOR: R88 PL format: pd = pa xor pb. -/
  | seqPxor (q : Seqr) (p : Pred) (ops : Ops)
  /-- SEQ_PNOT: R88 PL format: pd = not pa; pb zero. -/
  | seqPnot (q : Seqr) (p : Pred) (ops : Ops)
  /-- SEQ_SEL: R88 SL format: rd = ra if pa else rb. -/
  | seqSel (q : Seqr) (p : Pred) (ops : Ops)
  /-- SEQ_BR: R88 BR format: pc + off*8; FETCH_ALIGN. -/
  | seqBr (q : Seqr) (p : Pred) (ops : Ops)
  /-- SEQ_CALL: R88 rd = pc + 8, branch. -/
  | seqCall (q : Seqr) (p : Pred) (ops : Ops)
  /-- SEQ_JR: R88 pc = ra; FETCH_ALIGN names the target. -/
  | seqJr (q : Seqr) (p : Pred) (ops : Ops)
  /-- SEQ_LOOP: R88 ra - 1, branch if not 0. -/
  | seqLoop (q : Seqr) (p : Pred) (ops : Ops)
  /-- SEQ_LD: R89 scalar load, zero-extended; SCALAR_ALIGN, SCALAR_FAULT. -/
  | seqLd (q : Seqr) (z : Size) (p : Pred) (ops : Ops)
  /-- SEQ_ST: R89 scalar store of the low bytes of rd. -/
  | seqSt (q : Seqr) (z : Size) (p : Pred) (ops : Ops)
  /-- SEQ_AMO_ADD_D: R89,R166 near-memory atomic add, old value to rd. -/
  | seqAmoAddD (q : Seqr) (p : Pred) (ops : Ops)
  /-- SEQ_PULL: R58,R60,R61 claim an item, park, leave or SCALAR_FAULT. -/
  | seqPull (q : Seqr) (p : Pred) (ops : Ops)
  /-- SEQ_DONE: R59 done + 1, completion record when done = N; NO_ITEM. -/
  | seqDone (q : Seqr) (p : Pred) (ops : Ops)
  /-- SEQ_LIVE: R67,R88 live = ra[43:0]. -/
  | seqLive (q : Seqr) (p : Pred) (ops : Ops)
  /-- SEQ_CSRR: R81,R98 rd = csr. -/
  | seqCsrr (q : Seqr) (p : Pred) (ops : Ops)
  /-- SEQ_CSRW: R81,R82,R152 csr = ra. -/
  | seqCsrw (q : Seqr) (p : Pred) (ops : Ops)
  /-- SEQ_WAIT: R88 block until masked stations have completed. -/
  | seqWait (q : Seqr) (p : Pred) (ops : Ops)
  /-- SEQ_UNTIL: R88 block until DT >= ra. -/
  | seqUntil (q : Seqr) (p : Pred) (ops : Ops)
  /-- SEQ_TDEF: R91,R37,R38,R45 tile attributes. -/
  | seqTdef (q : Seqr) (p : Pred) (ops : Ops)
  /-- SEQ_TSCALE: R91 tile_scale. -/
  | seqTscale (q : Seqr) (p : Pred) (ops : Ops)
  /-- SEQ_QDEF: R92,R40-R42 queue. -/
  | seqQdef (q : Seqr) (p : Pred) (ops : Ops)
  /-- SEQ_QFREE: R92 free queue. -/
  | seqQfree (q : Seqr) (p : Pred) (ops : Ops)
  /-- SEQ_SDEF: R93,R51,R54 stream. -/
  | seqSdef (q : Seqr) (p : Pred) (ops : Ops)
  /-- SEQ_SREW: R94,R52 rewind. -/
  | seqSrew (q : Seqr) (p : Pred) (ops : Ops)
  /-- SEQ_SPOS: R94 position to register. -/
  | seqSpos (q : Seqr) (p : Pred) (ops : Ops)
  /-- CP_NEXT: R97,R382,R384 share selection. -/
  | cpNext (q : Seqr) (p : Pred) (ops : Ops)
  /-- CP_SLEEP: R97,R98 wait for wake or DT. -/
  | cpSleep (q : Seqr) (p : Pred) (ops : Ops)
  /-- CP_ISSUE: R97,R57,R381,R301 issue a launch. -/
  | cpIssue (q : Seqr) (p : Pred) (ops : Ops)
  /-- CP_FSIG: R97,R362 signal a fence. -/
  | cpFsig (q : Seqr) (p : Pred) (ops : Ops)
  /-- CP_ACCT: R97,R383 charge ticks. -/
  | cpAcct (q : Seqr) (p : Pred) (ops : Ops)
  /-- CP_WAKE_READ: R98 oldest wake read and removed; evt_* set. -/
  | cpWakeRead (c : Nat)
  /-- LD_TILE: R104-R108,R52,R54,R46. -/
  | ldTile (n : Nat) (r : Nat) (p : Pred) (ops : Ops) (now : Bool)
  /-- ST_TILE: R104-R108,R52. -/
  | stTile (n : Nat) (r : Nat) (p : Pred) (ops : Ops) (now : Bool)
  /-- XF_TR: R109,R110. -/
  | xfTr (n : Nat) (r : Nat) (f : Nat) (p : Pred) (ops : Ops) (now : Bool)
  /-- XF_CVT: R111,R140,R141,R150. -/
  | xfCvt (n : Nat) (r : Nat) (f : Nat) (p : Pred) (ops : Ops) (now : Bool)
  /-- XF_SPX: R111,R154. -/
  | xfSpx (n : Nat) (r : Nat) (p : Pred) (ops : Ops) (now : Bool)
  /-- XF_GTH: R111,R155. -/
  | xfGth (n : Nat) (r : Nat) (p : Pred) (ops : Ops) (now : Bool)
  /-- MMA: R112,R113,R115,R137-R139,R144-R148,R153. -/
  | mma (n : Nat) (r : Nat) (f : Nat) (p : Pred) (ops : Ops) (now : Bool)
  /-- MMA_OUT: R114,R149. -/
  | mmaOut (n : Nat) (r : Nat) (f : Nat) (p : Pred) (ops : Ops) (now : Bool)
  /-- MMA_CLR: R114,R115,R144. -/
  | mmaClr (n : Nat) (r : Nat) (p : Pred) (ops : Ops) (now : Bool)
  /-- MMA_ADD_F32: R114,R145,R146. -/
  | mmaAddF32 (n : Nat) (r : Nat) (p : Pred) (ops : Ops) (now : Bool)
  /-- VADD: R117,R118,R142,R143 (f: 0 .f32, 1 .bf16, 2 .f16). -/
  | vadd (n : Nat) (r : Nat) (f : Nat) (p : Pred) (ops : Ops) (now : Bool)
  /-- VSUB: R117,R118,R142,R143 (f: 0 .f32, 1 .bf16, 2 .f16). -/
  | vsub (n : Nat) (r : Nat) (f : Nat) (p : Pred) (ops : Ops) (now : Bool)
  /-- VMUL: R117,R118,R142,R143 (f: 0 .f32, 1 .bf16, 2 .f16). -/
  | vmul (n : Nat) (r : Nat) (f : Nat) (p : Pred) (ops : Ops) (now : Bool)
  /-- VMAX: R117,R118,R142,R143 (f: 0 .f32, 1 .bf16, 2 .f16). -/
  | vmax (n : Nat) (r : Nat) (f : Nat) (p : Pred) (ops : Ops) (now : Bool)
  /-- VMIN: R117,R118,R142,R143 (f: 0 .f32, 1 .bf16, 2 .f16). -/
  | vmin (n : Nat) (r : Nat) (f : Nat) (p : Pred) (ops : Ops) (now : Bool)
  /-- VFMA: R117,R118,R142,R143 (f: 0 .f32, 1 .bf16, 2 .f16). -/
  | vfma (n : Nat) (r : Nat) (f : Nat) (p : Pred) (ops : Ops) (now : Bool)
  /-- VFMA_RESCALE: R118 d*alpha + s2. -/
  | vfmaRescale (n : Nat) (r : Nat) (p : Pred) (ops : Ops) (now : Bool)
  /-- VEXP: R117,R142 free within 2 ulp. -/
  | vexp (n : Nat) (r : Nat) (p : Pred) (ops : Ops) (now : Bool)
  /-- VRCP: R117,R142 free within 1 ulp. -/
  | vrcp (n : Nat) (r : Nat) (p : Pred) (ops : Ops) (now : Bool)
  /-- VRSQRT: R117,R142,R143 free within 2 ulp. -/
  | vrsqrt (n : Nat) (r : Nat) (p : Pred) (ops : Ops) (now : Bool)
  /-- VTANH: R117,R142 free within 2 ulp. -/
  | vtanh (n : Nat) (r : Nat) (p : Pred) (ops : Ops) (now : Bool)
  /-- VONL: R119 online normaliser. -/
  | vonl (n : Nat) (r : Nat) (p : Pred) (ops : Ops) (now : Bool)
  /-- VNORM: R117,R142 divide by l, free within 2 ulp. -/
  | vnorm (n : Nat) (r : Nat) (f : Nat) (p : Pred) (ops : Ops) (now : Bool)
  /-- VRSI: R119 initialise row state. -/
  | vrsi (n : Nat) (r : Nat) (p : Pred) (ops : Ops) (now : Bool)
  /-- RED_ADD: R120,R121. -/
  | redAdd (n : Nat) (r : Nat) (f : Nat) (p : Pred) (ops : Ops) (now : Bool)
  /-- RED_MAX: R120,R143. -/
  | redMax (n : Nat) (r : Nat) (f : Nat) (p : Pred) (ops : Ops) (now : Bool)
  /-- RED_MIN: R120,R143. -/
  | redMin (n : Nat) (r : Nat) (f : Nat) (p : Pred) (ops : Ops) (now : Bool)
  /-- RED_AMAX: R120,R143. -/
  | redAmax (n : Nat) (r : Nat) (f : Nat) (p : Pred) (ops : Ops) (now : Bool)
  /-- SND_TILE: R122-R124,R50,R63. -/
  | sndTile (n : Nat) (r : Nat) (p : Pred) (ops : Ops) (now : Bool)
  /-- SND_RADD_F32: R122,R130. -/
  | sndRaddF32 (n : Nat) (r : Nat) (p : Pred) (ops : Ops) (now : Bool)
  /-- RCV_TILE: R122,R124,R80. -/
  | rcvTile (n : Nat) (r : Nat) (p : Pred) (ops : Ops) (now : Bool)
  /-- RCV_RADD_F32: R122,R130. -/
  | rcvRaddF32 (n : Nat) (r : Nat) (p : Pred) (ops : Ops) (now : Bool)
  /-- RADD_CONTRIBUTION: R130 `count` contributions, which routers have added on their way, reach RECV before the first `behind` of those under way. -/
  | raddContribution (n : Nat) (r : Nat) (tq : Nat) (count : Nat) (behind : Nat)
  /-- RESERVE: R124,R50,R325 reservation request queued, granted or refused. -/
  | reserve (n : Nat) (r : Nat) (rq : Reservation)
  /-- GRANT: R124,R283,R338 grant/refusal at the sender: snd.tile starts, SEND_SHAPE or SEND_DEST. -/
  | grant (n : Nat) (r : Nat) (st : MemStatus) (ok : Bool)
  /-- TILE: R124,R125,R126,R262 bytes of a transfer arrive; last byte: FULL. -/
  | tile (n : Nat) (r : Nat) (tq : Nat) (seg : TileSeg) (data : List Byte)
  /-- SEND_FAILED: R126 50 us: snd.tile completes with SEND_FAILED. -/
  | sendFailed (n : Nat) (r : Nat)
  /-- RECV_RESERVATION_TIMEOUT: R126 50 us after grant: handle EMPTY, rcv.tile waits again. -/
  | recvReservationTimeout (n : Nat) (r : Nat) (tq : Nat)
  /-- BAR_SYNC: R127,R128,R250. -/
  | barSync (n : Nat) (r : Nat) (p : Pred) (ops : Ops) (now : Bool)
  /-- BAR_ARRIVE: R127,R128. -/
  | barArrive (n : Nat) (r : Nat) (p : Pred) (ops : Ops) (now : Bool)
  /-- BAR_WAIT: R127,R128. -/
  | barWait (n : Nat) (r : Nat) (p : Pred) (ops : Ops) (now : Bool)
  /-- BARRIER_ARRIVAL: R250,R262 the arrival of a cluster, which the message names, at the root. -/
  | barrierArrival (c : Nat) (lane : Nat) (m : SyncMsg)
  /-- BARRIER_RELEASE: R250,R262 the release of a scope, which the message names, reaches a participant. -/
  | barrierRelease (n : Nat) (r : Nat) (m : SyncMsg)
  /-- FLAG_SET: R127,R73,R251. -/
  | flagSet (n : Nat) (r : Nat) (p : Pred) (ops : Ops) (now : Bool)
  /-- FLAG_ADD: R127,R251. -/
  | flagAdd (n : Nat) (r : Nat) (p : Pred) (ops : Ops) (now : Bool)
  /-- FLAG_WAIT: R127,R251. -/
  | flagWait (n : Nat) (r : Nat) (p : Pred) (ops : Ops) (now : Bool)
  /-- FLAG_NOTIFY: R251,R262 notification re-checks the waiting flag.wait of the resident that it names. -/
  | flagNotify (n : Nat) (m : SyncMsg)
  /-- FLAG_REREAD: R251 1 us re-read when the watch table is full. -/
  | flagReread (n : Nat) (r : Nat)
  /-- FENCE_MEM: R72,R127,R179. -/
  | fenceMem (n : Nat) (r : Nat) (p : Pred) (ops : Ops) (now : Bool)
  /-- FEN_WAIT: R127,R129,R363. -/
  | fenWait (n : Nat) (r : Nat) (p : Pred) (ops : Ops) (now : Bool)
  /-- SYNC_TIMEOUT: R127 deadline passes. -/
  | syncTimeout (n : Nat) (r : Nat)
  /-- MEMORY_REPLY: R160,R108,R54,R214,R215,R325,R326,R412. -/
  | memoryReply (isl : Nat) (entry : Nat) (gen : Nat) (st : MemStatus) (data : List Byte)
  /-- ZERO_FILL_END: R169,R301 resource usable. -/
  | zeroFillEnd (z : FillTarget)
  /-- REMOTE_REQUEST_TIMEOUT: R175,R183 ABSENT at 50 us. -/
  | remoteRequestTimeout (entry : Nat)
  /-- EXPORT_WINDOW_WRITE: R177,R434 MEM_PXW_CFG. -/
  | exportWindowWrite (k : Nat) (w : Nat) (v : Word)
  /-- LEDGER_COPY_FAIL: R186 copy A (false) or B (true) fails. -/
  | ledgerCopyFail (b : Bool)
  /-- LEDGER_REBUILD_DONE: R186 new copy, DUAL. -/
  | ledgerRebuildDone (stack : Nat) (part : Nat)
  /-- PRESSURE_PUBLISH: R188,R189 level. -/
  | pressurePublish (pub : Nat) (occ : Nat) (cap : Nat)
  /-- PUBLISHER_STALE: R190 level 7. -/
  | publisherStale (pub : Nat)
  /-- RESERVATION_ADMISSION: R194,R195,R196. -/
  | reservationAdmission (i : Nat) (v : Word)
  /-- RESERVATION_RELEASE: R194,R196. -/
  | reservationRelease (i : Nat)
  /-- GUARANTEE_WINDOW: R198,R199. -/
  | guaranteeWindow (samples : List WindowSample)
  /-- DMA_CHAIN_START: R203,R206. -/
  | dmaChainStart (who : Accessor) (x : Nat) (addr : Word) (ctx : Nat)
  /-- DESCRIPTOR_FETCH_DONE: R203-R207,R212. -/
  | descriptorFetchDone (x : Nat) (st : MemStatus)
  /-- DESCRIPTOR_COMPLETE: R205,R208,R210,R212,R214. -/
  | descriptorComplete (x : Nat)
  /-- EVENT_PULSE: R211,R98,R262 the oldest pulse for a command processor, which the message names, reaches it. -/
  | eventPulse (m : SyncMsg)
  /-- WATCH_SLOT_RETRY: R212. -/
  | watchSlotRetry (x : Nat)
  /-- INDEX_LINE_ARRIVE: R209,R215. -/
  | indexLineArrive (e : Nat) (line : Nat) (st : MemStatus)
  /-- INDEX_HALT_RECOVERY: R215. -/
  | indexHaltRecovery (e : Nat)
  /-- DMA_RESUME: R216. -/
  | dmaResume (who : Accessor) (x : Nat)
  /-- DMA_SKIP: R216. -/
  | dmaSkip (who : Accessor) (x : Nat)
  /-- DMA_ABORT: R216. -/
  | dmaAbort (who : Accessor) (x : Nat)
  /-- TLX_POOL_WRITE: R225,R226. -/
  | tlxPoolWrite (i : Nat) (v : Word)
  /-- TRANSLATION_WALK_DONE: R230,R237,R239. -/
  | translationWalkDone (u : TlbUnit) (tag : Nat) (va : Nat)
  /-- INVALIDATE_BROADCAST: R235,R55,R262 invalidate(tag) reaches a unit; the message names the tag. -/
  | invalidateBroadcast (u : TlbUnit) (m : SyncMsg)
  /-- INVALIDATE_ACK: R235,R238,R372. -/
  | invalidateAck (u : TlbUnit) (tag : Nat)
  /-- INVALIDATE_TIMEOUT: R236. -/
  | invalidateTimeout (u : TlbUnit) (tag : Nat)
  /-- DLOG_ENABLE: R242. -/
  | dlogEnable (c : Nat) (v : Word)
  /-- DLOG_FLIP: R243. -/
  | dlogFlip (c : Nat)
  /-- DLOG_FLIP_DONE: R243. -/
  | dlogFlipDone (c : Nat)
  /-- INJECTION_RETRY: R255,R256. -/
  | injectionRetry (entry : Nat)
  /-- SEAM_CREDIT_STALL: R254. -/
  | seamCreditStall (seg : Nat) (ch : Nat) (east : Bool)
  /-- SEAM_RETRY_WINDOW: R259,R260. -/
  | seamRetryWindow (seg : Nat)
  /-- SEAM_FLIT_REPLAY: R259,R264. -/
  | seamFlitReplay (seg : Nat) (ch : Nat) (good : Bool)
  /-- SEAM_REPAIR: R260,R261. -/
  | seamRepair (seg : Nat) (ch : Nat)
  /-- PORT_ENABLE: R277,R291. -/
  | portEnable (k : Nat) (v : Word)
  /-- PORT_DISABLE: R291,R289. -/
  | portDisable (k : Nat) (v : Word)
  /-- FEED_RECHECK: R277. -/
  | feedRecheck (k : Nat) (wl : Nat)
  /-- LINK_SIGNAL_DETECT: R277,R279. -/
  | linkSignalDetect (k : Nat)
  /-- BRINGUP_STEP_DONE: R277,R278,R267. -/
  | bringupStepDone (k : Nat) (b : BringUp)
  /-- BRINGUP_STEP_TIMEOUT: R277. -/
  | bringupStepTimeout (k : Nat)
  /-- FEED_WAVELENGTH_FAIL: R266,R267,R280. -/
  | feedWavelengthFail (k : Nat) (w : Nat)
  /-- LANE_FAIL: R267. -/
  | laneFail (k : Nat) (tx : Bool) (lanes : Nat)
  /-- LOSS_OF_SIGNAL: R280,R281. -/
  | lossOfSignal (k : Nat) (lanes : Nat)
  /-- FRAME_RECEIVE: R268,R269,R272,R274,R280,R284,R287,R304. -/
  | frameReceive (k : Nat) (fr : Frame)
  /-- REPLAY: R273. -/
  | replay (k : Nat) (p : FramePoint)
  /-- REPLAY_REPEAT: R273. -/
  | replayRepeat (k : Nat)
  /-- HEARTBEAT_SEND: R275. -/
  | heartbeatSend (k : Nat)
  /-- STATUS: R275. -/
  | status (k : Nat) (m : PortMsg)
  /-- HEARTBEAT_TIMEOUT: R280,R281. -/
  | heartbeatTimeout (k : Nat)
  /-- RETRAIN_BACKOFF: R279. -/
  | retrainBackoff (k : Nat)
  /-- REKEY_START: R276. -/
  | rekeyStart (k : Nat)
  /-- REKEY: R276. -/
  | rekey (k : Nat) (m : PortMsg) (data : List Byte)
  /-- REKEY_ACK: R276. -/
  | rekeyAck (k : Nat) (m : PortMsg)
  /-- REKEY_DEADLINE: R276. -/
  | rekeyDeadline (k : Nat)
  /-- READ: R178,R283,R286. -/
  | read (k : Nat) (m : ClassMsg)
  /-- PREPARE: R178,R283,R286. -/
  | prepare (k : Nat) (m : ClassMsg) (data : List Byte)
  /-- COMMIT: R185,R286. -/
  | commit (k : Nat) (m : ClassMsg)
  /-- READ_RESP: R283,R175,R172. -/
  | readResp (k : Nat) (m : PortMsg) (data : List Byte)
  /-- PREP_ACK: R283,R183. -/
  | prepAck (k : Nat) (m : PortMsg)
  /-- COMMIT_ACK: R183,R184. -/
  | commitAck (k : Nat) (m : PortMsg)
  /-- MIRROR: R340,R344,R345. -/
  | mirror (k : Nat) (m : PortMsg) (data : List Byte)
  /-- MIRROR_ACK: R341,R345. -/
  | mirrorAck (k : Nat) (m : PortMsg)
  /-- GOING_AWAY_SEND: R289. -/
  | goingAwaySend (k : Nat)
  /-- PRT_RETRAIN: R291,R279. -/
  | prtRetrain (k : Nat)
  /-- PRT_DOWN: R291,R280. -/
  | prtDown (k : Nat)
  /-- PRT_REKEY: R291,R276. -/
  | prtRekey (k : Nat)
  /-- PRT_RT_DATA_ACCESS: R291,R292. -/
  | prtRtDataAccess (w : Option Word)
  /-- REFERENCE_FIRST_LOCK: R293,R462. -/
  | referenceFirstLock
  /-- REPLICA_ALIGN: R294. -/
  | replicaAlign (skews : List Int)
  /-- REFERENCE_LOST: R296,R473. -/
  | referenceLost
  /-- REFERENCE_RELOCK: R296. -/
  | referenceRelock
  /-- PPS_IN_EDGE: R297. -/
  | ppsInEdge
  /-- PPS_IN_TIMEOUT: R297. -/
  | ppsInTimeout
  /-- PPS_OUT_RISE: R298. -/
  | ppsOutRise
  /-- PPS_OUT_FALL: R298. -/
  | ppsOutFall
  /-- TIM_OWD_READ: R315. -/
  | timOwdRead (k : Nat)
  /-- TIMED_LAUNCH_FIRE: R299-R303. -/
  | timedLaunchFire (c : Nat) (lane : Nat)
  /-- SILLAGE_RECORD: R312,R313. -/
  | sillageRecord (h : Nat)
  /-- SILLAGE_ENABLE: R315. -/
  | sillageEnable (i : Nat) (v : Word)
  /-- CREATE: R320-R322,R327,R332. -/
  | create (c : Nat)
  /-- REBIND: R327,R328,R332. -/
  | rebind (c : Nat)
  /-- PARK: R332,R333. -/
  | park (c : Nat)
  /-- RESUME: R332,R334,R452. -/
  | resume (c : Nat)
  /-- RELEASE: R332,R441. -/
  | release (c : Nat)
  /-- PROMOTE: R345. -/
  | promote (c : Nat)
  /-- EPOCH_ADVANCE: R323,R327. -/
  | epochAdvance (c : Nat)
  /-- DRAIN_DEADLINE: R327,R61,R218. -/
  | drainDeadline (c : Nat)
  /-- MAP_CHANGE_END: R327,R329,R330. -/
  | mapChangeEnd (c : Nat)
  /-- SLICE_END: R335. -/
  | sliceEnd
  /-- CLUSTER_REPAIR: R336,R337. -/
  | clusterRepair (cl : Nat) (spillOk : Bool)
  /-- TWIN_ENABLE: R341,R346. -/
  | twinEnable (v : Word)
  /-- TWIN_SYNC_DONE: R341. -/
  | twinSyncDone
  /-- TWIN_LOST: R342,R343. -/
  | twinLost
  /-- PROMOTE_RETRY: R345. -/
  | promoteRetry (c : Nat)
  /-- DOORBELL: R355. -/
  | doorbell (f : Nat) (d : Nat) (v : Word)
  /-- COMMAND_RECORD_ARRIVE: R356-R358,R376. -/
  | commandRecordArrive (q : QRef)
  /-- COMMAND_WAIT_SATISFIED: R358. -/
  | commandWaitSatisfied (q : QRef)
  /-- COMMAND_COMPLETION: R359-R363. -/
  | commandCompletion (q : QRef)
  /-- NOP: R357. -/
  | nop (q : QRef)
  /-- LAUNCH: R57,R63,R397. -/
  | launch (q : QRef)
  /-- COPY_H2D: R349,R357. -/
  | copyH2d (q : QRef)
  /-- COPY_D2H: R349,R357. -/
  | copyD2h (q : QRef)
  /-- FILL: R357. -/
  | fill (q : QRef)
  /-- TABLE_SYNC: R227-R229. -/
  | tableSync (q : QRef)
  /-- INVALIDATE: R235. -/
  | invalidate (q : QRef)
  /-- CTX_CREATE: R221,R319,R352,R357. -/
  | ctxCreate (q : QRef)
  /-- CTX_DESTROY: R372. -/
  | ctxDestroy (q : QRef)
  /-- DESTROY_SQUASH: R372. -/
  | destroySquash (ctx : Nat)
  /-- Q_CREATE: R352,R357. -/
  | qCreate (q : QRef)
  /-- Q_DESTROY: R357. -/
  | qDestroy (q : QRef)
  /-- F_ALLOC: R352. -/
  | fAlloc (q : QRef)
  /-- F_FREE: R357,R129. -/
  | fFree (q : QRef)
  /-- F_ARM: R363. -/
  | fArm (q : QRef)
  /-- CTX_ABORT: R370,R371. -/
  | ctxAbort (f : Nat) (v : Word)
  /-- LAUNCH_ABORT_SQUASH: R371. -/
  | launchAbortSquash (c : Nat) (lane : Nat)
  /-- EVR_ENABLE: R377. -/
  | evrEnable (f : Nat) (v : Word)
  /-- PERST_ASSERT: R373,R374. -/
  | perstAssert (h : Nat)
  /-- HOT_RESET: R373,R374. -/
  | hotReset (h : Nat)
  /-- HOST_LINK_DOWN: R373-R375. -/
  | hostLinkDown (h : Nat)
  /-- FUNCTION_LEVEL_RESET: R373,R374. -/
  | functionLevelReset (f : Nat)
  /-- MBX_DOORBELL: R368. -/
  | mbxDoorbell (f : Nat) (v : Word) (body : List Byte)
  /-- MBX_ACK: R368. -/
  | mbxAck (f : Nat) (v : Word)
  /-- MAILBOX_INBOUND_TAKEN: R369. -/
  | mailboxInboundTaken (c : Nat)
  /-- MAILBOX_OUTBOUND_MESSAGE: R367,R369,R461. -/
  | mailboxOutboundMessage (c : Nat) (ty : Nat) (payload : List Byte)
  /-- ENGINE_CHARGE: R383. -/
  | engineCharge (q : QRef)
  /-- QUANTUM_PREEMPTION: R385,R387,R389. -/
  | quantumPreemption (c : Nat) (lane : Nat)
  /-- LAUNCH_RESUME: R388,R380. -/
  | launchResume (c : Nat) (ctx : Nat) (lane : Nat)
  /-- SPAN_HANG: R392. -/
  | spanHang (q : QRef)
  /-- CYCLE_BANK_SWITCH: R394. -/
  | cycleBankSwitch
  /-- CYCLIC_WINDOW_OPEN: R395,R396,R302. -/
  | cyclicWindowOpen (i : Nat)
  /-- CYCLIC_WINDOW_CLOSE: R395. -/
  | cyclicWindowClose (i : Nat)
  /-- WINDOW_PREEMPT: R396. -/
  | windowPreempt (i : Nat)
  /-- SCH_CYC_START_WRITE: R394,R401. -/
  | schCycStartWrite (v : Word)
  /-- MIXER_ENABLE: R401. -/
  | mixerEnable (c : Nat) (v : Word)
  /-- MIXER_STEP_FORM: R398,R399. -/
  | mixerStepForm (c : Nat)
  /-- MIXER_STEP_END: R400. -/
  | mixerStepEnd (c : Nat)
  /-- PENDING_FAULT_WRITE: R405-R407. -/
  | pendingFaultWrite (f : Nat)
  /-- FLT_RING_ENABLE: R420. -/
  | fltRingEnable (f : Nat) (v : Word)
  /-- OVERFLOW_CLEAR: R420,R408. -/
  | overflowClear (f : Nat)
  /-- WATCHDOG_EXPIRE: R409,R410,R413. -/
  | watchdogExpire (e : Engine)
  /-- ENGINE_RESET: R411,R414. -/
  | engineReset (e : Engine)
  /-- ISLAND_RESET: R411,R414. -/
  | islandReset (i : Nat)
  /-- HALF_RESET: R411,R418. -/
  | halfReset (h : Nat)
  /-- DEVICE_RESET: R411,R418,R36. -/
  | deviceReset
  /-- LADDER_STEP_TIMEOUT: R411. -/
  | ladderStepTimeout
  /-- COLLECTION_TIMEOUT: R413. -/
  | collectionTimeout
  /-- QUARANTINE_REPLAY: R415. -/
  | quarantineReplay (ctx : Nat) (portUse : Bool)
  /-- QUARANTINE_OUTCOME: R415. -/
  | quarantineOutcome (ctx : Nat) (o : ReplayEnd)
  /-- FLT_RESET_WRITE: R420,R411. -/
  | fltResetWrite (v : Word)
  /-- DUMP_TIMEOUT: R418. -/
  | dumpTimeout
  /-- DUMP_COPY: R419. -/
  | dumpCopy (h : Nat)
  /-- DUMP_COPY_DONE: R419. -/
  | dumpCopyDone
  /-- DUMP_RELEASE: R419. -/
  | dumpRelease
  /-- BOOT_ROM: R425,R426. -/
  | bootRom
  /-- RECOVERY_IMAGE_LOAD: R426. -/
  | recoveryImageLoad (img : List Byte)
  /-- FW_SWITCH: R427. -/
  | fwSwitch
  /-- FW_COMMIT: R427. -/
  | fwCommit
  /-- FW_LOAD: R428. -/
  | fwLoad (v : Word)
  /-- FW_LOAD_DONE: R428. -/
  | fwLoadDone
  /-- GET_VERSION: R429. -/
  | getVersion (ch : SpdmChan)
  /-- GET_CAPABILITIES: R429. -/
  | getCapabilities (ch : SpdmChan)
  /-- NEGOTIATE_ALGORITHMS: R429. -/
  | negotiateAlgorithms (ch : SpdmChan)
  /-- GET_DIGESTS: R429. -/
  | getDigests (ch : SpdmChan)
  /-- GET_CERTIFICATE: R429,R423. -/
  | getCertificate (ch : SpdmChan) (slot : Nat)
  /-- CHALLENGE: R429. -/
  | challenge (ch : SpdmChan) (nonce : List Byte)
  /-- GET_MEASUREMENTS: R430. -/
  | getMeasurements (ch : SpdmChan) (ix : Nat) (signed : Bool) (nonce : List Byte)
  /-- SPDM_UNSUPPORTED: R429. -/
  | spdmUnsupported (ch : SpdmChan) (code : Nat)
  /-- MGMT_SESSION_OPEN: R431,R432. -/
  | mgmtSessionOpen (c : ClientHello)
  /-- MGMT_REGISTER_ACCESS: R432. -/
  | mgmtRegisterAccess (sess : Nat) (off : Nat) (w : Option Word)
  /-- MGMT_ADMIN_WRITE: R432,R422. -/
  | mgmtAdminWrite (sess : Nat) (a : AdminChange)
  /-- MGMT_DRYDOWN_REQUEST: R455. -/
  | mgmtDrydownRequest (sess : Nat)
  /-- GENERATE: R433,R435. -/
  | generate (v : Word)
  /-- UNWRAP: R433,R436,R437. -/
  | unwrap (v : Word)
  /-- RETIRE: R441. -/
  | retire (v : Word)
  /-- RETIRE_SCRUB: R441. -/
  | retireScrub (v : Word)
  /-- RETIRE_DRAIN_END: R441. -/
  | retireDrainEnd (slot : Nat)
  /-- SCRUB_GRANULE_DONE: R442. -/
  | scrubGranuleDone (g : Nat)
  /-- SEC_COMP_CFG_WRITE: R434,R438. -/
  | secCompCfgWrite (c : Nat) (v : Word)
  /-- FEED_FAIL: R444,R445,R447,R448. -/
  | feedFail (b : Bool) (dv : Nat)
  /-- FEED_QUALIFY: R444. -/
  | feedQualify (b : Bool) (dv : Nat)
  /-- FEED_GOOD: R444,R446,R447,R456,R462. -/
  | feedGood (b : Bool) (dv : Nat)
  /-- SINGLE_FEED_TIMEOUT: R446. -/
  | singleFeedTimeout
  /-- HOLDUP_EXHAUSTED: R447. -/
  | holdupExhausted
  /-- PWR_TARGET_COMMIT: R449,R300. -/
  | pwrTargetCommit (v : Word)
  /-- POWER_TARGET_FIRE: R449,R450. -/
  | powerTargetFire
  /-- POWER_WINDOW: R450-R453. -/
  | powerWindow (watts : Nat)
  /-- THERMAL_THRESHOLD: R454,R192. -/
  | thermalThreshold (i : Nat) (temp : Nat)
  /-- THROTTLE_STEP: R454. -/
  | throttleStep
  /-- TRIP_RECOVER: R454. -/
  | tripRecover (i : Nat) (temp : Nat)
  /-- DRYDOWN_START: R455. -/
  | drydownStart (cause : Nat)
  /-- DRYDOWN_PARK: R455. -/
  | drydownPark
  /-- DRYDOWN_TWIN_WAIT_END: R455. -/
  | drydownTwinWaitEnd
  /-- DRYDOWN_PORTS: R455,R289. -/
  | drydownPorts
  /-- DRYDOWN_PARKED: R455,R36. -/
  | drydownParked
  /-- LEAVE_PARKED: R456. -/
  | leaveParked
  /-- DOM_WAKE: R457,R28. -/
  | domWake (i : Nat)
  /-- DOM_GATE: R457,R28. -/
  | domGate (i : Nat)
  /-- DOM_RETAIN: R457. -/
  | domRetain (i : Nat)
  /-- RELOAD_CP: R459. -/
  | reloadCp (i : Nat)
  /-- RELOAD_CP_DONE: R459. -/
  | reloadCpDone
  /-- REPAIR: R458,R336. -/
  | repair (i : Nat)
  /-- DEV_RESET_N_ASSERT: R460,R485. -/
  | devResetNAssert
  /-- DEV_RESET_N_RELEASE: R460,R485. -/
  | devResetNRelease
  /-- I3C_PRIVATE_WRITE: R484. -/
  | i3cPrivateWrite (bytes : List Byte)
  /-- I3C_PRIVATE_READ: R484. -/
  | i3cPrivateRead
  /-- FIRMWARE_START: R462,R425. -/
  | firmwareStart
  /-- MEMORY_TRAINING_DONE: R462. -/
  | memoryTrainingDone (failed : List Nat)
  /-- ENUMERATION_READY: R462,R427. -/
  | enumerationReady
  /-- CONSOLE_LINE: R464-R467. -/
  | consoleLine (line : List Byte)
  /-- VER: R467. -/
  | ver
  /-- ISL: R467,R469. -/
  | isl (id : Option Nat)
  /-- CTR: R467,R469. -/
  | ctr (id : Option Nat)
  /-- GASP: R467,R448. -/
  | gasp (slot : Option Nat)
  /-- TW: R467. -/
  | tw (w : Nat)
  /-- PEEK: R467-R469. -/
  | peek (addr : Nat) (n : Nat)
  /-- POKE: R467-R469. -/
  | poke (addr : Nat) (v : Word)
  /-- SIL: R467. -/
  | sil (i : Nat) (what : SilReg) (v : Word)
  /-- DUMP: R470. -/
  | dump
  /-- DUMP_ACK_BYTE: R470. -/
  | dumpAckByte (b : Byte)
  /-- DUMP_RESEND_TIMEOUT: R470. -/
  | dumpResendTimeout
  /-- MON_LEVEL_WRITE: R466. -/
  | monLevelWrite (who : Accessor) (v : Word)
  /-- TW_ENABLE: R477. -/
  | twEnable (w : Nat) (v : Word)
  /-- TW_CLEAR: R475. -/
  | twClear (w : Nat)
  /-- TW_DIG_ENABLE: R476. -/
  | twDigEnable (w : Nat) (v : Word)
  /-- TWIN_LOG_ENABLE: R346. -/
  | twinLogEnable (v : Word)
  /-- CTX_EVR_RD_WRITE: R365. -/
  | ctxEvrRdWrite (f : Nat) (v : Word)
  /-- PERST_RELEASE: R375. -/
  | perstRelease (h : Nat)
  /-- HOST_LINK_UP: R375. -/
  | hostLinkUp (h : Nat)
  /-- SEQ_UNTIL_DT_REACHED: R88. -/
  | seqUntilDtReached (q : Seqr)
  /-- CP_SLEEP_DT_REACHED: R97. -/
  | cpSleepDtReached (c : Nat)
  /-- I3C_DYNAMIC_ADDRESS_ASSIGN: R484. -/
  | i3cDynamicAddressAssign (a : Nat)
  /-- MGMT_CRASH_DUMP_RETRIEVAL: R419,R432. -/
  | mgmtCrashDumpRetrieval (sess : Nat)
  deriving DecidableEq, Repr

end Sys2Proof
end

