-- ==== Sys2Proof/WellFormed.lean ====
section
/-! DEFINITION. WellFormed.lean: which commands are well formed: every object that a command names exists in the block, and every field of
it has the width that the spec gives it. -/
namespace Sys2Proof

/-! ## The objects that exist (R96, R207, R350, R352, R378) -/

/-- Physical cores are 0 to 671 and residents 0 and 1 (R56, R378). -/
def coreNamed (n r : Nat) : Bool := decide (n < 672) && decide (r < 2)

/-- A core's resident, or one of the 16 command processors (R96). -/
def Seqr.named (q : Seqr) : Bool :=
  match q with
  | .core n r => coreNamed n r
  | .cp p => decide (p < 16)

/-- One of the 128 functions, management firmware, or a command processor (R351). -/
def Accessor.named (who : Accessor) : Bool :=
  match who with
  | .fn f => decide (f < 128)
  | .fw => true
  | .cp p => decide (p < 16)

/-- A requester that the block has (R160, R412). -/
def Owner.named (o : Owner) : Bool :=
  match o with
  | .loadIns n r | .ahead n r _ _ | .scalar n r | .storeIns n r => coreNamed n r
  | .dmaPiece x | .descFetch x => decide (x < 1344)
  | .indexLine e _ => decide (e < 84)
  | .cpAccess p => decide (p < 16)
  | .fw => true
  | .agent k => decide (k < 8)
  | .host h => decide (h < 2)

/-- A unit that holds translations (R230). -/
def TlbUnit.named (u : TlbUnit) : Bool :=
  match u with
  | .load n | .store n => decide (n < 672)
  | .eng e => decide (e < 84)
  | .half h => decide (h < 2)

/-- An engine of the ladder (R409). -/
def Engine.named (e : Engine) : Bool :=
  match e with
  | .core n r => coreNamed n r
  | .chan x => decide (x < 1344)
  | .cp p => decide (p < 16)
  | .agent k => decide (k < 8)
  | .unit u => u.named

/-- A channel of SPDM (R429). -/
def SpdmChan.named (ch : SpdmChan) : Bool :=
  match ch with
  | .doe h => decide (h < 2)
  | .session i => decide (i < 8)

/-- A range that a binding zero-fills (R169). -/
def FillTarget.named (z : FillTarget) : Bool :=
  match z with
  | .part st p => decide (st < 24) && decide (p < 6)
  | .core n => decide (n < 672)

/-- Whether every object that a command names exists in the block. -/
def Instr.named (i : Instr) : Bool :=
  match i with
  | .registerWrite who _ _ _ => who.named
  | .rcFieldRead who _ _ => who.named
  | .gateRequest i _ => decide (i < 148)
  | .gateDrainEnd i => decide (i < 148)
  | .gatingFailed i _ => decide (i < 148)
  | .domainWake i => decide (i < 148)
  | .wakeCreditsComplete i => decide (i < 148)
  | .wakeCreditTimeout i _ => decide (i < 148)
  | .clockChange i _ => decide (i < 148)
  | .requestAtBoundary q => q.owner.named
  | .stationInstructionStart n r u => coreNamed n r && decide (1 ≤ u) && decide (u ≤ 9)
  | .stationInstructionComplete n r u => coreNamed n r && decide (1 ≤ u) && decide (u ≤ 9)
  | .queueDeadlock n r => coreNamed n r
  | .readAheadTile n r k => coreNamed n r && decide (k < 16)
  | .parkedPullWake n r => coreNamed n r
  | .preemptionRequest n r => coreNamed n r
  | .tileBoundaryReached n r => coreNamed n r
  | .tileBudgetExpire n r => coreNamed n r
  | .coreResumeFill n r _ => coreNamed n r
  | .icacheLineFill n r _ _ => coreNamed n r
  | .setupRelease n r => coreNamed n r
  | .seqNop q _ => q.named
  | .seqAdd q _ _ => q.named
  | .seqSub q _ _ => q.named
  | .seqMul q _ _ => q.named
  | .seqMulhu q _ _ => q.named
  | .seqAnd q _ _ => q.named
  | .seqOr q _ _ => q.named
  | .seqXor q _ _ => q.named
  | .seqShl q _ _ => q.named
  | .seqShr q _ _ => q.named
  | .seqSra q _ _ => q.named
  | .seqMin q _ _ => q.named
  | .seqMax q _ _ => q.named
  | .seqMinu q _ _ => q.named
  | .seqMaxu q _ _ => q.named
  | .seqDivu q _ _ => q.named
  | .seqRemu q _ _ => q.named
  | .seqAddi q _ _ => q.named
  | .seqAndi q _ _ => q.named
  | .seqOri q _ _ => q.named
  | .seqXori q _ _ => q.named
  | .seqShli q _ _ => q.named
  | .seqShri q _ _ => q.named
  | .seqSrai q _ _ => q.named
  | .seqMovi q _ _ => q.named
  | .seqMovhi q _ _ => q.named
  | .seqCmp q _ _ _ => q.named
  | .seqCmpi q _ _ _ => q.named
  | .seqPand q _ _ => q.named
  | .seqPor q _ _ => q.named
  | .seqPxor q _ _ => q.named
  | .seqPnot q _ _ => q.named
  | .seqSel q _ _ => q.named
  | .seqBr q _ _ => q.named
  | .seqCall q _ _ => q.named
  | .seqJr q _ _ => q.named
  | .seqLoop q _ _ => q.named
  | .seqLd q _ _ _ => q.named
  | .seqSt q _ _ _ => q.named
  | .seqAmoAddD q _ _ => q.named
  | .seqPull q _ _ => q.named
  | .seqDone q _ _ => q.named
  | .seqLive q _ _ => q.named
  | .seqCsrr q _ _ => q.named
  | .seqCsrw q _ _ => q.named
  | .seqWait q _ _ => q.named
  | .seqUntil q _ _ => q.named
  | .seqTdef q _ _ => q.named
  | .seqTscale q _ _ => q.named
  | .seqQdef q _ _ => q.named
  | .seqQfree q _ _ => q.named
  | .seqSdef q _ _ => q.named
  | .seqSrew q _ _ => q.named
  | .seqSpos q _ _ => q.named
  | .cpNext q _ _ => q.named
  | .cpSleep q _ _ => q.named
  | .cpIssue q _ _ => q.named
  | .cpFsig q _ _ => q.named
  | .cpAcct q _ _ => q.named
  | .cpWakeRead c => decide (c < 16)
  | .ldTile n r _ _ _ => coreNamed n r
  | .stTile n r _ _ _ => coreNamed n r
  | .xfTr n r f _ _ _ => coreNamed n r && decide (f < 6)
  | .xfCvt n r f _ _ _ => coreNamed n r && decide (f < 15)
  | .xfSpx n r _ _ _ => coreNamed n r
  | .xfGth n r _ _ _ => coreNamed n r
  | .mma n r f _ _ _ => coreNamed n r && decide (f < 13)
  | .mmaOut n r f _ _ _ => coreNamed n r && decide (f < 5)
  | .mmaClr n r _ _ _ => coreNamed n r
  | .mmaAddF32 n r _ _ _ => coreNamed n r
  | .vadd n r f _ _ _ => coreNamed n r && decide (f < 3)
  | .vsub n r f _ _ _ => coreNamed n r && decide (f < 3)
  | .vmul n r f _ _ _ => coreNamed n r && decide (f < 3)
  | .vmax n r f _ _ _ => coreNamed n r && decide (f < 3)
  | .vmin n r f _ _ _ => coreNamed n r && decide (f < 3)
  | .vfma n r f _ _ _ => coreNamed n r && decide (f < 3)
  | .vfmaRescale n r _ _ _ => coreNamed n r
  | .vexp n r _ _ _ => coreNamed n r
  | .vrcp n r _ _ _ => coreNamed n r
  | .vrsqrt n r _ _ _ => coreNamed n r
  | .vtanh n r _ _ _ => coreNamed n r
  | .vonl n r _ _ _ => coreNamed n r
  | .vnorm n r f _ _ _ => coreNamed n r && decide (f < 5)
  | .vrsi n r _ _ _ => coreNamed n r
  | .redAdd n r f _ _ _ => coreNamed n r && decide (f < 3)
  | .redMax n r f _ _ _ => coreNamed n r && decide (f < 3)
  | .redMin n r f _ _ _ => coreNamed n r && decide (f < 3)
  | .redAmax n r f _ _ _ => coreNamed n r && decide (f < 3)
  | .sndTile n r _ _ _ => coreNamed n r
  | .sndRaddF32 n r _ _ _ => coreNamed n r
  | .rcvTile n r _ _ _ => coreNamed n r
  | .rcvRaddF32 n r _ _ _ => coreNamed n r
  | .raddContribution n r _ _ _ => coreNamed n r
  | .reserve n r _ => coreNamed n r
  | .grant n r _ _ => coreNamed n r
  | .tile n r _ _ _ => coreNamed n r
  | .sendFailed n r => coreNamed n r
  | .recvReservationTimeout n r _ => coreNamed n r
  | .barSync n r _ _ _ => coreNamed n r
  | .barArrive n r _ _ _ => coreNamed n r
  | .barWait n r _ _ _ => coreNamed n r
  | .barrierArrival c lane m => decide (c < 64) && decide (lane < 2) && decide (m.what < 84)
  | .barrierRelease n r m => coreNamed n r && decide (m.what < 2)
  | .flagSet n r _ _ _ => coreNamed n r
  | .flagAdd n r _ _ _ => coreNamed n r
  | .flagWait n r _ _ _ => coreNamed n r
  | .flagNotify n m => coreNamed n m.what
  | .flagReread n r => coreNamed n r
  | .fenceMem n r _ _ _ => coreNamed n r
  | .fenWait n r _ _ _ => coreNamed n r
  | .syncTimeout n r => coreNamed n r
  | .memoryReply idx _ _ _ _ => decide (idx < 148) || idx == 255
  | .zeroFillEnd z => z.named
  | .remoteRequestTimeout entry => decide (entry < 2 ^ 24 + 65536)
  | .exportWindowWrite k w _ => decide (k < 8) && decide (w < 16)
  | .ledgerCopyFail _ => true
  | .ledgerRebuildDone stack part => decide (stack < 24) && decide (part < 6)
  | .pressurePublish pub _ cap => decide (pub < 64) && decide (0 < cap)
  | .publisherStale pub => decide (pub < 64)
  | .reservationAdmission i _ => decide (i < 256)
  | .reservationRelease i => decide (i < 256)
  | .guaranteeWindow samples => samples.all fun w => decide (w.entry < 256)
  | .dmaChainStart _ x _ _ => decide (x < 1344)
  | .descriptorFetchDone x _ => decide (x < 1344)
  | .descriptorComplete x => decide (x < 1344)
  | .eventPulse m => decide (m.what < 16)
  | .watchSlotRetry x => decide (x < 1344)
  | .indexLineArrive e _ _ => decide (e < 84)
  | .indexHaltRecovery e => decide (e < 84)
  | .dmaResume _ x => decide (x < 1344)
  | .dmaSkip _ x => decide (x < 1344)
  | .dmaAbort _ x => decide (x < 1344)
  | .tlxPoolWrite i _ => decide (i < 8)
  | .translationWalkDone u tag _ => u.named && decide (tag < 65536)
  | .invalidateBroadcast u m => u.named && decide (m.what < 65536)
  | .invalidateAck u tag => u.named && decide (tag < 65536)
  | .invalidateTimeout u tag => u.named && decide (tag < 65536)
  | .dlogEnable c _ => decide (c < 64)
  | .dlogFlip c => decide (c < 64)
  | .dlogFlipDone c => decide (c < 64)
  | .injectionRetry entry => decide (entry < 2 ^ 24)
  | .seamCreditStall seg ch _ => decide (seg < 2) && decide (ch < 21)
  | .seamRetryWindow seg => decide (seg < 2)
  | .seamFlitReplay seg ch _ => decide (seg < 2) && decide (ch < 21)
  | .seamRepair seg ch => decide (seg < 2) && decide (ch < 21)
  | .portEnable k _ => decide (k < 8)
  | .portDisable k _ => decide (k < 8)
  | .feedRecheck k _ => decide (k < 8)
  | .linkSignalDetect k => decide (k < 8)
  | .bringupStepDone k _ => decide (k < 8)
  | .bringupStepTimeout k => decide (k < 8)
  | .feedWavelengthFail k w => decide (k < 8) && decide (w < 8)
  | .laneFail k _ _ => decide (k < 8)
  | .lossOfSignal k _ => decide (k < 8)
  | .frameReceive k _ => decide (k < 8)
  | .replay k _ => decide (k < 8)
  | .replayRepeat k => decide (k < 8)
  | .heartbeatSend k => decide (k < 8)
  | .status k _ => decide (k < 8)
  | .heartbeatTimeout k => decide (k < 8)
  | .retrainBackoff k => decide (k < 8)
  | .rekeyStart k => decide (k < 8)
  | .rekey k _ _ => decide (k < 8)
  | .rekeyAck k _ => decide (k < 8)
  | .rekeyDeadline k => decide (k < 8)
  | .read k _ => decide (k < 8)
  | .prepare k _ _ => decide (k < 8)
  | .commit k _ => decide (k < 8)
  | .readResp k _ _ => decide (k < 8)
  | .prepAck k _ => decide (k < 8)
  | .commitAck k _ => decide (k < 8)
  | .mirror k _ _ => decide (k < 8)
  | .mirrorAck k _ => decide (k < 8)
  | .goingAwaySend k => decide (k < 8)
  | .prtRetrain k => decide (k < 8)
  | .prtDown k => decide (k < 8)
  | .prtRekey k => decide (k < 8)
  | .prtRtDataAccess _ => true
  | .referenceFirstLock => true
  | .replicaAlign _ => true
  | .referenceLost => true
  | .referenceRelock => true
  | .ppsInEdge => true
  | .ppsInTimeout => true
  | .ppsOutRise => true
  | .ppsOutFall => true
  | .timOwdRead k => decide (k < 8)
  | .timedLaunchFire c lane => decide (c < 64) && decide (lane < 2)
  | .sillageRecord h => decide (h < 2)
  | .sillageEnable i _ => decide (i < 16)
  | .create c => decide (c < 64)
  | .rebind c => decide (c < 64)
  | .park c => decide (c < 64)
  | .resume c => decide (c < 64)
  | .release c => decide (c < 64)
  | .promote c => decide (c < 64)
  | .epochAdvance c => decide (c < 64)
  | .drainDeadline c => decide (c < 64)
  | .mapChangeEnd c => decide (c < 64)
  | .sliceEnd => true
  | .clusterRepair cl _ => decide (cl < 84)
  | .twinEnable _ => true
  | .twinSyncDone => true
  | .twinLost => true
  | .promoteRetry c => decide (c < 64)
  | .doorbell f d _ => decide (f < 128) && decide (d < 4096)
  | .commandRecordArrive _ => true
  | .commandWaitSatisfied _ => true
  | .commandCompletion _ => true
  | .nop _ => true
  | .launch _ => true
  | .copyH2d _ => true
  | .copyD2h _ => true
  | .fill _ => true
  | .tableSync _ => true
  | .invalidate _ => true
  | .ctxCreate _ => true
  | .ctxDestroy _ => true
  | .destroySquash ctx => decide (ctx < 40960)
  | .qCreate _ => true
  | .qDestroy _ => true
  | .fAlloc _ => true
  | .fFree _ => true
  | .fArm _ => true
  | .ctxAbort f _ => decide (f < 128)
  | .launchAbortSquash c lane => decide (c < 64) && decide (lane < 2)
  | .evrEnable f _ => decide (f < 128)
  | .perstAssert h => decide (h < 2)
  | .hotReset h => decide (h < 2)
  | .hostLinkDown h => decide (h < 2)
  | .functionLevelReset f => decide (f < 128)
  | .mbxDoorbell f _ _ => decide (f < 128)
  | .mbxAck f _ => decide (f < 128)
  | .mailboxInboundTaken c => decide (c < 64)
  | .mailboxOutboundMessage c _ _ => decide (c < 64)
  | .engineCharge _ => true
  | .quantumPreemption c lane => decide (c < 64) && decide (lane < 2)
  | .launchResume c ctx lane => decide (c < 64) && decide (ctx < 40960) && decide (lane < 2)
  | .spanHang _ => true
  | .cycleBankSwitch => true
  | .cyclicWindowOpen i => decide (i < 2048)
  | .cyclicWindowClose i => decide (i < 2048)
  | .windowPreempt i => decide (i < 2048)
  | .schCycStartWrite _ => true
  | .mixerEnable c _ => decide (c < 64)
  | .mixerStepForm c => decide (c < 64)
  | .mixerStepEnd c => decide (c < 64)
  | .pendingFaultWrite f => decide (f < 128)
  | .fltRingEnable f _ => decide (f < 128)
  | .overflowClear f => decide (f < 128)
  | .watchdogExpire e => e.named
  | .engineReset e => e.named
  | .islandReset i => decide (i < 148)
  | .halfReset h => decide (h < 2)
  | .deviceReset => true
  | .ladderStepTimeout => true
  | .collectionTimeout => true
  | .quarantineReplay ctx _ => decide (ctx < 40960)
  | .quarantineOutcome ctx _ => decide (ctx < 40960)
  | .fltResetWrite _ => true
  | .dumpTimeout => true
  | .dumpCopy h => decide (h < 2)
  | .dumpCopyDone => true
  | .dumpRelease => true
  | .bootRom => true
  | .recoveryImageLoad _ => true
  | .fwSwitch => true
  | .fwCommit => true
  | .fwLoad _ => true
  | .fwLoadDone => true
  | .getVersion ch => ch.named
  | .getCapabilities ch => ch.named
  | .negotiateAlgorithms ch => ch.named
  | .getDigests ch => ch.named
  | .getCertificate ch _ => ch.named
  | .challenge ch _ => ch.named
  | .getMeasurements ch _ _ _ => ch.named
  | .spdmUnsupported ch _ => ch.named
  | .mgmtSessionOpen _ => true
  | .mgmtRegisterAccess sess _ _ => decide (sess < 8)
  | .mgmtAdminWrite sess _ => decide (sess < 8)
  | .mgmtDrydownRequest sess => decide (sess < 8)
  | .generate _ => true
  | .unwrap _ => true
  | .retire _ => true
  | .retireScrub _ => true
  | .retireDrainEnd slot => decide (slot < 256)
  | .scrubGranuleDone g => decide (g < 1343)
  | .secCompCfgWrite c _ => decide (c < 64)
  | .feedFail _ dv => decide (dv < 1024)
  | .feedQualify _ dv => decide (dv < 1024)
  | .feedGood _ dv => decide (dv < 1024)
  | .singleFeedTimeout => true
  | .holdupExhausted => true
  | .pwrTargetCommit _ => true
  | .powerTargetFire => true
  | .powerWindow watts => decide (watts < 65536)
  | .thermalThreshold i temp => decide (i < 148) && decide (temp < 256)
  | .throttleStep => true
  | .tripRecover i temp => decide (i < 148) && decide (temp < 256)
  | .drydownStart cause => decide (1 ≤ cause) && decide (cause ≤ 3)
  | .drydownPark => true
  | .drydownTwinWaitEnd => true
  | .drydownPorts => true
  | .drydownParked => true
  | .leaveParked => true
  | .domWake i => decide (i < 256)
  | .domGate i => decide (i < 256)
  | .domRetain i => decide (i < 256)
  | .reloadCp i => decide (i < 256)
  | .reloadCpDone => true
  | .repair i => decide (i < 256)
  | .devResetNAssert => true
  | .devResetNRelease => true
  | .i3cPrivateWrite _ => true
  | .i3cPrivateRead => true
  | .firmwareStart => true
  | .memoryTrainingDone failed => failed.all fun i => decide (84 ≤ i) && decide (i < 120)
  | .enumerationReady => true
  | .consoleLine _ => true
  | .ver => true
  | .isl _ => true
  | .ctr _ => true
  | .gasp _ => true
  | .tw _ => true
  | .peek _ _ => true
  | .poke _ _ => true
  | .sil _ _ _ => true
  | .dump => true
  | .dumpAckByte _ => true
  | .dumpResendTimeout => true
  | .monLevelWrite who _ => who.named
  | .twEnable w _ => decide (w < 8)
  | .twClear w => decide (w < 8)
  | .twDigEnable w _ => decide (w < 8)
  | .twinLogEnable _ => true
  | .ctxEvrRdWrite f _ => decide (f < 128)
  | .perstRelease h => decide (h < 2)
  | .hostLinkUp h => decide (h < 2)
  | .seqUntilDtReached q => q.named
  | .cpSleepDtReached c => decide (c < 16)
  | .i3cDynamicAddressAssign a => decide (a < 128)
  | .mgmtCrashDumpRetrieval sess => decide (sess < 8)

/-! ## The widths of fields -/

/-- psel has three bits (R75). -/
def Pred.fits (p : Pred) : Bool := decide (p.psel < 8)

/-- A request's key selector has 8 bits, its composition 6 and its epoch 16 (R168, R323); there are four traffic classes (R187). -/
def MemReq.fits (q : MemReq) : Bool :=
  decide (q.sel < 256) && decide (q.comp.getD 0 < 64) && decide (q.epoch < 65536) && decide (0 < q.len) && decide (q.cls < 4)

/-- A reservation names one of 64 compositions, a 16-bit epoch and one of 16 tile queues (R50, R76, R323). -/
def Reservation.fits (rq : Reservation) : Bool :=
  decide (rq.comp < 64) && decide (rq.epoch < 65536) && decide (rq.tq < 16)

/-- Lane masks have 32 bits, a node identity 16 (R269, R277). -/
def BringUp.fits (b : BringUp) : Bool :=
  decide (b.badTx < 2 ^ 32) && decide (b.badRx < 2 ^ 32) && decide (b.node < 65536)

/-- The fields of a segment descriptor, and 256 bytes of data (R269). -/
def Segment.fits (g : Segment) : Bool :=
  decide (g.kind < 16) && decide (g.hops < 16) && decide (g.dest < 65536) && decide (g.cls < 4) && decide (g.zero < 64) &&
    g.data.length == 256

/-- The fields of a frame's header, and at most 8 segments (R268). -/
def Frame.fits (f : Frame) : Bool :=
  decide (f.ftype < 256) && decide (f.phase < 2) && decide (f.island < 256) && decide (f.ack < 2 ^ 32) && decide (f.ctr < 2 ^ 64) &&
    decide (f.dt < 2 ^ 64) && decide (f.segs.length ≤ 8) && f.segs.all Segment.fits

/-- The fields of a port message (R282). -/
def PortMsg.fits (m : PortMsg) : Bool :=
  decide (m.op < 256) && decide (m.status < 256) && decide (m.ndata < 256) && decide (m.tag < 2 ^ 32) && decide (m.offset < 2 ^ 64) &&
    decide (m.group < 2 ^ 64) && decide (m.length < 65536) && decide (m.aux < 2 ^ 48) && m.metaWords.length == 4 &&
    m.metaWords.all fun w => decide (w < 2 ^ 64)

/-- Whether every field of a command has its width; VFMA and VFMA_RESCALE share an opcode, and slot s3 = 0xFF is the second one's (R118). -/
def Instr.fits (i : Instr) : Bool :=
  match i with
  | .registerWrite _ _ _ _ => true
  | .rcFieldRead _ _ _ => true
  | .gateRequest _ _ => true
  | .gateDrainEnd _ => true
  | .gatingFailed _ _ => true
  | .domainWake _ => true
  | .wakeCreditsComplete _ => true
  | .wakeCreditTimeout _ _ => true
  | .clockChange _ _ => true
  | .requestAtBoundary q => q.fits
  | .stationInstructionStart _ _ _ => true
  | .stationInstructionComplete _ _ _ => true
  | .queueDeadlock _ _ => true
  | .readAheadTile _ _ _ => true
  | .parkedPullWake _ _ => true
  | .preemptionRequest _ _ => true
  | .tileBoundaryReached _ _ => true
  | .tileBudgetExpire _ _ => true
  | .coreResumeFill _ _ _ => true
  | .icacheLineFill _ _ _ _ => true
  | .setupRelease _ _ => true
  | .seqNop _ _ => true
  | .seqAdd _ p _ => p.fits
  | .seqSub _ p _ => p.fits
  | .seqMul _ p _ => p.fits
  | .seqMulhu _ p _ => p.fits
  | .seqAnd _ p _ => p.fits
  | .seqOr _ p _ => p.fits
  | .seqXor _ p _ => p.fits
  | .seqShl _ p _ => p.fits
  | .seqShr _ p _ => p.fits
  | .seqSra _ p _ => p.fits
  | .seqMin _ p _ => p.fits
  | .seqMax _ p _ => p.fits
  | .seqMinu _ p _ => p.fits
  | .seqMaxu _ p _ => p.fits
  | .seqDivu _ p _ => p.fits
  | .seqRemu _ p _ => p.fits
  | .seqAddi _ p _ => p.fits
  | .seqAndi _ p _ => p.fits
  | .seqOri _ p _ => p.fits
  | .seqXori _ p _ => p.fits
  | .seqShli _ p _ => p.fits
  | .seqShri _ p _ => p.fits
  | .seqSrai _ p _ => p.fits
  | .seqMovi _ p _ => p.fits
  | .seqMovhi _ p _ => p.fits
  | .seqCmp _ _ p _ => p.fits
  | .seqCmpi _ _ p _ => p.fits
  | .seqPand _ p _ => p.fits
  | .seqPor _ p _ => p.fits
  | .seqPxor _ p _ => p.fits
  | .seqPnot _ p _ => p.fits
  | .seqSel _ p _ => p.fits
  | .seqBr _ p _ => p.fits
  | .seqCall _ p _ => p.fits
  | .seqJr _ p _ => p.fits
  | .seqLoop _ p _ => p.fits
  | .seqLd _ _ p _ => p.fits
  | .seqSt _ _ p _ => p.fits
  | .seqAmoAddD _ p _ => p.fits
  | .seqPull _ p _ => p.fits
  | .seqDone _ p _ => p.fits
  | .seqLive _ p _ => p.fits
  | .seqCsrr _ p _ => p.fits
  | .seqCsrw _ p _ => p.fits
  | .seqWait _ p _ => p.fits
  | .seqUntil _ p _ => p.fits
  | .seqTdef _ p _ => p.fits
  | .seqTscale _ p _ => p.fits
  | .seqQdef _ p _ => p.fits
  | .seqQfree _ p _ => p.fits
  | .seqSdef _ p _ => p.fits
  | .seqSrew _ p _ => p.fits
  | .seqSpos _ p _ => p.fits
  | .cpNext _ p _ => p.fits
  | .cpSleep _ p _ => p.fits
  | .cpIssue _ p _ => p.fits
  | .cpFsig _ p _ => p.fits
  | .cpAcct _ p _ => p.fits
  | .cpWakeRead _ => true
  | .ldTile _ _ p _ _ => p.fits
  | .stTile _ _ p _ _ => p.fits
  | .xfTr _ _ _ p _ _ => p.fits
  | .xfCvt _ _ _ p _ _ => p.fits
  | .xfSpx _ _ p _ _ => p.fits
  | .xfGth _ _ p _ _ => p.fits
  | .mma _ _ _ p _ _ => p.fits
  | .mmaOut _ _ _ p _ _ => p.fits
  | .mmaClr _ _ p _ _ => p.fits
  | .mmaAddF32 _ _ p _ _ => p.fits
  | .vadd _ _ _ p _ _ => p.fits
  | .vsub _ _ _ p _ _ => p.fits
  | .vmul _ _ _ p _ _ => p.fits
  | .vmax _ _ _ p _ _ => p.fits
  | .vmin _ _ _ p _ _ => p.fits
  | .vfma _ _ f p ops _ => p.fits && !(f == 0 && ops.extractLsb' 16 8 == 0xFF#8)
  | .vfmaRescale _ _ p ops _ => p.fits && ops.extractLsb' 16 8 == 0xFF#8
  | .vexp _ _ p _ _ => p.fits
  | .vrcp _ _ p _ _ => p.fits
  | .vrsqrt _ _ p _ _ => p.fits
  | .vtanh _ _ p _ _ => p.fits
  | .vonl _ _ p _ _ => p.fits
  | .vnorm _ _ _ p _ _ => p.fits
  | .vrsi _ _ p _ _ => p.fits
  | .redAdd _ _ _ p _ _ => p.fits
  | .redMax _ _ _ p _ _ => p.fits
  | .redMin _ _ _ p _ _ => p.fits
  | .redAmax _ _ _ p _ _ => p.fits
  | .sndTile _ _ p _ _ => p.fits
  | .sndRaddF32 _ _ p _ _ => p.fits
  | .rcvTile _ _ p _ _ => p.fits
  | .rcvRaddF32 _ _ p _ _ => p.fits
  | .raddContribution _ _ _ _ _ => true
  | .reserve _ _ rq => rq.fits
  | .grant _ _ _ _ => true
  | .tile _ _ _ _ _ => true
  | .sendFailed _ _ => true
  | .recvReservationTimeout _ _ _ => true
  | .barSync _ _ p _ _ => p.fits
  | .barArrive _ _ p _ _ => p.fits
  | .barWait _ _ p _ _ => p.fits
  | .barrierArrival _ _ _ => true
  | .barrierRelease _ _ _ => true
  | .flagSet _ _ p _ _ => p.fits
  | .flagAdd _ _ p _ _ => p.fits
  | .flagWait _ _ p _ _ => p.fits
  | .flagNotify _ _ => true
  | .flagReread _ _ => true
  | .fenceMem _ _ p _ _ => p.fits
  | .fenWait _ _ p _ _ => p.fits
  | .syncTimeout _ _ => true
  | .memoryReply _ _ _ _ _ => true
  | .zeroFillEnd _ => true
  | .remoteRequestTimeout _ => true
  | .exportWindowWrite _ _ _ => true
  | .ledgerCopyFail _ => true
  | .ledgerRebuildDone _ _ => true
  | .pressurePublish _ _ _ => true
  | .publisherStale _ => true
  | .reservationAdmission _ _ => true
  | .reservationRelease _ => true
  | .guaranteeWindow _ => true
  | .dmaChainStart _ _ _ _ => true
  | .descriptorFetchDone _ _ => true
  | .descriptorComplete _ => true
  | .eventPulse _ => true
  | .watchSlotRetry _ => true
  | .indexLineArrive _ _ _ => true
  | .indexHaltRecovery _ => true
  | .dmaResume _ _ => true
  | .dmaSkip _ _ => true
  | .dmaAbort _ _ => true
  | .tlxPoolWrite _ _ => true
  | .translationWalkDone _ _ _ => true
  | .invalidateBroadcast _ _ => true
  | .invalidateAck _ _ => true
  | .invalidateTimeout _ _ => true
  | .dlogEnable _ _ => true
  | .dlogFlip _ => true
  | .dlogFlipDone _ => true
  | .injectionRetry _ => true
  | .seamCreditStall _ _ _ => true
  | .seamRetryWindow _ => true
  | .seamFlitReplay _ _ _ => true
  | .seamRepair _ _ => true
  | .portEnable _ _ => true
  | .portDisable _ _ => true
  | .feedRecheck _ _ => true
  | .linkSignalDetect _ => true
  | .bringupStepDone _ b => b.fits
  | .bringupStepTimeout _ => true
  | .feedWavelengthFail _ _ => true
  | .laneFail _ _ _ => true
  | .lossOfSignal _ _ => true
  | .frameReceive _ fr => fr.fits
  | .replay _ p => decide (p.phase < 2)
  | .replayRepeat _ => true
  | .heartbeatSend _ => true
  | .status _ m => m.fits
  | .heartbeatTimeout _ => true
  | .retrainBackoff _ => true
  | .rekeyStart _ => true
  | .rekey _ m _ => m.fits
  | .rekeyAck _ m => m.fits
  | .rekeyDeadline _ => true
  | .read _ m => decide (m.cls < 4) && m.msg.fits
  | .prepare _ m _ => decide (m.cls < 4) && m.msg.fits
  | .commit _ m => decide (m.cls < 4) && m.msg.fits
  | .readResp _ m _ => m.fits
  | .prepAck _ m => m.fits
  | .commitAck _ m => m.fits
  | .mirror _ m _ => m.fits
  | .mirrorAck _ m => m.fits
  | .goingAwaySend _ => true
  | .prtRetrain _ => true
  | .prtDown _ => true
  | .prtRekey _ => true
  | .prtRtDataAccess _ => true
  | .referenceFirstLock => true
  | .replicaAlign _ => true
  | .referenceLost => true
  | .referenceRelock => true
  | .ppsInEdge => true
  | .ppsInTimeout => true
  | .ppsOutRise => true
  | .ppsOutFall => true
  | .timOwdRead _ => true
  | .timedLaunchFire _ _ => true
  | .sillageRecord _ => true
  | .sillageEnable _ _ => true
  | .create _ => true
  | .rebind _ => true
  | .park _ => true
  | .resume _ => true
  | .release _ => true
  | .promote _ => true
  | .epochAdvance _ => true
  | .drainDeadline _ => true
  | .mapChangeEnd _ => true
  | .sliceEnd => true
  | .clusterRepair _ _ => true
  | .twinEnable _ => true
  | .twinSyncDone => true
  | .twinLost => true
  | .promoteRetry _ => true
  | .doorbell _ _ _ => true
  | .commandRecordArrive _ => true
  | .commandWaitSatisfied _ => true
  | .commandCompletion _ => true
  | .nop _ => true
  | .launch _ => true
  | .copyH2d _ => true
  | .copyD2h _ => true
  | .fill _ => true
  | .tableSync _ => true
  | .invalidate _ => true
  | .ctxCreate _ => true
  | .ctxDestroy _ => true
  | .destroySquash _ => true
  | .qCreate _ => true
  | .qDestroy _ => true
  | .fAlloc _ => true
  | .fFree _ => true
  | .fArm _ => true
  | .ctxAbort _ _ => true
  | .launchAbortSquash _ _ => true
  | .evrEnable _ _ => true
  | .perstAssert _ => true
  | .hotReset _ => true
  | .hostLinkDown _ => true
  | .functionLevelReset _ => true
  | .mbxDoorbell _ _ _ => true
  | .mbxAck _ _ => true
  | .mailboxInboundTaken _ => true
  | .mailboxOutboundMessage _ _ _ => true
  | .engineCharge _ => true
  | .quantumPreemption _ _ => true
  | .launchResume _ _ _ => true
  | .spanHang _ => true
  | .cycleBankSwitch => true
  | .cyclicWindowOpen _ => true
  | .cyclicWindowClose _ => true
  | .windowPreempt _ => true
  | .schCycStartWrite _ => true
  | .mixerEnable _ _ => true
  | .mixerStepForm _ => true
  | .mixerStepEnd _ => true
  | .pendingFaultWrite _ => true
  | .fltRingEnable _ _ => true
  | .overflowClear _ => true
  | .watchdogExpire _ => true
  | .engineReset _ => true
  | .islandReset _ => true
  | .halfReset _ => true
  | .deviceReset => true
  | .ladderStepTimeout => true
  | .collectionTimeout => true
  | .quarantineReplay _ _ => true
  | .quarantineOutcome _ _ => true
  | .fltResetWrite _ => true
  | .dumpTimeout => true
  | .dumpCopy _ => true
  | .dumpCopyDone => true
  | .dumpRelease => true
  | .bootRom => true
  | .recoveryImageLoad _ => true
  | .fwSwitch => true
  | .fwCommit => true
  | .fwLoad _ => true
  | .fwLoadDone => true
  | .getVersion _ => true
  | .getCapabilities _ => true
  | .negotiateAlgorithms _ => true
  | .getDigests _ => true
  | .getCertificate _ _ => true
  | .challenge _ _ => true
  | .getMeasurements _ _ _ _ => true
  | .spdmUnsupported _ _ => true
  | .mgmtSessionOpen _ => true
  | .mgmtRegisterAccess _ _ _ => true
  | .mgmtAdminWrite _ _ => true
  | .mgmtDrydownRequest _ => true
  | .generate _ => true
  | .unwrap _ => true
  | .retire _ => true
  | .retireScrub _ => true
  | .retireDrainEnd _ => true
  | .scrubGranuleDone _ => true
  | .secCompCfgWrite _ _ => true
  | .feedFail _ _ => true
  | .feedQualify _ _ => true
  | .feedGood _ _ => true
  | .singleFeedTimeout => true
  | .holdupExhausted => true
  | .pwrTargetCommit _ => true
  | .powerTargetFire => true
  | .powerWindow _ => true
  | .thermalThreshold _ _ => true
  | .throttleStep => true
  | .tripRecover _ _ => true
  | .drydownStart _ => true
  | .drydownPark => true
  | .drydownTwinWaitEnd => true
  | .drydownPorts => true
  | .drydownParked => true
  | .leaveParked => true
  | .domWake _ => true
  | .domGate _ => true
  | .domRetain _ => true
  | .reloadCp _ => true
  | .reloadCpDone => true
  | .repair _ => true
  | .devResetNAssert => true
  | .devResetNRelease => true
  | .i3cPrivateWrite _ => true
  | .i3cPrivateRead => true
  | .firmwareStart => true
  | .memoryTrainingDone _ => true
  | .enumerationReady => true
  | .consoleLine _ => true
  | .ver => true
  | .isl _ => true
  | .ctr _ => true
  | .gasp _ => true
  | .tw _ => true
  | .peek _ _ => true
  | .poke _ _ => true
  | .sil _ _ _ => true
  | .dump => true
  | .dumpAckByte _ => true
  | .dumpResendTimeout => true
  | .monLevelWrite _ _ => true
  | .twEnable _ _ => true
  | .twClear _ => true
  | .twDigEnable _ _ => true
  | .twinLogEnable _ => true
  | .ctxEvrRdWrite _ _ => true
  | .perstRelease _ => true
  | .hostLinkUp _ => true
  | .seqUntilDtReached _ => true
  | .cpSleepDtReached _ => true
  | .i3cDynamicAddressAssign _ => true
  | .mgmtCrashDumpRetrieval _ => true

/-- A command is well formed where the objects it names exist and its fields have their widths. -/
def Instr.wellFormed (i : Instr) : Bool := i.named && i.fits

end Sys2Proof
end

