-- ==== Sys2Proof/Decode.lean ====
section
/-! DEFINITION. Decode.lean: what a word spells. The opcode table gives none of its rows bits, so `decodeTableWord` reads no command from a
word. What the spec does encode is the 64-bit instruction word of a core or of a command processor (R75, R87, R88, R97 and the
operation tables of the stations): `Instr.ofWord` reads it as the command that executes it, and `Instr.word` writes it. -/
namespace Sys2Proof

/-- The command that a word spells by the table's bits: the table gives none of its rows bits. -/
def decodeTableWord (_nbits _w : Nat) : Option Instr := none

/-! ## The instruction word (R75) -/

/-- An instruction word: unit in 63:60, opcode in 59:52, psel in 51:49, pneg in 48, operands in 47:0 (R75). -/
def wordOf (unit op : Nat) (p : Pred) (o : Ops) : Word :=
  (BitVec.ofNat 4 unit ++ (BitVec.ofNat 8 op ++ (BitVec.ofNat 3 p.psel ++ (BitVec.ofBool p.pneg ++ o))) : BitVec 64)

/-- The unit field. -/
def wordUnit (w : Word) : Nat := (w.extractLsb' 60 4).toNat

/-- The opcode field. -/
def wordOp (w : Word) : Nat := (w.extractLsb' 52 8).toNat

/-- The predicate fields. -/
def wordPred (w : Word) : Pred := ⟨(w.extractLsb' 49 3).toNat, w.getLsbD 48⟩

/-- The operand field. -/
def wordOps (w : Word) : Ops := w.extractLsb' 0 48

/-- The place of a condition among the six of `seq.cmp` (R88). -/
def Cond.code : Cond → Nat
  | .eq => 0
  | .ne => 1
  | .lt => 2
  | .ge => 3
  | .ltu => 4
  | .geu => 5

/-- The place of an access size among the four of `seq.ld` (R88). -/
def Size.code : Size → Nat
  | .b => 0
  | .h => 1
  | .w => 2
  | .d => 3

/-! ## Reading a word -/

/-- The commands of SEQ by opcode (R88, R97); opcode 0 is `seq.nop`. -/
def seqCommand (q : Seqr) (op : Nat) (p : Pred) (o : Ops) : Option Instr :=
  match op with
  | 0x10 => some (.seqAdd q p o)
  | 0x11 => some (.seqSub q p o)
  | 0x12 => some (.seqMul q p o)
  | 0x13 => some (.seqMulhu q p o)
  | 0x14 => some (.seqAnd q p o)
  | 0x15 => some (.seqOr q p o)
  | 0x16 => some (.seqXor q p o)
  | 0x17 => some (.seqShl q p o)
  | 0x18 => some (.seqShr q p o)
  | 0x19 => some (.seqSra q p o)
  | 0x1A => some (.seqMin q p o)
  | 0x1B => some (.seqMax q p o)
  | 0x1C => some (.seqMinu q p o)
  | 0x1D => some (.seqMaxu q p o)
  | 0x1E => some (.seqDivu q p o)
  | 0x1F => some (.seqRemu q p o)
  | 0x20 => some (.seqAddi q p o)
  | 0x24 => some (.seqAndi q p o)
  | 0x25 => some (.seqOri q p o)
  | 0x26 => some (.seqXori q p o)
  | 0x27 => some (.seqShli q p o)
  | 0x28 => some (.seqShri q p o)
  | 0x29 => some (.seqSrai q p o)
  | 0x2A => some (.seqMovi q p o)
  | 0x2B => some (.seqMovhi q p o)
  | 0x30 => some (.seqCmp q .eq p o)
  | 0x31 => some (.seqCmp q .ne p o)
  | 0x32 => some (.seqCmp q .lt p o)
  | 0x33 => some (.seqCmp q .ge p o)
  | 0x34 => some (.seqCmp q .ltu p o)
  | 0x35 => some (.seqCmp q .geu p o)
  | 0x38 => some (.seqCmpi q .eq p o)
  | 0x39 => some (.seqCmpi q .ne p o)
  | 0x3A => some (.seqCmpi q .lt p o)
  | 0x3B => some (.seqCmpi q .ge p o)
  | 0x3C => some (.seqCmpi q .ltu p o)
  | 0x3D => some (.seqCmpi q .geu p o)
  | 0x40 => some (.seqPand q p o)
  | 0x41 => some (.seqPor q p o)
  | 0x42 => some (.seqPxor q p o)
  | 0x43 => some (.seqPnot q p o)
  | 0x44 => some (.seqSel q p o)
  | 0x50 => some (.seqBr q p o)
  | 0x51 => some (.seqCall q p o)
  | 0x52 => some (.seqJr q p o)
  | 0x53 => some (.seqLoop q p o)
  | 0x60 => some (.seqLd q .b p o)
  | 0x61 => some (.seqLd q .h p o)
  | 0x62 => some (.seqLd q .w p o)
  | 0x63 => some (.seqLd q .d p o)
  | 0x64 => some (.seqSt q .b p o)
  | 0x65 => some (.seqSt q .h p o)
  | 0x66 => some (.seqSt q .w p o)
  | 0x67 => some (.seqSt q .d p o)
  | 0x68 => some (.seqAmoAddD q p o)
  | 0x70 => some (.seqPull q p o)
  | 0x71 => some (.seqDone q p o)
  | 0x72 => some (.seqLive q p o)
  | 0x73 => some (.seqCsrr q p o)
  | 0x74 => some (.seqCsrw q p o)
  | 0x76 => some (.seqWait q p o)
  | 0x77 => some (.seqUntil q p o)
  | 0x80 => some (.seqTdef q p o)
  | 0x81 => some (.seqTscale q p o)
  | 0x82 => some (.seqQdef q p o)
  | 0x83 => some (.seqQfree q p o)
  | 0x84 => some (.seqSdef q p o)
  | 0x85 => some (.seqSrew q p o)
  | 0x86 => some (.seqSpos q p o)
  | 0xC0 => some (.cpNext q p o)
  | 0xC1 => some (.cpSleep q p o)
  | 0xC2 => some (.cpIssue q p o)
  | 0xC3 => some (.cpFsig q p o)
  | 0xC4 => some (.cpAcct q p o)
  | _ => none

/-- The commands of LOAD by opcode (R99). -/
def loadCommand (n r op : Nat) (p : Pred) (o : Ops) (now : Bool) : Option Instr :=
  match op with
  | 0x00 => some (.ldTile n r p o now)
  | _ => none

/-- The commands of STORE by opcode (R101). -/
def storeCommand (n r op : Nat) (p : Pred) (o : Ops) (now : Bool) : Option Instr :=
  match op with
  | 0x00 => some (.stTile n r p o now)
  | _ => none

/-- The commands of XFORM by opcode (R109). -/
def xformCommand (n r op : Nat) (p : Pred) (o : Ops) (now : Bool) : Option Instr :=
  match op with
  | 0x00 => some (.xfTr n r 0 p o now)
  | 0x01 => some (.xfTr n r 1 p o now)
  | 0x02 => some (.xfTr n r 2 p o now)
  | 0x03 => some (.xfTr n r 3 p o now)
  | 0x04 => some (.xfTr n r 4 p o now)
  | 0x05 => some (.xfTr n r 5 p o now)
  | 0x08 => some (.xfCvt n r 0 p o now)
  | 0x09 => some (.xfCvt n r 1 p o now)
  | 0x0A => some (.xfCvt n r 2 p o now)
  | 0x0B => some (.xfCvt n r 3 p o now)
  | 0x0C => some (.xfCvt n r 4 p o now)
  | 0x0D => some (.xfCvt n r 5 p o now)
  | 0x0E => some (.xfCvt n r 6 p o now)
  | 0x0F => some (.xfCvt n r 7 p o now)
  | 0x10 => some (.xfCvt n r 8 p o now)
  | 0x11 => some (.xfCvt n r 9 p o now)
  | 0x12 => some (.xfCvt n r 10 p o now)
  | 0x13 => some (.xfCvt n r 11 p o now)
  | 0x14 => some (.xfCvt n r 12 p o now)
  | 0x15 => some (.xfCvt n r 13 p o now)
  | 0x16 => some (.xfCvt n r 14 p o now)
  | 0x18 => some (.xfSpx n r p o now)
  | 0x20 => some (.xfGth n r p o now)
  | _ => none

/-- The commands of MATRIX by opcode (R113, R114). -/
def matrixCommand (n r op : Nat) (p : Pred) (o : Ops) (now : Bool) : Option Instr :=
  match op with
  | 0x00 => some (.mma n r 0 p o now)
  | 0x01 => some (.mma n r 1 p o now)
  | 0x02 => some (.mma n r 2 p o now)
  | 0x03 => some (.mma n r 3 p o now)
  | 0x04 => some (.mma n r 4 p o now)
  | 0x05 => some (.mma n r 5 p o now)
  | 0x06 => some (.mma n r 6 p o now)
  | 0x07 => some (.mma n r 7 p o now)
  | 0x08 => some (.mma n r 8 p o now)
  | 0x10 => some (.mma n r 9 p o now)
  | 0x11 => some (.mma n r 10 p o now)
  | 0x12 => some (.mma n r 11 p o now)
  | 0x13 => some (.mma n r 12 p o now)
  | 0x20 => some (.mmaOut n r 0 p o now)
  | 0x21 => some (.mmaOut n r 1 p o now)
  | 0x22 => some (.mmaOut n r 2 p o now)
  | 0x23 => some (.mmaOut n r 3 p o now)
  | 0x24 => some (.mmaOut n r 4 p o now)
  | 0x28 => some (.mmaClr n r p o now)
  | 0x29 => some (.mmaAddF32 n r p o now)
  | _ => none

/-- The commands of VECTOR by opcode (R117). -/
def vectorCommand (n r op : Nat) (p : Pred) (o : Ops) (now : Bool) : Option Instr :=
  match op with
  | 0x00 => some (.vadd n r 0 p o now)
  | 0x01 => some (.vsub n r 0 p o now)
  | 0x02 => some (.vmul n r 0 p o now)
  | 0x03 => some (.vmax n r 0 p o now)
  | 0x04 => some (.vmin n r 0 p o now)
  | 0x05 => some (if o.extractLsb' 16 8 = 0xFF#8 then .vfmaRescale n r p o now else .vfma n r 0 p o now)
  | 0x08 => some (.vexp n r p o now)
  | 0x09 => some (.vrcp n r p o now)
  | 0x0A => some (.vrsqrt n r p o now)
  | 0x0B => some (.vtanh n r p o now)
  | 0x10 => some (.vonl n r p o now)
  | 0x11 => some (.vnorm n r 0 p o now)
  | 0x12 => some (.vnorm n r 1 p o now)
  | 0x13 => some (.vnorm n r 2 p o now)
  | 0x14 => some (.vnorm n r 3 p o now)
  | 0x15 => some (.vnorm n r 4 p o now)
  | 0x18 => some (.vrsi n r p o now)
  | 0x40 => some (.vadd n r 1 p o now)
  | 0x41 => some (.vsub n r 1 p o now)
  | 0x42 => some (.vmul n r 1 p o now)
  | 0x43 => some (.vmax n r 1 p o now)
  | 0x44 => some (.vmin n r 1 p o now)
  | 0x45 => some (.vfma n r 1 p o now)
  | 0x80 => some (.vadd n r 2 p o now)
  | 0x81 => some (.vsub n r 2 p o now)
  | 0x82 => some (.vmul n r 2 p o now)
  | 0x83 => some (.vmax n r 2 p o now)
  | 0x84 => some (.vmin n r 2 p o now)
  | 0x85 => some (.vfma n r 2 p o now)
  | _ => none

/-- The commands of REDUCE by opcode (R120). -/
def reduceCommand (n r op : Nat) (p : Pred) (o : Ops) (now : Bool) : Option Instr :=
  match op with
  | 0x00 => some (.redAdd n r 0 p o now)
  | 0x01 => some (.redMax n r 0 p o now)
  | 0x02 => some (.redMin n r 0 p o now)
  | 0x03 => some (.redAmax n r 0 p o now)
  | 0x40 => some (.redAdd n r 1 p o now)
  | 0x41 => some (.redMax n r 1 p o now)
  | 0x42 => some (.redMin n r 1 p o now)
  | 0x43 => some (.redAmax n r 1 p o now)
  | 0x80 => some (.redAdd n r 2 p o now)
  | 0x81 => some (.redMax n r 2 p o now)
  | 0x82 => some (.redMin n r 2 p o now)
  | 0x83 => some (.redAmax n r 2 p o now)
  | _ => none

/-- The commands of SEND by opcode (R122). -/
def sendCommand (n r op : Nat) (p : Pred) (o : Ops) (now : Bool) : Option Instr :=
  match op with
  | 0x00 => some (.sndTile n r p o now)
  | 0x08 => some (.sndRaddF32 n r p o now)
  | _ => none

/-- The commands of RECV by opcode (R124). -/
def recvCommand (n r op : Nat) (p : Pred) (o : Ops) (now : Bool) : Option Instr :=
  match op with
  | 0x00 => some (.rcvTile n r p o now)
  | 0x08 => some (.rcvRaddF32 n r p o now)
  | _ => none

/-- The commands of SYNC by opcode (R127). -/
def syncCommand (n r op : Nat) (p : Pred) (o : Ops) (now : Bool) : Option Instr :=
  match op with
  | 0x00 => some (.barSync n r p o now)
  | 0x01 => some (.barArrive n r p o now)
  | 0x02 => some (.barWait n r p o now)
  | 0x08 => some (.flagSet n r p o now)
  | 0x09 => some (.flagAdd n r p o now)
  | 0x0A => some (.flagWait n r p o now)
  | 0x10 => some (.fenceMem n r p o now)
  | 0x18 => some (.fenWait n r p o now)
  | _ => none

/-- The command that executes instruction word `w` of sequencer `q`; `now` says whether a station that can start it at once does. A word that
no other row reads is a command SEQ_NOP, which carries it whole: `seq.nop` itself, or an encoding that raises ILLEGAL_INSTRUCTION (R88, R95). -/
def Instr.ofWord (q : Seqr) (now : Bool) (w : Word) : Instr :=
  let op := wordOp w
  let p := wordPred w
  let o := wordOps w
  let i := match wordUnit w, q with
    | 0, _ => seqCommand q op p o
    | 1, .core n r => loadCommand n r op p o now
    | 2, .core n r => storeCommand n r op p o now
    | 3, .core n r => xformCommand n r op p o now
    | 4, .core n r => matrixCommand n r op p o now
    | 5, .core n r => vectorCommand n r op p o now
    | 6, .core n r => reduceCommand n r op p o now
    | 7, .core n r => sendCommand n r op p o now
    | 8, .core n r => recvCommand n r op p o now
    | 9, .core n r => syncCommand n r op p o now
    | _, _ => none
  i.getD (.seqNop q w)

/-! ## Writing a word -/

/-- The instruction word that a command executes; none where the command executes no instruction. -/
def Instr.word (i : Instr) : Option Word :=
  match i with
  | .seqNop _ w => some w
  | .seqAdd _ p o => some (wordOf 0 0x10 p o)
  | .seqSub _ p o => some (wordOf 0 0x11 p o)
  | .seqMul _ p o => some (wordOf 0 0x12 p o)
  | .seqMulhu _ p o => some (wordOf 0 0x13 p o)
  | .seqAnd _ p o => some (wordOf 0 0x14 p o)
  | .seqOr _ p o => some (wordOf 0 0x15 p o)
  | .seqXor _ p o => some (wordOf 0 0x16 p o)
  | .seqShl _ p o => some (wordOf 0 0x17 p o)
  | .seqShr _ p o => some (wordOf 0 0x18 p o)
  | .seqSra _ p o => some (wordOf 0 0x19 p o)
  | .seqMin _ p o => some (wordOf 0 0x1A p o)
  | .seqMax _ p o => some (wordOf 0 0x1B p o)
  | .seqMinu _ p o => some (wordOf 0 0x1C p o)
  | .seqMaxu _ p o => some (wordOf 0 0x1D p o)
  | .seqDivu _ p o => some (wordOf 0 0x1E p o)
  | .seqRemu _ p o => some (wordOf 0 0x1F p o)
  | .seqAddi _ p o => some (wordOf 0 0x20 p o)
  | .seqAndi _ p o => some (wordOf 0 0x24 p o)
  | .seqOri _ p o => some (wordOf 0 0x25 p o)
  | .seqXori _ p o => some (wordOf 0 0x26 p o)
  | .seqShli _ p o => some (wordOf 0 0x27 p o)
  | .seqShri _ p o => some (wordOf 0 0x28 p o)
  | .seqSrai _ p o => some (wordOf 0 0x29 p o)
  | .seqMovi _ p o => some (wordOf 0 0x2A p o)
  | .seqMovhi _ p o => some (wordOf 0 0x2B p o)
  | .seqCmp _ k p o => some (wordOf 0 (0x30 + k.code) p o)
  | .seqCmpi _ k p o => some (wordOf 0 (0x38 + k.code) p o)
  | .seqPand _ p o => some (wordOf 0 0x40 p o)
  | .seqPor _ p o => some (wordOf 0 0x41 p o)
  | .seqPxor _ p o => some (wordOf 0 0x42 p o)
  | .seqPnot _ p o => some (wordOf 0 0x43 p o)
  | .seqSel _ p o => some (wordOf 0 0x44 p o)
  | .seqBr _ p o => some (wordOf 0 0x50 p o)
  | .seqCall _ p o => some (wordOf 0 0x51 p o)
  | .seqJr _ p o => some (wordOf 0 0x52 p o)
  | .seqLoop _ p o => some (wordOf 0 0x53 p o)
  | .seqLd _ k p o => some (wordOf 0 (0x60 + k.code) p o)
  | .seqSt _ k p o => some (wordOf 0 (0x64 + k.code) p o)
  | .seqAmoAddD _ p o => some (wordOf 0 0x68 p o)
  | .seqPull _ p o => some (wordOf 0 0x70 p o)
  | .seqDone _ p o => some (wordOf 0 0x71 p o)
  | .seqLive _ p o => some (wordOf 0 0x72 p o)
  | .seqCsrr _ p o => some (wordOf 0 0x73 p o)
  | .seqCsrw _ p o => some (wordOf 0 0x74 p o)
  | .seqWait _ p o => some (wordOf 0 0x76 p o)
  | .seqUntil _ p o => some (wordOf 0 0x77 p o)
  | .seqTdef _ p o => some (wordOf 0 0x80 p o)
  | .seqTscale _ p o => some (wordOf 0 0x81 p o)
  | .seqQdef _ p o => some (wordOf 0 0x82 p o)
  | .seqQfree _ p o => some (wordOf 0 0x83 p o)
  | .seqSdef _ p o => some (wordOf 0 0x84 p o)
  | .seqSrew _ p o => some (wordOf 0 0x85 p o)
  | .seqSpos _ p o => some (wordOf 0 0x86 p o)
  | .cpNext _ p o => some (wordOf 0 0xC0 p o)
  | .cpSleep _ p o => some (wordOf 0 0xC1 p o)
  | .cpIssue _ p o => some (wordOf 0 0xC2 p o)
  | .cpFsig _ p o => some (wordOf 0 0xC3 p o)
  | .cpAcct _ p o => some (wordOf 0 0xC4 p o)
  | .ldTile _ _ p o _ => some (wordOf 1 0x00 p o)
  | .stTile _ _ p o _ => some (wordOf 2 0x00 p o)
  | .xfTr _ _ f p o _ => some (wordOf 3 (f) p o)
  | .xfCvt _ _ f p o _ => some (wordOf 3 (0x08 + f) p o)
  | .xfSpx _ _ p o _ => some (wordOf 3 0x18 p o)
  | .xfGth _ _ p o _ => some (wordOf 3 0x20 p o)
  | .mma _ _ f p o _ => some (wordOf 4 (if f < 9 then f else f + 7) p o)
  | .mmaOut _ _ f p o _ => some (wordOf 4 (0x20 + f) p o)
  | .mmaClr _ _ p o _ => some (wordOf 4 0x28 p o)
  | .mmaAddF32 _ _ p o _ => some (wordOf 4 0x29 p o)
  | .vadd _ _ f p o _ => some (wordOf 5 (0x40 * f) p o)
  | .vsub _ _ f p o _ => some (wordOf 5 (0x01 + 0x40 * f) p o)
  | .vmul _ _ f p o _ => some (wordOf 5 (0x02 + 0x40 * f) p o)
  | .vmax _ _ f p o _ => some (wordOf 5 (0x03 + 0x40 * f) p o)
  | .vmin _ _ f p o _ => some (wordOf 5 (0x04 + 0x40 * f) p o)
  | .vfma _ _ f p o _ => some (wordOf 5 (0x05 + 0x40 * f) p o)
  | .vfmaRescale _ _ p o _ => some (wordOf 5 0x05 p o)
  | .vexp _ _ p o _ => some (wordOf 5 0x08 p o)
  | .vrcp _ _ p o _ => some (wordOf 5 0x09 p o)
  | .vrsqrt _ _ p o _ => some (wordOf 5 0x0A p o)
  | .vtanh _ _ p o _ => some (wordOf 5 0x0B p o)
  | .vonl _ _ p o _ => some (wordOf 5 0x10 p o)
  | .vnorm _ _ f p o _ => some (wordOf 5 (0x11 + f) p o)
  | .vrsi _ _ p o _ => some (wordOf 5 0x18 p o)
  | .redAdd _ _ f p o _ => some (wordOf 6 (0x40 * f) p o)
  | .redMax _ _ f p o _ => some (wordOf 6 (0x01 + 0x40 * f) p o)
  | .redMin _ _ f p o _ => some (wordOf 6 (0x02 + 0x40 * f) p o)
  | .redAmax _ _ f p o _ => some (wordOf 6 (0x03 + 0x40 * f) p o)
  | .sndTile _ _ p o _ => some (wordOf 7 0x00 p o)
  | .sndRaddF32 _ _ p o _ => some (wordOf 7 0x08 p o)
  | .rcvTile _ _ p o _ => some (wordOf 8 0x00 p o)
  | .rcvRaddF32 _ _ p o _ => some (wordOf 8 0x08 p o)
  | .barSync _ _ p o _ => some (wordOf 9 0x00 p o)
  | .barArrive _ _ p o _ => some (wordOf 9 0x01 p o)
  | .barWait _ _ p o _ => some (wordOf 9 0x02 p o)
  | .flagSet _ _ p o _ => some (wordOf 9 0x08 p o)
  | .flagAdd _ _ p o _ => some (wordOf 9 0x09 p o)
  | .flagWait _ _ p o _ => some (wordOf 9 0x0A p o)
  | .fenceMem _ _ p o _ => some (wordOf 9 0x10 p o)
  | .fenWait _ _ p o _ => some (wordOf 9 0x18 p o)
  | .registerWrite _ _ _ _ => none
  | .rcFieldRead _ _ _ => none
  | .gateRequest _ _ => none
  | .gateDrainEnd _ => none
  | .gatingFailed _ _ => none
  | .domainWake _ => none
  | .wakeCreditsComplete _ => none
  | .wakeCreditTimeout _ _ => none
  | .clockChange _ _ => none
  | .requestAtBoundary _ => none
  | .stationInstructionStart _ _ _ => none
  | .stationInstructionComplete _ _ _ => none
  | .queueDeadlock _ _ => none
  | .readAheadTile _ _ _ => none
  | .parkedPullWake _ _ => none
  | .preemptionRequest _ _ => none
  | .tileBoundaryReached _ _ => none
  | .tileBudgetExpire _ _ => none
  | .coreResumeFill _ _ _ => none
  | .icacheLineFill _ _ _ _ => none
  | .setupRelease _ _ => none
  | .cpWakeRead _ => none
  | .raddContribution _ _ _ _ _ => none
  | .reserve _ _ _ => none
  | .grant _ _ _ _ => none
  | .tile _ _ _ _ _ => none
  | .sendFailed _ _ => none
  | .recvReservationTimeout _ _ _ => none
  | .barrierArrival _ _ _ => none
  | .barrierRelease _ _ _ => none
  | .flagNotify _ _ => none
  | .flagReread _ _ => none
  | .syncTimeout _ _ => none
  | .memoryReply _ _ _ _ _ => none
  | .zeroFillEnd _ => none
  | .remoteRequestTimeout _ => none
  | .exportWindowWrite _ _ _ => none
  | .ledgerCopyFail _ => none
  | .ledgerRebuildDone _ _ => none
  | .pressurePublish _ _ _ => none
  | .publisherStale _ => none
  | .reservationAdmission _ _ => none
  | .reservationRelease _ => none
  | .guaranteeWindow _ => none
  | .dmaChainStart _ _ _ _ => none
  | .descriptorFetchDone _ _ => none
  | .descriptorComplete _ => none
  | .eventPulse _ => none
  | .watchSlotRetry _ => none
  | .indexLineArrive _ _ _ => none
  | .indexHaltRecovery _ => none
  | .dmaResume _ _ => none
  | .dmaSkip _ _ => none
  | .dmaAbort _ _ => none
  | .tlxPoolWrite _ _ => none
  | .translationWalkDone _ _ _ => none
  | .invalidateBroadcast _ _ => none
  | .invalidateAck _ _ => none
  | .invalidateTimeout _ _ => none
  | .dlogEnable _ _ => none
  | .dlogFlip _ => none
  | .dlogFlipDone _ => none
  | .injectionRetry _ => none
  | .seamCreditStall _ _ _ => none
  | .seamRetryWindow _ => none
  | .seamFlitReplay _ _ _ => none
  | .seamRepair _ _ => none
  | .portEnable _ _ => none
  | .portDisable _ _ => none
  | .feedRecheck _ _ => none
  | .linkSignalDetect _ => none
  | .bringupStepDone _ _ => none
  | .bringupStepTimeout _ => none
  | .feedWavelengthFail _ _ => none
  | .laneFail _ _ _ => none
  | .lossOfSignal _ _ => none
  | .frameReceive _ _ => none
  | .replay _ _ => none
  | .replayRepeat _ => none
  | .heartbeatSend _ => none
  | .status _ _ => none
  | .heartbeatTimeout _ => none
  | .retrainBackoff _ => none
  | .rekeyStart _ => none
  | .rekey _ _ _ => none
  | .rekeyAck _ _ => none
  | .rekeyDeadline _ => none
  | .read _ _ => none
  | .prepare _ _ _ => none
  | .commit _ _ => none
  | .readResp _ _ _ => none
  | .prepAck _ _ => none
  | .commitAck _ _ => none
  | .mirror _ _ _ => none
  | .mirrorAck _ _ => none
  | .goingAwaySend _ => none
  | .prtRetrain _ => none
  | .prtDown _ => none
  | .prtRekey _ => none
  | .prtRtDataAccess _ => none
  | .referenceFirstLock => none
  | .replicaAlign _ => none
  | .referenceLost => none
  | .referenceRelock => none
  | .ppsInEdge => none
  | .ppsInTimeout => none
  | .ppsOutRise => none
  | .ppsOutFall => none
  | .timOwdRead _ => none
  | .timedLaunchFire _ _ => none
  | .sillageRecord _ => none
  | .sillageEnable _ _ => none
  | .create _ => none
  | .rebind _ => none
  | .park _ => none
  | .resume _ => none
  | .release _ => none
  | .promote _ => none
  | .epochAdvance _ => none
  | .drainDeadline _ => none
  | .mapChangeEnd _ => none
  | .sliceEnd => none
  | .clusterRepair _ _ => none
  | .twinEnable _ => none
  | .twinSyncDone => none
  | .twinLost => none
  | .promoteRetry _ => none
  | .doorbell _ _ _ => none
  | .commandRecordArrive _ => none
  | .commandWaitSatisfied _ => none
  | .commandCompletion _ => none
  | .nop _ => none
  | .launch _ => none
  | .copyH2d _ => none
  | .copyD2h _ => none
  | .fill _ => none
  | .tableSync _ => none
  | .invalidate _ => none
  | .ctxCreate _ => none
  | .ctxDestroy _ => none
  | .destroySquash _ => none
  | .qCreate _ => none
  | .qDestroy _ => none
  | .fAlloc _ => none
  | .fFree _ => none
  | .fArm _ => none
  | .ctxAbort _ _ => none
  | .launchAbortSquash _ _ => none
  | .evrEnable _ _ => none
  | .perstAssert _ => none
  | .hotReset _ => none
  | .hostLinkDown _ => none
  | .functionLevelReset _ => none
  | .mbxDoorbell _ _ _ => none
  | .mbxAck _ _ => none
  | .mailboxInboundTaken _ => none
  | .mailboxOutboundMessage _ _ _ => none
  | .engineCharge _ => none
  | .quantumPreemption _ _ => none
  | .launchResume _ _ _ => none
  | .spanHang _ => none
  | .cycleBankSwitch => none
  | .cyclicWindowOpen _ => none
  | .cyclicWindowClose _ => none
  | .windowPreempt _ => none
  | .schCycStartWrite _ => none
  | .mixerEnable _ _ => none
  | .mixerStepForm _ => none
  | .mixerStepEnd _ => none
  | .pendingFaultWrite _ => none
  | .fltRingEnable _ _ => none
  | .overflowClear _ => none
  | .watchdogExpire _ => none
  | .engineReset _ => none
  | .islandReset _ => none
  | .halfReset _ => none
  | .deviceReset => none
  | .ladderStepTimeout => none
  | .collectionTimeout => none
  | .quarantineReplay _ _ => none
  | .quarantineOutcome _ _ => none
  | .fltResetWrite _ => none
  | .dumpTimeout => none
  | .dumpCopy _ => none
  | .dumpCopyDone => none
  | .dumpRelease => none
  | .bootRom => none
  | .recoveryImageLoad _ => none
  | .fwSwitch => none
  | .fwCommit => none
  | .fwLoad _ => none
  | .fwLoadDone => none
  | .getVersion _ => none
  | .getCapabilities _ => none
  | .negotiateAlgorithms _ => none
  | .getDigests _ => none
  | .getCertificate _ _ => none
  | .challenge _ _ => none
  | .getMeasurements _ _ _ _ => none
  | .spdmUnsupported _ _ => none
  | .mgmtSessionOpen _ => none
  | .mgmtRegisterAccess _ _ _ => none
  | .mgmtAdminWrite _ _ => none
  | .mgmtDrydownRequest _ => none
  | .generate _ => none
  | .unwrap _ => none
  | .retire _ => none
  | .retireScrub _ => none
  | .retireDrainEnd _ => none
  | .scrubGranuleDone _ => none
  | .secCompCfgWrite _ _ => none
  | .feedFail _ _ => none
  | .feedQualify _ _ => none
  | .feedGood _ _ => none
  | .singleFeedTimeout => none
  | .holdupExhausted => none
  | .pwrTargetCommit _ => none
  | .powerTargetFire => none
  | .powerWindow _ => none
  | .thermalThreshold _ _ => none
  | .throttleStep => none
  | .tripRecover _ _ => none
  | .drydownStart _ => none
  | .drydownPark => none
  | .drydownTwinWaitEnd => none
  | .drydownPorts => none
  | .drydownParked => none
  | .leaveParked => none
  | .domWake _ => none
  | .domGate _ => none
  | .domRetain _ => none
  | .reloadCp _ => none
  | .reloadCpDone => none
  | .repair _ => none
  | .devResetNAssert => none
  | .devResetNRelease => none
  | .i3cPrivateWrite _ => none
  | .i3cPrivateRead => none
  | .firmwareStart => none
  | .memoryTrainingDone _ => none
  | .enumerationReady => none
  | .consoleLine _ => none
  | .ver => none
  | .isl _ => none
  | .ctr _ => none
  | .gasp _ => none
  | .tw _ => none
  | .peek _ _ => none
  | .poke _ _ => none
  | .sil _ _ _ => none
  | .dump => none
  | .dumpAckByte _ => none
  | .dumpResendTimeout => none
  | .monLevelWrite _ _ => none
  | .twEnable _ _ => none
  | .twClear _ => none
  | .twDigEnable _ _ => none
  | .twinLogEnable _ => none
  | .ctxEvrRdWrite _ _ => none
  | .perstRelease _ => none
  | .hostLinkUp _ => none
  | .seqUntilDtReached _ => none
  | .cpSleepDtReached _ => none
  | .i3cDynamicAddressAssign _ => none
  | .mgmtCrashDumpRetrieval _ => none

/-- The sequencer that executes an instruction command, and whether its station is to start it at once; none for other commands. -/
def Instr.executor (i : Instr) : Option (Seqr × Bool) :=
  match i with
  | .seqNop q _ => some (q, false)
  | .seqAdd q _ _ => some (q, false)
  | .seqSub q _ _ => some (q, false)
  | .seqMul q _ _ => some (q, false)
  | .seqMulhu q _ _ => some (q, false)
  | .seqAnd q _ _ => some (q, false)
  | .seqOr q _ _ => some (q, false)
  | .seqXor q _ _ => some (q, false)
  | .seqShl q _ _ => some (q, false)
  | .seqShr q _ _ => some (q, false)
  | .seqSra q _ _ => some (q, false)
  | .seqMin q _ _ => some (q, false)
  | .seqMax q _ _ => some (q, false)
  | .seqMinu q _ _ => some (q, false)
  | .seqMaxu q _ _ => some (q, false)
  | .seqDivu q _ _ => some (q, false)
  | .seqRemu q _ _ => some (q, false)
  | .seqAddi q _ _ => some (q, false)
  | .seqAndi q _ _ => some (q, false)
  | .seqOri q _ _ => some (q, false)
  | .seqXori q _ _ => some (q, false)
  | .seqShli q _ _ => some (q, false)
  | .seqShri q _ _ => some (q, false)
  | .seqSrai q _ _ => some (q, false)
  | .seqMovi q _ _ => some (q, false)
  | .seqMovhi q _ _ => some (q, false)
  | .seqCmp q _ _ _ => some (q, false)
  | .seqCmpi q _ _ _ => some (q, false)
  | .seqPand q _ _ => some (q, false)
  | .seqPor q _ _ => some (q, false)
  | .seqPxor q _ _ => some (q, false)
  | .seqPnot q _ _ => some (q, false)
  | .seqSel q _ _ => some (q, false)
  | .seqBr q _ _ => some (q, false)
  | .seqCall q _ _ => some (q, false)
  | .seqJr q _ _ => some (q, false)
  | .seqLoop q _ _ => some (q, false)
  | .seqLd q _ _ _ => some (q, false)
  | .seqSt q _ _ _ => some (q, false)
  | .seqAmoAddD q _ _ => some (q, false)
  | .seqPull q _ _ => some (q, false)
  | .seqDone q _ _ => some (q, false)
  | .seqLive q _ _ => some (q, false)
  | .seqCsrr q _ _ => some (q, false)
  | .seqCsrw q _ _ => some (q, false)
  | .seqWait q _ _ => some (q, false)
  | .seqUntil q _ _ => some (q, false)
  | .seqTdef q _ _ => some (q, false)
  | .seqTscale q _ _ => some (q, false)
  | .seqQdef q _ _ => some (q, false)
  | .seqQfree q _ _ => some (q, false)
  | .seqSdef q _ _ => some (q, false)
  | .seqSrew q _ _ => some (q, false)
  | .seqSpos q _ _ => some (q, false)
  | .cpNext q _ _ => some (q, false)
  | .cpSleep q _ _ => some (q, false)
  | .cpIssue q _ _ => some (q, false)
  | .cpFsig q _ _ => some (q, false)
  | .cpAcct q _ _ => some (q, false)
  | .ldTile n r _ _ now => some (.core n r, now)
  | .stTile n r _ _ now => some (.core n r, now)
  | .xfTr n r _ _ _ now => some (.core n r, now)
  | .xfCvt n r _ _ _ now => some (.core n r, now)
  | .xfSpx n r _ _ now => some (.core n r, now)
  | .xfGth n r _ _ now => some (.core n r, now)
  | .mma n r _ _ _ now => some (.core n r, now)
  | .mmaOut n r _ _ _ now => some (.core n r, now)
  | .mmaClr n r _ _ now => some (.core n r, now)
  | .mmaAddF32 n r _ _ now => some (.core n r, now)
  | .vadd n r _ _ _ now => some (.core n r, now)
  | .vsub n r _ _ _ now => some (.core n r, now)
  | .vmul n r _ _ _ now => some (.core n r, now)
  | .vmax n r _ _ _ now => some (.core n r, now)
  | .vmin n r _ _ _ now => some (.core n r, now)
  | .vfma n r _ _ _ now => some (.core n r, now)
  | .vfmaRescale n r _ _ now => some (.core n r, now)
  | .vexp n r _ _ now => some (.core n r, now)
  | .vrcp n r _ _ now => some (.core n r, now)
  | .vrsqrt n r _ _ now => some (.core n r, now)
  | .vtanh n r _ _ now => some (.core n r, now)
  | .vonl n r _ _ now => some (.core n r, now)
  | .vnorm n r _ _ _ now => some (.core n r, now)
  | .vrsi n r _ _ now => some (.core n r, now)
  | .redAdd n r _ _ _ now => some (.core n r, now)
  | .redMax n r _ _ _ now => some (.core n r, now)
  | .redMin n r _ _ _ now => some (.core n r, now)
  | .redAmax n r _ _ _ now => some (.core n r, now)
  | .sndTile n r _ _ now => some (.core n r, now)
  | .sndRaddF32 n r _ _ now => some (.core n r, now)
  | .rcvTile n r _ _ now => some (.core n r, now)
  | .rcvRaddF32 n r _ _ now => some (.core n r, now)
  | .barSync n r _ _ now => some (.core n r, now)
  | .barArrive n r _ _ now => some (.core n r, now)
  | .barWait n r _ _ now => some (.core n r, now)
  | .flagSet n r _ _ now => some (.core n r, now)
  | .flagAdd n r _ _ now => some (.core n r, now)
  | .flagWait n r _ _ now => some (.core n r, now)
  | .fenceMem n r _ _ now => some (.core n r, now)
  | .fenWait n r _ _ now => some (.core n r, now)
  | .registerWrite _ _ _ _ => none
  | .rcFieldRead _ _ _ => none
  | .gateRequest _ _ => none
  | .gateDrainEnd _ => none
  | .gatingFailed _ _ => none
  | .domainWake _ => none
  | .wakeCreditsComplete _ => none
  | .wakeCreditTimeout _ _ => none
  | .clockChange _ _ => none
  | .requestAtBoundary _ => none
  | .stationInstructionStart _ _ _ => none
  | .stationInstructionComplete _ _ _ => none
  | .queueDeadlock _ _ => none
  | .readAheadTile _ _ _ => none
  | .parkedPullWake _ _ => none
  | .preemptionRequest _ _ => none
  | .tileBoundaryReached _ _ => none
  | .tileBudgetExpire _ _ => none
  | .coreResumeFill _ _ _ => none
  | .icacheLineFill _ _ _ _ => none
  | .setupRelease _ _ => none
  | .cpWakeRead _ => none
  | .raddContribution _ _ _ _ _ => none
  | .reserve _ _ _ => none
  | .grant _ _ _ _ => none
  | .tile _ _ _ _ _ => none
  | .sendFailed _ _ => none
  | .recvReservationTimeout _ _ _ => none
  | .barrierArrival _ _ _ => none
  | .barrierRelease _ _ _ => none
  | .flagNotify _ _ => none
  | .flagReread _ _ => none
  | .syncTimeout _ _ => none
  | .memoryReply _ _ _ _ _ => none
  | .zeroFillEnd _ => none
  | .remoteRequestTimeout _ => none
  | .exportWindowWrite _ _ _ => none
  | .ledgerCopyFail _ => none
  | .ledgerRebuildDone _ _ => none
  | .pressurePublish _ _ _ => none
  | .publisherStale _ => none
  | .reservationAdmission _ _ => none
  | .reservationRelease _ => none
  | .guaranteeWindow _ => none
  | .dmaChainStart _ _ _ _ => none
  | .descriptorFetchDone _ _ => none
  | .descriptorComplete _ => none
  | .eventPulse _ => none
  | .watchSlotRetry _ => none
  | .indexLineArrive _ _ _ => none
  | .indexHaltRecovery _ => none
  | .dmaResume _ _ => none
  | .dmaSkip _ _ => none
  | .dmaAbort _ _ => none
  | .tlxPoolWrite _ _ => none
  | .translationWalkDone _ _ _ => none
  | .invalidateBroadcast _ _ => none
  | .invalidateAck _ _ => none
  | .invalidateTimeout _ _ => none
  | .dlogEnable _ _ => none
  | .dlogFlip _ => none
  | .dlogFlipDone _ => none
  | .injectionRetry _ => none
  | .seamCreditStall _ _ _ => none
  | .seamRetryWindow _ => none
  | .seamFlitReplay _ _ _ => none
  | .seamRepair _ _ => none
  | .portEnable _ _ => none
  | .portDisable _ _ => none
  | .feedRecheck _ _ => none
  | .linkSignalDetect _ => none
  | .bringupStepDone _ _ => none
  | .bringupStepTimeout _ => none
  | .feedWavelengthFail _ _ => none
  | .laneFail _ _ _ => none
  | .lossOfSignal _ _ => none
  | .frameReceive _ _ => none
  | .replay _ _ => none
  | .replayRepeat _ => none
  | .heartbeatSend _ => none
  | .status _ _ => none
  | .heartbeatTimeout _ => none
  | .retrainBackoff _ => none
  | .rekeyStart _ => none
  | .rekey _ _ _ => none
  | .rekeyAck _ _ => none
  | .rekeyDeadline _ => none
  | .read _ _ => none
  | .prepare _ _ _ => none
  | .commit _ _ => none
  | .readResp _ _ _ => none
  | .prepAck _ _ => none
  | .commitAck _ _ => none
  | .mirror _ _ _ => none
  | .mirrorAck _ _ => none
  | .goingAwaySend _ => none
  | .prtRetrain _ => none
  | .prtDown _ => none
  | .prtRekey _ => none
  | .prtRtDataAccess _ => none
  | .referenceFirstLock => none
  | .replicaAlign _ => none
  | .referenceLost => none
  | .referenceRelock => none
  | .ppsInEdge => none
  | .ppsInTimeout => none
  | .ppsOutRise => none
  | .ppsOutFall => none
  | .timOwdRead _ => none
  | .timedLaunchFire _ _ => none
  | .sillageRecord _ => none
  | .sillageEnable _ _ => none
  | .create _ => none
  | .rebind _ => none
  | .park _ => none
  | .resume _ => none
  | .release _ => none
  | .promote _ => none
  | .epochAdvance _ => none
  | .drainDeadline _ => none
  | .mapChangeEnd _ => none
  | .sliceEnd => none
  | .clusterRepair _ _ => none
  | .twinEnable _ => none
  | .twinSyncDone => none
  | .twinLost => none
  | .promoteRetry _ => none
  | .doorbell _ _ _ => none
  | .commandRecordArrive _ => none
  | .commandWaitSatisfied _ => none
  | .commandCompletion _ => none
  | .nop _ => none
  | .launch _ => none
  | .copyH2d _ => none
  | .copyD2h _ => none
  | .fill _ => none
  | .tableSync _ => none
  | .invalidate _ => none
  | .ctxCreate _ => none
  | .ctxDestroy _ => none
  | .destroySquash _ => none
  | .qCreate _ => none
  | .qDestroy _ => none
  | .fAlloc _ => none
  | .fFree _ => none
  | .fArm _ => none
  | .ctxAbort _ _ => none
  | .launchAbortSquash _ _ => none
  | .evrEnable _ _ => none
  | .perstAssert _ => none
  | .hotReset _ => none
  | .hostLinkDown _ => none
  | .functionLevelReset _ => none
  | .mbxDoorbell _ _ _ => none
  | .mbxAck _ _ => none
  | .mailboxInboundTaken _ => none
  | .mailboxOutboundMessage _ _ _ => none
  | .engineCharge _ => none
  | .quantumPreemption _ _ => none
  | .launchResume _ _ _ => none
  | .spanHang _ => none
  | .cycleBankSwitch => none
  | .cyclicWindowOpen _ => none
  | .cyclicWindowClose _ => none
  | .windowPreempt _ => none
  | .schCycStartWrite _ => none
  | .mixerEnable _ _ => none
  | .mixerStepForm _ => none
  | .mixerStepEnd _ => none
  | .pendingFaultWrite _ => none
  | .fltRingEnable _ _ => none
  | .overflowClear _ => none
  | .watchdogExpire _ => none
  | .engineReset _ => none
  | .islandReset _ => none
  | .halfReset _ => none
  | .deviceReset => none
  | .ladderStepTimeout => none
  | .collectionTimeout => none
  | .quarantineReplay _ _ => none
  | .quarantineOutcome _ _ => none
  | .fltResetWrite _ => none
  | .dumpTimeout => none
  | .dumpCopy _ => none
  | .dumpCopyDone => none
  | .dumpRelease => none
  | .bootRom => none
  | .recoveryImageLoad _ => none
  | .fwSwitch => none
  | .fwCommit => none
  | .fwLoad _ => none
  | .fwLoadDone => none
  | .getVersion _ => none
  | .getCapabilities _ => none
  | .negotiateAlgorithms _ => none
  | .getDigests _ => none
  | .getCertificate _ _ => none
  | .challenge _ _ => none
  | .getMeasurements _ _ _ _ => none
  | .spdmUnsupported _ _ => none
  | .mgmtSessionOpen _ => none
  | .mgmtRegisterAccess _ _ _ => none
  | .mgmtAdminWrite _ _ => none
  | .mgmtDrydownRequest _ => none
  | .generate _ => none
  | .unwrap _ => none
  | .retire _ => none
  | .retireScrub _ => none
  | .retireDrainEnd _ => none
  | .scrubGranuleDone _ => none
  | .secCompCfgWrite _ _ => none
  | .feedFail _ _ => none
  | .feedQualify _ _ => none
  | .feedGood _ _ => none
  | .singleFeedTimeout => none
  | .holdupExhausted => none
  | .pwrTargetCommit _ => none
  | .powerTargetFire => none
  | .powerWindow _ => none
  | .thermalThreshold _ _ => none
  | .throttleStep => none
  | .tripRecover _ _ => none
  | .drydownStart _ => none
  | .drydownPark => none
  | .drydownTwinWaitEnd => none
  | .drydownPorts => none
  | .drydownParked => none
  | .leaveParked => none
  | .domWake _ => none
  | .domGate _ => none
  | .domRetain _ => none
  | .reloadCp _ => none
  | .reloadCpDone => none
  | .repair _ => none
  | .devResetNAssert => none
  | .devResetNRelease => none
  | .i3cPrivateWrite _ => none
  | .i3cPrivateRead => none
  | .firmwareStart => none
  | .memoryTrainingDone _ => none
  | .enumerationReady => none
  | .consoleLine _ => none
  | .ver => none
  | .isl _ => none
  | .ctr _ => none
  | .gasp _ => none
  | .tw _ => none
  | .peek _ _ => none
  | .poke _ _ => none
  | .sil _ _ _ => none
  | .dump => none
  | .dumpAckByte _ => none
  | .dumpResendTimeout => none
  | .monLevelWrite _ _ => none
  | .twEnable _ _ => none
  | .twClear _ => none
  | .twDigEnable _ _ => none
  | .twinLogEnable _ => none
  | .ctxEvrRdWrite _ _ => none
  | .perstRelease _ => none
  | .hostLinkUp _ => none
  | .seqUntilDtReached _ => none
  | .cpSleepDtReached _ => none
  | .i3cDynamicAddressAssign _ => none
  | .mgmtCrashDumpRetrieval _ => none

end Sys2Proof
end

