-- ==== Sys2Proof/Config.lean ====
section
/-! DEFINITION. Config.lean: what the spec leaves open. Each constant without a body is a free value: nothing in Lean can
evaluate it, so no statement can rest on a value of it. -/
namespace Sys2Proof.Config

/-- The next free value of `w` bits, by the counter `State.freeCtr` (DESIGN CHOICE, log 7). -/
opaque freeValue (w ctr : Nat) : BitVec w

/-- Which of the results within the bound that the spec states an operation returns (R142): a number below the count of
candidates, for the operation and its operand bits (DESIGN CHOICE, log 20). -/
opaque ulpChoice (op a b : Nat) : Nat

/-- The place within a command processor's firmware data area at which the record of a queue is put when `cp.next` answers it (R97; DESIGN CHOICE, log 49). -/
opaque recordSlot (cp queue : Nat) : Nat

/-- A byte of a save slot that the device has written, whose layout is the device's own, by the counter `State.freeCtr` (R322; DESIGN CHOICE, log 17). -/
opaque slotByte (ctr i : Nat) : Byte

/-- The order in which `k` contributions of a reduce-on-route meet on their way, as positions 0 to k − 1, by the counter `State.freeCtr` (R130;
DESIGN CHOICE, log 121). -/
opaque meetOrder (ctr k : Nat) : List Nat

/-- The ciphertext of a 64-byte line under a key, the counter block made of its address, the selector and the slot's installation count (R171, R176). -/
opaque sealLine (key sel count addr : Nat) (line : List Byte) : List Byte

/-- The line that a ciphertext decrypts to (R171, R172). -/
opaque unsealLine (key sel count addr : Nat) (cipher : List Byte) : List Byte

/-- The 56-bit MAC under a key over a ciphertext, its address and its selector (R170, R171). -/
opaque lineMac (key sel addr : Nat) (cipher : List Byte) : BitVec 56

/-- The device integrity key that the AON crypto engine makes when AON is first powered, by the counter `State.freeCtr` (R171; DESIGN CHOICE, log 7). -/
opaque integrityKey (ctr : Nat) : Nat

/-- The two firmware images that a part is shipped with (R421; DESIGN CHOICE, log 6). -/
opaque shippedImage (i : Nat) : List Byte

/-- The Thrumric device certificate chain of this part (R421, R423). -/
opaque thrumricChain (i : Nat) : List Byte

/-- The public key that the mask ROM's digest names, and the mask ROM's own bytes (R424, R430). -/
opaque romData (i : Nat) : List Byte

/-- The SHA-256 digest of a list of bytes. -/
opaque sha256 (data : List Byte) : List Byte

/-- Whether a signature by the key of a certificate verifies over these bytes. -/
opaque verifySig (key data sig : List Byte) : Bool

/-- The key that an authenticated decryption yields, none where it fails. -/
opaque unwrapKey (kek data aad : List Byte) : Option (List Byte)

/-- A signature that the device makes with one of its keys. -/
opaque sign (key : Nat) (data : List Byte) : List Byte

/-- Byte `i` of the AES-256 counter stream under a key and a nonce (R268, R270). -/
opaque gcmStream (key : Nat) (nonce : List Byte) (i : Nat) : Byte

/-- The AES-256-GCM tag over additional data and a ciphertext (R268). -/
opaque gcmTag (key : Nat) (nonce aad cipher : List Byte) : BitVec 128

/-- The ECDH secret that this side shares with the holder of a public key (R276). -/
opaque ecdh (priv : Nat) (peer : List Byte) : Nat

/-- The frame key that HKDF-SHA-256 derives from a secret for the direction that node `node` sends in (R276). -/
opaque hkdfKey (secret node : Nat) : Nat

/-- The salt that goes with it (R270, R276). -/
opaque hkdfSalt (secret node : Nat) : BitVec 32

/-- A public key that the device derives. -/
opaque publicKey (key : Nat) : List Byte

end Sys2Proof.Config
end

