-- ==== Sys2Proof/Machine/SMap.lean ====
section
/-! DEFINITION. Machine/SMap.lean: the operations of the sparse map, and the bit-field helpers that registers and records use. -/
namespace Sys2Proof

/-- The value listed at `k`. -/
def SMap.find {β : Type} (m : SMap β) (k : Nat) : Option β :=
  match m with
  | [] => none
  | (j, v) :: rest => if k = j then some v else SMap.find rest k

/-- The value at `k`, `d` where none is listed. -/
def SMap.get {β : Type} (m : SMap β) (k : Nat) (d : β) : β := (SMap.find m k).getD d

/-- The map without any entry at `k`. -/
def SMap.del {β : Type} (m : SMap β) (k : Nat) : SMap β :=
  match m with
  | [] => []
  | (j, v) :: rest => if j = k then SMap.del rest k else (j, v) :: SMap.del rest k

/-- The map with `v` at `k`, kept in rising order. -/
def SMap.put {β : Type} (m : SMap β) (k : Nat) (v : β) : SMap β :=
  match m with
  | [] => [(k, v)]
  | (j, w) :: rest => if k < j then (k, v) :: (j, w) :: rest else if k = j then (k, v) :: rest else (j, w) :: SMap.put rest k v

/-- The map with `v` at `k`, where unlisted keys read as `d`: an entry equal to `d` is not listed. -/
def SMap.set {β : Type} [DecidableEq β] (m : SMap β) (d : β) (k : Nat) (v : β) : SMap β :=
  if v = d then SMap.del m k else SMap.put m k v

/-- The map without the entries whose key lies in [lo, hi). -/
def SMap.clear {β : Type} (m : SMap β) (lo hi : Nat) : SMap β :=
  m.filter fun e => !(decide (lo ≤ e.1) && decide (e.1 < hi))

/-- The keys rise strictly, from above `b`. -/
def SMap.above {β : Type} (m : SMap β) (b : Nat) : Bool :=
  match m with
  | [] => true
  | (j, _) :: rest => decide (b < j + 1) && SMap.above rest (j + 1)

/-- The canonical form with unlisted value `d`: keys rise strictly and no entry equals `d`. -/
def SMap.wf {β : Type} [DecidableEq β] (m : SMap β) (d : β) : Bool :=
  SMap.above m 0 && m.all fun e => decide (e.2 ≠ d)

namespace Machine

/-- Bits hi to lo of a number. -/
def bits (w hi lo : Nat) : Nat := w / 2 ^ lo % 2 ^ (hi + 1 - lo)

/-- The number `w` with bits hi to lo replaced by the low bits of `v`. -/
def putBits (w hi lo v : Nat) : Nat :=
  w - bits w hi lo * 2 ^ lo + v % 2 ^ (hi + 1 - lo) * 2 ^ lo

/-- The signed value of the low `n` bits of `w`. -/
def signed (w n : Nat) : Int :=
  let v := w % 2 ^ n
  if v < 2 ^ (n - 1) then (v : Int) else (v : Int) - 2 ^ n

/-- One above, at most `top`: the saturating counters (R173, R292, R420, R472). -/
def satAdd (top a b : Nat) : Nat := min top (a + b)

/-- The `n` bytes of a number, least significant first (R9). -/
def leBytes (n v : Nat) : List Byte :=
  match n with
  | 0 => []
  | k + 1 => BitVec.ofNat 8 v :: leBytes k (v / 256)

/-- The number of a list of bytes, least significant first (R9). -/
def leNat : List Byte → Nat
  | [] => 0
  | b :: bs => b.toNat + 256 * leNat bs

/-- Replace the elements of a list from position `i` by those of `xs`. -/
def splice {α : Type} (l : List α) (i : Nat) (xs : List α) : List α :=
  l.take i ++ xs ++ l.drop (i + xs.length)

/-- `n` copies of the zero byte. -/
def zeros (n : Nat) : List Byte := List.replicate n 0#8

end Machine
end Sys2Proof
end

