-- ==== Sys2Proof/Machine/Num.lean ====
section
/-! DEFINITION. Machine/Num.lean: element formats, exact values, rounding and conversion (R132 to R143, R150), and the FP32
functions whose results the spec bounds (R142). -/
namespace Sys2Proof.Machine

/-- An exact value: NaN, an infinity, or (−1)^neg × m × 2^e; a zero keeps its sign (R136). -/
inductive Val where
  | nan
  | inf (neg : Bool)
  | fin (neg : Bool) (m : Nat) (e : Int)
  deriving DecidableEq, Repr

/-- The format codes of R132. -/
def fmtOk (f : Nat) : Bool := f ≤ 8 || (0x10 ≤ f && f ≤ 0x15) || f == 0x20 || f == 0x21

/-- Whether a format carries block scales. -/
def isMx (f : Nat) : Bool := 0x10 ≤ f && f ≤ 0x15

/-- The bits of an element (R132). -/
def elemBits (f : Nat) : Nat :=
  match f with
  | 0x00 | 0x20 => 32
  | 0x01 | 0x02 => 16
  | 0x03 | 0x04 | 0x08 | 0x10 | 0x11 | 0x15 => 8
  | 0x05 | 0x06 | 0x12 | 0x13 => 6
  | 0x07 | 0x14 => 4
  | 0x21 => 2
  | _ => 8

/-- The element format of an MX format; other formats are their own (R132). -/
def elemFmt (f : Nat) : Nat :=
  match f with
  | 0x10 => 3
  | 0x11 => 4
  | 0x12 => 5
  | 0x13 => 6
  | 0x14 => 7
  | _ => f

/-- How a floating format spends its top exponent (R134): as IEEE, as E4M3's one NaN, or on finite values only. -/
inductive Top where
  | ieee | one | finite
  deriving DecidableEq, Repr

/-- A floating format: exponent bits, mantissa bits, bias, top exponent (R134). -/
structure Fp where
  eb : Nat
  mb : Nat
  bias : Nat
  top : Top
  deriving DecidableEq, Repr

/-- The floating formats by code (R134). -/
def fp (f : Nat) : Fp :=
  match elemFmt f with
  | 0 => ⟨8, 23, 127, .ieee⟩
  | 1 => ⟨8, 7, 127, .ieee⟩
  | 2 => ⟨5, 10, 15, .ieee⟩
  | 3 => ⟨4, 3, 7, .one⟩
  | 4 => ⟨5, 2, 15, .ieee⟩
  | 5 => ⟨2, 3, 1, .finite⟩
  | 6 => ⟨3, 2, 3, .finite⟩
  | _ => ⟨2, 1, 1, .finite⟩

/-- Whether the element format is INT8 or MXINT8. -/
def isInt (f : Nat) : Bool := f == 8 || f == 0x15

/-- The exact value of a floating pattern (R134). -/
def Fp.decode (p : Fp) (w : Nat) : Val :=
  let m := w % 2 ^ p.mb
  let x := w / 2 ^ p.mb % 2 ^ p.eb
  let neg := w / 2 ^ (p.mb + p.eb) % 2 == 1
  let last := x == 2 ^ p.eb - 1
  if last && p.top == .ieee then (if m = 0 then .inf neg else .nan)
  else if last && p.top == .one && m == 2 ^ p.mb - 1 then .nan
  else if x = 0 then .fin neg m (1 - (p.bias : Int) - p.mb)
  else .fin neg (2 ^ p.mb + m) ((x : Int) - p.bias - p.mb)

/-- The exact value of an element (R134, R135). -/
def decodeElem (f w : Nat) : Val :=
  if isInt f then
    let v := signed w 8
    .fin (decide (v < 0)) v.natAbs (if f = 0x15 then -6 else 0)
  else (fp f).decode w

/-- The number of bits of a magnitude. -/
def bitLen (n : Nat) : Nat := if n = 0 then 0 else n.log2 + 1

/-- The value of an E8M0 scale byte: none for NaN, else its exponent (R137). -/
def e8m0 (b : Nat) : Option Int := if b = 0xFF then none else some ((b : Int) - 127)

/-- m × 2^e rounded to a multiple of 2^u, as that multiple: to nearest, ties to even, or, with a draw `z`, stochastically (R140,
R150). -/
def roundMag (m : Nat) (e u : Int) (z : Option Nat) : Nat :=
  if u ≤ e then m * 2 ^ (e - u).toNat
  else
    let d := (u - e).toNat
    let q := m / 2 ^ d
    let r := m % 2 ^ d
    match z with
    | none => if 2 * r > 2 ^ d || (2 * r == 2 ^ d && q % 2 == 1) then q + 1 else q
    | some z => if r * 2 ^ 16 / 2 ^ d + z ≥ 2 ^ 16 then q + 1 else q

/-- A conversion's result: the pattern, whether a finite value overflowed, whether a NaN or infinity met a format without it. -/
structure Conv where
  w : Nat
  ovf : Bool
  nan : Bool
  deriving DecidableEq, Repr

/-- The canonical NaN of a format with a NaN (R140). -/
def Fp.canon (p : Fp) : Nat :=
  match p.top with
  | .ieee => (2 ^ p.eb - 1) * 2 ^ p.mb + 2 ^ (p.mb - 1)
  | .one => 2 ^ (p.eb + p.mb) - 1
  | .finite => 0

/-- The pattern of an infinity's magnitude in an IEEE format. -/
def Fp.infinity (p : Fp) : Nat := (2 ^ p.eb - 1) * 2 ^ p.mb

/-- The pattern of the largest finite magnitude (R134). -/
def Fp.maxFin (p : Fp) : Nat :=
  match p.top with
  | .ieee => (2 ^ p.eb - 1) * 2 ^ p.mb - 1
  | .one => 2 ^ (p.eb + p.mb) - 2
  | .finite => 2 ^ (p.eb + p.mb) - 1

/-- The sign bit. -/
def Fp.sign (p : Fp) (neg : Bool) : Nat := if neg then 2 ^ (p.eb + p.mb) else 0

/-- Convert an exact value into a floating format with one rounding (R140). A pattern's magnitude counts in steps of its format,
so a carry out of the significand lands on the next binade. -/
def Fp.conv (p : Fp) (z : Option Nat) (v : Val) : Conv :=
  match v with
  | .nan => if p.top = .finite then ⟨0, false, true⟩ else ⟨p.canon, false, p.top == .one⟩
  | .inf neg =>
    match p.top with
    | .ieee => ⟨p.sign neg + p.infinity, false, false⟩
    | .one => ⟨p.canon, false, true⟩
    | .finite => ⟨p.sign neg + p.maxFin, false, true⟩
  | .fin neg m e =>
    let emin : Int := 1 - (p.bias : Int) - p.mb
    let u := max emin (e + (bitLen m : Int) - (p.mb + 1 : Nat))
    let q := roundMag m e u z
    let w := if q < 2 ^ p.mb then q else (u - emin).toNat * 2 ^ p.mb + q
    if w ≤ p.maxFin then ⟨p.sign neg + w, false, false⟩
    else
      match p.top with
      | .ieee => ⟨p.sign neg + p.infinity, true, false⟩
      | _ => ⟨p.sign neg + p.maxFin, true, false⟩

/-- Convert an exact value into INT8 or an MXINT8 element: saturating at ±127 (R135, R140). -/
def convInt (f : Nat) (z : Option Nat) (v : Val) : Conv :=
  let enc (neg : Bool) (q : Nat) : Nat := if neg then (256 - q) % 256 else q
  match v with
  | .nan => ⟨0, false, true⟩
  | .inf neg => ⟨enc neg 127, false, true⟩
  | .fin neg m e =>
    let q := roundMag m e (if f = 0x15 then -6 else 0) z
    if q ≤ 127 then ⟨enc neg q, false, false⟩ else ⟨enc neg 127, true, false⟩

/-- Convert an exact value into an element of a format. E4M3 sets cvt_nan for an infinity only; a NaN keeps a NaN (R140). -/
def convElem (f : Nat) (z : Option Nat) (v : Val) : Conv :=
  if isInt f then convInt f z v
  else
    match v with
    | .nan => if (fp f).top = .finite then ⟨0, false, true⟩ else ⟨(fp f).canon, false, false⟩
    | _ => (fp f).conv z v

/-! ## Exact arithmetic (R142, R143) -/

/-- Negate. -/
def Val.neg (v : Val) : Val :=
  match v with
  | .nan => .nan
  | .inf n => .inf (!n)
  | .fin n m e => .fin (!n) m e

/-- Whether a value is NaN. -/
def Val.isNan (v : Val) : Bool :=
  match v with
  | .nan => true
  | _ => false

/-- Whether a value is a zero. -/
def Val.isZero (v : Val) : Bool :=
  match v with
  | .fin _ m _ => m == 0
  | _ => false

/-- The signed magnitude of a finite value in units of 2^e0, for e0 at most its exponent. -/
def signedAt (neg : Bool) (m : Nat) (e e0 : Int) : Int :=
  let x : Int := (m * 2 ^ (e - e0).toNat : Nat)
  if neg then -x else x

/-- The exact sum; ∞ − ∞ is NaN; a sum of zeros keeps a common sign; an exact cancellation is +0. -/
def Val.add (a b : Val) : Val :=
  match a, b with
  | .nan, _ | _, .nan => .nan
  | .inf x, .inf y => if x = y then .inf x else .nan
  | .inf x, _ => .inf x
  | _, .inf y => .inf y
  | .fin na ma ea, .fin nb mb eb =>
    let e := min ea eb
    let t := signedAt na ma ea e + signedAt nb mb eb e
    if t = 0 then .fin (na && nb && ma == 0 && mb == 0) 0 e else .fin (decide (t < 0)) t.natAbs e

/-- The exact product; 0 × ∞ is NaN. -/
def Val.mul (a b : Val) : Val :=
  match a, b with
  | .nan, _ | _, .nan => .nan
  | .inf x, .inf y => .inf (x != y)
  | .inf x, .fin y m _ => if m = 0 then .nan else .inf (x != y)
  | .fin y m _, .inf x => if m = 0 then .nan else .inf (x != y)
  | .fin na ma ea, .fin nb mb eb => .fin (na != nb) (ma * mb) (ea + eb)

/-- Whether a lies strictly below b, with −0 below +0 (R143); neither is NaN. -/
def Val.lt (a b : Val) : Bool :=
  match a, b with
  | .inf x, .inf y => x && !y
  | .inf x, .fin _ _ _ => x
  | .fin _ _ _, .inf y => !y
  | .fin na ma ea, .fin nb mb eb =>
    let e := min ea eb
    let x := signedAt na ma ea e
    let y := signedAt nb mb eb e
    if ma == 0 && mb == 0 then na && !nb else decide (x < y)
  | _, _ => false

/-- The greater of two, NaN where either is (R143). -/
def Val.max (a b : Val) : Val := if a.isNan || b.isNan then .nan else if a.lt b then b else a

/-- The lesser of two, NaN where either is (R143). -/
def Val.min (a b : Val) : Val := if a.isNan || b.isNan then .nan else if b.lt a then b else a

/-- The magnitude. -/
def Val.abs (a : Val) : Val :=
  match a with
  | .nan => .nan
  | .inf _ => .inf false
  | .fin _ m e => .fin false m e

/-! ## The bounded functions (R142) -/

/-- The fraction bits of the fixed-point evaluation (DESIGN CHOICE, log 20). -/
def fpBits : Nat := 320

/-- The FP32 patterns within `ulps` units of a positive exact value that lies at or just above the pattern `lo` (`exact` where it
is `lo`), as an offset chosen by the free choice: lo − (ulps − 1) to lo + ulps, and lo − ulps where exact (DESIGN CHOICE, log 20). -/
def withinUlps (ulps lo : Nat) (exact : Bool) (choice : Nat) : Nat :=
  let first := if exact then lo - ulps else lo - (ulps - 1)
  let last := min (lo + ulps) 0x7F7FFFFF
  first + choice % (last + 1 - first)

/-- The pattern of the largest FP32 magnitude at or below num / den × 2^e, and whether it is equal; none beyond the largest
finite. -/
def floorF32 (num den : Nat) (e : Int) : Option (Nat × Bool) :=
  if num = 0 then some (0, true)
  else
    -- scale so that the quotient has at least 30 significant bits
    let k : Int := (bitLen den : Int) + 30 - bitLen num
    let n := if k ≥ 0 then num * 2 ^ k.toNat else num
    let d := if k ≥ 0 then den else den * 2 ^ (-k).toNat
    let q := n / d
    let e' := e - k
    let u : Int := max (-149) (e' + (bitLen q : Int) - 24)
    let sh := (u - e').toNat
    let m := q / 2 ^ sh
    let exact := m * 2 ^ sh * d == n
    let w := if m < 2 ^ 23 then m else (u + 149).toNat * 2 ^ 23 + m
    if w ≤ 0x7F7FFFFF then some (w, exact) else none

/-- The integer square root, by bisection; `fuel` counts the bits. -/
def isqrtLoop (fuel n lo hi : Nat) : Nat :=
  match fuel with
  | 0 => lo
  | k + 1 => if hi ≤ lo + 1 then lo else let mid := (lo + hi) / 2; if mid * mid ≤ n then isqrtLoop k n mid hi else isqrtLoop k n lo mid

/-- The integer square root of `n`. -/
def isqrt (n : Nat) : Nat := isqrtLoop (bitLen n + 2) n 0 (2 ^ (bitLen n / 2 + 1))

/-- The sum of x^i / i! in fixed point, for 0 ≤ x < 1: `n` terms from term `t` of index `i`. -/
def expSeries (n i t x : Nat) : Nat :=
  match n with
  | 0 => 0
  | k + 1 => t + expSeries k (i + 1) (t * x / 2 ^ fpBits / (i + 1)) x

/-- The sum of 2 × y^(2i+1) / (2i+1), y = 1/3, in fixed point: ln 2. -/
def ln2Series (n i y : Nat) : Nat :=
  match n with
  | 0 => 0
  | k + 1 => 2 * y / (2 * i + 1) + ln2Series k (i + 1) (y / 9)

/-- ln 2 in fixed point. -/
def ln2Fixed : Nat := ln2Series 110 0 (2 ^ fpBits / 3)

/-- exp of a finite FP32 value as a number of units 2^−fpBits times 2^k; the magnitude of the argument is below 128. -/
def expFixed (neg : Bool) (m : Nat) (e : Int) : Nat × Int :=
  let x : Nat := if e + fpBits ≥ 0 then m * 2 ^ (e + fpBits).toNat else m / 2 ^ (-(e + fpBits)).toNat
  let k : Int := if neg then -((x / ln2Fixed : Nat) : Int) - 1 else ((x / ln2Fixed : Nat) : Int)
  let r : Int := (if neg then -(x : Int) else (x : Int)) - k * ln2Fixed
  (expSeries 70 0 (2 ^ fpBits) r.toNat, k)

/-- The result of a bounded function: an FP32 value, and whether it overflowed from finite inputs or is an invalid case. -/
structure FnResult where
  v : Val
  ovf : Bool
  invalid : Bool
  deriving DecidableEq, Repr

/-- An FP32 pattern as a value. -/
def f32 (w : Nat) : Val := (fp 0).decode w

/-- A bounded result from the quotient num / den × 2^e of the exact value. -/
def bounded (ulps num den : Nat) (e : Int) (neg : Bool) (choice : Nat) : FnResult :=
  match floorF32 num den e with
  | none => ⟨.inf neg, true, false⟩
  | some (lo, exact) =>
    match f32 (withinUlps ulps lo exact choice) with
    | .fin _ m e => ⟨.fin neg m e, false, false⟩
    | v => ⟨v, false, false⟩

/-- The FP32 pattern of a value that FP32 holds, for the free choice's argument. -/
def f32Bits (v : Val) : Nat := ((fp 0).conv none v).w

/-- `vexp.f32` of an FP32 value (R142, R143). -/
def vexpOf (v : Val) : FnResult :=
  match v with
  | .nan => ⟨.nan, false, false⟩
  | .inf neg => ⟨if neg then .fin false 0 0 else .inf false, false, false⟩
  | .fin neg m e =>
    let c := Config.ulpChoice 0x08 (f32Bits v) 0
    if m ≠ 0 ∧ e + (bitLen m : Int) > 7 then
      if neg then bounded 2 1 1 (-400) false c else ⟨.inf false, true, false⟩
    else
      let (x, k) := expFixed neg m e
      bounded 2 x 1 (k - fpBits) false c

/-- `vrcp.f32` (R142). -/
def vrcpOf (v : Val) : FnResult :=
  match v with
  | .nan => ⟨.nan, false, false⟩
  | .inf neg => ⟨.fin neg 0 0, false, false⟩
  | .fin neg m e => if m = 0 then ⟨.inf neg, false, false⟩ else bounded 1 1 m (-e) neg (Config.ulpChoice 0x09 (f32Bits v) 0)

/-- `vrsqrt.f32` (R142, R143): a value below −0 is invalid. -/
def vrsqrtOf (v : Val) : FnResult :=
  match v with
  | .nan => ⟨.nan, false, false⟩
  | .inf neg => if neg then ⟨.nan, false, true⟩ else ⟨.fin false 0 0, false, false⟩
  | .fin neg m e =>
    if m = 0 then ⟨.inf neg, false, false⟩
    else if neg then ⟨.nan, false, true⟩
    else
      -- 1 / sqrt(m × 2^e) with e made even: sqrt(2^(2·fpBits) / m') × 2^(−e'/2 − fpBits)
      let odd := e % 2 == 1
      let m' := if odd then 2 * m else m
      let e' := if odd then e - 1 else e
      bounded 2 (isqrt (2 ^ (2 * fpBits) / m')) 1 (-(e' / 2) - fpBits) false (Config.ulpChoice 0x0A (f32Bits v) 0)

/-- `vtanh.f32` (R142): (exp 2x − 1) / (exp 2x + 1). -/
def vtanhOf (v : Val) : FnResult :=
  match v with
  | .nan => ⟨.nan, false, false⟩
  | .inf neg => ⟨.fin neg 1 0, false, false⟩
  | .fin neg m e =>
    let c := Config.ulpChoice 0x0B (f32Bits v) 0
    if m = 0 then ⟨v, false, false⟩
    else if e + (bitLen m : Int) < -60 then bounded 2 (m * 2 ^ 200 - 1) (2 ^ 200) e neg c
    else if e + (bitLen m : Int) > 5 then bounded 2 (2 ^ 200 - 1) 1 (-200) neg c
    else
      let (x, k) := expFixed false m (e + 1)
      let t := x * 2 ^ k.toNat
      bounded 2 (t - 2 ^ fpBits) (t + 2 ^ fpBits) 0 neg c

/-- The quotient of `vnorm` (R117, R142): within 2 units of FP32; 0 ÷ 0 and ∞ ÷ ∞ are invalid. -/
def vdivOf (a b : Val) : FnResult :=
  match a, b with
  | .nan, _ | _, .nan => ⟨.nan, false, false⟩
  | .inf _, .inf _ => ⟨.nan, false, true⟩
  | .inf x, .fin y _ _ => ⟨.inf (x != y), false, false⟩
  | .fin x _ _, .inf y => ⟨.fin (x != y) 0 0, false, false⟩
  | .fin x ma ea, .fin y mb eb =>
    if mb = 0 then (if ma = 0 then ⟨.nan, false, true⟩ else ⟨.inf (x != y), false, false⟩)
    else if ma = 0 then ⟨.fin (x != y) 0 0, false, false⟩
    else bounded 2 ma mb (ea - eb) (x != y) (Config.ulpChoice 0x11 (f32Bits a) (f32Bits b))

end Sys2Proof.Machine
end

