-- ==== Sys2Proof/Machine/Regs.lean ====
section
/-! DEFINITION. Machine/Regs.lean: the register map of BAR0 (R10 to R14, R350, R351) as one table, and the fields of every
register table of spec/. A register is named as the spec names it; its word is the home of the state software sees in it. -/
namespace Sys2Proof.Machine

/-- Which functions' BAR0 windows map a register (R351): every function, physical functions only, or no BAR0 window. -/
inductive RegScope where
  | all
  | pf
  | none
  deriving DecidableEq, Repr

/-- One row of the register map: the name's offset in BAR0, its stride and count, whether each function has its own copy
(R377, R401, R420), who sees it, the masks of its RW, W1C and RC fields, its value after device reset, and the mask of its
fields whose Reset column says kept. -/
structure RegRow where
  base : Nat
  stride : Nat
  count : Nat
  perFn : Bool
  scope : RegScope
  rw : Nat
  w1c : Nat
  rc : Nat
  reset : Nat
  kept : Nat
  deriving DecidableEq, Repr

/-- The names of the registers, as the spec writes them. -/
inductive RegName where
  | DEV_ID | DEV_CLUSTER_STATE | CMP_CTL | CMP_STATUS | CMP_EPOCH | CMP_MAP
  | CMP_SLICE | CMP_TWIN | CMP_TWIN_ACK | CMP_TWIN_LOG | CMP_TWIN_LOGWR | CTX_ADMIN
  | CTX_ADMIN_CPL | CTX_EVR_BASE | CTX_EVR_CFG | CTX_EVR_RD | CTX_EVR_WR | CTX_ABORT
  | CTX_FN_STATUS | CTX_QUOTA | FEN_SEL | FEN_VAL | TLX_POOL | TLX_PIN_STATUS
  | TLX_DLOG_CFG | DMA_CH_CTL | DMA_CH_STATUS | DMA_CH_FAIL | DMA_CH_DONE | DMA_CH_HEAD
  | DMA_CH_POS | DMA_ENG_STATUS | MEM_LEDGER_CFG | MEM_RES_STATUS | MEM_RSV_CFG | MEM_RSV_STAT
  | MEM_PXW_BASE | MEM_PXW_CFG | MEM_RRD | MEM_RRD1 | FAB_SEAM_MAP | FAB_SEAM_STATUS
  | FAB_SEAM_CFG | FAB_ERR_CNT | FAB_ERR_STK | PRT_CFG | PRT_STATUS | PRT_LOS_STATUS
  | PRT_TX_CTR | PRT_FEC_CNT | PRT_AUTH_FAIL | PRT_DROP_CNT | PRT_ERR_STK | PRT_CTL
  | PRT_NODE_ID | PRT_RT_ADDR | PRT_RT_DATA | TIM_DT | TIM_CFG | TIM_STATUS
  | TIM_PPS_LATCH | TIM_OWD | TIM_OWD_AUX | TIM_SIL_CFG | TIM_SIL_FILT | TIM_SIL_WR
  | TIM_SIL_RD | TIM_SIL_LOST | SCH_COMP_CFG | SCH_MIX_CFG | SCH_MIX_AREA | SCH_MIX_BUDGET
  | SCH_CTX_SEL | SCH_CTX_CFG | SCH_CTX_TIME | SCH_CTX_OVR | SCH_CYC_CFG | SCH_CYC_START
  | SCH_CYC_ENT | FLT_RING_BASE | FLT_RING_RD | FLT_RING_STATUS | FLT_CTX_OVF | FLT_WD_CFG
  | FLT_RESET | FLT_LADDER | FLT_DUMP_STATUS | FLT_DUMP_CTL | FLT_DUMP_HOST | FLT_ISL_STAT
  | SEC_IDS_DIGEST | SEC_IDB_DIGEST | SEC_BOOT | SEC_FW_CTL | SEC_FW_LOAD | SEC_SLOT_SEL
  | SEC_SLOT_STATUS | SEC_SLOT_KEYID | SEC_SLOT_CTL | SEC_UNWRAP | SEC_COMP_CFG | PWR_FEED_STATUS
  | PWR_POLICY | PWR_TARGET_DT | PWR_TARGET | PWR_TARGET_STATUS | PWR_MEAS | PWR_ENERGY
  | PWR_THERM | PWR_DOM_CTL | PWR_DOM_STATUS | PWR_LASTGASP | PWR_SVC_CTL | PWR_COMP_CFG
  | MON_CFG | MON_EVT | MON_MGMT | MON_ACT | MON_ERR_A | MON_ERR_B
  | MON_ERR_STK | MON_TW_CFG | MON_TW_DIG | MON_TW_DIGWR | MON_TW_DIGRD | MON_TW_MIN
  | MON_TW_MAX | MON_TW_SUM | MON_TW_CNT | MON_TW_SPEC | MON_TW_ZERO | MON_TW_HIST
  | MON_TW_DIGLOST | MBX_DOORBELL | MBX_STATUS | MBX_ACK
  deriving DecidableEq, Repr

/-- The register map. -/
def RegName.row : RegName → RegRow
  | .DEV_ID => ⟨0x0, 0x0, 1, false, .all, 0x0, 0x0, 0x0, 0x7400000000000000, 0x0⟩
  | .DEV_CLUSTER_STATE => ⟨0x40, 0x8, 4, false, .pf, 0x0, 0x0, 0x0, 0x0, 0x0⟩
  | .CMP_CTL => ⟨0x100000, 0x40, 64, false, .pf, 0x0, 0x0, 0x0, 0x0, 0x0⟩
  | .CMP_STATUS => ⟨0x100008, 0x40, 64, false, .pf, 0x0, 0x0, 0x0, 0x0, 0x0⟩
  | .CMP_EPOCH => ⟨0x100010, 0x40, 64, false, .pf, 0x0, 0x0, 0x0, 0x0, 0x0⟩
  | .CMP_MAP => ⟨0x100018, 0x40, 64, false, .pf, 0xFFFFFFFFFFC0, 0x0, 0x0, 0x0, 0x0⟩
  | .CMP_SLICE => ⟨0x100020, 0x40, 64, false, .pf, 0xFFFFFFFF, 0x0, 0x0, 0x2710, 0x0⟩
  | .CMP_TWIN => ⟨0x101000, 0x0, 1, false, .pf, 0xFC00000000000000, 0x0, 0x0, 0x0, 0x0⟩
  | .CMP_TWIN_ACK => ⟨0x101008, 0x0, 1, false, .pf, 0x0, 0x0, 0x0, 0x0, 0x0⟩
  | .CMP_TWIN_LOG => ⟨0x101010, 0x0, 1, false, .pf, 0xF800FFFFFFFFF000, 0x0, 0x0, 0x0, 0x0⟩
  | .CMP_TWIN_LOGWR => ⟨0x101018, 0x0, 1, false, .pf, 0x0, 0x0, 0x0, 0x0, 0x0⟩
  | .CTX_ADMIN => ⟨0x200000, 0x0, 1, true, .all, 0xFFFFFFFFFFFFF80F, 0x0, 0x0, 0x0, 0x0⟩
  | .CTX_ADMIN_CPL => ⟨0x200008, 0x0, 1, true, .all, 0xFFFFFFFFFFFFF000, 0x0, 0x0, 0x0, 0x0⟩
  | .CTX_EVR_BASE => ⟨0x200010, 0x0, 1, true, .all, 0xFFFFFFFFFFFFFFFF, 0x0, 0x0, 0x0, 0x0⟩
  | .CTX_EVR_CFG => ⟨0x200018, 0x0, 1, true, .all, 0xF, 0x0, 0x0, 0x0, 0x0⟩
  | .CTX_EVR_RD => ⟨0x200020, 0x0, 1, true, .all, 0xFFFFFFFF, 0x0, 0x0, 0x0, 0x0⟩
  | .CTX_EVR_WR => ⟨0x200028, 0x0, 1, true, .all, 0x0, 0x0, 0x0, 0x0, 0x0⟩
  | .CTX_ABORT => ⟨0x200030, 0x0, 1, true, .all, 0x0, 0x0, 0x0, 0x0, 0x0⟩
  | .CTX_FN_STATUS => ⟨0x200038, 0x0, 1, true, .all, 0x0, 0x4000000000000000, 0x0, 0x0, 0x0⟩
  | .CTX_QUOTA => ⟨0x201000, 0x8, 128, false, .pf, 0xFFFFFFFFFFFFE000, 0x0, 0x0, 0x140014001000000, 0x0⟩
  | .FEN_SEL => ⟨0x300000, 0x0, 1, true, .all, 0xFFFFFFFF, 0x0, 0x0, 0x0, 0x0⟩
  | .FEN_VAL => ⟨0x300008, 0x0, 1, true, .all, 0x0, 0x0, 0x0, 0x0, 0x0⟩
  | .TLX_POOL => ⟨0x400000, 0x8, 8, false, .pf, 0x80000000000000FF, 0x0, 0x0, 0x0, 0x0⟩
  | .TLX_PIN_STATUS => ⟨0x400080, 0x0, 1, false, .pf, 0x0, 0x0, 0x0, 0x400000, 0x0⟩
  | .TLX_DLOG_CFG => ⟨0x401000, 0x8, 64, false, .pf, 0x8000FFFFFFC00000, 0x0, 0x0, 0x0, 0x0⟩
  | .DMA_CH_CTL => ⟨0x500000, 0x40, 1344, false, .pf, 0x0, 0x0, 0x0, 0x0, 0x0⟩
  | .DMA_CH_STATUS => ⟨0x500008, 0x40, 1344, false, .pf, 0x0, 0x0, 0x0, 0x0, 0x0⟩
  | .DMA_CH_FAIL => ⟨0x500010, 0x40, 1344, false, .pf, 0x0, 0x0, 0x0, 0x0, 0x0⟩
  | .DMA_CH_DONE => ⟨0x500018, 0x40, 1344, false, .pf, 0x0, 0x0, 0x0, 0x0, 0x0⟩
  | .DMA_CH_HEAD => ⟨0x500020, 0x40, 1344, false, .pf, 0xFFFFFFFFFFFFF, 0x0, 0x0, 0x0, 0x0⟩
  | .DMA_CH_POS => ⟨0x500028, 0x40, 1344, false, .pf, 0x0, 0x0, 0x0, 0x0, 0x0⟩
  | .DMA_ENG_STATUS => ⟨0x518000, 0x8, 84, false, .pf, 0x0, 0x8000000000000000, 0x0, 0x0, 0x0⟩
  | .MEM_LEDGER_CFG => ⟨0x600100, 0x0, 1, false, .pf, 0x0, 0x0, 0x0, 0x1200, 0x0⟩
  | .MEM_RES_STATUS => ⟨0x600800, 0x8, 256, false, .pf, 0x0, 0x0, 0x0, 0x0, 0x0⟩
  | .MEM_RSV_CFG => ⟨0x601000, 0x8, 256, false, .pf, 0x9CFFFFFCFFFF0000, 0x0, 0x0, 0xFF000000000000, 0x0⟩
  | .MEM_RSV_STAT => ⟨0x601800, 0x8, 256, false, .pf, 0x0, 0x0, 0xFFFFFFFF00000000, 0x0, 0x0⟩
  | .MEM_PXW_BASE => ⟨0x602000, 0x10, 128, false, .pf, 0xFFFFFFE00000, 0x0, 0x0, 0x0, 0x0⟩
  | .MEM_PXW_CFG => ⟨0x602008, 0x10, 128, false, .pf, 0xFFFFFFFFFFFFFFC0, 0x0, 0x0, 0x0, 0x0⟩
  | .MEM_RRD => ⟨0x603000, 0x10, 128, false, .pf, 0xFC0FFFFFFFFFFFC0, 0x0, 0x0, 0x0, 0x0⟩
  | .MEM_RRD1 => ⟨0x603008, 0x10, 128, false, .pf, 0x7FFFFF, 0x0, 0x0, 0x0, 0x0⟩
  | .FAB_SEAM_MAP => ⟨0x700000, 0x8, 2, false, .pf, 0x0, 0x0, 0x0, 0x0, 0x0⟩
  | .FAB_SEAM_STATUS => ⟨0x700010, 0x8, 2, false, .pf, 0x0, 0x800000000000000, 0x0, 0x0, 0x0⟩
  | .FAB_SEAM_CFG => ⟨0x700020, 0x0, 1, false, .pf, 0xFFFFFFFFF0000, 0x0, 0x0, 0x4E2003E80000, 0x0⟩
  | .FAB_ERR_CNT => ⟨0x700100, 0x10, 12, false, .pf, 0x0, 0x0, 0x0, 0x0, 0x0⟩
  | .FAB_ERR_STK => ⟨0x700108, 0x10, 12, false, .pf, 0x0, 0x3, 0x0, 0x0, 0x0⟩
  | .PRT_CFG => ⟨0x800000, 0x100, 8, false, .pf, 0xFCFFFF0000000000, 0x0, 0x0, 0x6000000000000000, 0x0⟩
  | .PRT_STATUS => ⟨0x800008, 0x100, 8, false, .pf, 0x0, 0x0, 0x0, 0x0, 0x0⟩
  | .PRT_LOS_STATUS => ⟨0x800010, 0x100, 8, false, .pf, 0x0, 0x5000000000000000, 0x0, 0xA00000FFFFFFFFFF, 0x0⟩
  | .PRT_TX_CTR => ⟨0x800018, 0x100, 8, false, .pf, 0x0, 0x0, 0x0, 0x0, 0x0⟩
  | .PRT_FEC_CNT => ⟨0x800020, 0x100, 8, false, .pf, 0x0, 0x0, 0x0, 0x0, 0x0⟩
  | .PRT_AUTH_FAIL => ⟨0x800028, 0x100, 8, false, .pf, 0x0, 0x0, 0x0, 0x0, 0x0⟩
  | .PRT_DROP_CNT => ⟨0x800030, 0x100, 8, false, .pf, 0x0, 0x0, 0x0, 0x0, 0x0⟩
  | .PRT_ERR_STK => ⟨0x800038, 0x100, 8, false, .pf, 0x0, 0x1F, 0x0, 0x0, 0x0⟩
  | .PRT_CTL => ⟨0x800040, 0x100, 8, false, .pf, 0x0, 0x0, 0x0, 0x0, 0x0⟩
  | .PRT_NODE_ID => ⟨0x800800, 0x0, 1, false, .pf, 0x0, 0x0, 0x0, 0x0, 0x0⟩
  | .PRT_RT_ADDR => ⟨0x800808, 0x0, 1, false, .pf, 0x1FFFF, 0x0, 0x0, 0x0, 0x0⟩
  | .PRT_RT_DATA => ⟨0x800810, 0x0, 1, false, .pf, 0xF, 0x0, 0x0, 0xF, 0x0⟩
  | .TIM_DT => ⟨0x900000, 0x0, 1, false, .all, 0x0, 0x0, 0x0, 0x0, 0xFFFFFFFFFFFFFFFF⟩
  | .TIM_CFG => ⟨0x900008, 0x0, 1, false, .pf, 0xC00000007FFFFFFF, 0x0, 0x0, 0x0, 0xC00000007FFFFFFF⟩
  | .TIM_STATUS => ⟨0x900010, 0x0, 1, false, .pf, 0x0, 0x2800000000000000, 0x0, 0x0, 0xF800000000000000⟩
  | .TIM_PPS_LATCH => ⟨0x900018, 0x0, 1, false, .pf, 0x0, 0x0, 0x0, 0x0, 0xFFFFFFFFFFFFFFFF⟩
  | .TIM_OWD => ⟨0x900100, 0x10, 8, false, .pf, 0x0, 0x0, 0x0, 0x0, 0x0⟩
  | .TIM_OWD_AUX => ⟨0x900108, 0x10, 8, false, .pf, 0x0, 0x0, 0x0, 0x0, 0x0⟩
  | .TIM_SIL_CFG => ⟨0x901000, 0x40, 16, false, .pf, 0xEF00FFFFFFFFF000, 0x0, 0x0, 0x0, 0x0⟩
  | .TIM_SIL_FILT => ⟨0x901008, 0x40, 16, false, .pf, 0xFFFFFFFFFFFFFFFF, 0x0, 0x0, 0x0, 0x0⟩
  | .TIM_SIL_WR => ⟨0x901010, 0x40, 16, false, .pf, 0x0, 0x0, 0x0, 0x0, 0x0⟩
  | .TIM_SIL_RD => ⟨0x901018, 0x40, 16, false, .pf, 0xFFFFFFFFFFFFFFFF, 0x0, 0x0, 0x0, 0x0⟩
  | .TIM_SIL_LOST => ⟨0x901020, 0x40, 16, false, .pf, 0x0, 0x0, 0x0, 0x0, 0x0⟩
  | .SCH_COMP_CFG => ⟨0xA00000, 0x20, 64, false, .pf, 0xF0003FFFFFFFFFFF, 0x0, 0x0, 0x64000007D0, 0x0⟩
  | .SCH_MIX_CFG => ⟨0xA00008, 0x20, 64, false, .pf, 0x8000FFFF00001FFF, 0x0, 0x0, 0x1, 0x0⟩
  | .SCH_MIX_AREA => ⟨0xA00010, 0x20, 64, false, .pf, 0xFFFFFFFE00000, 0x0, 0x0, 0x0, 0x0⟩
  | .SCH_MIX_BUDGET => ⟨0xA00018, 0x20, 64, false, .pf, 0xFFFFFFFFFFFFFFFF, 0x0, 0x0, 0xFFFFFFFFFFFFFFFF, 0x0⟩
  | .SCH_CTX_SEL => ⟨0xA00800, 0x0, 1, true, .all, 0xFFFF, 0x0, 0x0, 0x0, 0x0⟩
  | .SCH_CTX_CFG => ⟨0xA00808, 0x0, 1, true, .all, 0x40000000FFFFFFFF, 0x0, 0x0, 0x10000, 0x0⟩
  | .SCH_CTX_TIME => ⟨0xA00810, 0x0, 1, true, .all, 0x0, 0x0, 0x0, 0x0, 0x0⟩
  | .SCH_CTX_OVR => ⟨0xA00818, 0x0, 1, true, .all, 0x0, 0x0, 0x0, 0x0, 0x0⟩
  | .SCH_CYC_CFG => ⟨0xA01000, 0x0, 1, false, .pf, 0x80FFFFF000000000, 0x0, 0x0, 0x0, 0x0⟩
  | .SCH_CYC_START => ⟨0xA01008, 0x0, 1, false, .pf, 0xFFFFFFFFFFFFFFFF, 0x0, 0x0, 0x0, 0x0⟩
  | .SCH_CYC_ENT => ⟨0xA02000, 0x8, 2048, false, .pf, 0xBFFFFFFFFFFF0000, 0x0, 0x0, 0x0, 0x0⟩
  | .FLT_RING_BASE => ⟨0xB00000, 0x0, 1, true, .all, 0xFFFFFFFFFFFFFFFF, 0x0, 0x0, 0x0, 0x0⟩
  | .FLT_RING_RD => ⟨0xB00008, 0x0, 1, true, .all, 0xFFFFFFFF, 0x0, 0x0, 0x0, 0x0⟩
  | .FLT_RING_STATUS => ⟨0xB00010, 0x0, 1, true, .all, 0x0, 0xA000000000000000, 0x0, 0x0, 0x0⟩
  | .FLT_CTX_OVF => ⟨0xB00018, 0x0, 1, true, .all, 0x0, 0x100000000, 0x0, 0x0, 0x0⟩
  | .FLT_WD_CFG => ⟨0xB00800, 0x0, 1, false, .pf, 0xFFFFFFFFFFFF0000, 0x0, 0x0, 0x64000A000A0000, 0x0⟩
  | .FLT_RESET => ⟨0xB00808, 0x0, 1, false, .pf, 0x0, 0x0, 0x0, 0x0, 0x0⟩
  | .FLT_LADDER => ⟨0xB00810, 0x0, 1, false, .pf, 0x0, 0x0, 0x0, 0x0, 0x0⟩
  | .FLT_DUMP_STATUS => ⟨0xB00818, 0x0, 1, false, .pf, 0x0, 0x2000000000000000, 0x0, 0x0, 0x0⟩
  | .FLT_DUMP_CTL => ⟨0xB00820, 0x0, 1, false, .pf, 0x8000000000000000, 0x0, 0x0, 0x0, 0x0⟩
  | .FLT_DUMP_HOST => ⟨0xB00828, 0x0, 1, false, .pf, 0xFFFFFFFFFFFFF000, 0x0, 0x0, 0x0, 0x0⟩
  | .FLT_ISL_STAT => ⟨0xB01000, 0x8, 148, false, .pf, 0x0, 0x1000000000000, 0x0, 0x0, 0x0⟩
  | .SEC_IDS_DIGEST => ⟨0xC00000, 0x8, 4, false, .all, 0x0, 0x0, 0x0, 0x0, 0x0⟩
  | .SEC_IDB_DIGEST => ⟨0xC00020, 0x8, 4, false, .all, 0x0, 0x0, 0x0, 0x0, 0x0⟩
  | .SEC_BOOT => ⟨0xC00040, 0x0, 1, false, .pf, 0x0, 0x0, 0x0, 0x0, 0x0⟩
  | .SEC_FW_CTL => ⟨0xC00048, 0x0, 1, false, .pf, 0x0, 0x0, 0x0, 0x0, 0x0⟩
  | .SEC_FW_LOAD => ⟨0xC00050, 0x0, 1, false, .pf, 0xFFFFFFFFF000, 0x0, 0x0, 0x0, 0x0⟩
  | .SEC_SLOT_SEL => ⟨0xC00080, 0x0, 1, false, .pf, 0xFF, 0x0, 0x0, 0x1, 0x0⟩
  | .SEC_SLOT_STATUS => ⟨0xC00088, 0x0, 1, false, .pf, 0x0, 0x0, 0x0, 0x0, 0xC000FF00FFFFFFFF⟩
  | .SEC_SLOT_KEYID => ⟨0xC00090, 0x0, 1, false, .pf, 0x0, 0x0, 0x0, 0x0, 0xFFFFFFFFFFFFFFFF⟩
  | .SEC_SLOT_CTL => ⟨0xC00098, 0x0, 1, false, .pf, 0x0, 0x0, 0x0, 0x0, 0x0⟩
  | .SEC_UNWRAP => ⟨0xC000A0, 0x0, 1, false, .pf, 0xFFFFFFFFFFC0, 0x0, 0x0, 0x0, 0x0⟩
  | .SEC_COMP_CFG => ⟨0xC00400, 0x8, 64, false, .pf, 0x8000FF0000000000, 0x0, 0x0, 0x0, 0x0⟩
  | .PWR_FEED_STATUS => ⟨0xD00000, 0x0, 1, false, .pf, 0x0, 0x700000000000000, 0x0, 0x0, 0x0⟩
  | .PWR_POLICY => ⟨0xD00008, 0x0, 1, false, .pf, 0xF003FFFFC0000000, 0x0, 0x0, 0x0, 0x0⟩
  | .PWR_TARGET_DT => ⟨0xD00010, 0x0, 1, false, .pf, 0xFFFFFFFFFFFFFFFF, 0x0, 0x0, 0x0, 0x0⟩
  | .PWR_TARGET => ⟨0xD00018, 0x0, 1, false, .pf, 0x0, 0x0, 0x0, 0x0, 0x0⟩
  | .PWR_TARGET_STATUS => ⟨0xD00020, 0x0, 1, false, .pf, 0x0, 0x0, 0x0, 0xC800BB80BB8, 0x0⟩
  | .PWR_MEAS => ⟨0xD00028, 0x0, 1, false, .pf, 0x0, 0x0, 0x0, 0x0, 0x0⟩
  | .PWR_ENERGY => ⟨0xD00030, 0x0, 1, false, .pf, 0x0, 0x0, 0x0, 0x0, 0xFFFFFFFFFFFFFFFF⟩
  | .PWR_THERM => ⟨0xD00038, 0x0, 1, false, .pf, 0x0, 0xC000000000000000, 0x0, 0x0, 0x0⟩
  | .PWR_DOM_CTL => ⟨0xD00040, 0x0, 1, false, .pf, 0x0, 0x0, 0x0, 0x0, 0x0⟩
  | .PWR_DOM_STATUS => ⟨0xD00048, 0x0, 1, false, .pf, 0x0, 0x0, 0x0, 0x0, 0x0⟩
  | .PWR_LASTGASP => ⟨0xD00050, 0x0, 1, false, .pf, 0x0, 0x0, 0x0, 0x0, 0x0⟩
  | .PWR_SVC_CTL => ⟨0xD00058, 0x0, 1, false, .pf, 0x0, 0x0, 0x0, 0x0, 0x0⟩
  | .PWR_COMP_CFG => ⟨0xD00100, 0x8, 64, false, .pf, 0xFF000000000000, 0x0, 0x0, 0x80000000000000, 0x0⟩
  | .MON_CFG => ⟨0xE00000, 0x0, 1, false, .pf, 0x3, 0x0, 0x0, 0x0, 0x3⟩
  | .MON_EVT => ⟨0xE00008, 0x0, 1, false, .pf, 0x0, 0xC000000000000000, 0x0, 0x0, 0x0⟩
  | .MON_MGMT => ⟨0xE00010, 0x0, 1, false, .pf, 0x0, 0x0, 0x0, 0x0, 0x0⟩
  | .MON_ACT => ⟨0xE00800, 0x8, 148, false, .pf, 0x0, 0x0, 0x0, 0x0, 0xFFFFFFFFFFFFFFFF⟩
  | .MON_ERR_A => ⟨0xE01000, 0x18, 148, false, .pf, 0x0, 0x0, 0x0, 0x0, 0x0⟩
  | .MON_ERR_B => ⟨0xE01008, 0x18, 148, false, .pf, 0x0, 0x0, 0x0, 0x0, 0x0⟩
  | .MON_ERR_STK => ⟨0xE01010, 0x18, 148, false, .pf, 0x0, 0xF, 0x0, 0x0, 0x0⟩
  | .MON_TW_CFG => ⟨0xE04000, 0x200, 8, false, .pf, 0xDFFFFFFFFFE00000, 0x0, 0x0, 0x2004200000000, 0x0⟩
  | .MON_TW_DIG => ⟨0xE04008, 0x200, 8, false, .pf, 0x8F00FFFFFFFFF000, 0x0, 0x0, 0x0, 0x0⟩
  | .MON_TW_DIGWR => ⟨0xE04010, 0x200, 8, false, .pf, 0x0, 0x0, 0x0, 0x0, 0x0⟩
  | .MON_TW_DIGRD => ⟨0xE04018, 0x200, 8, false, .pf, 0xFFFFFFFFFFFFFFFF, 0x0, 0x0, 0x0, 0x0⟩
  | .MON_TW_MIN => ⟨0xE04020, 0x200, 8, false, .pf, 0x0, 0x0, 0x0, 0x7FF8000000000000, 0x0⟩
  | .MON_TW_MAX => ⟨0xE04028, 0x200, 8, false, .pf, 0x0, 0x0, 0x0, 0x7FF8000000000000, 0x0⟩
  | .MON_TW_SUM => ⟨0xE04030, 0x200, 8, false, .pf, 0x0, 0x0, 0x0, 0x0, 0x0⟩
  | .MON_TW_CNT => ⟨0xE04038, 0x200, 8, false, .pf, 0x0, 0x0, 0x0, 0x0, 0x0⟩
  | .MON_TW_SPEC => ⟨0xE04040, 0x200, 8, false, .pf, 0x0, 0x0, 0x0, 0x0, 0x0⟩
  | .MON_TW_ZERO => ⟨0xE04048, 0x200, 8, false, .pf, 0x0, 0x0, 0x0, 0x0, 0x0⟩
  | .MON_TW_HIST => ⟨0xE04050, 0x8, 512, false, .pf, 0x0, 0x0, 0x0, 0x0, 0x0⟩
  | .MON_TW_DIGLOST => ⟨0xE04150, 0x200, 8, false, .pf, 0x0, 0x0, 0x0, 0x0, 0x0⟩
  | .MBX_DOORBELL => ⟨0xF80000, 0x40, 64, false, .none, 0x0, 0x0, 0x0, 0x0, 0x0⟩
  | .MBX_STATUS => ⟨0xF80008, 0x40, 64, false, .none, 0x0, 0x0, 0x0, 0x0, 0x0⟩
  | .MBX_ACK => ⟨0xF80010, 0x40, 64, false, .none, 0x0, 0x0, 0x0, 0x0, 0x0⟩
/-- The register names, part 1. -/
def regNames1 : List RegName :=
  [.DEV_ID, .DEV_CLUSTER_STATE, .CMP_CTL, .CMP_STATUS, .CMP_EPOCH, .CMP_MAP, .CMP_SLICE, .CMP_TWIN,
   .CMP_TWIN_ACK, .CMP_TWIN_LOG, .CMP_TWIN_LOGWR, .CTX_ADMIN, .CTX_ADMIN_CPL, .CTX_EVR_BASE, .CTX_EVR_CFG, .CTX_EVR_RD,
   .CTX_EVR_WR, .CTX_ABORT, .CTX_FN_STATUS, .CTX_QUOTA, .FEN_SEL, .FEN_VAL, .TLX_POOL, .TLX_PIN_STATUS,
   .TLX_DLOG_CFG, .DMA_CH_CTL, .DMA_CH_STATUS, .DMA_CH_FAIL, .DMA_CH_DONE, .DMA_CH_HEAD, .DMA_CH_POS, .DMA_ENG_STATUS,
   .MEM_LEDGER_CFG, .MEM_RES_STATUS]

/-- The register names, part 2. -/
def regNames2 : List RegName :=
  [.MEM_RSV_CFG, .MEM_RSV_STAT, .MEM_PXW_BASE, .MEM_PXW_CFG, .MEM_RRD, .MEM_RRD1, .FAB_SEAM_MAP, .FAB_SEAM_STATUS,
   .FAB_SEAM_CFG, .FAB_ERR_CNT, .FAB_ERR_STK, .PRT_CFG, .PRT_STATUS, .PRT_LOS_STATUS, .PRT_TX_CTR, .PRT_FEC_CNT,
   .PRT_AUTH_FAIL, .PRT_DROP_CNT, .PRT_ERR_STK, .PRT_CTL, .PRT_NODE_ID, .PRT_RT_ADDR, .PRT_RT_DATA, .TIM_DT,
   .TIM_CFG, .TIM_STATUS, .TIM_PPS_LATCH, .TIM_OWD, .TIM_OWD_AUX, .TIM_SIL_CFG, .TIM_SIL_FILT, .TIM_SIL_WR,
   .TIM_SIL_RD, .TIM_SIL_LOST]

/-- The register names, part 3. -/
def regNames3 : List RegName :=
  [.SCH_COMP_CFG, .SCH_MIX_CFG, .SCH_MIX_AREA, .SCH_MIX_BUDGET, .SCH_CTX_SEL, .SCH_CTX_CFG, .SCH_CTX_TIME, .SCH_CTX_OVR,
   .SCH_CYC_CFG, .SCH_CYC_START, .SCH_CYC_ENT, .FLT_RING_BASE, .FLT_RING_RD, .FLT_RING_STATUS, .FLT_CTX_OVF, .FLT_WD_CFG,
   .FLT_RESET, .FLT_LADDER, .FLT_DUMP_STATUS, .FLT_DUMP_CTL, .FLT_DUMP_HOST, .FLT_ISL_STAT, .SEC_IDS_DIGEST, .SEC_IDB_DIGEST,
   .SEC_BOOT, .SEC_FW_CTL, .SEC_FW_LOAD, .SEC_SLOT_SEL, .SEC_SLOT_STATUS, .SEC_SLOT_KEYID, .SEC_SLOT_CTL, .SEC_UNWRAP,
   .SEC_COMP_CFG, .PWR_FEED_STATUS]

/-- The register names, part 4. -/
def regNames4 : List RegName :=
  [.PWR_POLICY, .PWR_TARGET_DT, .PWR_TARGET, .PWR_TARGET_STATUS, .PWR_MEAS, .PWR_ENERGY, .PWR_THERM, .PWR_DOM_CTL,
   .PWR_DOM_STATUS, .PWR_LASTGASP, .PWR_SVC_CTL, .PWR_COMP_CFG, .MON_CFG, .MON_EVT, .MON_MGMT, .MON_ACT,
   .MON_ERR_A, .MON_ERR_B, .MON_ERR_STK, .MON_TW_CFG, .MON_TW_DIG, .MON_TW_DIGWR, .MON_TW_DIGRD, .MON_TW_MIN,
   .MON_TW_MAX, .MON_TW_SUM, .MON_TW_CNT, .MON_TW_SPEC, .MON_TW_ZERO, .MON_TW_HIST, .MON_TW_DIGLOST, .MBX_DOORBELL,
   .MBX_STATUS, .MBX_ACK]

/-- Every register name, in the order of the blocks. -/
def RegName.list : List RegName := regNames1 ++ regNames2 ++ regNames3 ++ regNames4


/-- The key under which the state holds copy `i` of a register: its BAR0 offset, with the function number above it for a
register of which each function has its own. -/
def RegName.key (r : RegName) (i : Nat) : Nat :=
  if r.row.perFn then r.row.base + (i + 1) * 0x1000000 else r.row.base + r.row.stride * i

/-- The value of a register's word after device reset, where the spec's Reset column gives a number (R13). Two resets vary
by index: home_cp of SCH_COMP_CFG is c mod 16 (R401), and derated of MEM_RES_STATUS is nominal (R193); and every field that the spec loads at boot
reads 0 until then, but
the places of the ledger copies, which R164 gives after device reset: partition 0 of stacks 0 and 18. -/
def RegName.resetWord (r : RegName) (i : Nat) : Word :=
  match r with
  | .SCH_COMP_CFG => BitVec.ofNat 64 (r.row.reset + (i % 16) * 2 ^ 60)
  | .MEM_RES_STATUS =>
    BitVec.ofNat 64 ((if i < 24 then 1500 else if i = 24 then 819 else if 32 ≤ i ∧ i < 48 then 448 else 0) * 2 ^ 48)
  | _ => BitVec.ofNat 64 r.row.reset

/-- The register at an offset of BAR0, with its index; none where R11's undefined offset applies. -/
def RegName.locate (off : Nat) : Option (RegName × Nat) :=
  RegName.list.findSome? fun r =>
    let w := r.row
    if w.scope = .none then none
    else if w.count = 1 then (if off = w.base then some (r, 0) else none)
    else if w.base ≤ off ∧ (off - w.base) % w.stride = 0 ∧ (off - w.base) / w.stride < w.count then
      let i := (off - w.base) / w.stride
      match r with
      | .FAB_ERR_CNT | .FAB_ERR_STK => if i = 2 ∨ i = 3 then none else some (r, i)
      | .MON_TW_HIST => if i % 64 < 32 then some (r, i) else none
      | _ => some (r, i)
    else none

/-- A field of a register: bits hi to lo. -/
structure Fld where
  reg : RegName
  hi : Nat
  lo : Nat
  deriving DecidableEq, Repr

namespace F

/-! DEV_ID (R17). -/
def DEV_ID_part : Fld := ⟨.DEV_ID, 63, 48⟩
def DEV_ID_stepping : Fld := ⟨.DEV_ID, 47, 40⟩
def DEV_ID_cores_in_service : Fld := ⟨.DEV_ID, 39, 30⟩
def DEV_ID_spares_free : Fld := ⟨.DEV_ID, 29, 27⟩
def DEV_ID_ports_fitted : Fld := ⟨.DEV_ID, 23, 16⟩
/-! DEV_CLUSTER_STATE (R21). -/
def DEV_CLUSTER_STATE_in_service : Fld := ⟨.DEV_CLUSTER_STATE, 52, 48⟩
def DEV_CLUSTER_STATE_cl_state : Fld := ⟨.DEV_CLUSTER_STATE, 41, 0⟩
/-! CMP_CTL (R346). -/
def CMP_CTL_cmd : Fld := ⟨.CMP_CTL, 3, 0⟩
/-! CMP_STATUS (R346). -/
def CMP_STATUS_state : Fld := ⟨.CMP_STATUS, 63, 60⟩
def CMP_STATUS_busy : Fld := ⟨.CMP_STATUS, 59, 59⟩
def CMP_STATUS_mode : Fld := ⟨.CMP_STATUS, 58, 58⟩
def CMP_STATUS_sliced : Fld := ⟨.CMP_STATUS, 57, 57⟩
def CMP_STATUS_last_status : Fld := ⟨.CMP_STATUS, 55, 48⟩
def CMP_STATUS_cores : Fld := ⟨.CMP_STATUS, 42, 32⟩
def CMP_STATUS_channels : Fld := ⟨.CMP_STATUS, 31, 21⟩
def CMP_STATUS_partitions : Fld := ⟨.CMP_STATUS, 20, 13⟩
def CMP_STATUS_far : Fld := ⟨.CMP_STATUS, 10, 0⟩
/-! CMP_EPOCH (R346). -/
def CMP_EPOCH_old : Fld := ⟨.CMP_EPOCH, 47, 32⟩
def CMP_EPOCH_draining : Fld := ⟨.CMP_EPOCH, 31, 31⟩
def CMP_EPOCH_epoch : Fld := ⟨.CMP_EPOCH, 15, 0⟩
/-! CMP_MAP (R346). -/
def CMP_MAP_addr : Fld := ⟨.CMP_MAP, 47, 6⟩
/-! CMP_SLICE (R346). -/
def CMP_SLICE_demand : Fld := ⟨.CMP_SLICE, 41, 32⟩
def CMP_SLICE_slice_us : Fld := ⟨.CMP_SLICE, 31, 0⟩
/-! CMP_TWIN (R346). -/
def CMP_TWIN_enable : Fld := ⟨.CMP_TWIN, 63, 63⟩
def CMP_TWIN_sync : Fld := ⟨.CMP_TWIN, 62, 62⟩
def CMP_TWIN_auto_promote : Fld := ⟨.CMP_TWIN, 61, 61⟩
def CMP_TWIN_port : Fld := ⟨.CMP_TWIN, 60, 58⟩
def CMP_TWIN_state : Fld := ⟨.CMP_TWIN, 57, 55⟩
def CMP_TWIN_unacked : Fld := ⟨.CMP_TWIN, 31, 0⟩
/-! CMP_TWIN_ACK (R346). -/
def CMP_TWIN_ACK_seq : Fld := ⟨.CMP_TWIN_ACK, 63, 0⟩
/-! CMP_TWIN_LOG (R346). -/
def CMP_TWIN_LOG_enable : Fld := ⟨.CMP_TWIN_LOG, 63, 63⟩
def CMP_TWIN_LOG_size : Fld := ⟨.CMP_TWIN_LOG, 62, 59⟩
def CMP_TWIN_LOG_base : Fld := ⟨.CMP_TWIN_LOG, 47, 12⟩
/-! CMP_TWIN_LOGWR (R346). -/
def CMP_TWIN_LOGWR_wr : Fld := ⟨.CMP_TWIN_LOGWR, 63, 0⟩
/-! CTX_ADMIN (R377). -/
def CTX_ADMIN_base : Fld := ⟨.CTX_ADMIN, 63, 12⟩
def CTX_ADMIN_enable : Fld := ⟨.CTX_ADMIN, 11, 11⟩
def CTX_ADMIN_size : Fld := ⟨.CTX_ADMIN, 3, 0⟩
/-! CTX_ADMIN_CPL (R377). -/
def CTX_ADMIN_CPL_base : Fld := ⟨.CTX_ADMIN_CPL, 63, 12⟩
/-! CTX_EVR_BASE (R377). -/
def CTX_EVR_BASE_base : Fld := ⟨.CTX_EVR_BASE, 63, 12⟩
def CTX_EVR_BASE_enable : Fld := ⟨.CTX_EVR_BASE, 11, 11⟩
def CTX_EVR_BASE_dev_vector : Fld := ⟨.CTX_EVR_BASE, 10, 0⟩
/-! CTX_EVR_CFG (R377). -/
def CTX_EVR_CFG_size : Fld := ⟨.CTX_EVR_CFG, 3, 0⟩
/-! CTX_EVR_RD (R377). -/
def CTX_EVR_RD_rd : Fld := ⟨.CTX_EVR_RD, 31, 0⟩
/-! CTX_EVR_WR (R377). -/
def CTX_EVR_WR_dropped : Fld := ⟨.CTX_EVR_WR, 63, 32⟩
def CTX_EVR_WR_wr : Fld := ⟨.CTX_EVR_WR, 31, 0⟩
/-! CTX_ABORT (R377). -/
def CTX_ABORT_queue : Fld := ⟨.CTX_ABORT, 63, 47⟩
def CTX_ABORT_index : Fld := ⟨.CTX_ABORT, 31, 0⟩
/-! CTX_FN_STATUS (R377). -/
def CTX_FN_STATUS_attached : Fld := ⟨.CTX_FN_STATUS, 63, 63⟩
def CTX_FN_STATUS_evr_ovf : Fld := ⟨.CTX_FN_STATUS, 62, 62⟩
def CTX_FN_STATUS_composition : Fld := ⟨.CTX_FN_STATUS, 61, 56⟩
def CTX_FN_STATUS_contexts : Fld := ⟨.CTX_FN_STATUS, 55, 40⟩
def CTX_FN_STATUS_queues : Fld := ⟨.CTX_FN_STATUS, 39, 23⟩
def CTX_FN_STATUS_fences : Fld := ⟨.CTX_FN_STATUS, 22, 5⟩
/-! CTX_QUOTA (R377). -/
def CTX_QUOTA_max_contexts : Fld := ⟨.CTX_QUOTA, 63, 48⟩
def CTX_QUOTA_max_queues : Fld := ⟨.CTX_QUOTA, 47, 31⟩
def CTX_QUOTA_max_fences : Fld := ⟨.CTX_QUOTA, 30, 13⟩
/-! FEN_SEL (R377). -/
def FEN_SEL_state : Fld := ⟨.FEN_SEL, 63, 62⟩
def FEN_SEL_last_status : Fld := ⟨.FEN_SEL, 61, 60⟩
def FEN_SEL_fence : Fld := ⟨.FEN_SEL, 31, 0⟩
/-! FEN_VAL (R377). -/
def FEN_VAL_value : Fld := ⟨.FEN_VAL, 63, 0⟩
/-! TLX_POOL (R226). -/
def TLX_POOL_enable : Fld := ⟨.TLX_POOL, 63, 63⟩
def TLX_POOL_free : Fld := ⟨.TLX_POOL, 48, 32⟩
def TLX_POOL_part : Fld := ⟨.TLX_POOL, 7, 5⟩
def TLX_POOL_stack : Fld := ⟨.TLX_POOL, 4, 0⟩
/-! TLX_PIN_STATUS (R234). -/
def TLX_PIN_STATUS_fw_entries : Fld := ⟨.TLX_PIN_STATUS, 26, 16⟩
def TLX_PIN_STATUS_used : Fld := ⟨.TLX_PIN_STATUS, 10, 0⟩
/-! TLX_DLOG_CFG (R242). -/
def TLX_DLOG_CFG_enable : Fld := ⟨.TLX_DLOG_CFG, 63, 63⟩
def TLX_DLOG_CFG_gen : Fld := ⟨.TLX_DLOG_CFG, 62, 62⟩
def TLX_DLOG_CFG_flip_busy : Fld := ⟨.TLX_DLOG_CFG, 61, 61⟩
def TLX_DLOG_CFG_flip : Fld := ⟨.TLX_DLOG_CFG, 60, 60⟩
def TLX_DLOG_CFG_base : Fld := ⟨.TLX_DLOG_CFG, 47, 22⟩
/-! DMA_CH_CTL (R217). -/
def DMA_CH_CTL_action : Fld := ⟨.DMA_CH_CTL, 1, 0⟩
/-! DMA_CH_STATUS (R217). -/
def DMA_CH_STATUS_composition : Fld := ⟨.DMA_CH_STATUS, 53, 48⟩
def DMA_CH_STATUS_cause : Fld := ⟨.DMA_CH_STATUS, 23, 16⟩
def DMA_CH_STATUS_state : Fld := ⟨.DMA_CH_STATUS, 2, 0⟩
/-! DMA_CH_FAIL (R217). -/
def DMA_CH_FAIL_dir : Fld := ⟨.DMA_CH_FAIL, 63, 63⟩
def DMA_CH_FAIL_phys : Fld := ⟨.DMA_CH_FAIL, 62, 62⟩
def DMA_CH_FAIL_addr : Fld := ⟨.DMA_CH_FAIL, 51, 0⟩
/-! DMA_CH_DONE (R217). -/
def DMA_CH_DONE_done : Fld := ⟨.DMA_CH_DONE, 63, 0⟩
/-! DMA_CH_HEAD (R217). -/
def DMA_CH_HEAD_addr : Fld := ⟨.DMA_CH_HEAD, 51, 0⟩
/-! DMA_CH_POS (R217). -/
def DMA_CH_POS_piece : Fld := ⟨.DMA_CH_POS, 63, 0⟩
/-! DMA_ENG_STATUS (R217). -/
def DMA_ENG_STATUS_index_halt : Fld := ⟨.DMA_ENG_STATUS, 63, 63⟩
def DMA_ENG_STATUS_line : Fld := ⟨.DMA_ENG_STATUS, 51, 0⟩
/-! MEM_LEDGER_CFG (R181). -/
def MEM_LEDGER_CFG_state : Fld := ⟨.MEM_LEDGER_CFG, 63, 62⟩
def MEM_LEDGER_CFG_open : Fld := ⟨.MEM_LEDGER_CFG, 48, 32⟩
def MEM_LEDGER_CFG_part_b : Fld := ⟨.MEM_LEDGER_CFG, 15, 13⟩
def MEM_LEDGER_CFG_stack_b : Fld := ⟨.MEM_LEDGER_CFG, 12, 8⟩
def MEM_LEDGER_CFG_part_a : Fld := ⟨.MEM_LEDGER_CFG, 7, 5⟩
def MEM_LEDGER_CFG_stack_a : Fld := ⟨.MEM_LEDGER_CFG, 4, 0⟩
/-! MEM_RES_STATUS (R193). -/
def MEM_RES_STATUS_derated : Fld := ⟨.MEM_RES_STATUS, 63, 48⟩
def MEM_RES_STATUS_reserved : Fld := ⟨.MEM_RES_STATUS, 47, 32⟩
def MEM_RES_STATUS_granted : Fld := ⟨.MEM_RES_STATUS, 31, 16⟩
def MEM_RES_STATUS_level : Fld := ⟨.MEM_RES_STATUS, 2, 0⟩
/-! MEM_RSV_CFG (R194). -/
def MEM_RSV_CFG_valid : Fld := ⟨.MEM_RSV_CFG, 63, 63⟩
def MEM_RSV_CFG_state : Fld := ⟨.MEM_RSV_CFG, 62, 61⟩
def MEM_RSV_CFG_class : Fld := ⟨.MEM_RSV_CFG, 60, 59⟩
def MEM_RSV_CFG_transit : Fld := ⟨.MEM_RSV_CFG, 58, 58⟩
def MEM_RSV_CFG_rank : Fld := ⟨.MEM_RSV_CFG, 55, 48⟩
def MEM_RSV_CFG_resource : Fld := ⟨.MEM_RSV_CFG, 47, 40⟩
def MEM_RSV_CFG_composition : Fld := ⟨.MEM_RSV_CFG, 39, 34⟩
def MEM_RSV_CFG_rate : Fld := ⟨.MEM_RSV_CFG, 31, 16⟩
def MEM_RSV_CFG_granted : Fld := ⟨.MEM_RSV_CFG, 15, 0⟩
/-! MEM_RSV_STAT (R199). -/
def MEM_RSV_STAT_misses : Fld := ⟨.MEM_RSV_STAT, 63, 32⟩
def MEM_RSV_STAT_delivered : Fld := ⟨.MEM_RSV_STAT, 31, 0⟩
/-! MEM_PXW_BASE (R177). -/
def MEM_PXW_BASE_base : Fld := ⟨.MEM_PXW_BASE, 47, 21⟩
/-! MEM_PXW_CFG (R177). -/
def MEM_PXW_CFG_enable : Fld := ⟨.MEM_PXW_CFG, 63, 63⟩
def MEM_PXW_CFG_mode : Fld := ⟨.MEM_PXW_CFG, 62, 62⟩
def MEM_PXW_CFG_wr : Fld := ⟨.MEM_PXW_CFG, 61, 61⟩
def MEM_PXW_CFG_rd : Fld := ⟨.MEM_PXW_CFG, 60, 60⟩
def MEM_PXW_CFG_key_sel : Fld := ⟨.MEM_PXW_CFG, 59, 52⟩
def MEM_PXW_CFG_roff : Fld := ⟨.MEM_PXW_CFG, 51, 29⟩
def MEM_PXW_CFG_size : Fld := ⟨.MEM_PXW_CFG, 28, 6⟩
/-! MEM_RRD (R182). -/
def MEM_RRD_enable : Fld := ⟨.MEM_RRD, 63, 63⟩
def MEM_RRD_mode : Fld := ⟨.MEM_RRD, 62, 61⟩
def MEM_RRD_alt_port : Fld := ⟨.MEM_RRD, 60, 58⟩
def MEM_RRD_base : Fld := ⟨.MEM_RRD, 51, 29⟩
def MEM_RRD_size : Fld := ⟨.MEM_RRD, 28, 6⟩
/-! MEM_RRD1 (R182). -/
def MEM_RRD1_alt_base : Fld := ⟨.MEM_RRD1, 22, 0⟩
/-! FAB_SEAM_MAP (R263). -/
def FAB_SEAM_MAP_n_logical : Fld := ⟨.FAB_SEAM_MAP, 58, 54⟩
def FAB_SEAM_MAP_ch_state : Fld := ⟨.FAB_SEAM_MAP, 41, 0⟩
/-! FAB_SEAM_STATUS (R263). -/
def FAB_SEAM_STATUS_west_asleep : Fld := ⟨.FAB_SEAM_STATUS, 63, 63⟩
def FAB_SEAM_STATUS_east_asleep : Fld := ⟨.FAB_SEAM_STATUS, 62, 62⟩
def FAB_SEAM_STATUS_wake_pending : Fld := ⟨.FAB_SEAM_STATUS, 61, 61⟩
def FAB_SEAM_STATUS_repair_busy : Fld := ⟨.FAB_SEAM_STATUS, 60, 60⟩
def FAB_SEAM_STATUS_credit_stall : Fld := ⟨.FAB_SEAM_STATUS, 59, 59⟩
def FAB_SEAM_STATUS_sync_hold : Fld := ⟨.FAB_SEAM_STATUS, 57, 52⟩
def FAB_SEAM_STATUS_nacks : Fld := ⟨.FAB_SEAM_STATUS, 31, 0⟩
/-! FAB_SEAM_CFG (R263). -/
def FAB_SEAM_CFG_credit_timeout : Fld := ⟨.FAB_SEAM_CFG, 51, 32⟩
def FAB_SEAM_CFG_retry_limit : Fld := ⟨.FAB_SEAM_CFG, 31, 16⟩
/-! FAB_ERR_CNT (R264). -/
def FAB_ERR_CNT_unc : Fld := ⟨.FAB_ERR_CNT, 63, 32⟩
def FAB_ERR_CNT_cor : Fld := ⟨.FAB_ERR_CNT, 31, 0⟩
/-! FAB_ERR_STK (R264). -/
def FAB_ERR_STK_unc_sat : Fld := ⟨.FAB_ERR_STK, 1, 1⟩
def FAB_ERR_STK_cor_sat : Fld := ⟨.FAB_ERR_STK, 0, 0⟩
/-! PRT_CFG (R291). -/
def PRT_CFG_enable : Fld := ⟨.PRT_CFG, 63, 63⟩
def PRT_CFG_auto_retrain : Fld := ⟨.PRT_CFG, 62, 62⟩
def PRT_CFG_allow_degraded : Fld := ⟨.PRT_CFG, 61, 61⟩
def PRT_CFG_transit : Fld := ⟨.PRT_CFG, 60, 60⟩
def PRT_CFG_role : Fld := ⟨.PRT_CFG, 59, 58⟩
def PRT_CFG_peer_id : Fld := ⟨.PRT_CFG, 55, 40⟩
/-! PRT_STATUS (R291). -/
def PRT_STATUS_state : Fld := ⟨.PRT_STATUS, 63, 60⟩
def PRT_STATUS_deg_tx : Fld := ⟨.PRT_STATUS, 59, 59⟩
def PRT_STATUS_deg_rx : Fld := ⟨.PRT_STATUS, 58, 58⟩
def PRT_STATUS_wl_tx : Fld := ⟨.PRT_STATUS, 57, 55⟩
def PRT_STATUS_wl_rx : Fld := ⟨.PRT_STATUS, 54, 52⟩
def PRT_STATUS_key_phase : Fld := ⟨.PRT_STATUS, 51, 51⟩
def PRT_STATUS_cause : Fld := ⟨.PRT_STATUS, 47, 40⟩
def PRT_STATUS_peer_role : Fld := ⟨.PRT_STATUS, 33, 32⟩
def PRT_STATUS_peer_node : Fld := ⟨.PRT_STATUS, 31, 16⟩
def PRT_STATUS_downs : Fld := ⟨.PRT_STATUS, 15, 0⟩
/-! PRT_LOS_STATUS (R291). -/
def PRT_LOS_STATUS_los : Fld := ⟨.PRT_LOS_STATUS, 63, 63⟩
def PRT_LOS_STATUS_los_stk : Fld := ⟨.PRT_LOS_STATUS, 62, 62⟩
def PRT_LOS_STATUS_feed_los : Fld := ⟨.PRT_LOS_STATUS, 61, 61⟩
def PRT_LOS_STATUS_feed_stk : Fld := ⟨.PRT_LOS_STATUS, 60, 60⟩
def PRT_LOS_STATUS_feed_wl : Fld := ⟨.PRT_LOS_STATUS, 39, 32⟩
def PRT_LOS_STATUS_rx_lane : Fld := ⟨.PRT_LOS_STATUS, 31, 0⟩
/-! PRT_TX_CTR (R291). -/
def PRT_TX_CTR_counter : Fld := ⟨.PRT_TX_CTR, 63, 0⟩
/-! PRT_FEC_CNT (R291). -/
def PRT_FEC_CNT_unc : Fld := ⟨.PRT_FEC_CNT, 63, 32⟩
def PRT_FEC_CNT_cor : Fld := ⟨.PRT_FEC_CNT, 31, 0⟩
/-! PRT_AUTH_FAIL (R291). -/
def PRT_AUTH_FAIL_fails : Fld := ⟨.PRT_AUTH_FAIL, 31, 0⟩
/-! PRT_DROP_CNT (R291). -/
def PRT_DROP_CNT_late : Fld := ⟨.PRT_DROP_CNT, 63, 32⟩
def PRT_DROP_CNT_transit_drop : Fld := ⟨.PRT_DROP_CNT, 31, 0⟩
/-! PRT_ERR_STK (R291). -/
def PRT_ERR_STK_late_sat : Fld := ⟨.PRT_ERR_STK, 4, 4⟩
def PRT_ERR_STK_transit_sat : Fld := ⟨.PRT_ERR_STK, 3, 3⟩
def PRT_ERR_STK_auth_sat : Fld := ⟨.PRT_ERR_STK, 2, 2⟩
def PRT_ERR_STK_unc_sat : Fld := ⟨.PRT_ERR_STK, 1, 1⟩
def PRT_ERR_STK_cor_sat : Fld := ⟨.PRT_ERR_STK, 0, 0⟩
/-! PRT_CTL (R291). -/
def PRT_CTL_action : Fld := ⟨.PRT_CTL, 1, 0⟩
/-! PRT_NODE_ID (R291). -/
def PRT_NODE_ID_node : Fld := ⟨.PRT_NODE_ID, 15, 0⟩
/-! PRT_RT_ADDR (R291). -/
def PRT_RT_ADDR_autoinc : Fld := ⟨.PRT_RT_ADDR, 16, 16⟩
def PRT_RT_ADDR_index : Fld := ⟨.PRT_RT_ADDR, 15, 0⟩
/-! PRT_RT_DATA (R291). -/
def PRT_RT_DATA_egress : Fld := ⟨.PRT_RT_DATA, 3, 0⟩
/-! TIM_DT (R315). -/
def TIM_DT_dt : Fld := ⟨.TIM_DT, 63, 0⟩
/-! TIM_CFG (R315). -/
def TIM_CFG_pps_in_en : Fld := ⟨.TIM_CFG, 63, 63⟩
def TIM_CFG_pps_out_en : Fld := ⟨.TIM_CFG, 62, 62⟩
def TIM_CFG_pps_out_phase : Fld := ⟨.TIM_CFG, 30, 0⟩
/-! TIM_STATUS (R315). -/
def TIM_STATUS_ref_ok : Fld := ⟨.TIM_STATUS, 63, 63⟩
def TIM_STATUS_holdover : Fld := ⟨.TIM_STATUS, 62, 62⟩
def TIM_STATUS_ref_lost_stk : Fld := ⟨.TIM_STATUS, 61, 61⟩
def TIM_STATUS_pps_seen : Fld := ⟨.TIM_STATUS, 60, 60⟩
def TIM_STATUS_pps_err_stk : Fld := ⟨.TIM_STATUS, 59, 59⟩
/-! TIM_PPS_LATCH (R315). -/
def TIM_PPS_LATCH_dt : Fld := ⟨.TIM_PPS_LATCH, 63, 0⟩
/-! TIM_OWD (R315). -/
def TIM_OWD_mean : Fld := ⟨.TIM_OWD, 63, 0⟩
/-! TIM_OWD_AUX (R315). -/
def TIM_OWD_AUX_valid : Fld := ⟨.TIM_OWD_AUX, 15, 15⟩
def TIM_OWD_AUX_samples : Fld := ⟨.TIM_OWD_AUX, 14, 8⟩
def TIM_OWD_AUX_frac : Fld := ⟨.TIM_OWD_AUX, 3, 0⟩
/-! TIM_SIL_CFG (R315). -/
def TIM_SIL_CFG_enable : Fld := ⟨.TIM_SIL_CFG, 63, 63⟩
def TIM_SIL_CFG_core_trace : Fld := ⟨.TIM_SIL_CFG, 62, 62⟩
def TIM_SIL_CFG_dev : Fld := ⟨.TIM_SIL_CFG, 61, 61⟩
def TIM_SIL_CFG_size : Fld := ⟨.TIM_SIL_CFG, 59, 56⟩
def TIM_SIL_CFG_base : Fld := ⟨.TIM_SIL_CFG, 47, 12⟩
/-! TIM_SIL_FILT (R315). -/
def TIM_SIL_FILT_comp : Fld := ⟨.TIM_SIL_FILT, 63, 0⟩
/-! TIM_SIL_WR (R315). -/
def TIM_SIL_WR_wr : Fld := ⟨.TIM_SIL_WR, 63, 0⟩
/-! TIM_SIL_RD (R315). -/
def TIM_SIL_RD_rd : Fld := ⟨.TIM_SIL_RD, 63, 0⟩
/-! TIM_SIL_LOST (R315). -/
def TIM_SIL_LOST_lost : Fld := ⟨.TIM_SIL_LOST, 31, 0⟩
/-! SCH_COMP_CFG (R401). -/
def SCH_COMP_CFG_home_cp : Fld := ⟨.SCH_COMP_CFG, 63, 60⟩
def SCH_COMP_CFG_tile_budget_us : Fld := ⟨.SCH_COMP_CFG, 45, 32⟩
def SCH_COMP_CFG_quantum_us : Fld := ⟨.SCH_COMP_CFG, 31, 0⟩
/-! SCH_MIX_CFG (R401). -/
def SCH_MIX_CFG_enable : Fld := ⟨.SCH_MIX_CFG, 63, 63⟩
def SCH_MIX_CFG_context : Fld := ⟨.SCH_MIX_CFG, 47, 32⟩
def SCH_MIX_CFG_max_items : Fld := ⟨.SCH_MIX_CFG, 12, 0⟩
/-! SCH_MIX_AREA (R401). -/
def SCH_MIX_AREA_va : Fld := ⟨.SCH_MIX_AREA, 51, 21⟩
/-! SCH_MIX_BUDGET (R401). -/
def SCH_MIX_BUDGET_compute : Fld := ⟨.SCH_MIX_BUDGET, 63, 32⟩
def SCH_MIX_BUDGET_memory : Fld := ⟨.SCH_MIX_BUDGET, 31, 0⟩
/-! SCH_CTX_SEL (R401). -/
def SCH_CTX_SEL_state : Fld := ⟨.SCH_CTX_SEL, 63, 62⟩
def SCH_CTX_SEL_context : Fld := ⟨.SCH_CTX_SEL, 15, 0⟩
/-! SCH_CTX_CFG (R401). -/
def SCH_CTX_CFG_rt : Fld := ⟨.SCH_CTX_CFG, 63, 63⟩
def SCH_CTX_CFG_prio : Fld := ⟨.SCH_CTX_CFG, 62, 62⟩
def SCH_CTX_CFG_suspended : Fld := ⟨.SCH_CTX_CFG, 61, 61⟩
def SCH_CTX_CFG_weight : Fld := ⟨.SCH_CTX_CFG, 31, 0⟩
/-! SCH_CTX_TIME (R401). -/
def SCH_CTX_TIME_ticks : Fld := ⟨.SCH_CTX_TIME, 63, 0⟩
/-! SCH_CTX_OVR (R401). -/
def SCH_CTX_OVR_overrun : Fld := ⟨.SCH_CTX_OVR, 63, 0⟩
/-! SCH_CYC_CFG (R401). -/
def SCH_CYC_CFG_enable : Fld := ⟨.SCH_CYC_CFG, 63, 63⟩
def SCH_CYC_CFG_pending : Fld := ⟨.SCH_CYC_CFG, 62, 62⟩
def SCH_CYC_CFG_active : Fld := ⟨.SCH_CYC_CFG, 61, 61⟩
def SCH_CYC_CFG_next_period : Fld := ⟨.SCH_CYC_CFG, 55, 36⟩
def SCH_CYC_CFG_period : Fld := ⟨.SCH_CYC_CFG, 35, 16⟩
def SCH_CYC_CFG_overruns : Fld := ⟨.SCH_CYC_CFG, 15, 0⟩
/-! SCH_CYC_START (R401). -/
def SCH_CYC_START_dt : Fld := ⟨.SCH_CYC_START, 63, 0⟩
/-! SCH_CYC_ENT (R401). -/
def SCH_CYC_ENT_valid : Fld := ⟨.SCH_CYC_ENT, 63, 63⟩
def SCH_CYC_ENT_inert : Fld := ⟨.SCH_CYC_ENT, 62, 62⟩
def SCH_CYC_ENT_composition : Fld := ⟨.SCH_CYC_ENT, 61, 56⟩
def SCH_CYC_ENT_start_us : Fld := ⟨.SCH_CYC_ENT, 55, 36⟩
def SCH_CYC_ENT_len_us : Fld := ⟨.SCH_CYC_ENT, 35, 16⟩
/-! FLT_RING_BASE (R420). -/
def FLT_RING_BASE_base : Fld := ⟨.FLT_RING_BASE, 63, 12⟩
def FLT_RING_BASE_enable : Fld := ⟨.FLT_RING_BASE, 11, 11⟩
def FLT_RING_BASE_fault_vector : Fld := ⟨.FLT_RING_BASE, 10, 0⟩
/-! FLT_RING_RD (R420). -/
def FLT_RING_RD_rd : Fld := ⟨.FLT_RING_RD, 31, 0⟩
/-! FLT_RING_STATUS (R420). -/
def FLT_RING_STATUS_overflow : Fld := ⟨.FLT_RING_STATUS, 63, 63⟩
def FLT_RING_STATUS_stalled : Fld := ⟨.FLT_RING_STATUS, 62, 62⟩
def FLT_RING_STATUS_lost_sat : Fld := ⟨.FLT_RING_STATUS, 61, 61⟩
def FLT_RING_STATUS_lost : Fld := ⟨.FLT_RING_STATUS, 47, 32⟩
def FLT_RING_STATUS_wr : Fld := ⟨.FLT_RING_STATUS, 31, 0⟩
/-! FLT_CTX_OVF (R420). -/
def FLT_CTX_OVF_ovf_sat : Fld := ⟨.FLT_CTX_OVF, 32, 32⟩
def FLT_CTX_OVF_count : Fld := ⟨.FLT_CTX_OVF, 31, 0⟩
/-! FLT_WD_CFG (R420). -/
def FLT_WD_CFG_core_ms : Fld := ⟨.FLT_WD_CFG, 63, 48⟩
def FLT_WD_CFG_dma_ms : Fld := ⟨.FLT_WD_CFG, 47, 32⟩
def FLT_WD_CFG_cp_ms : Fld := ⟨.FLT_WD_CFG, 31, 16⟩
/-! FLT_RESET (R420). -/
def FLT_RESET_engine : Fld := ⟨.FLT_RESET, 63, 48⟩
def FLT_RESET_island : Fld := ⟨.FLT_RESET, 47, 40⟩
def FLT_RESET_step : Fld := ⟨.FLT_RESET, 2, 0⟩
/-! FLT_LADDER (R420). -/
def FLT_LADDER_busy : Fld := ⟨.FLT_LADDER, 63, 63⟩
def FLT_LADDER_step : Fld := ⟨.FLT_LADDER, 62, 60⟩
def FLT_LADDER_island : Fld := ⟨.FLT_LADDER, 59, 52⟩
/-! FLT_DUMP_STATUS (R420). -/
def FLT_DUMP_STATUS_state : Fld := ⟨.FLT_DUMP_STATUS, 63, 62⟩
def FLT_DUMP_STATUS_dump_lost : Fld := ⟨.FLT_DUMP_STATUS, 61, 61⟩
def FLT_DUMP_STATUS_copy_busy : Fld := ⟨.FLT_DUMP_STATUS, 60, 60⟩
def FLT_DUMP_STATUS_length_kib : Fld := ⟨.FLT_DUMP_STATUS, 31, 0⟩
/-! FLT_DUMP_CTL (R420). -/
def FLT_DUMP_CTL_keep : Fld := ⟨.FLT_DUMP_CTL, 63, 63⟩
def FLT_DUMP_CTL_release : Fld := ⟨.FLT_DUMP_CTL, 62, 62⟩
def FLT_DUMP_CTL_copy : Fld := ⟨.FLT_DUMP_CTL, 61, 61⟩
/-! FLT_DUMP_HOST (R420). -/
def FLT_DUMP_HOST_addr : Fld := ⟨.FLT_DUMP_HOST, 63, 12⟩
/-! FLT_ISL_STAT (R420). -/
def FLT_ISL_STAT_gen : Fld := ⟨.FLT_ISL_STAT, 63, 56⟩
def FLT_ISL_STAT_last_step : Fld := ⟨.FLT_ISL_STAT, 55, 53⟩
def FLT_ISL_STAT_late_sat : Fld := ⟨.FLT_ISL_STAT, 48, 48⟩
def FLT_ISL_STAT_resets : Fld := ⟨.FLT_ISL_STAT, 47, 32⟩
def FLT_ISL_STAT_late : Fld := ⟨.FLT_ISL_STAT, 31, 0⟩
/-! SEC_IDS_DIGEST (R443). -/
def SEC_IDS_DIGEST_digest : Fld := ⟨.SEC_IDS_DIGEST, 63, 0⟩
/-! SEC_IDB_DIGEST (R443). -/
def SEC_IDB_DIGEST_digest : Fld := ⟨.SEC_IDB_DIGEST, 63, 0⟩
/-! SEC_BOOT (R443). -/
def SEC_BOOT_booted : Fld := ⟨.SEC_BOOT, 63, 63⟩
def SEC_BOOT_next : Fld := ⟨.SEC_BOOT, 62, 62⟩
def SEC_BOOT_confirmed : Fld := ⟨.SEC_BOOT, 61, 61⟩
def SEC_BOOT_fallback : Fld := ⟨.SEC_BOOT, 60, 60⟩
def SEC_BOOT_attempts : Fld := ⟨.SEC_BOOT, 59, 58⟩
def SEC_BOOT_load_state : Fld := ⟨.SEC_BOOT, 57, 56⟩
def SEC_BOOT_svn_a : Fld := ⟨.SEC_BOOT, 47, 40⟩
def SEC_BOOT_svn_b : Fld := ⟨.SEC_BOOT, 39, 32⟩
def SEC_BOOT_min_svn : Fld := ⟨.SEC_BOOT, 31, 24⟩
/-! SEC_FW_CTL (R443). -/
def SEC_FW_CTL_action : Fld := ⟨.SEC_FW_CTL, 1, 0⟩
/-! SEC_FW_LOAD (R443). -/
def SEC_FW_LOAD_addr : Fld := ⟨.SEC_FW_LOAD, 47, 12⟩
/-! SEC_SLOT_SEL (R443). -/
def SEC_SLOT_SEL_slot : Fld := ⟨.SEC_SLOT_SEL, 7, 0⟩
/-! SEC_SLOT_STATUS (R443). -/
def SEC_SLOT_STATUS_state : Fld := ⟨.SEC_SLOT_STATUS, 63, 62⟩
def SEC_SLOT_STATUS_busy : Fld := ⟨.SEC_SLOT_STATUS, 61, 61⟩
def SEC_SLOT_STATUS_last_result : Fld := ⟨.SEC_SLOT_STATUS, 59, 56⟩
def SEC_SLOT_STATUS_owner : Fld := ⟨.SEC_SLOT_STATUS, 47, 40⟩
def SEC_SLOT_STATUS_install_count : Fld := ⟨.SEC_SLOT_STATUS, 31, 0⟩
/-! SEC_SLOT_KEYID (R443). -/
def SEC_SLOT_KEYID_key_id : Fld := ⟨.SEC_SLOT_KEYID, 63, 0⟩
/-! SEC_SLOT_CTL (R443). -/
def SEC_SLOT_CTL_owner : Fld := ⟨.SEC_SLOT_CTL, 63, 56⟩
def SEC_SLOT_CTL_action : Fld := ⟨.SEC_SLOT_CTL, 2, 0⟩
/-! SEC_UNWRAP (R443). -/
def SEC_UNWRAP_addr : Fld := ⟨.SEC_UNWRAP, 47, 6⟩
/-! SEC_COMP_CFG (R443). -/
def SEC_COMP_CFG_confidential : Fld := ⟨.SEC_COMP_CFG, 63, 63⟩
def SEC_COMP_CFG_ctx_sel : Fld := ⟨.SEC_COMP_CFG, 47, 40⟩
/-! PWR_FEED_STATUS (R463). -/
def PWR_FEED_STATUS_active : Fld := ⟨.PWR_FEED_STATUS, 63, 63⟩
def PWR_FEED_STATUS_main_state : Fld := ⟨.PWR_FEED_STATUS, 62, 61⟩
def PWR_FEED_STATUS_backup_state : Fld := ⟨.PWR_FEED_STATUS, 60, 59⟩
def PWR_FEED_STATUS_switch_stk : Fld := ⟨.PWR_FEED_STATUS, 58, 58⟩
def PWR_FEED_STATUS_main_fail_stk : Fld := ⟨.PWR_FEED_STATUS, 57, 57⟩
def PWR_FEED_STATUS_backup_fail_stk : Fld := ⟨.PWR_FEED_STATUS, 56, 56⟩
def PWR_FEED_STATUS_main_v : Fld := ⟨.PWR_FEED_STATUS, 51, 42⟩
def PWR_FEED_STATUS_backup_v : Fld := ⟨.PWR_FEED_STATUS, 41, 32⟩
def PWR_FEED_STATUS_switches : Fld := ⟨.PWR_FEED_STATUS, 15, 0⟩
/-! PWR_POLICY (R463). -/
def PWR_POLICY_on_single : Fld := ⟨.PWR_POLICY, 63, 62⟩
def PWR_POLICY_dry_mode : Fld := ⟨.PWR_POLICY, 61, 61⟩
def PWR_POLICY_drydown : Fld := ⟨.PWR_POLICY, 60, 60⟩
def PWR_POLICY_finish_ms : Fld := ⟨.PWR_POLICY, 49, 40⟩
def PWR_POLICY_single_delay_ms : Fld := ⟨.PWR_POLICY, 39, 30⟩
/-! PWR_TARGET_DT (R463). -/
def PWR_TARGET_DT_dt : Fld := ⟨.PWR_TARGET_DT, 63, 0⟩
/-! PWR_TARGET (R463). -/
def PWR_TARGET_commit : Fld := ⟨.PWR_TARGET, 63, 63⟩
def PWR_TARGET_slew : Fld := ⟨.PWR_TARGET, 47, 40⟩
def PWR_TARGET_watts : Fld := ⟨.PWR_TARGET, 11, 0⟩
/-! PWR_TARGET_STATUS (R463). -/
def PWR_TARGET_STATUS_dev_state : Fld := ⟨.PWR_TARGET_STATUS, 63, 62⟩
def PWR_TARGET_STATUS_reached : Fld := ⟨.PWR_TARGET_STATUS, 61, 61⟩
def PWR_TARGET_STATUS_unreachable : Fld := ⟨.PWR_TARGET_STATUS, 60, 60⟩
def PWR_TARGET_STATUS_last_result : Fld := ⟨.PWR_TARGET_STATUS, 59, 56⟩
def PWR_TARGET_STATUS_pending : Fld := ⟨.PWR_TARGET_STATUS, 55, 51⟩
def PWR_TARGET_STATUS_dry_cause : Fld := ⟨.PWR_TARGET_STATUS, 50, 48⟩
def PWR_TARGET_STATUS_slew : Fld := ⟨.PWR_TARGET_STATUS, 43, 36⟩
def PWR_TARGET_STATUS_ceiling : Fld := ⟨.PWR_TARGET_STATUS, 27, 16⟩
def PWR_TARGET_STATUS_target : Fld := ⟨.PWR_TARGET_STATUS, 11, 0⟩
/-! PWR_MEAS (R463). -/
def PWR_MEAS_avg_w : Fld := ⟨.PWR_MEAS, 15, 0⟩
/-! PWR_ENERGY (R463). -/
def PWR_ENERGY_mj : Fld := ⟨.PWR_ENERGY, 63, 0⟩
/-! PWR_THERM (R463). -/
def PWR_THERM_warn_stk : Fld := ⟨.PWR_THERM, 63, 63⟩
def PWR_THERM_trip_stk : Fld := ⟨.PWR_THERM, 62, 62⟩
def PWR_THERM_throttling : Fld := ⟨.PWR_THERM, 61, 61⟩
def PWR_THERM_hottest : Fld := ⟨.PWR_THERM, 47, 40⟩
def PWR_THERM_temp : Fld := ⟨.PWR_THERM, 39, 32⟩
/-! PWR_DOM_CTL (R463). -/
def PWR_DOM_CTL_island : Fld := ⟨.PWR_DOM_CTL, 63, 56⟩
def PWR_DOM_CTL_action : Fld := ⟨.PWR_DOM_CTL, 1, 0⟩
/-! PWR_DOM_STATUS (R463). -/
def PWR_DOM_STATUS_busy : Fld := ⟨.PWR_DOM_STATUS, 63, 63⟩
def PWR_DOM_STATUS_result : Fld := ⟨.PWR_DOM_STATUS, 62, 60⟩
def PWR_DOM_STATUS_svc_busy : Fld := ⟨.PWR_DOM_STATUS, 59, 59⟩
def PWR_DOM_STATUS_svc_result : Fld := ⟨.PWR_DOM_STATUS, 58, 56⟩
def PWR_DOM_STATUS_island : Fld := ⟨.PWR_DOM_STATUS, 55, 48⟩
def PWR_DOM_STATUS_state : Fld := ⟨.PWR_DOM_STATUS, 47, 46⟩
/-! PWR_LASTGASP (R463). -/
def PWR_LASTGASP_count : Fld := ⟨.PWR_LASTGASP, 63, 32⟩
def PWR_LASTGASP_last : Fld := ⟨.PWR_LASTGASP, 9, 0⟩
/-! PWR_SVC_CTL (R463). -/
def PWR_SVC_CTL_island : Fld := ⟨.PWR_SVC_CTL, 63, 56⟩
def PWR_SVC_CTL_action : Fld := ⟨.PWR_SVC_CTL, 1, 0⟩
/-! PWR_COMP_CFG (R463). -/
def PWR_COMP_CFG_power_parked : Fld := ⟨.PWR_COMP_CFG, 63, 63⟩
def PWR_COMP_CFG_park_order : Fld := ⟨.PWR_COMP_CFG, 55, 48⟩
/-! MON_CFG (R478). -/
def MON_CFG_level : Fld := ⟨.MON_CFG, 1, 0⟩
/-! MON_EVT (R478). -/
def MON_EVT_counter : Fld := ⟨.MON_EVT, 63, 63⟩
def MON_EVT_reference : Fld := ⟨.MON_EVT, 62, 62⟩
def MON_EVT_island : Fld := ⟨.MON_EVT, 7, 0⟩
/-! MON_MGMT (R478). -/
def MON_MGMT_sessions : Fld := ⟨.MON_MGMT, 35, 32⟩
def MON_MGMT_tls_fail : Fld := ⟨.MON_MGMT, 31, 0⟩
/-! MON_ACT (R478). -/
def MON_ACT_count : Fld := ⟨.MON_ACT, 63, 0⟩
/-! MON_ERR_A (R478). -/
def MON_ERR_A_unc : Fld := ⟨.MON_ERR_A, 63, 32⟩
def MON_ERR_A_cor : Fld := ⟨.MON_ERR_A, 31, 0⟩
/-! MON_ERR_B (R478). -/
def MON_ERR_B_integ : Fld := ⟨.MON_ERR_B, 63, 32⟩
def MON_ERR_B_tagmis : Fld := ⟨.MON_ERR_B, 31, 0⟩
/-! MON_ERR_STK (R478). -/
def MON_ERR_STK_tagmis_sat : Fld := ⟨.MON_ERR_STK, 3, 3⟩
def MON_ERR_STK_integ_sat : Fld := ⟨.MON_ERR_STK, 2, 2⟩
def MON_ERR_STK_unc_sat : Fld := ⟨.MON_ERR_STK, 1, 1⟩
def MON_ERR_STK_cor_sat : Fld := ⟨.MON_ERR_STK, 0, 0⟩
/-! MON_TW_CFG (R478). -/
def MON_TW_CFG_enable : Fld := ⟨.MON_TW_CFG, 63, 63⟩
def MON_TW_CFG_freeze : Fld := ⟨.MON_TW_CFG, 62, 62⟩
def MON_TW_CFG_clear : Fld := ⟨.MON_TW_CFG, 61, 61⟩
def MON_TW_CFG_dig_en : Fld := ⟨.MON_TW_CFG, 60, 60⟩
def MON_TW_CFG_composition : Fld := ⟨.MON_TW_CFG, 59, 54⟩
def MON_TW_CFG_unit : Fld := ⟨.MON_TW_CFG, 53, 50⟩
def MON_TW_CFG_core_any : Fld := ⟨.MON_TW_CFG, 49, 49⟩
def MON_TW_CFG_core : Fld := ⟨.MON_TW_CFG, 48, 39⟩
def MON_TW_CFG_q_any : Fld := ⟨.MON_TW_CFG, 38, 38⟩
def MON_TW_CFG_queue : Fld := ⟨.MON_TW_CFG, 37, 34⟩
def MON_TW_CFG_ctx_any : Fld := ⟨.MON_TW_CFG, 33, 33⟩
def MON_TW_CFG_hbase : Fld := ⟨.MON_TW_CFG, 32, 21⟩
def MON_TW_CFG_skipped : Fld := ⟨.MON_TW_CFG, 20, 0⟩
/-! MON_TW_DIG (R478). -/
def MON_TW_DIG_enable : Fld := ⟨.MON_TW_DIG, 63, 63⟩
def MON_TW_DIG_size : Fld := ⟨.MON_TW_DIG, 59, 56⟩
def MON_TW_DIG_base : Fld := ⟨.MON_TW_DIG, 47, 12⟩
/-! MON_TW_DIGWR (R478). -/
def MON_TW_DIGWR_wr : Fld := ⟨.MON_TW_DIGWR, 63, 0⟩
/-! MON_TW_DIGRD (R478). -/
def MON_TW_DIGRD_rd : Fld := ⟨.MON_TW_DIGRD, 63, 0⟩
/-! MON_TW_MIN (R478). -/
def MON_TW_MIN_value : Fld := ⟨.MON_TW_MIN, 63, 0⟩
/-! MON_TW_MAX (R478). -/
def MON_TW_MAX_value : Fld := ⟨.MON_TW_MAX, 63, 0⟩
/-! MON_TW_SUM (R478). -/
def MON_TW_SUM_value : Fld := ⟨.MON_TW_SUM, 63, 0⟩
/-! MON_TW_CNT (R478). -/
def MON_TW_CNT_count : Fld := ⟨.MON_TW_CNT, 63, 0⟩
/-! MON_TW_SPEC (R478). -/
def MON_TW_SPEC_nan : Fld := ⟨.MON_TW_SPEC, 63, 32⟩
def MON_TW_SPEC_inf : Fld := ⟨.MON_TW_SPEC, 31, 0⟩
/-! MON_TW_ZERO (R478). -/
def MON_TW_ZERO_count : Fld := ⟨.MON_TW_ZERO, 63, 0⟩
/-! MON_TW_HIST (R478). -/
def MON_TW_HIST_count : Fld := ⟨.MON_TW_HIST, 63, 0⟩
/-! MON_TW_DIGLOST (R478). -/
def MON_TW_DIGLOST_lost : Fld := ⟨.MON_TW_DIGLOST, 31, 0⟩
/-! MBX_DOORBELL (R368). -/
def MBX_DOORBELL_length : Fld := ⟨.MBX_DOORBELL, 12, 0⟩
/-! MBX_STATUS (R368). -/
def MBX_STATUS_in_busy : Fld := ⟨.MBX_STATUS, 63, 63⟩
def MBX_STATUS_out_valid : Fld := ⟨.MBX_STATUS, 62, 62⟩
def MBX_STATUS_out_length : Fld := ⟨.MBX_STATUS, 12, 0⟩
/-! MBX_ACK (R368). -/
def MBX_ACK_ack : Fld := ⟨.MBX_ACK, 0, 0⟩

end F

end Sys2Proof.Machine
end

