-- ==== Sys2Proof/Machine/State.lean ====
section
/-! DEFINITION. Machine/State.lean: the state of the block, as plain data, and the state at reset. A register's word is the
home of what software sees in it (`State.regs`, by the keys of Machine/Regs.lean); the structures below hold the state that
no register shows. -/
namespace Sys2Proof.Machine

/-- Why a step stops with a fault. -/
inductive Fault where
  /-- Raised by a command that names an object the device does not have (a core above 671, a resident above 1, a port above
  7, an island of no domain, a function above 127): no event of the device. Safe: the model stops where the spec describes
  nothing. -/
  | noSuchObject
  deriving DecidableEq, Repr

/-- Why a step gives a command no meaning. -/
inductive Refusal where
  /-- Raised only by an arm of the dispatcher for a command that has no meaning yet. Safe: the model stops. -/
  | notModelled (mnemonic : String)
  deriving DecidableEq, Repr

/-! ## Cores (02, 03, 04, 05, 14 R378) -/

/-- The attributes of a tile handle (R37). -/
structure Handle where
  base : Nat
  rows : Nat
  rowBytes : Nat
  pitch : Nat
  format : Nat
  scale : Nat
  deriving DecidableEq, Repr

/-- The token state of a queue's handle (R42). -/
inductive Tok where
  | empty | filling | full | draining
  deriving DecidableEq, Repr

/-- A tile queue (R40, R42): its attributes, head and tail as handle numbers, and the token of each handle of its ring. -/
structure TQueue where
  producer : Nat
  consumer : Nat
  first : Nat
  depth : Nat
  head : Nat
  tail : Nat
  toks : List Tok
  deriving DecidableEq, Repr

/-- A failure of a memory access: its cause code and its address (R54, R108). -/
structure MemFail where
  cause : Nat
  addr : Nat
  deriving DecidableEq, Repr

/-- A stream register (R51, R52) with its position and the faults held for tiles read ahead (R54). -/
structure Stream where
  base : Nat
  write : Bool
  cls : Nat
  target : Option Nat
  counts : List Nat
  strides : List Int
  memPitch : Nat
  rows : Nat
  rowBytes : Nat
  format : Nat
  depth : Nat
  p : Nat
  held : SMap MemFail
  deriving DecidableEq, Repr

/-- An instruction in a station's queue (R71, R85): unit, opcode, operand field, the scalar values of its four operand slots
read at dispatch, its address, its number in dispatch order. -/
structure StIns where
  u : Nat
  op : Nat
  ops : Ops
  sc : List Word
  pc : Nat
  seq : Nat
  deriving DecidableEq, Repr

/-- A program fault (R403): code, station unit, instruction address, pos, and the cause and address that a MEM_FAULT or SCALAR_FAULT carries, with the
stream of a MEM_FAULT (R108, R131). -/
structure ProgFault where
  code : Nat
  unit : Nat
  pc : Nat
  pos : Nat
  cause : Nat
  addr : Nat
  stream : Option Nat := none
  deriving DecidableEq, Repr

/-- A started station instruction (R102): the instruction, the handles it works on (dst, src1, src2, src3), the stream tile it
takes, whether it took a read-ahead handle, what has arrived for it (bytes or contributions), the failure it has met, whether
its work is done with its tokens still to change (R125), and the DT at which it started. -/
structure Started where
  ins : StIns
  hs : List (Option Nat)
  k : Nat
  ahead : Bool
  got : Nat
  fail : Option ProgFault
  done : Bool
  at_ : Nat
  deriving DecidableEq, Repr

/-- A tile being read ahead (R53): stream, tile, queue, handle, rows asked, whether its data has arrived. -/
structure Ahead where
  st : Nat
  k : Nat
  tq : Nat
  h : Nat
  arrived : Bool
  deriving DecidableEq, Repr

/-- How a LOAD queue's FULL handle was filled (R68): its queue, handle, stream, nrows, and whether its stream has since been
set up again or rewound. -/
structure FillRec where
  tq : Nat
  h : Nat
  st : Nat
  nrows : Nat
  stale : Bool
  deriving DecidableEq, Repr

/-- What holds the sequencer (R84, R86, R89, R94): nothing, `seq.wait` on a station mask up to a dispatch number, `seq.until`, a
parked `seq.pull` (R58), a held setup instruction (opcode and operands), or an instruction in progress, by its code of `insCode` and its operands: a
scalar access, a pull or a `seq.done` that has not ended (`sent`: its write has been made, or its item claimed), or a station instruction whose queue
is full. -/
inductive SeqWait where
  | none
  | stations (mask upto : Nat)
  | dt (t : Nat)
  | parked
  | setup (opc : Nat) (ops : Ops)
  | busy (code : Nat) (ops : Ops) (sent : Bool)
  deriving DecidableEq, Repr

/-- A write that the memory tier has accepted from STORE and not yet made visible (R48, R72): its address, the leaf it was translated through, its
bytes. -/
structure Accepted where
  pa : Nat
  leaf : Nat
  data : List Byte
  deriving DecidableEq, Repr

/-- What becomes of a core at its tile boundary (R68, R396): saved to a slot and half, kept in place, or taken out of the
launch (a squash, R61, R371). -/
inductive StopTo where
  | slot (k half : Nat)
  | inPlace
  | leave
  deriving DecidableEq, Repr

/-- The condition of a resident: no launch; at the instant of a timed launch, armed (R301); running; stopped by a program fault
whose started instructions still run (R74); stopping for a pre-emption (R65); at its tile boundary (state in place); the
fault's record waits (R406); left its launch. -/
inductive ResStatus where
  | idle
  | armed
  | running
  | faulting
  | stopping (toward : StopTo)
  | stopped (toward : StopTo)
  | waitRecord
  | left
  deriving DecidableEq, Repr

/-- The scalar file shared by a core's sequencer and a command processor (R79, R96). -/
structure SeqFile where
  g : List Word
  p : List Bool
  pc : Nat
  deriving DecidableEq, Repr

/-- A reservation that a RECV station has granted (R124, R126): the request, the handle, bytes arrived, the DT of the grant. -/
structure Granted where
  req : Reservation
  h : Nat
  got : Nat
  at_ : Nat
  deriving DecidableEq, Repr

/-- A resident of a core (R378): everything of R79 but the accumulators, the CSRs of R81, the generators of R151, the station
queues, and what the device keeps about its launch; the SEND head whose reservation is out and whether it has met EPOCH_NACK; the
SYNC head that has begun to wait; reduce-on-route contributions that wait: queue, number already added, bytes (R130); the barrier
generations whose release has reached it (R250); a pre-emption request on its way, the DT at which one was taken, and whether its
budget has expired (R65, R66); the DT at which it last completed a started instruction (R409), and at which it last dispatched, started or completed
one, changed a queue or ended a memory request (R47); the writes of its STORE that are not visible yet, oldest first (R72); the DT at which its
reservation request left (R126), and the answer on its way to it as a message status: 0 granted, 1 SEND_DEST, 9 EPOCH_NACK, 16 SEND_SHAPE (R124). -/
structure Res where
  status : ResStatus
  file : SeqFile
  live : Nat
  item : Option Nat
  sflags : Nat
  sclass : Nat
  srseed : Nat
  gens : List Nat
  handles : SMap Handle
  queues : SMap TQueue
  streams : SMap Stream
  sq : List StIns
  started : List Started
  ahead : List Ahead
  fills : List FillRec
  wait : SeqWait
  fault : Option ProgFault
  seqNo : Nat
  replay : List FillRec
  reqs : List Reservation
  granted : List Granted
  droppedBytes : Nat
  abandoned : Nat
  arrived : List (Option Nat)
  comp : Nat
  lane : Nat
  ctx : Nat
  rank : Option Nat
  leaveReq : Bool
  lastCtx : Option Nat
  asked : Option Nat
  askedTwice : Bool
  syncOn : Option Nat
  contribs : List (Nat × Nat × List Byte)
  released : List Nat
  stopReq : Option StopTo
  stopAt : Nat
  overrun : Bool
  doneAt : Nat
  actAt : Nat
  accepted : List Accepted
  askedAt : Nat
  answer : Option Nat
  deriving DecidableEq, Repr

/-- An accumulator element (R144). -/
structure AccElem where
  v : Int
  reach : Option Int
  sat : Bool
  nan : Bool
  pinf : Bool
  ninf : Bool
  deriving DecidableEq, Repr

/-- An accumulator: the elements that are not fresh, by row × 64 + column, and the pass factor in units of 2^−46. -/
structure Acc where
  elems : SMap AccElem
  phi : Option Int
  deriving DecidableEq, Repr

/-- A line of the instruction cache (R83, R379): its address-space tag, its virtual address, its 64 bytes. -/
structure ICacheLine where
  tag : Nat
  va : Nat
  data : List Byte
  deriving DecidableEq, Repr

/-- The phase of a bound resource during a change of map (R324); `preparing` while step 3 of R327 prepares a resource that will join. -/
inductive Phase where
  | staying | preparing | joining | leaving
  deriving DecidableEq, Repr

/-- The composition that holds a resource, and the resource's phase. -/
structure Bound where
  comp : Nat
  phase : Phase
  deriving DecidableEq, Repr

/-- The saved state of a resident in a save slot (R68): the resident, its accumulators, its scratchpad bytes; the physical address of the slot's bytes
and the counter of `Config.slotByte` that they were written by (R322). -/
structure Saved where
  res : Res
  accs : SMap Acc
  bytes : List (Nat × List Byte)
  place : Nat
  ctr : Nat
  deriving DecidableEq, Repr

/-! ## Command processors (R96 to R98) -/

/-- A pending wake of a command processor (R98): a doorbell of a queue, or an event pulse with its identity, status, cause,
done value, DT, head and position. -/
inductive Wake where
  | doorbell (q : QRef)
  | event (x status cause done dt head pos : Nat)
  deriving DecidableEq, Repr

/-- A command processor: its file, the CSRs of R98, its wakes, whether it sleeps and until when, and whether it is being
reloaded (R459); the command records that `cp.next` has answered, newest first, with their addresses (R97); the DT at which
`cp.next` or `cp.sleep` last executed (R409); the instruction that has not ended, by its code and its operands (R89, R97), and whether its write has been made. -/
structure Cp where
  file : SeqFile
  evtDone : Nat
  evtDt : Nat
  evtHead : Nat
  evtPos : Nat
  fwData : Nat
  fwEntry : Nat
  wakes : List Wake
  sleep : Option (Nat × Nat)
  until_ : Option Nat
  reload : Bool
  taken : List (Nat × QRef)
  aliveAt : Nat
  busy : Option (Nat × Ops × Bool)
  deriving DecidableEq, Repr

/-! ## Launches (02 R57 to R64, 13 R371, 14 R388) -/

/-- The state of a launch: armed for its DT (R301), waiting for its composition (R375), running, suspended in a spill set
(R388). -/
inductive LaunchState where
  | armed
  | running
  | suspended (firstSlot : Nat)
  deriving DecidableEq, Repr

/-- One barrier of a launch (R128, R250): its generation and the participants that have arrived. -/
structure Barrier where
  gen : Nat
  arrivals : Nat
  clusters : List Nat
  deriving DecidableEq, Repr

/-- A launch of a composition: its context, queue, command index, entry, work-list header (virtual and physical address), the
header fields read at issue, the cores in rank order, launch DT, the DT since which it has held its lane (R385), and what has happened
to it. -/
structure Launch where
  ctx : Nat
  q : QRef
  index : Nat
  state : LaunchState
  entry : Nat
  headerVa : Nat
  headerPa : Nat
  headerSel : Nat
  fixed : Bool
  noReissue : Bool
  itemBytes : Nat
  count : Nat
  itemsVa : Nat
  argsVa : Nat
  cores : List Nat
  dt : Nat
  since : Nat
  late : Bool
  aborting : Option Nat
  faulted : Bool
  squashed : Bool
  coreLost : Bool
  step : Bool
  bars : List Barrier
  clBars : SMap Barrier
  broken : Bool
  recorded : Bool
  deriving DecidableEq, Repr

/-! ## Memory and requests (06, 09 R255, 15 R412) -/

/-- An outstanding entry of an island (R412): the request, the generation tag it carries, whether it has been resent (R325), the
DT at which it was issued, whether it goes to a partner, whether an invalidation has dropped the translation it was issued under (R235), and whether
its data has been discarded, so that its reply is dropped (R55, R65). -/
structure Outstanding where
  req : MemReq
  gen : Nat
  resent : Bool
  at_ : Nat
  remote : Bool
  old : Bool
  discarded : Bool
  deriving DecidableEq, Repr

/-- An access that its injection point holds after a half-asleep NACK (R255): the unit, the line, and the DT at which it is sent once more; or a flag
write that waits in a SYNC hold buffer of a seam segment (R257). -/
structure HeldAcc where
  own : Owner
  line : Nat
  retry : Nat
  sync : Bool
  deriving DecidableEq, Repr

/-- A reply in flight (R160): the island it comes from, the island and entry it goes to, the tag it echoes, its status and data. -/
structure Reply where
  src : Nat
  isl : Nat
  entry : Nat
  gen : Nat
  st : MemStatus
  data : List Byte
  deriving DecidableEq, Repr

/-- A commit group's ledger entry (R180), and the traffic class of its first write, which its COMMIT takes (R187). -/
structure Group where
  seq : Nat
  state : Nat
  port : Nat
  alt : Nat
  altBase : Nat
  mode : Nat
  range : Nat
  comp : Nat
  writes : Nat
  acked : Nat
  lo : Nat
  hi : Nat
  owner : Nat
  fence : Nat
  fenceValue : Nat
  dtOpen : Nat
  dtCommit : Nat
  cls : Nat
  unacked : List Nat
  deriving DecidableEq, Repr

/-! ## DMA (07) -/

/-- A descriptor as the channel holds it (R204): its address and its 128 bytes. -/
structure Descr where
  addr : Nat
  bytes : List Byte
  deriving DecidableEq, Repr

/-- What ends a channel's work: a halt with its cause and address (R214), an abort (R216), or the stop of its chain for a change of map, with the
channel that is to carry the chain where that is settled (R333, R336). -/
inductive ChanEnd where
  | halt (cause addr : Nat)
  | abort
  | record (toward : Option Nat)
  deriving DecidableEq, Repr

/-- A line of 64 entries in an engine's index prefetcher (R209): the composition that read it, the tag of its address space or none for physical, its
address, its bytes. -/
structure IdxLine where
  comp : Nat
  space : Option Nat
  line : Nat
  data : List Byte
  deriving DecidableEq, Repr

/-- A DMA channel beside its registers (R203, R210, R212, R214): the current descriptor, the context its chain was started for,
whether the chain is a command processor's or firmware's own work, the command processor that started it, whether a descriptor
fetch is out, whether it waits for a watch slot, the cause of a halt whose record waits (R406), and the channels that now carry the
chains that its descriptors name by another channel (R334); the DT at which it began to run or last completed a request (R409). Besides: whether
the address of the current descriptor is physical; the next descriptor, fetched while the current one runs (R203), none in it where that fetch
failed; the first piece not yet issued; the commit groups of the descriptor's remote writes: sequence number, piece and address of the first write in
each (R210, R214); what ends the channel's work once its outstanding requests have completed (R214, R216). -/
structure DmaCh where
  descr : Option Descr
  ctx : Option Nat
  own : Bool
  starter : Option Nat
  fetching : Bool
  slotWait : Bool
  waitRecord : Option Nat
  carried : SMap Nat
  movedAt : Nat
  headPhys : Bool
  ahead : Option (Option (List Byte))
  issued : Nat
  groups : List (Nat × Nat × Nat)
  ending : Option ChanEnd
  deriving DecidableEq, Repr

/-- A watch at a source engine (R212): the source channel, the waiting channel, the awaited value. -/
structure Watch where
  src : Nat
  waiter : Nat
  value : Nat
  deriving DecidableEq, Repr

/-- An event pulse in flight (R211). -/
structure Pulse where
  x : Nat
  cp : Nat
  status : Nat
  cause : Nat
  done : Nat
  dt : Nat
  head : Nat
  pos : Nat
  deriving DecidableEq, Repr

/-! ## Translation (08) -/

/-- A micro-TLB entry (R230): address-space tag, first VA, page size in bytes, the leaf. -/
structure TlbEntry where
  tag : Nat
  va : Nat
  size : Nat
  leaf : Nat
  deriving DecidableEq, Repr

/-- A requester of a translation unit (R231): a stream of a resident, its scalar accesses, its instruction fetch; a DMA channel, the descriptor
fetch of an engine, its index prefetcher. -/
inductive Requester where
  | stream (r st : Nat)
  | scalar (r : Nat)
  | fetch (r : Nat)
  | chan (x : Nat)
  | desc
  | index
  deriving DecidableEq, Repr

/-- A miss of a micro-TLB (R230, R231): its unit and requester, the tag, the 64 KiB of address space missed; whether it stands in one of the unit's
shared slots and not in the requester's own; whether a walker of the half serves it; whether its walk has found no valid leaf, which its
requester has yet to take; the tile for which a stream fetches the translation ahead, none where an access waits (R53, R54). -/
structure Miss where
  unit : TlbUnit
  req : Requester
  tag : Nat
  page : Nat
  shared : Bool
  walking : Bool
  fault : Bool
  tile : Option Nat
  deriving DecidableEq, Repr

/-- A non-leaf entry that the walkers of a half have read and cached (R230): the half, the tag, the level of the table it names, the first VA
that table maps, its address. -/
structure NonLeaf where
  half : Nat
  tag : Nat
  level : Nat
  va : Nat
  table : Nat
  deriving DecidableEq, Repr

/-- A table of the mirror (R220, R225): its address, level, address-space tag, and the first VA it maps. -/
structure Table where
  addr : Nat
  level : Nat
  tag : Nat
  va : Nat
  deriving DecidableEq, Repr

/-- What an invalidation completes (R235): a command with its status and detail, or step 5 of a destruction. -/
inductive InvalFor where
  | command (q : QRef) (status detail : Nat)
  | destroy (ctx : Nat)
  deriving DecidableEq, Repr

/-- An invalidation in progress (R235): its tag, the units that have not acknowledged, those of them that have received the broadcast, the
DT of step 1, what it completes. -/
structure Inval where
  tag : Nat
  units : List TlbUnit
  heard : List TlbUnit
  at_ : Nat
  goal : List InvalFor
  deriving DecidableEq, Repr

/-! ## Compositions (12) -/

/-- An accepted map record (R320). -/
structure MapRec where
  shared : Bool
  sliced : Bool
  standby : Bool
  fn : Nat
  drainUs : Nat
  demand : Nat
  savePerPart : Nat
  cores : List Nat
  channels : List Nat
  parts : List Nat
  far : List Nat
  ports : List (Nat × Nat × Option Nat)
  deriving DecidableEq, Repr

/-- A chain recorded as its channel stops (R333): the channel it ran on, its descriptor address, position and done value, what the channel
held about it, and the channel that is to carry it, where that is settled (R336). -/
structure Chain where
  x : Nat
  head : Nat
  pos : Nat
  done : Nat
  held : DmaCh
  toward : Option Nat
  deriving DecidableEq, Repr

/-- The change of map in progress (R327): the command (0 a repair, 7 a slice park, 8 a slice resume), the record it installs, its step, the DT
of step 4, the status it will end with; of a repair, the failing cluster and its spare (R336); from step 4 on, the ports of the shares of the old
map (R324). -/
structure MapChange where
  cmd : Nat
  record : MapRec
  step : Nat
  drainAt : Nat
  status : Nat
  failing : Nat
  spare : Option Nat
  oldPorts : List Nat
  deriving DecidableEq, Repr

/-- A composition beside its registers: its record, the change in progress, whether a power target's park waits (R452), the repairs that wait
(R328) as failing cluster and spare; the chains recorded (R333), how many cores and which channels it held when it gave them up; whether its one
context has been created (R319); the composition it was built to quarantine for (R415); the DT since which its slice runs (R335); the DT of the
last try of a promotion on loss, and whether it has been promoted (R345). -/
structure Comp where
  record : Option MapRec
  change : Option MapChange
  wantPark : Bool
  repairs : List (Nat × Option Nat)
  chains : List Chain
  heldCores : Nat
  heldChans : List Nat
  exclusiveUsed : Bool
  quarantine : Option Nat
  activeAt : Nat
  promoting : Option Nat
  promoted : Bool
  deriving DecidableEq, Repr

/-- A mixer (R397 to R400): the steps formed; whether a step runs, and the status it has ended with; the queues that contribute to it;
for each queue with items placed, how many of its command's have been placed in steps and how many it has; the queue last served. -/
structure Mixer where
  seq : Nat
  running : Bool
  ended : Option Nat
  contrib : List Nat
  placed : SMap (Nat × Nat)
  lastQ : Nat
  deriving DecidableEq, Repr

/-! ## Host objects (13) -/

/-- The state of a context or fence slot that is taken. -/
inductive ObjState where
  | live | destroying | abandoned
  deriving DecidableEq, Repr

/-- A context (R352, R383): owner function, composition, tag, scheduling state, the queue last served (R384); the command that destroys it,
the DT of step 1 and whether step 5 has begun (R372); whether it is judged guilty (R415). -/
structure Ctx where
  fn : Nat
  comp : Nat
  tag : Nat
  state : ObjState
  rt : Bool
  prio : Bool
  weight : Nat
  pass : Nat
  time : Nat
  overrun : Nat
  ovf : Nat
  ovfSat : Bool
  srseed : Nat
  sel : Nat
  lastQ : Nat
  destroyBy : Option QRef
  destroyAt : Nat
  invalidating : Bool
  guilty : Bool
  deriving DecidableEq, Repr

/-- A command record as read (R356). -/
structure CmdRec where
  opcode : Nat
  flags : Nat
  operator : Nat
  layer : Nat
  sigFence : Nat
  waitFence : Nat
  sigValue : Nat
  waitValue : Nat
  launchDt : Nat
  a0 : Nat
  a1 : Nat
  a2 : Nat
  raw : List Byte
  deriving DecidableEq, Repr

/-- The command a queue runs (R358): its record; whether its work has started, whether it waits for its fence; the DT at which it started
and the DT up to which it has been charged (R383); the status, detail and result it has ended with; whether its completion record has
been written; whether it is late; of a copy, the bytes moved, the DT of the last unit's end, and the DMA channel it runs on. -/
structure Cur where
  rec_ : CmdRec
  started : Bool
  waiting : Bool
  at_ : Nat
  charged : Nat
  ended : Option (Nat × Nat × Nat)
  written : Bool
  late : Bool
  pos : Nat
  unitAt : Nat
  chan : Option Nat
  deriving DecidableEq, Repr

/-- A queue ring (R354, R355): base, log2 of its size, completion array, context, kind, doorbell; the free-running producer
index, index of the oldest command not complete, and the current command; the indices to be aborted (R370). -/
structure Ring where
  fn : Nat
  base : Nat
  n : Nat
  cplBase : Nat
  ctx : Nat
  kind : Nat
  doorbell : Nat
  prod : Nat
  rd : Nat
  cur : Option Cur
  aborts : List Nat
  deriving DecidableEq, Repr

/-- A fence slot (R352, R362): its generation, and when allocated its state, value, last status, function, owner context, report tag and
vector. -/
structure Fence where
  gen : Nat
  taken : Bool
  abandoned : Bool
  value : Nat
  last : Nat
  fn : Nat
  ctx : Nat
  tag : Nat
  vector : Nat
  deriving DecidableEq, Repr

/-- An armed host waiter (R363). -/
structure Waiter where
  fence : Nat
  value : Nat
  tag : Nat
  vector : Nat
  deriving DecidableEq, Repr

/-- An event entry (R364): cookie kind, status, payload, word 1, vector. -/
structure Event where
  kind : Nat
  status : Nat
  payload : Nat
  dt : Nat
  vector : Nat
  deriving DecidableEq, Repr

/-- A fault record (R402). -/
structure FaultRec where
  dt : Nat
  seq : Nat
  island : Nat
  flags : Nat
  cause : Nat
  gen : Nat
  comp : Nat
  engine : Nat
  ctx : Nat
  addr : Nat
  pos : Nat
  code : Nat
  count : Nat
  detail : List Byte
  deriving DecidableEq, Repr

/-- What a stallable record holds back while it waits (R406): a core's resident, a DMA channel, or nothing any more (its
record has passed to the home command processor). -/
inductive Stalled where
  | core (n r : Nat)
  | chan (x : Nat)
  | engine (e : Nat)
  | none
  deriving DecidableEq, Repr

/-- A function's own objects: its admin ring; event entries and cookies pending (R365); dropped count since the last OVERFLOW
entry; aborts pending (R370); host waiters; the fault ring's 64-bit wr, merge buffer and waiting records (R405 to R408); MSI-X
table, two words for each vector, and pending bits (R366). -/
structure Fn where
  admin : Ring
  cookies : List Event
  evDropped : Nat
  evOverflow : Bool
  aborts : List (Nat × Nat)
  waiters : List Waiter
  fltWr : Nat
  merge : Option FaultRec
  stalled : List (FaultRec × Stalled)
  msixTab : SMap Word
  msixPending : SMap Bool
  deriving DecidableEq, Repr

/-- A host port (R373, R375). -/
structure HostPort where
  up : Bool
  perst : Bool
  crs : Bool
  deriving DecidableEq, Repr

/-! ## Domains, power, start-up (01, 17) -/

/-- The stage of start-up (R462): before AON's rails, AON up and waiting for the reference, the mask ROM, ROM recovery, management
firmware, memory training, link start, enumeration, running. -/
inductive Stage where
  | off | aon | rom | recovery | firmware | training | links | running
  deriving DecidableEq, Repr

/-- The state of a domain (R24). -/
inductive DomState where
  | off | retain | on
  deriving DecidableEq, Repr

/-- The transition of a domain in progress (R29, R34): gating towards a state since a DT, or waking from one since a DT. -/
inductive DomTrans where
  | none
  | gating (toward : DomState) (at_ : Nat)
  | waking (origin : DomState) (at_ : Nat)
  deriving DecidableEq, Repr

/-- A request queued at the power controller (R32): its target state and the DT of its arrival. -/
structure DomReq where
  toward : DomState
  at_ : Nat
  byCtl : Bool
  deriving DecidableEq, Repr

/-- A domain (R24 to R36), its DT replica (R294), its stamp sequence (R308) and its protection state (R454); the request that was served
last (R32), and for an ATM domain whether its ring resonators are in thermal lock (R24, R27). -/
structure Dom where
  state : DomState
  trans : DomTrans
  queue : List DomReq
  last : Option DomReq
  lock : Bool
  mhz : Nat
  tripped : Bool
  temp : Nat
  stamp : Nat
  floor : Nat
  skew : Int
  deriving DecidableEq, Repr

/-! ## Power (17) -/

/-- A power target (R449): its DT, its value in W, its slew in W/ms. -/
structure Target where
  dt : Nat
  watts : Nat
  slew : Nat
  deriving DecidableEq, Repr

/-- The power controller beside its registers (R444 to R456): the state of each feed, 0 FAIL, 1 QUALIFYING, 2 GOOD, its voltage in 100 mV, the
active feed, 0 MAIN, 1 BACKUP; the DT at which the second feed failed, and whether a returning feed has carried AON since; the DT since which exactly
one feed has been GOOD, and
whether on_single has been acted on; the target in force that HOLD replaced; pending targets; targets held by a drydown;
the ceiling line: the value it leaves, the DT of the last firing; the target in force before drydown with its slew; the
step of drydown with its DT; the ports that were UP before drydown; whether a package throttle
stands; the CL islands held down by their temperature; the request of PWR_DOM_CTL in progress and its action; the operation of
PWR_SVC_CTL in progress with its island. -/
structure Power where
  main : Nat
  backup : Nat
  mainV : Nat
  backupV : Nat
  active : Nat
  bothFailed : Option Nat
  carried : Bool
  singleAt : Option Nat
  singleDone : Bool
  beforeHold : Option (Nat × Nat)
  targets : List Target
  held : List Target
  lineFrom : Nat
  lineAt : Nat
  beforeDry : Option (Nat × Nat)
  dryStep : Nat
  dryAt : Nat
  upPorts : List Nat
  packageHot : Bool
  hot : List Nat
  domReq : Option Nat
  svc : Option (Nat × Nat)
  deriving DecidableEq, Repr

/-! ## Ports, time, security, power, monitor -/

/-- A message of a port with its data (R282) and traffic class (R269). -/
structure Outgoing where
  msg : PortMsg
  data : List Byte
  cls : Nat
  deriving DecidableEq, Repr

/-- A request of a partner at the port memory agent: its message, its data, its traffic class (R178), the DT at which it was accepted (R409). -/
structure Incoming where
  msg : PortMsg
  data : List Byte
  cls : Nat
  at_ : Nat
  deriving DecidableEq, Repr

/-- A staged write of a commit group at the port memory agent (R179): offset, metadata words, whether it is sealed, data. -/
structure Staged where
  group : Nat
  offset : Nat
  sealedReq : Bool
  metaWords : List Nat
  data : List Byte
  deriving DecidableEq, Repr

/-- The key and the salt of a direction in a key phase (R270, R276). -/
structure LinkKey where
  key : Nat
  salt : Nat
  deriving DecidableEq, Repr

/-- A frame of a replay buffer with its bytes as they were first sent (R270, R273). -/
structure Sent where
  frame : Frame
  wire : List Byte
  deriving DecidableEq, Repr

/-- A rekey in progress (R276): this side's ephemeral key; the transmit key of the new phase, once REKEY has come from the partner; whether REKEY_ACK has. -/
structure Rekey where
  priv : Nat
  txNext : Option LinkKey
  acked : Bool
  deriving DecidableEq, Repr

/-- A port beside its registers: the bring-up step with the DTs of step 1 and of the signal (R277); the wait before the next attempt
and its end (R279); the lanes failed in each direction (R267); the counter and key phase it expects, whether it still holds the phase
before and its expected counter (R272, R276); the keys of the transmit and of the receive phase, and of the receive phase before (R276); the
frames of its replay buffer (R273); the phase and counter it has asked for again and when; the credits of each class (R275); the DT of the last
accepted heartbeat and of the last one sent; the DTs of failed tags (R272); the rekey
in progress; the agent's staged writes and the groups it has published (R185, R286), and the requests that wait for an answer in order (R255, R286);
the one-way delays of its last samples (R304); the
step of its going away, the DT of its last step and its reason (R289); the transit messages that wait to leave, each a MSG segment with its data
segments beside its ingress port (R288); the DT at which it last ceased to be UP (R342). -/
structure Port where
  step : Nat
  startAt : Nat
  sigAt : Nat
  backoff : Nat
  retryAt : Option Nat
  txBad : Nat
  rxBad : Nat
  expect : Nat
  phase : Nat
  old : Option Nat
  txKey : Option LinkKey
  rxKey : Option LinkKey
  rxOld : Option LinkKey
  replay : List Sent
  asked : Option (Nat × Nat × Nat)
  credits : List Nat
  heardAt : Nat
  sentAt : Nat
  fails : List Nat
  rekey : Option Rekey
  staged : List Staged
  published : List Nat
  waiting : List Incoming
  delays : List Int
  away : Nat
  awayAt : Nat
  reason : Nat
  transit : List (Nat × List Segment)
  downAt : Nat
  deriving DecidableEq, Repr

/-- A key slot (R433): state 0 FREE, 1 INSTALLED, 2 RETIRING, 3 SCRUBBING; owner; key identifier; installation count; key. -/
structure Slot where
  state : Nat
  owner : Nat
  keyId : Nat
  count : Nat
  key : Nat
  deriving DecidableEq, Repr

/-- A fence signal that waits until so many mirror messages have been acknowledged (R341). -/
structure TwinSignal where
  fence : Nat
  value : Nat
  add : Bool
  status : Nat
  upto : Nat
  deriving DecidableEq, Repr

/-- A mirrored object that the twin holds for a standby composition (R340, R345): composition, kind, index, data. -/
structure Shadow where
  comp : Nat
  kind : Nat
  index : Nat
  data : List Byte
  deriving DecidableEq, Repr

/-- A seam segment in the flacon (R252, R260, R261): n, the states of its physical channels as FAB_SEAM_MAP codes them, the physical channel of each
logical one. -/
structure SeamMap where
  n : Nat
  states : Nat
  order : List Nat
  deriving DecidableEq, Repr

/-- The flacon and the images beside it (R5, R17, R421, R427): what manufacturing test recorded of the part: stepping and fitted ports; the two
images ([] erased); CONFIG: vendor identifier, enabled options, node identity, the ports enabled at
start-up, the cluster states of the four fields, the two seam segments, the operator device certificate; ROLLBACK;
OPERATOR: anchors and credentials; the last-gasp area: its slots, how many records have been written, the newest slot. -/
structure Flacon where
  stepping : Nat
  vendor : Nat
  options : Nat
  fitted : Nat
  imageA : List Byte
  imageB : List Byte
  node : Nat
  portMask : Nat
  clusters : List Nat
  seams : List SeamMap
  certificate : List Byte
  minSvn : Nat
  next : Nat
  attempts : Nat
  confirmed : Bool
  anchors : List (List Byte)
  credentials : List Credential
  gasps : SMap (List Byte)
  gaspCount : Nat
  gaspLast : Nat
  deriving DecidableEq, Repr

/-- A slot retirement in progress (R441): its slot, the DT of step 1, whether it scrubs. -/
structure Retirement where
  slot : Nat
  at_ : Nat
  scrub : Bool
  deriving DecidableEq, Repr

/-- An entry of the scrub list (R442): a granule and the span of it to scrub; the slot whose lines are rewritten, none for all. -/
structure Scrub where
  granule : Nat
  lo : Nat
  hi : Nat
  slot : Option Nat
  deriving DecidableEq, Repr

/-- An answer of the SPDM responder (R429, R430). -/
inductive SpdmAnswer where
  | version (v : Nat)
  | capabilities (cert chal measSigned : Bool)
  | algorithms
  | digests (l : List (List Byte))
  | certificate (slot : Nat) (chain : List Byte)
  | challengeAuth (nonce sig : List Byte)
  | measurements (ix : Nat) (value : List Byte) (sig : Option (List Byte))
  | unsupportedRequest
  deriving DecidableEq, Repr

/-- What the device sends that no register or memory holds: an MSI-X message, a console line, a notice on a management session,
an SPDM answer, data of an I3C read, a command it hands to a host or partner. -/
inductive Output where
  | msix (f vector : Nat)
  | console (line : List Byte)
  | notice (sess kind arg : Nat)
  | spdm (ch : SpdmChan) (a : SpdmAnswer)
  | mgmt (sess : Nat) (body : List Byte)
  | frame (k : Nat) (f : Frame) (wire : List Byte)
  | i3c (body : List Byte)
  deriving DecidableEq, Repr

/-- A trace record (R310). -/
structure SilRec where
  dt : Nat
  seq : Nat
  island : Nat
  kind : Nat
  comp : Nat
  status : Nat
  layer : Nat
  operator : Nat
  engine : Nat
  ctx : Nat
  arg : Nat
  deriving DecidableEq, Repr

/-! ## The reset ladder (15) -/

/-- A step of the ladder asked for (R411): its step; the engine of step 1; its island, any island of the half for step 3; whether a hang asks
for it rather than FLT_RESET. -/
structure LadderReq where
  step : Nat
  engine : Option Engine
  island : Nat
  hang : Bool
  deriving DecidableEq, Repr

/-- The reset controller beside FLT_LADDER: the steps asked for, the front one in progress; the DT from which its bounds count, and whether its
collection runs (R413); the DT at which its crash dump began (R418); the DT of the last completion of a step in a domain, keyed by island × 8 +
step (R411); the host port of the copy of the dump in progress (R419); the hangs that were not CLEARED, as cluster and DT, and per cluster the DT
of its last CLEARED hang (R415). -/
structure Ladder where
  reqs : List LadderReq
  at_ : Nat
  collecting : Bool
  dumping : Option Nat
  doneAt : SMap Nat
  copyTo : Option Nat
  unclear : List (Nat × Nat)
  clearedAt : SMap Nat
  deriving DecidableEq, Repr

/-- A suspect (R414, R415): the queue whose command is held, its context, the cores its launch held, the DT of the reset, the cluster whose hang
it was; the composition that replays it, 64 where a command processor does; whether the replay has hung. -/
structure Suspect where
  q : QRef
  ctx : Nat
  cores : Nat
  since : Nat
  cl : Option Nat
  replay : Option Nat
  hung : Bool
  deriving DecidableEq, Repr

/-! ## The console (18) -/

/-- A crash-dump transfer on the console (R470): the block sent last, how often in a row it has been resent, the DT at which it was sent. -/
structure DumpXfer where
  block : Nat
  resends : Nat
  at_ : Nat
  deriving DecidableEq, Repr

/-- The console: the transfer in progress, and the bytes held while it runs (R465, R470). -/
structure Console where
  xfer : Option DumpXfer
  held : List Byte
  deriving DecidableEq, Repr

/-! ## The state -/

/-- What the requester of the last register access, console command or session sees. -/
structure Access where
  unsupported : Bool
  value : Word
  deriving DecidableEq, Repr

/-- The AON island beside its registers (17 R462, 11 R293 to R298): whether its rails are up, the stage of start-up, the reset
pin, the DT of the last device reset, the device-time master counter and whether it runs; whether a PPS_IN edge has ever been latched,
and the DT at which PPS_OUT went high where it is high; the device integrity key (R171); the address that the I3C target answers at and the register
offset last written to it (R484). -/
structure Aon where
  powered : Bool
  stage : Stage
  resetPin : Bool
  lastReset : Nat
  dt : Nat
  dtRuns : Bool
  ppsEver : Bool
  ppsRose : Option Nat
  intKey : Nat
  i3cAddr : Nat
  i3cOff : Nat
  deriving DecidableEq, Repr

/-- The whole state of the block. `seamRetries` holds the DTs of a seam channel's last retries, `seamFails` its failed replays in a row, `seamFix` the
channels of a segment whose repair is in progress (R259, R260), all keyed by segment × 32 + channel but the last; `seamWakes` the wakes in progress that a
seam segment raised, each with its segment and domain (R263); `failing` the clusters whose repair has begun and that the flacon does not yet
record as RETIRED, each with the spare that replaces it (R22, R336); `vendorId` and `options` what start-up read from CONFIG (R5, R348, R421); `owdAux`
the snapshots of R315. -/
structure State where
  pending : List Instr
  aon : Aon
  regs : SMap Word
  doms : SMap Dom
  mem : List Host.Cell
  tags : SMap Nat
  poison : SMap Bool
  seals : SMap Nat
  metas : SMap Nat
  hostMem : SMap Byte
  zeroFills : List FillTarget
  outst : SMap Outstanding
  replies : List Reply
  stalls : List (Nat × Nat)
  nacked : SMap Nat
  heldAcc : List HeldAcc
  coreOwner : SMap Bound
  coreReady : SMap Bool
  icache : SMap (List ICacheLine)
  res : SMap Res
  accs : SMap Acc
  saved : SMap Saved
  launches : SMap Launch
  armed : List (Nat × Launch)
  suspended : List Launch
  cps : SMap Cp
  chans : SMap DmaCh
  chanOwner : SMap Bound
  watches : List Watch
  rsvNew : Nat × List Nat
  windowsJudged : Nat
  indexSerial : SMap (List (Nat × Nat))
  idxLines : SMap (List IdxLine)
  pulses : List Pulse
  ledger : SMap Group
  groupSeq : Nat
  ledgerLost : Nat
  remoteBuf : SMap Byte
  tx : SMap (List Outgoing)
  ports : SMap Port
  route : SMap Nat
  seamRetries : SMap (List Nat)
  seamFails : SMap Nat
  seamFix : SMap (List Nat)
  seamWakes : List (Nat × Nat)
  failing : SMap (Option Nat)
  vendorId : Nat
  options : Nat
  owdAux : SMap Word
  tlbs : List (TlbUnit × TlbEntry)
  misses : List Miss
  nonLeafs : List NonLeaf
  pinned : List TlbEntry
  tables : List Table
  invals : List Inval
  invalWait : List Inval
  dlogFilter : List (Nat × Nat × Nat)
  comps : SMap Comp
  partOwner : SMap Bound
  farOwner : SMap Bound
  mixers : SMap Mixer
  ctxs : SMap Ctx
  tagsUsed : List Nat
  queues : SMap Ring
  fences : SMap Fence
  fns : SMap Fn
  hosts : SMap HostPort
  mailbox : SMap (List Byte)
  slots : SMap Slot
  flacon : Flacon
  measures : SMap (List Byte)
  retiring : List Retirement
  scrubs : List Scrub
  fwTarget : Option Nat
  roles : SMap Nat
  twinWait : List TwinSignal
  mirrorSeq : Nat
  mirrorHeld : List (PortMsg × List Byte)
  twinAckAt : Nat
  twinLost : Option Nat
  mirrorDrops : Nat
  shadows : List Shadow
  lastSliced : Nat
  mbxOut : SMap (List (Nat × List Byte))
  logWr : Nat
  outputs : List Output
  sil : SMap (List SilRec)
  silLoss : SMap Nat
  sessions : List Nat
  lastAccess : Option Access
  twCtx : SMap Nat
  mbxSeq : SMap Nat
  openWindows : List Nat
  windowEnds : SMap Nat
  cycleStart : Nat
  pressure : SMap (Nat × Nat)
  flagWatch : SMap Nat
  rsvNacked : List (Nat × Nat)
  ladderOn : List Nat
  ladder : Ladder
  suspects : List Suspect
  console : Console
  power : Power
  freeCtr : Nat
  deriving DecidableEq, Repr

/-- The state at reset: AON has just been powered, the device reset is in force (R36), nothing is bound, memory lists nothing.
The assumption log names every value that the spec gives no reset for. -/
def State.reset : State where
  pending := []
  aon := { powered := true, stage := .aon, resetPin := false, lastReset := 0, dt := 0, dtRuns := false, ppsEver := false, ppsRose := none,
           intKey := Config.integrityKey 0, i3cAddr := 0x3A, i3cOff := 0 }
  regs := []
  doms := []
  mem := []
  tags := []
  poison := []
  seals := []
  metas := []
  hostMem := []
  zeroFills := []
  outst := []
  replies := []
  stalls := []
  nacked := []
  heldAcc := []
  coreOwner := []
  coreReady := []
  icache := []
  res := []
  accs := []
  saved := []
  launches := []
  armed := []
  suspended := []
  cps := []
  chans := []
  chanOwner := []
  watches := []
  rsvNew := (0, [])
  windowsJudged := 0
  indexSerial := []
  idxLines := []
  pulses := []
  ledger := []
  groupSeq := 0
  ledgerLost := 0
  remoteBuf := []
  tx := []
  ports := []
  route := []
  seamRetries := []
  seamFails := []
  seamFix := []
  seamWakes := []
  failing := []
  vendorId := 0
  options := 0
  owdAux := []
  tlbs := []
  misses := []
  nonLeafs := []
  pinned := []
  tables := []
  invals := []
  invalWait := []
  dlogFilter := []
  comps := []
  partOwner := []
  farOwner := []
  mixers := []
  ctxs := []
  tagsUsed := []
  queues := []
  fences := []
  fns := []
  hosts := []
  mailbox := []
  slots := []
  flacon := { stepping := 0xA0, vendor := 0, options := 0, fitted := 0xFF, imageA := Config.shippedImage 0, imageB := Config.shippedImage 1, node := 0, portMask := 0,
              clusters := [2 ^ 40, 2 ^ 40, 2 ^ 40, 2 ^ 40], seams := [⟨20, 2 ^ 40, List.range 20⟩, ⟨20, 2 ^ 40, List.range 20⟩], certificate := [], minSvn := 0,
              next := 0, attempts := 0, confirmed := true, anchors := [], credentials := [], gasps := [], gaspCount := 0,
              gaspLast := 0 }
  measures := []
  retiring := []
  scrubs := []
  fwTarget := none
  roles := []
  twinWait := []
  mirrorSeq := 0
  mirrorHeld := []
  twinAckAt := 0
  twinLost := none
  mirrorDrops := 0
  shadows := []
  lastSliced := 63
  mbxOut := []
  logWr := 0
  outputs := []
  sil := []
  silLoss := []
  sessions := []
  lastAccess := none
  twCtx := []
  mbxSeq := []
  openWindows := []
  windowEnds := []
  cycleStart := 0
  pressure := []
  flagWatch := []
  rsvNacked := []
  ladderOn := []
  ladder := { reqs := [], at_ := 0, collecting := false, dumping := none, doneAt := [], copyTo := none, unclear := [], clearedAt := [] }
  suspects := []
  console := { xfer := none, held := [] }
  power := { main := 2, backup := 2, mainV := 540, backupV := 540, active := 0, bothFailed := none, carried := false, singleAt := none,
             singleDone := false, beforeHold := none, targets := [],
             held := [], lineFrom := 3000, lineAt := 0, beforeDry := none, dryStep := 0, dryAt := 0, upPorts := [],
             packageHot := false, hot := [], domReq := none, svc := none }
  freeCtr := 0

end Sys2Proof.Machine
end

