-- ==== Sys2Proof/Machine/Ops.lean ====
section
/-! DEFINITION. Machine/Ops.lean: the named operations over registers, domains, memory and objects that the meanings share. -/
namespace Sys2Proof.Machine

/-- The outcome type of a meaning. -/
abbrev Out := Host.Outcome State Fault Refusal

/-- The outcome of a command whose named objects exist when `ok` holds: the next state; else the fault. -/
def checked (ok : Bool) (s : State) : Out := if ok then .next s else .fault .noSuchObject

/-- The state that `f` makes of `s` where `c` holds, and `s` where it does not. -/
def State.when (s : State) (c : Bool) (f : State → State) : State := if c then f s else s

/-- Ticks of DT in `n` microseconds: a tick is half a nanosecond (R293). -/
def us (n : Nat) : Nat := 2000 * n

/-! ## Registers -/

/-- The word of copy `i` of register `r`. -/
def State.reg (s : State) (r : RegName) (i : Nat) : Word := s.regs.get (r.key i) (r.resetWord i)

/-- The state with copy `i` of register `r` holding `w`. -/
def State.setReg (s : State) (r : RegName) (i : Nat) (w : Word) : State :=
  { s with regs := s.regs.set (r.resetWord i) (r.key i) w }

/-- The value of a field of copy `i` of its register. -/
def State.fld (s : State) (F : Fld) (i : Nat) : Nat := bits (s.reg F.reg i).toNat F.hi F.lo

/-- The state with a field of copy `i` of its register holding `v`. -/
def State.setFld (s : State) (F : Fld) (i v : Nat) : State :=
  s.setReg F.reg i (BitVec.ofNat 64 (putBits (s.reg F.reg i).toNat F.hi F.lo v))

/-- The greatest value of a field. -/
def Fld.top (F : Fld) : Nat := 2 ^ (F.hi + 1 - F.lo) - 1

/-- A field of a word that is being written. -/
def Fld.of (F : Fld) (w : Word) : Nat := bits w.toNat F.hi F.lo

/-- The state with a saturating counter field advanced by `n`. -/
def State.bump (s : State) (F : Fld) (i n : Nat) : State := s.setFld F i (satAdd F.top (s.fld F i) n)

/-- The registers of a DMA channel (R217). -/
def chanRegs : List RegName := [.DMA_CH_CTL, .DMA_CH_STATUS, .DMA_CH_FAIL, .DMA_CH_DONE, .DMA_CH_HEAD, .DMA_CH_POS]

/-! ## Domains (R19, R23, R24, R27) -/

/-- The kinds of R24. -/
inductive DomKind where
  | cl | nm | fmp | prt | atm | seam | hst | fab
  deriving DecidableEq, Repr

/-- The kind of the domain with island identity `i` (R23). -/
def domKind (i : Nat) : DomKind :=
  if i < 84 then .cl else if i < 108 then .nm else if i < 120 then .fmp else if i < 128 then .prt
  else if i < 136 then .atm else if i < 138 then .seam else if i < 140 then .hst else .fab

/-- The clock that each kind of domain starts with, in MHz: R24's fixed clocks; for CL islands the lowest (DESIGN CHOICE, log 3). -/
def domMhz (i : Nat) : Nat :=
  match domKind i with
  | .cl => 600
  | .nm => 1500
  | .fmp | .seam | .fab => 1600
  | .prt | .atm | .hst => 1000

/-- A domain after device reset with nothing retained (R36). -/
def Dom.init (i : Nat) : Dom :=
  { state := .off, trans := .none, queue := [], last := none, lock := false, mhz := domMhz i, tripped := false, temp := 0, stamp := 0, floor := 0,
    skew := 0 }

/-- The domain with island identity `i`. -/
def State.dom (s : State) (i : Nat) : Dom := s.doms.get i (Dom.init i)

/-- The state with domain `i` replaced. -/
def State.setDom (s : State) (i : Nat) (d : Dom) : State := { s with doms := s.doms.put i d }

/-- Whether requests enter the domain: it is ON and not between step 1 of gating and OFF (R31); AON, identity 255, always is. -/
def State.domOn (s : State) (i : Nat) : Bool :=
  i == 255 || ((s.dom i).state == .on && (s.dom i).trans == .none)

/-- The mesh segment of field `f`: FAB.W.1, FAB.W.2, FAB.E.1, FAB.E.2 (R19). -/
def meshOf (f : Nat) : Nat := [141, 142, 145, 146].getD f 141

/-- The edge segment of port `k` (R19). -/
def edgeOf (k : Nat) : Nat := [140, 140, 144, 144, 143, 143, 147, 147].getD k 140

/-- The domains that a domain depends on (R27), each named once, the one to be brought ON first standing first. -/
def depsOf (i : Nat) : List Nat :=
  match domKind i with
  | .cl => [meshOf (i / 21)]
  | .nm => [meshOf ((i - 84) / 6)]
  | .fmp => [meshOf ((i - 108) / 3)]
  | .hst => [if i = 138 then 141 else 146]
  | .prt =>
    let e := edgeOf (i - 120)
    [if e = 140 then 141 else if e = 143 then 142 else if e = 144 then 145 else 146, e, i + 8]
  | .fab => if i = 140 then [141] else if i = 143 then [142] else if i = 144 then [145] else if i = 147 then [146] else []
  | .atm | .seam => []

/-- The half of an island: false West, true East (R19, R20). -/
def islEast (i : Nat) : Bool :=
  match domKind i with
  | .cl => 42 ≤ i
  | .nm => 96 ≤ i
  | .fmp => 114 ≤ i
  | .prt => i = 122 || i = 123 || i = 126 || i = 127
  | .atm => i = 130 || i = 131 || i = 134 || i = 135
  | .seam => false
  | .hst => i = 139
  | .fab => 144 ≤ i

/-- The island of a command processor (R20). -/
def cpIsl (p : Nat) : Nat := if p < 8 then 141 else 146

/-- Whether mesh segment `m` is OFF, and whether it is between step 1 of gating and OFF. -/
def State.meshOff (s : State) (m : Nat) : Bool := (s.dom m).state == .off

/-- Gating in progress. -/
def State.meshGating (s : State) (m : Nat) : Bool :=
  match (s.dom m).trans with
  | .gating _ _ => true
  | _ => false

/-- Whether a half is asleep (R255). -/
def State.asleep (s : State) (east : Bool) : Bool :=
  let a := if east then 145 else 141
  let b := if east then 146 else 142
  (s.meshOff a && s.meshOff b) || (s.meshOff a && s.meshGating b) || (s.meshOff b && s.meshGating a)

/-- The seam segment that adjoins a field: 0 SEAM.N, 1 SEAM.S (R245). -/
def seamOf (mesh : Nat) : Nat := if mesh = 141 ∨ mesh = 145 then 0 else 1

/-- The time that island `i` reads from its replica of DT (R294), never behind a value it has read before. -/
def State.dtOf (s : State) (i : Nat) : Nat :=
  if i = 255 then s.aon.dt
  else
    let d := s.dom i
    max d.floor ((s.aon.dt : Int) + d.skew).toNat

/-! ## Outputs and the counter event -/

/-- The state that has sent `o`; outputs stand newest first. -/
def State.emit (s : State) (o : Output) : State := { s with outputs := o :: s.outputs }

/-- The characters of a text as console bytes. -/
def asciiBytes (t : String) : List Byte := t.toList.map fun c => BitVec.ofNat 8 c.toNat

/-- Management firmware sends a notice on every open session (R432, R473). -/
def State.noticeAll (s : State) (kind arg : Nat) : State := s.sessions.foldl (fun s i => s.emit (.notice i kind arg)) s

/-- The counter event (R473): the bit of MON_EVT and the island; notices and the console line, which names the island
and the register, unless the bit was set already. -/
def State.counterEvent (s : State) (F0 : Fld) (isl : Nat) (name : String) : State :=
  if s.fld F0 0 = 1 then s
  else
    let s := (s.setFld F0 0 1).setFld F.MON_EVT_island 0 isl
    (s.noticeAll 1 isl).emit (.console (asciiBytes "!EVT " ++ asciiBytes (toString isl) ++ asciiBytes " " ++
      asciiBytes name))

/-- The name of a register, as the spec writes it. -/
def regName (r : RegName) : String := ((reprStr r).splitOn ".").getLastD ""

/-- Advance a saturating counter; at the step to saturation set its sticky bit and raise the counter event (R292, R264, R420,
R473). -/
def State.bumpEvent (s : State) (cnt : Fld) (sat : Option Fld) (i isl : Nat) : State :=
  let full := s.fld cnt i == cnt.top
  let s := s.bump cnt i 1
  if !full && s.fld cnt i == cnt.top then
    let s := match sat with
      | some b => s.setFld b i 1
      | none => s
    s.counterEvent F.MON_EVT_counter isl (regName cnt.reg)
  else s

/-! ## The physical address map (R158, R162, R163, R170) -/

/-- A region of the map. -/
inductive Region where
  | near (stack part : Nat)
  | scratch (n : Nat)
  | regBlock (off : Nat)
  | far (granule : Nat)
  | dump
  | remote (k off : Nat)
  | unmapped
  deriving DecidableEq, Repr

/-- The base of core `n`'s scratchpad (R16). -/
def scratchBase (n : Nat) : Nat := 0x00F000000000 + n * 0x200000

/-- The region of a physical address. -/
def region (a : Nat) : Region :=
  if a < 0x000900000000 then .near (a / 0x60000000) (a % 0x60000000 / 0x10000000)
  else if a < 0x00F000000000 then .unmapped
  else if a < 0x00F054000000 then
    if (a - 0x00F000000000) % 0x200000 < 0x140000 then .scratch ((a - 0x00F000000000) / 0x200000) else .unmapped
  else if a < 0x00FF00000000 then .unmapped
  else if a < 0x00FF01000000 then .regBlock (a - 0x00FF00000000)
  else if a < 0x010000000000 then .unmapped
  else if a < 0x01A7E0000000 then .far ((a - 0x010000000000) / 0x20000000)
  else if a < 0x01A800000000 then .dump
  else if a < 0x800000000000 then .unmapped
  else if a < 0x1000000000000 then .remote ((a - 0x800000000000) / 0x100000000000) (a % 0x100000000000)
  else .unmapped

/-- Whether an address lies in a remote window. -/
def isRemote (a : Nat) : Bool :=
  match region a with
  | .remote _ _ => true
  | _ => false

/-- The island that holds a byte of memory: the stack's, the cluster's, or the far-memory PHY pair's (R170). -/
def memIsl (a : Nat) : Nat :=
  match region a with
  | .near st _ => 84 + st
  | .scratch n => n / 8
  | .far _ | .dump => 108 + (a - 0x010000000000) / 256 % 24 / 2
  | .remote k _ => 120 + k
  | _ => 255

/-- Whether the address lies in far memory, the crash-dump region included. -/
def isFar (a : Nat) : Bool :=
  match region a with
  | .far _ | .dump => true
  | _ => false

/-! ## Memory bytes and lines (R165, R167, R171 to R173) -/

/-- One byte of physical memory, whatever its line's tag; 0 where nothing has written (DESIGN CHOICE, log 4). -/
def State.byte (s : State) (a : Nat) : Byte := SMap.get s.mem a 0#8

/-- The canonical form of memory: addresses rise strictly, and no entry equals what an unlisted address reads as (DESIGN CHOICE, log 4). -/
def Memory.wf (m : List Host.Cell) : Bool := SMap.wf m 0#8

/-- `n` bytes of physical memory from `a`, whatever their lines' tags. -/
def State.bytes (s : State) (a n : Nat) : List Byte := (List.range n).map fun i => s.byte (a + i)

/-- Memory with these bytes from `a`. -/
def memPut (m : List Host.Cell) (a : Nat) (data : List Byte) : List Host.Cell :=
  match data with
  | [] => m
  | b :: bs => memPut (SMap.set m 0#8 a b) (a + 1) bs

/-- The state with these bytes stored from `a`: the one way a byte of memory changes. -/
def State.store (s : State) (a : Nat) (data : List Byte) : State := { s with mem := memPut s.mem a data }

/-- The state with every byte, tag, poison mark, seal and metadata word of [lo, hi) as unwritten memory has them. -/
def State.wipe (s : State) (lo hi : Nat) : State :=
  { s with mem := SMap.clear s.mem lo hi, tags := s.tags.clear (lo / 64) (hi / 64), poison := s.poison.clear (lo / 64) (hi / 64),
           seals := s.seals.clear (lo / 64) (hi / 64), metas := s.metas.clear (lo / 64) (hi / 64) }

/-- The key tag of line `l` (address / 64). -/
def State.tagOf (s : State) (l : Nat) : Nat := s.tags.get l 0

/-- A key slot that holds no key (R443). -/
def Slot.free : Slot := { state := 0, owner := 0xFF, keyId := 0, count := 0, key := 0 }

/-- A host port before its link comes up (R348, R375). -/
def HostPort.init : HostPort := { up := false, perst := false, crs := true }

/-- The installation count of key slot `k` (R433). -/
def State.installCount (s : State) (k : Nat) : Nat := (s.slots.get k Slot.free).count

/-- Count a corrected memory error, an uncorrectable one, an integrity failure, or a tag mismatch of an island, with R472's
sticky bit and R473's counter event at saturation. -/
def State.countErr (s : State) (cnt sat : Fld) (i : Nat) : State := s.bumpEvent cnt (some sat) i i

/-- Count a 64-byte line read or written in the activity counter of its near-memory stack or far-memory island (R471). -/
def State.countLine (s : State) (a : Nat) : State :=
  match region a with
  | .near _ _ | .far _ | .dump => s.bump F.MON_ACT_count (memIsl a) 1
  | _ => s

/-- The result of one access to a line: the state, the status, the bytes read. -/
structure LineResult where
  s : State
  st : MemStatus
  data : List Byte
  deriving DecidableEq, Repr

/-- Count a read or write under a selector other than the line's tag (R167, R172). -/
def State.tagMismatch (s : State) (a : Nat) : State := s.countErr F.MON_ERR_B_tagmis F.MON_ERR_STK_tagmis_sat (memIsl a)

/-- Whether the MAC of the far-memory line at `a` verifies: it was written under the installation of its slot that is in force
(R171); a selector-0 line's device key lasts as long as far memory does. -/
def State.sealOk (s : State) (a sel : Nat) : Bool :=
  !isFar a || sel == 0 || s.seals.get (a / 64) 0 == s.installCount sel

/-- Read `n` bytes from `a`, all within one line, under selector `sel`: the tag first, then the poison mark, then the MAC (R165,
R167, R172). -/
def State.readLine (s : State) (a n sel : Nat) : LineResult :=
  if s.tagOf (a / 64) ≠ sel then ⟨s.tagMismatch a, .ok, zeros n⟩
  else if s.poison.get (a / 64) false then ⟨s, .poison, []⟩
  else if !s.sealOk a sel then ⟨s.countErr F.MON_ERR_B_integ F.MON_ERR_STK_integ_sat (memIsl a), .integrity, []⟩
  else ⟨s, .ok, s.bytes a n⟩

/-- The marks of line `l` after a write under selector `sel`: tag, seal, poison and a partner's metadata word cleared. -/
def State.markLine (s : State) (l sel : Nat) : State :=
  { s with tags := s.tags.set 0 l sel, poison := s.poison.del l,
           seals := s.seals.set 0 l (if isFar (l * 64) && sel ≠ 0 then s.installCount sel else 0), metas := s.metas.del l }

/-- Write bytes from `a`, all within one line, under selector `sel`: a whole line, a partial write under another selector (zeros
to the rest), or a partial write under the line's own (R165, R167, R171, R173). -/
def State.writeLine (s : State) (a : Nat) (data : List Byte) (sel : Nat) : LineResult :=
  let l := a / 64
  if data.length = 64 then ⟨(s.store a data).markLine l sel, .ok, []⟩
  else if s.tagOf l ≠ sel then ⟨((s.store (l * 64) (zeros 64)).store a data).markLine l sel, .ok, []⟩
  else if s.poison.get l false then ⟨s, .poison, []⟩
  else if !s.sealOk a sel then ⟨s.countErr F.MON_ERR_B_integ F.MON_ERR_STK_integ_sat (memIsl a), .integrity, []⟩
  else ⟨(s.store a data).markLine l sel, .ok, []⟩

/-- Read line by line; the first failing line ends the read. `fuel` counts lines. -/
def State.readLines (s : State) (fuel a n sel : Nat) : LineResult :=
  match fuel with
  | 0 => ⟨s, .ok, []⟩
  | k + 1 =>
    if n = 0 then ⟨s, .ok, []⟩ else
    let m := min n (64 - a % 64)
    let r := (s.countLine a).readLine a m sel
    if r.st ≠ .ok then ⟨r.s, r.st, []⟩
    else
      let q := r.s.readLines k (a + m) (n - m) sel
      if q.st ≠ .ok then q else ⟨q.s, .ok, r.data ++ q.data⟩

/-- Write line by line; the first failing line ends the write. `fuel` counts lines. -/
def State.writeLines (s : State) (fuel a : Nat) (data : List Byte) (sel : Nat) : LineResult :=
  match fuel with
  | 0 => ⟨s, .ok, []⟩
  | k + 1 =>
    if data.isEmpty then ⟨s, .ok, []⟩ else
    let m := min data.length (64 - a % 64)
    let r := (s.countLine a).writeLine a (data.take m) sel
    if r.st ≠ .ok then r else r.s.writeLines k (a + m) (data.drop m) sel

/-- The lines that `n` bytes from `a` touch. -/
def linesOf (a n : Nat) : Nat := (a % 64 + n + 63) / 64

/-! ## Ownership and epochs (R162, R323, R324) -/

/-- The composition whose number and epoch the requests of composition `c` carry: the suspect's, where `c` is a quarantine composition (R415). -/
def State.actsFor (s : State) (c : Nat) : Nat := ((s.comps.find c).bind (·.quarantine)).getD c

/-- Whether a resource bound as `b` accepts a request of composition `c` under `epoch` (R324); a quarantine composition's own cores and channels
accept it as their own (R415). -/
def State.accepts (s : State) (b : Option Bound) (c epoch : Nat) : Bool :=
  match b with
  | none => false
  | some b =>
    let as := s.actsFor c
    let cur := s.fld F.CMP_EPOCH_epoch as
    let old := s.fld F.CMP_EPOCH_old as
    let draining := s.fld F.CMP_EPOCH_draining as == 1
    (b.comp == as || b.comp == c) &&
      match b.phase with
      | .staying => epoch == cur || (draining && epoch == old)
      | .preparing => false
      | .joining => epoch == cur
      | .leaving => draining && epoch == old

/-- The composition and phase that hold the resource at an address: a core's scratchpad, a partition, a granule. -/
def State.holderOf (s : State) (a : Nat) : Option Bound :=
  match region a with
  | .scratch n => s.coreOwner.find n
  | .near st p => s.partOwner.find (6 * st + p)
  | .far g => s.farOwner.find g
  | _ => none

/-- The kinds of requester that R159 and R162 tell apart: a DMA channel, management firmware, or another. -/
inductive Actor where
  | dma | fw | other
  deriving DecidableEq, Repr

/-! ## Requesters (R159, R162, R180, R187, R323) -/

/-- Owner codes of R180. -/
def ownerCore (n : Nat) : Nat := n
/-- A DMA channel as owner. -/
def ownerDma (x : Nat) : Nat := 2 ^ 30 + x
/-- A command processor as owner. -/
def ownerCp (p : Nat) : Nat := 2 ^ 31 + p

/-- The island that a request leaves from. -/
def ownerIsl (o : Owner) : Nat :=
  match o with
  | .loadIns n _ | .ahead n _ _ _ | .scalar n _ | .storeIns n _ => n / 8
  | .dmaPiece x | .descFetch x => x / 16
  | .indexLine e _ => e
  | .cpAccess p => cpIsl p
  | .fw => 255
  | .agent k => 120 + k
  | .host h => 138 + h

/-- Whether core `n` and resident `r` exist. -/
def coreOk (n r : Nat) : Bool := decide (n < 672) && decide (r < 2)

/-- Whether a request's owner exists. -/
def ownerOk (o : Owner) : Bool :=
  match o with
  | .loadIns n r | .ahead n r _ _ | .scalar n r | .storeIns n r => coreOk n r
  | .dmaPiece x | .descFetch x => decide (x < 1344)
  | .indexLine e _ => decide (e < 84)
  | .cpAccess p => decide (p < 16)
  | .fw => true
  | .agent k => decide (k < 8)
  | .host h => decide (h < 2)

/-- Who a request's owner is to R162. -/
def ownerActor (o : Owner) : Actor :=
  match o with
  | .dmaPiece _ | .descFetch _ | .indexLine _ _ => .dma
  | .fw => .fw
  | _ => .other

/-- The ledger owner of a request's writes (R180). -/
def ownerLedger (o : Owner) : Nat :=
  match o with
  | .loadIns n _ | .ahead n _ _ _ | .scalar n _ | .storeIns n _ => ownerCore n
  | .dmaPiece x | .descFetch x => ownerDma x
  | .cpAccess p => ownerCp p
  | _ => 0

/-- Who makes an access to memory: the unit, the composition and epoch that its requests carry (R323), their traffic class (R187). -/
structure Who where
  own : Owner
  comp : Option Nat
  epoch : Nat
  cls : Nat
  deriving DecidableEq, Repr

/-- The traffic classes as R269 numbers them. -/
def clsRt : Nat := 0
/-- GUAR. -/
def clsGuar : Nat := 1
/-- BULK. -/
def clsBulk : Nat := 2
/-- BEST. -/
def clsBest : Nat := 3

/-- The requester of a request. -/
def reqWho (q : MemReq) : Who := ⟨q.owner, q.comp, q.epoch, q.cls⟩

/-- Management firmware: it carries no composition; BULK, since the spec gives its accesses no class (DESIGN CHOICE, log 40). -/
def Who.fw : Who := ⟨.fw, none, 0, clsBulk⟩

/-! ## The way of a request (R19, R31, R245) -/

/-- The mesh segment of an island's field, for the islands that memory lies in and requests come from (R19). -/
def meshOfIsl (i : Nat) : Nat :=
  match domKind i with
  | .cl | .nm | .fmp | .hst => (depsOf i).headD 141
  | .fab => if i < 142 then 141 else if i < 144 then 142 else if i < 146 then 145 else 146
  | .prt => (depsOf i).headD 141
  | _ => 141

/-- The fabric segments by which an island joins its mesh, the mesh segment last: a port and its atomiser through their edge segment, an edge
segment through itself (R19, R249). -/
def attachOf (i : Nat) : List Nat :=
  match domKind i with
  | .prt => [edgeOf (i - 120), meshOfIsl i]
  | .fab => if i = 140 ∨ i = 143 ∨ i = 144 ∨ i = 147 then [i, meshOfIsl i] else [i]
  | _ => [meshOfIsl i]

/-- The fabric and seam segments that a packet from island `a` to island `d` crosses (R245): within a half the mesh segments of both fields; into
the other half also its own half's mesh segment at the seam segment that adjoins the destination's field, and that segment. AON reaches every
island of its own (DEDUCED, log 117). -/
def pathOf (a d : Nat) : List Nat :=
  if a = 255 ∨ d = 255 then []
  else
    let m := meshOfIsl d
    let cross := if islEast a = islEast d then []
      else [if islEast a then (if seamOf m = 0 then 145 else 146) else (if seamOf m = 0 then 141 else 142), 136 + seamOf m]
    attachOf a ++ cross ++ attachOf d

/-- Whether every segment on the way of a packet lets it in. -/
def State.pathOn (s : State) (a d : Nat) : Bool := (pathOf a d).all fun j => s.domOn j

/-- The logical channels in service of seam segment `g`, as start-up and repair show them in FAB_SEAM_MAP (R252). -/
def State.seamN (s : State) (g : Nat) : Nat := s.fld F.FAB_SEAM_MAP_n_logical g

/-- The logical channel by which a packet between two islands crosses seam segment `g` (R245 step 2); its reply uses the same. -/
def State.seamChan (s : State) (g a d : Nat) : Nat := if s.seamN g = 0 then 0 else (a + d) % s.seamN g

/-- The seam segment that a packet from island `a` to island `d` crosses, none within a half. -/
def crossesSeam (a d : Nat) : Option Nat := if a = 255 ∨ d = 255 ∨ islEast a = islEast d then none else some (seamOf (meshOfIsl d))

/-! ## Accesses by physical address (R31, R158 to R173) -/

/-- Judge an access before the memory sees it: the decode, the ownership of scratchpads, the epoch, the islands on the way and the island
itself, the key (R31, R159, R160, R162, R245, R324, R441). -/
def State.judge (s : State) (w : Who) (sel a : Nat) : MemStatus :=
  let who := ownerActor w.own
  let byEpoch : MemStatus :=
    match w.comp with
    | none => .ok
    | some c => if s.accepts (s.holderOf a) c w.epoch then .ok else .epochNack
  let decoded : MemStatus :=
    match region a with
    | .unmapped | .regBlock _ => .decode
    | .dump => if who = .fw then .ok else .decode
    | .scratch _ =>
      match who with
      | .fw => .ok
      | .dma => if w.comp.isSome then byEpoch else .epochNack
      | .other => .decode
    | .near _ _ | .far _ => byEpoch
    | .remote _ _ => .ok
  if decoded ≠ .ok then decoded
  else if !s.domOn (memIsl a) || !s.pathOn (ownerIsl w.own) (memIsl a) then .islandOff
  else if sel ≠ 0 && (s.slots.get sel Slot.free).state == 2 then .keyRefused
  else .ok

/-- An access to local memory by physical address, judged and performed: a read. -/
def State.readPhys (s : State) (w : Who) (sel a n : Nat) : LineResult :=
  let j := s.judge w sel a
  if j ≠ .ok then ⟨s, j, []⟩ else s.readLines (linesOf a n) a n sel

/-- An access to local memory by physical address, judged and performed: a write. -/
def State.writePhys (s : State) (w : Who) (sel a : Nat) (data : List Byte) : LineResult :=
  let j := s.judge w sel a
  if j ≠ .ok then ⟨s, j, []⟩ else s.writeLines (linesOf a data.length) a data sel

/-- The 8-byte word at a physical address, read as management firmware and the controllers read it, whatever its tag. -/
def State.word (s : State) (a : Nat) : Nat := leNat (s.bytes a 8)

/-! ## Host memory (R349) -/

/-- The key of a byte of the memory of host `h`. -/
def hostKey (h a : Nat) : Nat := h * 2 ^ 64 + a % 2 ^ 64

/-- `n` bytes of the memory of host `h` from bus address `a`. -/
def State.hostBytes (s : State) (h a n : Nat) : List Byte := (List.range n).map fun i => s.hostMem.get (hostKey h (a + i)) 0#8

/-- Host memory with these bytes. -/
def hostPut (m : SMap Byte) (h a : Nat) (data : List Byte) : SMap Byte :=
  match data with
  | [] => m
  | b :: bs => hostPut (m.set 0#8 (hostKey h a) b) h (a + 1) bs

/-- Whether host port `h` carries accesses: its link is up and its reset input is released (R373, R375). -/
def State.hostUp (s : State) (h : Nat) : Bool :=
  let p := s.hosts.get h HostPort.init
  p.up && !p.perst

/-- The state with these bytes stored in the memory of host `h`; nothing where the port is down (R374). -/
def State.hostStore (s : State) (h a : Nat) (data : List Byte) : State :=
  if s.hostUp h then { s with hostMem := hostPut s.hostMem h a data } else s

/-! ## Free values -/

/-- Take the next free value of `w` bits. -/
def State.free (s : State) (w : Nat) : BitVec w × State :=
  (Config.freeValue w s.freeCtr, { s with freeCtr := s.freeCtr + 1 })

end Sys2Proof.Machine
end

