-- ==== Sys2Proof/Machine/Report.lean ====
section
/-! DEFINITION. Machine/Report.lean: what the device reports: event entries and cookies (R363 to R366), fences (R362), fault
records (R402 to R408), trace records (R310, R312), the counter event (R473). -/
namespace Sys2Proof.Machine

/-- The 16-bit engine code of R310 and R402: class 0 command processor, 1 DMA channel, 2 core, 3 DMA engine, 4 port, 5 memory
controller, 6 translation unit, 7 whole island; number in the low 12 bits. -/
def engineCode (cls number : Nat) : Nat := cls * 4096 + number

/-! ## Functions -/

/-- A ring that is not set up. -/
def Ring.init : Ring :=
  { fn := 0, base := 0, n := 4, cplBase := 0, ctx := 0, kind := 0, doorbell := 0, prod := 0, rd := 0, cur := none, aborts := [] }

/-- A function's objects after its reset (R374). -/
def Fn.init : Fn :=
  { admin := Ring.init, cookies := [], evDropped := 0, evOverflow := false, aborts := [], waiters := [], fltWr := 0,
    merge := none, stalled := [], msixTab := [], msixPending := [] }

/-- The objects of function `f`. -/
def State.fn (s : State) (f : Nat) : Fn := s.fns.get f Fn.init

/-- The state with function `f`'s objects replaced. -/
def State.setFn (s : State) (f : Nat) (x : Fn) : State := { s with fns := s.fns.put f x }

/-- A composition that has never been created. -/
def Comp.init : Comp :=
  { record := none, change := none, wantPark := false, repairs := [], chains := [], heldCores := 0, heldChans := [], exclusiveUsed := false,
    quarantine := none, activeAt := 0, promoting := none, promoted := false }

/-- The state of composition `c` beside its registers. -/
def State.comp (s : State) (c : Nat) : Comp := s.comps.get c Comp.init

/-- The state with composition `c` replaced. -/
def State.setComp (s : State) (c : Nat) (x : Comp) : State := { s with comps := s.comps.put c x }

/-- The function attached to composition `c`. -/
def State.attached (s : State) (c : Nat) : Option Nat :=
  match (s.comp c).record with
  | some m => if (s.comp c).quarantine.isSome then none else some m.fn
  | none => none

/-- The composition attached to function `f`. -/
def State.compOf (s : State) (f : Nat) : Option Nat :=
  if s.fld F.CTX_FN_STATUS_attached f = 1 then some (s.fld F.CTX_FN_STATUS_composition f) else none

/-- The value of word `j` of a function's MSI-X table after reset: the vector control word of each vector, in the upper half of
its second word, masks it (PRESUMED, log 5). -/
def msixReset (j : Nat) : Word := if j % 2 = 1 then 0x100000000#64 else 0#64

/-- Whether vector `v` of function `f` is masked: bit 0 of its vector control word. -/
def State.msixMasked (s : State) (f v : Nat) : Bool := bits ((s.fn f).msixTab.get (2 * v + 1) (msixReset 1)).toNat 32 32 == 1

/-- Send an MSI-X message, or set the pending bit of a masked vector (R366). -/
def State.msix (s : State) (f v : Nat) : State :=
  if !s.msixMasked f v then s.emit (.msix f v)
  else s.setFn f { s.fn f with msixPending := (s.fn f).msixPending.put v true }

/-! ## Event rings (R364 to R366) -/

/-- The capacity of function `f`'s event ring. -/
def State.evrCap (s : State) (f : Nat) : Nat := 2 ^ (s.fld F.CTX_EVR_CFG_size f + 8)

/-- Whether the event ring of `f` is enabled and its host port is up (R365, R375). -/
def State.evrOn (s : State) (f : Nat) : Bool := s.fld F.CTX_EVR_BASE_enable f == 1 && s.hostUp (f / 64)

/-- Whether the event ring of `f` is full (R365). -/
def State.evrFull (s : State) (f : Nat) : Bool :=
  (s.fld F.CTX_EVR_WR_wr f + 2 ^ 32 - s.fld F.CTX_EVR_RD_rd f) % 2 ^ 32 == s.evrCap f

/-- Write one entry at CTX_EVR_WR, make it visible, and send its message (R364, R366). -/
def State.evrPut (s : State) (f : Nat) (e : Event) : State :=
  let wr := s.fld F.CTX_EVR_WR_wr f
  let cap := s.evrCap f
  let phase := if wr / cap % 2 = 0 then 1 else 0
  let word0 := phase * 2 ^ 63 + e.kind % 128 * 2 ^ 56 + e.status % 256 * 2 ^ 48 + e.payload % 2 ^ 48
  let a := s.fld F.CTX_EVR_BASE_base f * 4096 + wr % cap * 16
  let s := s.hostStore (f / 64) a (leBytes 8 word0 ++ leBytes 8 e.dt)
  let s := s.setFld F.CTX_EVR_WR_wr f ((wr + 1) % 2 ^ 32)
  s.msix f (if e.kind = 1 ∨ e.kind = 2 then e.vector else s.fld F.CTX_EVR_BASE_dev_vector f)

/-- Whether a cookie of this kind is never dropped (R365): FENCE and ABORT. -/
def Event.kept (e : Event) : Bool := e.kind == 1 || e.kind == 3

/-- The state with `e` pending in its slot (R365). -/
def State.holdCookie (s : State) (f : Nat) (e : Event) : State := s.setFn f { s.fn f with cookies := (s.fn f).cookies ++ [e] }

/-- An entry that finds no space (R365): FENCE and ABORT stay pending in their slot, the others are dropped and counted. -/
def State.noSpace (s : State) (f : Nat) (e : Event) : State :=
  if e.kept then s.holdCookie f e
  else
    let s := (s.bump F.CTX_EVR_WR_dropped f 1).setFld F.CTX_FN_STATUS_evr_ovf f 1
    s.setFn f { s.fn f with evDropped := (s.fn f).evDropped + 1, evOverflow := true }

/-- The first entry written after a drop is an OVERFLOW entry with the count of those dropped (R364, R365). -/
def State.noteOverflow (s : State) (f dt : Nat) : State :=
  if (s.fn f).evOverflow then
    let n := (s.fn f).evDropped
    (s.setFn f { s.fn f with evDropped := 0, evOverflow := false }).evrPut f { kind := 9, status := 0, payload := n, dt := dt, vector := 0 }
  else s

/-- Raise an event for function `f` (R365): written, behind an OVERFLOW entry where one is due, kept pending, or dropped with the overflow noted; where
the ring is not enabled, kept pending or dropped without counting. -/
def State.raise (s : State) (f : Nat) (e : Event) : State :=
  if !s.evrOn f then (if e.kept then s.holdCookie f e else s)
  else if s.evrFull f then s.noSpace f e
  else
    let s := s.noteOverflow f e.dt
    if s.evrFull f then s.noSpace f e else s.evrPut f e

/-- Write the pending cookies of `f` in order while the ring has space (R365). `fuel` counts cookies. -/
def State.drainCookies (s : State) (fuel f : Nat) : State :=
  match fuel with
  | 0 => s
  | k + 1 =>
    match (s.fn f).cookies with
    | [] => s
    | e :: rest =>
      if !s.evrOn f || s.evrFull f then s
      else
        let s := s.noteOverflow f e.dt
        if s.evrFull f then s else ((s.setFn f { s.fn f with cookies := rest }).evrPut f e).drainCookies k f

/-- Raise a COMPOSITION event (R364): to the attached function and to management firmware (a notice). -/
def State.compEvent (s : State) (c status dt : Nat) : State :=
  let last := s.fld F.CMP_STATUS_last_status c
  let s := s.noticeAll 2 (c + 256 * status)
  match s.attached c with
  | some f => s.raise f { kind := 6, status := status, payload := c + 256 * last, dt := dt, vector := 0 }
  | none => s

/-! ## Stamps (R307, R308) and messages to the twin (R340) -/

/-- The state in which an island's next stamp has been taken, with the stamp: DT and sequence (R307, R308). -/
def State.stamp (s : State) (isl : Nat) : (Nat × Nat) × State :=
  let d := s.dom isl
  ((s.dtOf isl, d.stamp), s.setDom isl { d with stamp := (d.stamp + 1) % 2 ^ 32, floor := if isl = 255 then d.floor else s.dtOf isl })

/-- The state with a message and its data queued for transmission on port `k` in a traffic class (R187, R269). -/
def State.sendIn (s : State) (k cls : Nat) (m : PortMsg) (data : List Byte) : State :=
  { s with tx := s.tx.put k (s.tx.get k [] ++ [{ msg := m, data := data, cls := cls }]) }

/-- The same for a message that no request of a class stands behind: BULK (DESIGN CHOICE, log 40). -/
def State.sendMsg (s : State) (k : Nat) (m : PortMsg) (data : List Byte) : State := s.sendIn k clsBulk m data

/-- A message with every field but its op zero. -/
def PortMsg.of (op : Nat) : PortMsg :=
  { op := op, status := 0, sealedReq := false, ndata := 0, tag := 0, offset := 0, group := 0, length := 0, aux := 0,
    metaWords := [] }

/-- Send a MIRROR message of at most 256 bytes, with zeros to the end of their line (R282, R340): kind 1 PAGE, 2 CONTEXT, 3 FENCE, 4 QUEUE_RP, the
selector and composition in aux; with 4,096 messages
unacknowledged it waits (R341; DEDUCED, log 50). -/
def State.mirrorMsg (s : State) (kind sel comp offset : Nat) (data : List Byte) : State :=
  if s.fld F.CMP_TWIN_enable 0 = 1 ∧ (s.fld F.CMP_TWIN_state 0 = 1 ∨ s.fld F.CMP_TWIN_state 0 = 2) then
    let (st, s) := s.stamp 255
    let q := s.mirrorSeq
    let s := { s with mirrorSeq := q + 1 }
    let data := data ++ zeros ((64 - data.length % 64) % 64)
    let m : PortMsg := { PortMsg.of 0x20 with ndata := (data.length + 255) / 256, offset := offset, group := q, length := data.length,
                                              aux := kind + sel * 256 + comp * 65536, metaWords := [st.1, 255 + st.2 * 256, 0, 0] }
    if s.fld F.CMP_TWIN_unacked 0 < 4096 then (s.bump F.CMP_TWIN_unacked 0 1).sendMsg (s.fld F.CMP_TWIN_port 0) m data
    else { s with mirrorHeld := s.mirrorHeld ++ [(m, data)] }
  else s

/-- Mirror whole lines of a page, in messages of at most 256 bytes (R282, R340). `fuel` counts them. -/
def State.mirrorPage (s : State) (fuel sel comp pa : Nat) (data : List Byte) : State :=
  match fuel with
  | 0 => s
  | k + 1 => if data.isEmpty then s else (s.mirrorMsg 1 sel comp pa (data.take 256)).mirrorPage k sel comp (pa + 256) (data.drop 256)

/-! ## Fences (R352, R353, R362, R363) -/

/-- A fence slot never allocated (R352). -/
def Fence.init : Fence := { gen := 0, taken := false, abandoned := false, value := 0, last := 0, fn := 0, ctx := 0, tag := 0, vector := 0 }

/-- The slot that a fence identifier names, none for a stale or unallocated one (R352). -/
def State.fence (s : State) (id : Nat) : Option Fence :=
  let x := s.fences.get (id % 2 ^ 18) Fence.init
  if x.taken && x.gen == id / 2 ^ 18 % 2 ^ 14 then some x else none

/-- The state with the slot of fence `id` replaced. -/
def State.setFence (s : State) (id : Nat) (x : Fence) : State := { s with fences := s.fences.put (id % 2 ^ 18) x }


/-- Deliver the waiters of function `f` on fence `id` that `due` selects, each as a FENCE cookie, and free their slots (R363). -/
def State.deliverWaiters (s : State) (f id status dt : Nat) (due : Waiter → Bool) : State :=
  let ws := (s.fn f).waiters
  let hit := ws.filter fun w => w.fence == id && due w
  let s := s.setFn f { s.fn f with waiters := ws.filter fun w => !(w.fence == id && due w) }
  hit.foldl (fun s w => s.raise f { kind := 1, status := status, payload := w.tag, dt := dt, vector := w.vector }) s

/-- The bytes that tell the twin of a fence: its value first (R340; layout of the model, DESIGN CHOICE, log 47). -/
def Fence.mirrorBytes (x : Fence) : List Byte :=
  leBytes 8 x.value ++ leBytes 4 x.gen ++ leBytes 4 x.ctx ++ leBytes 8 x.tag ++ leBytes 2 x.vector ++ leBytes 1 x.last ++
    leBytes 1 (if x.abandoned then 1 else 0) ++ leBytes 4 0

/-- Tell the twin of a fence (R340). -/
def State.mirrorFence (s : State) (id : Nat) : State :=
  let x := s.fences.get (id % 2 ^ 18) Fence.init
  s.mirrorMsg 3 0 (((s.ctxs.find x.ctx).map (·.comp)).getD ((s.compOf x.fn).getD 0)) (id % 2 ^ 18) x.mirrorBytes

/-- Apply a signal of value `v` and status `st` to fence `id` at DT `dt` (R362): the state and the code that cp.fsig returns (0,
1 REGRESSION, 2 LIMIT, 3 ABANDONED). -/
def State.signalNow (s : State) (id v : Nat) (add : Bool) (st dt : Nat) : State × Nat :=
  match s.fence id with
  | none => (s, 0)
  | some x =>
    let f := x.fn
    let report (code : Nat) : State := s.raise f { kind := 2, status := code, payload := x.tag, dt := dt, vector := x.vector }
    let accept (nv : Nat) : State :=
      let s := s.setFence id { x with value := nv, last := st }
      let s := s.mirrorFence id
      s.deliverWaiters f id st dt fun w => decide (w.value ≤ nv)
    if x.abandoned then (s, 3)
    else if add then
      if v = 0 then (s, 0)
      else if x.value + v > 2 ^ 64 - 1 then (report 2, 2)
      else (accept (x.value + v), 0)
    else if v > x.value then (accept v, 0)
    else if v = x.value then (s, 0)
    else (report 1, 1)

/-- Signal a fence: at once, or, while the twin mirrors with sync = 1 and messages are unacknowledged, held until MIRROR_ACK
covers them (R341). -/
def State.signal (s : State) (id v : Nat) (add : Bool) (st dt : Nat) : State × Nat :=
  if s.fld F.CMP_TWIN_state 0 = 2 ∧ s.fld F.CMP_TWIN_sync 0 = 1 ∧ s.fld F.CMP_TWIN_unacked 0 ≠ 0 then
    ({ s with twinWait := s.twinWait ++ [{ fence := id, value := v, add := add, status := st,
                                            upto := s.mirrorSeq }] }, 0)
  else s.signalNow id v add st dt

/-- Make a fence ABANDONED: every armed waiter on it delivers (R363, R372). -/
def State.abandonFence (s : State) (id dt : Nat) : State :=
  match s.fence id with
  | none => s
  | some x =>
    (s.setFence id { x with abandoned := true }).deliverWaiters (x.fn) id 3 dt fun _ => true

/-! ## Fault records (R402 to R408) -/

/-- The stallable causes of R403. -/
def stallable (cause : Nat) : Bool := cause == 1 || cause == 2 || cause == 3

/-- The 64 bytes of a fault record (R402). -/
def FaultRec.bytes (r : FaultRec) : List Byte :=
  leBytes 8 r.dt ++ leBytes 4 r.seq ++ leBytes 1 r.island ++ leBytes 1 r.flags ++ leBytes 1 r.cause ++ leBytes 1 r.gen ++
  leBytes 1 r.comp ++ leBytes 1 0 ++ leBytes 2 r.engine ++ leBytes 4 r.ctx ++ leBytes 8 r.addr ++ leBytes 8 r.pos ++
  leBytes 4 r.code ++ leBytes 4 r.count ++ (r.detail ++ zeros 16).take 16

/-- The base of the device fault log and the place of its count in the crash-dump region (R417). -/
def logBase : Nat := 0x01A7E0001000

/-- Append a record to the device fault log: the record's bytes and the header's count, with selector 0 (R404, R417). -/
def State.logRecord (s : State) (r : FaultRec) : State :=
  let s := (s.writePhys .fw 0 (logBase + s.logWr % 65536 * 64) r.bytes).s
  let s := { s with logWr := s.logWr + 1 }
  (s.writePhys .fw 0 0x01A7E0000028 (leBytes 8 s.logWr)).s

/-- Whether the fault ring of function `f` is full or counts as full (R405). -/
def State.fltFull (s : State) (f : Nat) : Bool :=
  s.fld F.FLT_RING_BASE_enable f == 0 || !s.hostUp (f / 64) ||
    ((s.fn f).fltWr + 2 ^ 32 - s.fld F.FLT_RING_RD_rd f) % 2 ^ 32 == 4096

/-- Write one record into the ring of `f` and make the header's count visible; the FAULT cookie follows (R404, R405). -/
def State.fltPut (s : State) (f : Nat) (r : FaultRec) : State :=
  let base := s.fld F.FLT_RING_BASE_base f * 4096
  let wr := (s.fn f).fltWr
  let s := s.hostStore (f / 64) (base + 0x1000 + wr % 4096 * 64) r.bytes
  let s := s.hostStore (f / 64) base (leBytes 8 (wr + 1))
  let s := (s.setFn f { s.fn f with fltWr := wr + 1 }).setFld F.FLT_RING_STATUS_wr f ((wr + 1) % 2 ^ 32)
  s.raise f { kind := 8, status := r.cause, payload := r.comp, dt := r.dt, vector := 0 }

/-- Note the first record that finds the ring full after it last had space (R408). -/
def State.fltOverflow (s : State) (f : Nat) (r : FaultRec) : State :=
  if s.fld F.FLT_RING_STATUS_overflow f = 1 then s
  else
    let base := s.fld F.FLT_RING_BASE_base f * 4096
    let s := (s.setFld F.FLT_RING_STATUS_overflow f 1).hostStore (f / 64) (base + 8) (leBytes 8 1 ++ leBytes 8 r.dt)
    let s := s.msix f (s.fld F.FLT_RING_BASE_fault_vector f)
    s.logRecord { r with flags := r.flags ||| 8 }

/-- A record that names no context, or a context whose counter is full, is counted where R407 says. -/
def State.fltDrop (s : State) (f : Nat) (r : FaultRec) : State :=
  match s.ctxs.find r.ctx with
  | some c =>
    let n := satAdd (2 ^ 32 - 1) c.ovf 1
    { s with ctxs := s.ctxs.put r.ctx { c with ovf := n, ovfSat := c.ovfSat || n == 2 ^ 32 - 1 } }
  | none =>
    let s := s.bump F.FLT_RING_STATUS_lost f 1
    if s.fld F.FLT_RING_STATUS_lost f = 0xFFFF then s.setFld F.FLT_RING_STATUS_lost_sat f 1 else s

/-- A non-stallable record at a full ring (R407): it enters the empty merge buffer, merges with a match, or is dropped. -/
def State.fltMerge (s : State) (f : Nat) (r : FaultRec) : State :=
  match (s.fn f).merge with
  | none => s.setFn f { s.fn f with merge := some r }
  | some m =>
    if m.cause = r.cause ∧ m.engine = r.engine ∧ m.code = r.code then
      s.setFn f { s.fn f with merge := some { m with count := satAdd (2 ^ 32 - 1) m.count 1 } }
    else s.fltDrop f r

/-- Write a fault record (R404): to the device log always, to the ring of the composition's function where there is one. The Bool
says whether the record was written or needs no ring, so that a stallable engine may complete its fault action; `who` waits
with the record where the ring is full (R406). -/
def State.faultRec (s : State) (r : FaultRec) (who : Stalled) : State × Bool :=
  let s := s.logRecord r
  if r.comp = 0xFF ∨ r.cause = 0x10 then (s, true)
  else
    match s.attached r.comp with
    | none => (s, true)
    | some f =>
      if s.fltFull f || ((stallable r.cause) && !(s.fn f).stalled.isEmpty) || ((s.fn f).merge.isSome) then
        let s := s.when (s.fltFull f) fun s => s.fltOverflow f r
        if stallable r.cause then
          ((s.setFn f { s.fn f with stalled := (s.fn f).stalled ++ [({ r with flags := r.flags ||| 2 }, who)] }).setFld
            F.FLT_RING_STATUS_stalled f 1, false)
        else (s.fltMerge f r, true)
      else (s.fltPut f r, true)

/-- A fault record stamped by island `isl` (R307, R402), written under R404. -/
def State.report (s : State) (isl cause comp engine ctx addr pos code : Nat) (detail : List Byte) (who : Stalled) : State × Bool :=
  let (st, s) := s.stamp isl
  let r : FaultRec :=
    { dt := st.1, seq := st.2, island := isl, flags := if stallable cause then 1 else 0, cause := cause,
      gen := s.fld F.FLT_ISL_STAT_gen isl, comp := comp, engine := engine, ctx := ctx, addr := addr, pos := pos, code := code,
      count := 1, detail := detail }
  s.faultRec r who

/-- A fault record of the device that stalls nothing: no composition, no context. -/
def State.reportDev (s : State) (isl cause engine addr code : Nat) (detail : List Byte) : State :=
  (s.report isl cause 0xFF engine 0xFFFFFFFF addr 0 code detail .none).1

/-- A reading of "no context" in a record. -/
def noCtx : Nat := 0xFFFFFFFF

/-! ## Trace records (R310, R312, R313) -/

/-- Whether composition `c` runs in confidential mode (R438), a quarantine composition as the composition of its suspect does (R439). -/
def State.confidential (s : State) (c : Nat) : Bool :=
  let on (k : Nat) : Bool := decide (k < 64) && s.fld F.SEC_COMP_CFG_confidential k == 1
  on c || (s.comp c).quarantine.any on

/-- Whether buffer `i` takes the record: enabled, and its filter accepts it (R312, R315). -/
def State.silAccepts (s : State) (i : Nat) (r : SilRec) : Bool :=
  s.fld F.TIM_SIL_CFG_enable i == 1 &&
    (if r.comp = 0xFF then s.fld F.TIM_SIL_CFG_dev i == 1
     else bits (s.reg .TIM_SIL_FILT i).toNat r.comp r.comp == 1 &&
       (r.engine / 4096 != 2 || s.fld F.TIM_SIL_CFG_core_trace i == 1))

/-- Count a dropped record of buffer `i` (R312). -/
def State.silDrop (s : State) (i : Nat) : State :=
  { s.bump F.TIM_SIL_LOST_lost i 1 with silLoss := (s.silLoss.put i (satAdd (2 ^ 32 - 1) (s.silLoss.get i 0) 1)) }

/-- Generate a trace record in the FIFO of its island's half; at a full FIFO it is dropped and counted in every buffer that would
take it; a confidential composition generates none (R312, R313). -/
def State.trace (s : State) (isl kind comp status layer operator engine ctx arg : Nat) : State :=
  if s.confidential comp then s
  else
    let (st, s) := s.stamp isl
    let r : SilRec := { dt := st.1, seq := st.2, island := isl, kind := kind, comp := comp, status := status, layer := layer,
                        operator := operator, engine := engine, ctx := ctx, arg := arg }
    let h := if islEast isl then 1 else 0
    let q := s.sil.get h []
    if q.length < 4096 then { s with sil := s.sil.put h (q ++ [r]) }
    else (List.range 16).foldl (fun s i => if s.silAccepts i r then s.silDrop i else s) s

/-- A late timed action writes a TIMED record (R300). -/
def State.lateRecord (s : State) (isl comp engine ctx late : Nat) : State :=
  s.trace isl 3 comp 0 0 0 engine ctx (min late (2 ^ 32 - 1))

/-- Whether an island has FAB error registers (R264). -/
def fabCounted (seg : Nat) : Bool := seg == 136 || seg == 137 || (decide (140 ≤ seg) && decide (seg ≤ 147))

/-- Count a corrected word or an uncorrectable one of a fabric island (R262, R264). -/
def State.fabCount (s : State) (seg : Nat) (unc : Bool) : State :=
  if !fabCounted seg then s
  else if unc then s.bumpEvent F.FAB_ERR_CNT_unc (some F.FAB_ERR_STK_unc_sat) (seg - 136) seg
  else s.bumpEvent F.FAB_ERR_CNT_cor (some F.FAB_ERR_STK_cor_sat) (seg - 136) seg

/-- An uncorrectable word on the fabric: its count and its record (R262, R403). -/
def State.fabUnc (s : State) (seg code : Nat) : State :=
  (s.fabCount seg true).reportDev seg 7 (engineCode 7 seg) 0 code []

end Sys2Proof.Machine
end

