-- ==== Sys2Proof/Machine/Domains.lean ====
section
/-! DEFINITION. Machine/Domains.lean: gating and waking of domains (R24 to R36), what a domain loses (R24), the requests of
PWR_DOM_CTL (R457). -/
namespace Sys2Proof.Machine

/-! ## What a domain loses (R24) -/

/-- The state with copy `i` of a register at its reset value. -/
def State.resetReg (s : State) (r : RegName) (i : Nat) : State := s.setReg r i (r.resetWord i)

/-- The DMA channels and the engine of cluster `cl` as after reset. -/
def State.clearEngine (s : State) (cl : Nat) : State :=
  let s := (List.range 16).foldl (fun s j => chanRegs.foldl (fun s r => s.resetReg r (16 * cl + j)) s) (s.resetReg .DMA_ENG_STATUS cl)
  { s with chans := s.chans.clear (16 * cl) (16 * cl + 16), indexSerial := s.indexSerial.del cl, idxLines := s.idxLines.del cl,
           watches := s.watches.filter fun w => w.src / 16 != cl && w.waiter / 16 != cl }

/-- Whether a translation unit lies in cluster `cl`. -/
def unitIn (u : TlbUnit) (cl : Nat) : Bool :=
  match u with
  | .load n | .store n => n / 8 == cl
  | .eng e => e == cl
  | .half _ => false

/-- The micro-TLBs of cluster `cl` lose their contents, and their misses end (R230). -/
def State.dropTlbs (s : State) (cl : Nat) : State :=
  { s with tlbs := s.tlbs.filter (fun e => !unitIn e.1 cl), misses := s.misses.filter fun m => !unitIn m.unit cl }

/-- A cluster loses its scratchpads, accumulators and registers. -/
def State.loseCluster (s : State) (cl : Nat) : State :=
  let s := (s.wipe (scratchBase (8 * cl)) (scratchBase (8 * cl + 8))).dropTlbs cl
  { s.clearEngine cl with
      accs := s.accs.clear (32 * cl) (32 * cl + 32), res := s.res.clear (16 * cl) (16 * cl + 16),
      icache := s.icache.clear (8 * cl) (8 * cl + 8), flagWatch := s.flagWatch.clear (16 * cl) (16 * cl + 16) }

/-- Whether a far-memory address belongs to the PHY pair with island identity `i` (R170). -/
def inPair (i a : Nat) : Bool := isFar a && memIsl a == i

/-- A PHY pair loses the contents of both channels: every 256-byte piece that R170 places in them. -/
def State.losePair (s : State) (i : Nat) : State :=
  { s with mem := s.mem.filter fun e => !inPair i e.1,
           tags := s.tags.filter fun e => !inPair i (64 * e.1),
           poison := s.poison.filter fun e => !inPair i (64 * e.1),
           seals := s.seals.filter fun e => !inPair i (64 * e.1),
           metas := s.metas.filter fun e => !inPair i (64 * e.1) }

/-! ## Refusals (R20, R28, R317, R457) -/

/-- Whether a cluster is bound: any of its cores or of its engine's channels is bound to a composition (R317). -/
def State.clusterBound (s : State) (cl : Nat) : Bool :=
  (s.coreOwner.any fun e => e.1 / 8 == cl) || (s.chanOwner.any fun e => e.1 / 16 == cl)

/-- Whether a composition homed on a command processor of island `i` is not FREE (R20). -/
def State.homesBusy (s : State) (i : Nat) : Bool :=
  (List.range 64).any fun c => cpIsl (s.fld F.SCH_COMP_CFG_home_cp c) == i && s.fld F.CMP_STATUS_state c != 0

/-- Whether a domain that depends on `i` is ON (R28). -/
def State.dependentOn (s : State) (i : Nat) : Bool :=
  (List.range 148).any fun j => (s.dom j).state == .on && (depsOf j).contains i

/-- Whether the device winds down or is PARKED by a drydown (R455 to R457). -/
def State.dry (s : State) : Bool := decide (2 ≤ s.fld F.PWR_TARGET_STATUS_dev_state 0)

/-- Result codes of PWR_DOM_STATUS (R457). -/
def domOk : Nat := 0
/-- A gate refused because a domain that depends on it is ON. -/
def domDependent : Nat := 1
/-- A gate of a bound cluster, or of the home of a composition that is not FREE. -/
def domBound : Nat := 2
/-- A tripped domain, a drydown, a ladder step. -/
def domProtected : Nat := 3
/-- An island or an action that does not suit. -/
def domInvalid : Nat := 4
/-- A gating or a wake that failed. -/
def domFailed : Nat := 5

/-- Whether a gate request is refused, and with which result. -/
def State.gateRefusal (s : State) (i : Nat) : Option Nat :=
  if s.dependentOn i then some domDependent
  else if domKind i = .cl ∧ s.clusterBound i then some domBound
  else if (i = 141 ∨ i = 146) ∧ s.homesBusy i then some domBound
  else none

/-! ## Service of requests (R28, R29, R32) -/

/-- The result of the request of PWR_DOM_CTL, where this island's request was one of its. -/
def State.domResult (s : State) (i r : Nat) : State :=
  if s.power.domReq.isSome ∧ s.fld F.PWR_DOM_STATUS_island 0 = i then
    ((s.setFld F.PWR_DOM_STATUS_result 0 r).setFld F.PWR_DOM_STATUS_busy 0 0) |> fun s => { s with power := { s.power with domReq := none } }
  else s

/-- The result of a request, reported where the request came from PWR_DOM_CTL. -/
def State.reqResult (s : State) (i : Nat) (q : DomReq) (r : Nat) : State := if q.byCtl then s.domResult i r else s

/-- Put a request into the queue of a domain in DT order, a wake before a gate of equal DT (R32). -/
def insertReq (l : List DomReq) (q : DomReq) : List DomReq :=
  let before (x : DomReq) : Bool := decide (x.at_ < q.at_) || (x.at_ == q.at_ && !(q.toward == .on && x.toward != .on))
  l.filter before ++ [q] ++ l.filter fun x => !before x

/-- Begin a transition of domain `i`. -/
def State.beginTrans (s : State) (i : Nat) (t : DomTrans) : State := s.setDom i { s.dom i with trans := t }

/-- What serving the front request of a domain did: nothing to do or a transition begun; answered, so that the next follows;
waiting for the domains it depends on. -/
inductive Served where
  | busy | answered | waits
  deriving DecidableEq, Repr

/-- Serve the request at the front of domain `i`'s queue, where no transition is in progress. -/
def State.serveOne (s : State) (i : Nat) : State × Served :=
  let d := s.dom i
  if d.trans != .none then (s, .busy)
  else
    match d.queue with
    | [] => (s, .busy)
    | q :: rest =>
      let drop := s.setDom i { d with queue := rest, last := some q }
      if q.toward = d.state then (drop.reqResult i q domOk, .answered)
      else if d.tripped || s.ladderOn.contains i then (drop.reqResult i q domProtected, .answered)
      else
        match q.toward with
        | .on =>
          if (depsOf i).all fun j => s.domOn j then (drop.beginTrans i (.waking d.state s.aon.dt), .busy) else (s, .waits)
        | .off =>
          match s.gateRefusal i with
          | some r => (drop.reqResult i q r, .answered)
          | none => (drop.beginTrans i (.gating .off s.aon.dt), .busy)
        | .retain =>
          if d.state = .on then (drop.beginTrans i (.gating .retain s.aon.dt), .busy)
          else (s.setDom i { d with queue := { toward := .on, at_ := q.at_, byCtl := false } :: q :: rest }, .answered)

/-- Serve a domain's queue until a transition runs, nothing is left, or it waits. `fuel` counts requests. -/
def State.serve (s : State) (fuel i : Nat) : State × Served :=
  match fuel with
  | 0 => (s, .busy)
  | k + 1 =>
    let q := s.serveOne i
    if q.2 = .answered then q.1.serve k i else q

/-- Whether a transition takes domain `d` toward ON. -/
def Dom.isWaking (d : Dom) : Bool :=
  match d.trans with
  | .waking _ _ => true
  | _ => false

/-- Bring ON the domains that a domain depends on, those of no dependence first (R28): those not ON take a wake, one that is being gated
once its gating has ended (R32). -/
def State.wakeDeps (s : State) (i : Nat) : State :=
  (depsOf i).foldl (fun s j =>
    let d := s.dom j
    if s.domOn j || d.isWaking || d.queue.any (·.toward == .on) then s
    else ((s.setDom j { d with queue := insertReq d.queue { toward := .on, at_ := s.aon.dt, byCtl := false } }).serve 4 j).1) s

/-- Serve domain `i`; where its request waits for others, wake those. -/
def State.serveDom (s : State) (i : Nat) : State :=
  let q := s.serve 8 i
  if q.2 = .waits then q.1.wakeDeps i else q.1

/-- Serve every domain that waits, as when one has come ON. -/
def State.serveWaiting (s : State) : State :=
  s.doms.foldl (fun s e => if (s.dom e.1).queue.isEmpty then s else s.serveDom e.1) s

/-- The gate request that was served at DT `now` on its arrival, where a wake that arrives at this DT goes before it (R32): one whose gating
runs, or one that found the domain without power. -/
def Dom.gateBefore (d : Dom) (now : Nat) : Option DomReq :=
  d.last.filter fun g => g.toward != .on && g.at_ == now &&
    match d.trans with
    | .gating _ t => t == now
    | .waking _ _ => false
    | .none => d.state != .on

/-- A request for domain `i` to enter a state arrives at the power controller. A wake that arrives at the DT of a gate request already served
counts as served before it: the domain was ON, or is woken and then gated (R32). -/
def State.requestDom (s : State) (i : Nat) (toward : DomState) (byCtl : Bool) : State :=
  let d := s.dom i
  let q : DomReq := { toward := toward, at_ := s.aon.dt, byCtl := byCtl }
  match (d.gateBefore s.aon.dt).filter fun _ => toward == .on with
  | some g =>
    if d.trans != .none then s.reqResult i q domOk
    else (s.setDom i { d with queue := q :: { g with byCtl := false } :: d.queue, last := none }).serveDom i
  | none => (s.setDom i { d with queue := insertReq d.queue q }).serveDom i

/-! ## The rows of gating and waking -/

/-- GATE_REQUEST: a request to gate domain `i`, into RETAIN where `retain` and its kind offers it (R28, R29, R32). -/
def execGateRequest (i : Nat) (retain : Bool) (s : State) : Out :=
  checked (decide (i < 148))
    (let k := domKind i
     let toward : DomState := if retain && (k == .nm || k == .fmp) then .retain else .off
     if k = .seam then s else s.requestDom i toward false)

/-- Whether island `i` has an outstanding entry: a request it issued that has had no reply (R29, R412). -/
def State.islBusy (s : State) (i : Nat) : Bool := s.outst.any fun e => e.1 / 65536 == i

/-- DOMAIN_WAKE: a request to bring domain `i` to ON; the domains it depends on come first (R28, R29). -/
def execDomainWake (i : Nat) (s : State) : Out :=
  checked (decide (i < 148)) (if domKind i = .seam then s else s.requestDom i .on false)

/-- The queued requests of domain `j` for a state that a failed wake leaves without their ground end: FAILED where PWR_DOM_CTL made
them (R34). -/
def State.failWakes (s : State) (toward : DomState) (j : Nat) : State :=
  let hit := (s.dom j).queue.filter fun q => q.toward == toward && (toward == .on || q.byCtl)
  let s := s.setDom j { s.dom j with queue := (s.dom j).queue.filter fun q => !hit.contains q }
  s.when (hit.any fun q => q.byCtl) fun s => s.domResult j domFailed

/-- Whether the kind of domain `i` offers a clock (R24). -/
def clockOffered (i mhz : Nat) : Bool :=
  match domKind i with
  | .cl => decide (600 ≤ mhz) && decide (mhz ≤ 1900) && mhz % 50 == 0
  | .fab => mhz == 1600 || mhz == 800 || mhz == 400
  | _ => mhz == domMhz i

/-- The clock of a domain. -/
def State.setMhz (s : State) (i mhz : Nat) : State := s.setDom i { s.dom i with mhz := mhz }

/-- CLOCK_CHANGE: the clock of an ON domain changes to one that its kind offers; nothing in flight is lost (R24, R35). -/
def execClockChange (i mhz : Nat) (s : State) : Out :=
  checked (decide (i < 148)) (if (s.dom i).state = .on ∧ clockOffered i mhz then s.setMhz i mhz else s)

/-! ## PWR_DOM_CTL (R457) -/

/-- Take a request of PWR_DOM_CTL for island `i` to a state: ignored while one is in progress; INVALID, PROTECTED, or served. -/
def State.domCtl (s : State) (i action : Nat) (toward : DomState) : State :=
  if s.fld F.PWR_DOM_STATUS_busy 0 = 1 then s
  else
    let s := s.setFld F.PWR_DOM_STATUS_island 0 i
    let answer (r : Nat) : State := s.setFld F.PWR_DOM_STATUS_result 0 r
    let k := domKind i
    if 148 ≤ i ∨ k = .seam ∨ (toward = .retain ∧ k ≠ .nm ∧ k ≠ .fmp) then answer domInvalid
    else if s.dry || (s.dom i).tripped || s.ladderOn.contains i ||
        (toward == .on && (depsOf i).any fun j => (s.dom j).state != .on && s.ladderOn.contains j) then answer domProtected
    else
      let s := (s.setFld F.PWR_DOM_STATUS_busy 0 1).setFld F.PWR_DOM_STATUS_result 0 0
      { s with power := { s.power with domReq := some action } } |>.requestDom i toward true

/-- DOM_WAKE: PWR_DOM_CTL action 1 (R28, R457). -/
def execDomWake (i : Nat) (s : State) : Out := checked (decide (i < 256)) (s.domCtl i 1 .on)

/-- DOM_GATE: PWR_DOM_CTL action 2 (R28, R457). -/
def execDomGate (i : Nat) (s : State) : Out := checked (decide (i < 256)) (s.domCtl i 2 .off)

/-- DOM_RETAIN: PWR_DOM_CTL action 3 (R457). -/
def execDomRetain (i : Nat) (s : State) : Out := checked (decide (i < 256)) (s.domCtl i 3 .retain)

end Sys2Proof.Machine
end

