-- ==== Sys2Proof/Machine/Access.lean ====
section
/-! DEFINITION. Machine/Access.lean: a half asleep (R255 to R258), and accesses that wait: for a half that wakes (R255), for a partner's answer
(R175) or for the request ledger (R180, R186). -/
namespace Sys2Proof.Machine

/-! ## A half asleep (R255 to R258) -/

/-- The wake latency that a retry DT counts (R256). -/
def State.wakeLatency (s : State) (isl : Nat) : Nat :=
  if (s.dom isl).state = .retain then (if domKind isl = .nm then 40000 else if domKind isl = .fmp then 54000 else 22000) else 22000

/-- The retry DT of a half-asleep NACK (R256). -/
def State.retryDt (s : State) (isl : Nat) : Nat :=
  let m := meshOfIsl isl
  match (s.dom m).trans with
  | .waking _ t => t + s.wakeLatency isl
  | .gating _ t => s.aon.dt + (t + 26200 - s.aon.dt) + s.wakeLatency isl
  | .none => s.aon.dt + s.wakeLatency isl

/-- Whether the power controller will not wake a half: the device winds down, its mesh segment has tripped, or a reset step holds it
(R255, R411). -/
def State.wakeRefused (s : State) (mesh : Nat) : Bool := s.dry || (s.dom mesh).tripped || s.ladderOn.contains mesh

/-- A seam segment raises the wake of the mesh segment of island `isl`, and of the island where it is memory in RETAIN (R255, R257). -/
def State.seamWake (s : State) (isl : Nat) : State :=
  let m := meshOfIsl isl
  let up (s : State) (i : Nat) : State :=
    (s.when (!s.seamWakes.contains (seamOf m, i)) fun s => { s with seamWakes := s.seamWakes ++ [(seamOf m, i)] }).requestDom i .on false
  let s := up s m
  if (s.dom isl).state = .retain then up s isl else s

/-- A seam segment has answered a half-asleep NACK for island `isl`: its count, and the wakes it raises (R255, R263). -/
def State.sleepCount (s : State) (isl : Nat) : State := (s.bump F.FAB_SEAM_STATUS_nacks (seamOf (meshOfIsl isl)) 1).seamWake isl

/-- A half-asleep NACK for an outstanding entry, held at its injection point until the retry DT (R255, R256). -/
def State.sleepNack (s : State) (key isl : Nat) : State := { s with nacked := s.nacked.put key (s.retryDt isl) }.sleepCount isl

/-- Whether a request crosses the seam into a half that is asleep (R255). -/
def State.intoSleep (s : State) (isl a : Nat) : Bool :=
  let d := memIsl a
  d != 255 && isl != 255 && islEast d != islEast isl && s.asleep (islEast d)

/-! ## Accesses of a unit in progress (R31, R160, R255) -/

/-- What an access answers: the state, the status, the data; or that it has had no answer yet (`wait`), and the state says why. -/
structure MemAns where
  s : State
  st : MemStatus
  data : List Byte
  wait : Bool
  deriving DecidableEq, Repr

/-- An access that has been answered. -/
def LineResult.done (r : LineResult) : MemAns := ⟨r.s, r.st, r.data, false⟩

/-- The access of a unit to a line that its injection point holds. -/
def State.heldAt (s : State) (o : Owner) (a : Nat) : Option HeldAcc := s.heldAcc.find? fun h => h.own == o && h.line == a / 64

/-- The state without that held access: it has been sent once more. -/
def State.unhold (s : State) (o : Owner) (a : Nat) : State := { s with heldAcc := s.heldAcc.filter fun h => !(h.own == o && h.line == a / 64) }

/-- Whether an access has to wait for a half that is asleep, with the state that holds it (R255): the first try is answered by a NACK and held; the
access is made at its retry DT, whatever it then meets. None: it is made now. -/
def State.sleepWait (s : State) (w : Who) (sel a : Nat) : Option State :=
  match s.heldAt w.own a with
  | some h => if s.aon.dt < h.retry then some s else none
  | none =>
    let d := memIsl a
    if s.intoSleep (ownerIsl w.own) a && s.judge w sel a == .islandOff && !s.wakeRefused (meshOfIsl d) then
      some { s.sleepCount d with heldAcc := s.heldAcc ++ [{ own := w.own, line := a / 64, retry := s.retryDt d, sync := false }] }
    else none

/-- Whether a flag write has to wait in a SYNC hold buffer for a half that is asleep, with the state that holds it: the wake is raised, and the write
is delivered once the mesh segment is ON (R257). -/
def State.syncHeld (s : State) (w : Who) (a : Nat) : Option State :=
  let d := memIsl a
  if s.intoSleep (ownerIsl w.own) a && !s.wakeRefused (meshOfIsl d) then
    some (if (s.heldAt w.own a).isSome then s
          else { s.seamWake d with heldAcc := s.heldAcc ++ [{ own := w.own, line := a / 64, retry := 0, sync := true }] })
  else none

end Sys2Proof.Machine
end

