-- ==== Sys2Proof/Machine/Translate.lean ====
section
/-! DEFINITION. Machine/Translate.lean: address translation (R220 to R224, R230, R231, R233, R237, R239): the walk of the mirror, the TLBs and
walkers before it, the misses and their slots, the permissions of the leaf; the dirty log of a write (R240, R241). -/
namespace Sys2Proof.Machine

/-- The permissions an access needs (R223). -/
structure Need where
  r : Bool
  w : Bool
  x : Bool
  deriving DecidableEq, Repr

/-- The needs of R223's rows. -/
def needR : Need := ⟨true, false, false⟩
/-- Write access. -/
def needW : Need := ⟨false, true, false⟩
/-- Atomics, flag writes and work-list headers. -/
def needRW : Need := ⟨true, true, false⟩
/-- Instruction fetch. -/
def needX : Need := ⟨true, false, true⟩

/-- The result of a translation: the physical address and the leaf, a fault (R239), or none yet: the unit waits for a walk (R230, R231). -/
inductive Xlate where
  | ok (pa leaf : Nat)
  | transFault
  | permFault
  | waits
  deriving DecidableEq, Repr

/-- The physical base of partition `p` of stack `st` (R163). -/
def partBase (st p : Nat) : Nat := st * 0x60000000 + p * 0x10000000

/-- The physical address of the root table: the partition that TLX_POOL0 names (R225). -/
def State.rootBase (s : State) : Nat := partBase (s.fld F.TLX_POOL_stack 0) (s.fld F.TLX_POOL_part 0)

/-- The root entry of a tag (R221). -/
def State.rootEntry (s : State) (tag : Nat) : Nat := s.word (s.rootBase + 8 * tag)

/-- The address of the entry of a virtual address in the table at `t` of a level (R220). -/
def entryAt (t level va : Nat) : Nat :=
  t + 8 * (if level = 0 then bits va 51 39 else if level = 1 then bits va 38 30 else if level = 2 then bits va 29 21 else bits va 20 16)

/-- The bytes a leaf of a level maps (R220). -/
def pageSize (level : Nat) : Nat := if level = 1 then 0x40000000 else if level = 2 then 0x200000 else 0x10000

/-- The next-level table that a non-leaf entry names (R222). -/
def nextTable (e : Nat) : Nat := bits e 47 8 * 256

/-- The physical page of a leaf (R222). -/
def leafPage (e : Nat) : Nat := bits e 47 16 * 65536

/-- Whether an entry is valid, and whether it is a leaf at its level. -/
def entryValid (e : Nat) : Bool := bits e 0 0 == 1
/-- A leaf entry (R222). -/
def entryLeaf (e : Nat) : Bool := bits e 1 1 == 1

/-- Walk from the table at `t` of `level`; `fuel` counts the levels left. -/
def State.walkFrom (s : State) (fuel tag level t va : Nat) : Option TlbEntry :=
  match fuel with
  | 0 => none
  | k + 1 =>
    let e := s.word (entryAt t level va)
    if !entryValid e then none
    else if entryLeaf e then
      if level = 0 then none
      else some { tag := tag, va := va / pageSize level * pageSize level, size := pageSize level, leaf := e }
    else s.walkFrom k tag (level + 1) (nextTable e) va

/-- The translation that the mirror gives for a virtual address of a tag: the pinned table alone in a pinned space (R233), else the
walk of four levels (R220). -/
def State.walk (s : State) (tag va : Nat) : Option TlbEntry :=
  let root := s.rootEntry tag
  if bits root 63 63 = 0 then none
  else if bits root 62 62 = 1 then s.pinned.find? fun e => e.tag == tag && decide (e.va ≤ va) && decide (va < e.va + e.size)
  else s.walkFrom 4 tag 0 (bits root 47 16 * 65536) va

/-- The domain of a translation unit; the second-level TLB and the walkers of a half stand in its command processors' mesh (DEDUCED, log 45). -/
def unitIsl (u : TlbUnit) : Nat :=
  match u with
  | .load n | .store n => n / 8
  | .eng e => e
  | .half h => if h = 0 then 141 else 146

/-- Whether a translation unit exists. -/
def unitOk (u : TlbUnit) : Bool :=
  match u with
  | .load n | .store n => decide (n < 672)
  | .eng e => decide (e < 84)
  | .half h => decide (h < 2)

/-- The entries a unit holds (R230). -/
def unitSize (u : TlbUnit) : Nat :=
  match u with
  | .half _ => 32768
  | _ => 64

/-- The half whose second-level TLB and walkers serve a unit (R230). -/
def unitHalf (u : TlbUnit) : Nat := if islEast (unitIsl u) then 1 else 0

/-- The set of the second-level TLB in which an entry stands: its page number modulo the 4,096 sets (DESIGN CHOICE, log 118). -/
def TlbEntry.set (e : TlbEntry) : Nat := e.va / e.size % 4096

/-- The entries of a unit that a new entry shares its places with: all of a micro-TLB, one set of a second-level TLB (R230). -/
def sameSet (u : TlbUnit) (a b : TlbEntry) : Bool :=
  match u with
  | .half _ => a.set == b.set
  | _ => true

/-- The places that a new entry competes for: 64 in a micro-TLB, the 8 ways of a set (R230). -/
def unitWays (u : TlbUnit) : Nat :=
  match u with
  | .half _ => 8
  | _ => 64

/-- A unit takes an entry; the oldest of those it shares its places with goes where there are too many (DESIGN CHOICE, log 118); entries
stand newest first. -/
def State.fillTlb (s : State) (u : TlbUnit) (e : TlbEntry) : State :=
  let rest := s.tlbs.filter fun x => x != (u, e)
  let keep := ((rest.filter fun x => x.1 == u && sameSet u x.2 e).take (unitWays u - 1))
  { s with tlbs := (u, e) :: rest.filter fun x => !(x.1 == u && sameSet u x.2 e) || keep.contains x }

/-- The entry of a unit for an address of a tag. -/
def State.cached (s : State) (u : TlbUnit) (tag va : Nat) : Option TlbEntry :=
  (s.tlbs.find? fun e => e.1 == u && e.2.tag == tag && decide (e.2.va ≤ va) && decide (va < e.2.va + e.2.size)).map (·.2)

/-! ## Walkers (R230, R237) -/

/-- The cached non-leaf entry of a half that names the table of a level for an address. -/
def State.nonLeafAt (s : State) (h tag level va : Nat) : Option NonLeaf :=
  let span := if level = 1 then 0x8000000000 else if level = 2 then 0x40000000 else 0x200000
  s.nonLeafs.find? fun n => n.half == h && n.tag == tag && n.level == level && n.va == va / span * span

/-- A walk by a walker of half `h`: from the lowest table that its cache of non-leaf entries names, else from the root entry. -/
def State.walkIn (s : State) (h tag va : Nat) : Option TlbEntry :=
  match s.nonLeafAt h tag 3 va, s.nonLeafAt h tag 2 va, s.nonLeafAt h tag 1 va with
  | some n, _, _ => s.walkFrom 1 tag 3 n.table va
  | none, some n, _ => s.walkFrom 2 tag 2 n.table va
  | none, none, some n => s.walkFrom 3 tag 1 n.table va
  | none, none, none => s.walk tag va

/-- The non-leaf entries that a walk from the table at `t` of `level` reads. `fuel` counts levels. -/
def State.nonLeafsOn (s : State) (fuel h tag level t va : Nat) : List NonLeaf :=
  match fuel with
  | 0 => []
  | k + 1 =>
    let e := s.word (entryAt t level va)
    if !entryValid e || entryLeaf e then []
    else
      let span := if level = 0 then 0x8000000000 else if level = 1 then 0x40000000 else 0x200000
      { half := h, tag := tag, level := level + 1, va := va / span * span, table := nextTable e } :: s.nonLeafsOn k h tag (level + 1) (nextTable e) va

/-- The state after a walk in half `h`: the non-leaf entries it read stand in the half's cache of 256 (R230). -/
def State.cacheWalk (s : State) (h tag va : Nat) : State :=
  let new := s.nonLeafsOn 3 h tag 0 (bits (s.rootEntry tag) 47 16 * 65536) va
  let rest := s.nonLeafs.filter fun n => !new.contains n
  { s with nonLeafs := new ++ (rest.filter fun n => n.half == h).take (256 - new.length) ++ rest.filter fun n => n.half != h }

/-! ## Misses (R230, R231) -/

/-- Give the free walkers of each half, of its 32, to the misses that wait, in arrival order (R230). -/
def State.startWalks (s : State) : State :=
  let go (st : List Miss × List Nat) (m : Miss) : List Miss × List Nat :=
    let h := unitHalf m.unit
    let busy := st.2.getD h 0
    if m.walking then (st.1 ++ [m], st.2)
    else if m.fault || decide (32 ≤ busy) then (st.1 ++ [m], st.2)
    else (st.1 ++ [{ m with walking := true }], st.2.set h (busy + 1))
  let busy := [0, 1].map fun h => (s.misses.filter fun m => m.walking && unitHalf m.unit == h).length
  { s with misses := (s.misses.foldl go ([], busy)).1 }

/-- The slot that a new miss of a requester takes: its own (false), one of the unit's 16 shared ones (true), or none (R231). -/
def State.freeSlot (s : State) (u : TlbUnit) (q : Requester) : Option Bool :=
  if !(s.misses.any fun m => m.unit == u && m.req == q && !m.shared) then some false
  else if (s.misses.filter fun m => m.unit == u && m.shared).length < 16 then some true
  else none

/-- A requester misses on an address: it takes a slot, and a walker where one is free; with no slot it is held back (R230, R231). -/
def State.addMiss (s : State) (u : TlbUnit) (q : Requester) (tag va : Nat) (tile : Option Nat) : State :=
  match s.freeSlot u q with
  | none => s
  | some sh =>
    let m : Miss := { unit := u, req := q, tag := tag, page := va / 65536, shared := sh, walking := false, fault := false, tile := tile }
    { s with misses := s.misses ++ [m] }.startWalks

/-- The miss of a requester's access to an address: it waits for its walk; one whose walk has found no valid leaf takes its fault (R239). -/
def State.missed (s : State) (u : TlbUnit) (q : Requester) (tag va : Nat) : State × Xlate :=
  match s.misses.find? fun m => m.unit == u && m.req == q && m.tag == tag && m.page == va / 65536 && m.tile.isNone with
  | some m => if m.fault then ({ s with misses := s.misses.filter fun x => x != m }, .transFault) else (s, .waits)
  | none => (s.addMiss u q tag va none, .waits)

/-! ## Translation (R223, R224, R230, R233, R239) -/

/-- The translation that an entry gives an access with its needs; `dma` says whether the unit is a DMA engine (R223, R224). -/
def TlbEntry.grant (e : TlbEntry) (dma : Bool) (va : Nat) (need : Need) : Xlate :=
  let pa := leafPage e.leaf + (va - e.va)
  let r := bits e.leaf 2 2 == 1
  let w := bits e.leaf 3 3 == 1
  let x := bits e.leaf 4 4 == 1
  let scratch := match region pa with
    | .scratch _ => true
    | _ => false
  if (need.r && !r) || (need.w && !w) || (need.x && !x) || (scratch && !dma) then .permFault else .ok pa e.leaf

/-- Whether an address space is pinned (R233). -/
def State.pinnedTag (s : State) (tag : Nat) : Bool := bits (s.rootEntry tag) 62 62 == 1

/-- Translate for a requester of a unit: the pinned table alone in a pinned space (R233); the unit's own entry; the second-level entry of its
half, which the unit takes; else its miss (R230, R231). The second-level units, by which command processors translate, walk at once. -/
def State.translate (s : State) (u : TlbUnit) (q : Requester) (tag va : Nat) (need : Need) : State × Xlate :=
  let dma := match u with
    | .eng _ => true
    | _ => false
  if va ≥ 2 ^ 52 then (s, .transFault)
  else if s.pinnedTag tag then (s, ((s.walk tag va).map fun e => e.grant dma va need).getD .transFault)
  else
    match s.cached u tag va with
    | some e => (s, e.grant dma va need)
    | none =>
      match u with
      | .half h => (s, ((s.walkIn h tag va).map fun e => e.grant dma va need).getD .transFault)
      | _ =>
        match s.cached (.half (unitHalf u)) tag va with
        | some e => (s.fillTlb u e, e.grant dma va need)
        | none => s.missed u q tag va


/-- The key selector of a leaf (R222, R168). -/
def leafSel (e : Nat) : Nat := bits e 15 8

/-- The cause codes that a failed access carries: the status of R160, or 0x10 TRANSLATION and 0x11 PERMISSION as in R217. -/
def memCode (st : MemStatus) : Nat :=
  match st with
  | .ok => 0
  | .decode => 1
  | .islandOff => 2
  | .poison => 3
  | .integrity => 4
  | .absent => 5
  | .exportRefused => 6
  | .keyRefused => 7
  | .epochNack => 8

/-- The dirty-log buffer that the controllers write for a composition: the active one of gen, the other while a flip is in progress
(R240, R242, R243). -/
def State.dlogBase (s : State) (c : Nat) : Nat :=
  s.fld F.TLX_DLOG_CFG_base c * 0x400000 +
    (if s.fld F.TLX_DLOG_CFG_gen c ≠ s.fld F.TLX_DLOG_CFG_flip_busy c then 0x200000 else 0)

/-- The dirty-log bit of a page (R240). -/
def dlogBit (a : Nat) : Nat := if isFar a then 589824 + (a - 0x010000000000) / 65536 else a / 65536

/-- The filter of the controller that holds an address, for a composition, with a page put in front: 256 pages, the oldest going first
(R241; DESIGN CHOICE, log 118). -/
def State.filterPut (s : State) (isl c b : Nat) : State :=
  let mine (e : Nat × Nat × Nat) : Bool := e.1 == isl && e.2.1 == c
  { s with dlogFilter := (isl, c, b) :: ((s.dlogFilter.filter mine).take 255 ++ s.dlogFilter.filter fun e => !mine e) }

/-- The memory controller that performs a write to `a` sets the page's bit in the active buffer of composition `c`, unless its filter holds the
page; `log` is the leaf's log bit (R241). -/
def State.logWrite (s : State) (c : Nat) (log : Bool) (a : Nat) : State :=
  let c := s.actsFor c
  let b := dlogBit a
  let at_ := s.dlogBase c + b / 8
  if !log || s.fld F.TLX_DLOG_CFG_enable c != 1 || s.dlogFilter.contains (memIsl a, c, b) then s
  else ((s.filterPut (memIsl a) c b).writePhys .fw 0 at_ (leBytes 1 ((s.byte at_).toNat ||| 2 ^ (b % 8)))).s

/-- Log a write of composition `c` through a leaf (R222, R241). -/
def State.dirty (s : State) (c leaf a : Nat) : State := s.logWrite c (bits leaf 6 6 == 1) a

/-- The result of an access by virtual address: the state; its failure, the cause code and the failing virtual address; the data; or that it waits,
with nothing of it done, for a walk (R231), a half that wakes (R255), a partner's answer (R175) or the ledger (R180, R186). -/
structure VResult where
  s : State
  fail : Option MemFail
  data : List Byte
  wait : Bool
  deriving DecidableEq, Repr

/-- The pages of 64 KiB or more that `n` bytes from `va` touch, at most; one access is split at 64 KiB boundaries, which every
page size is a multiple of (R220). -/
def pagesOf (va n : Nat) : Nat := (va % 65536 + n + 65535) / 65536

/-- The composition and epoch that requests of composition `c` carry (R323). -/
def State.epochOf (s : State) (c : Nat) : Nat := s.fld F.CMP_EPOCH_epoch (s.actsFor c)

end Sys2Proof.Machine
end

