-- ==== Sys2Proof/Machine/Remote.lean ====
section
/-! DEFINITION. Machine/Remote.lean: requests to remote windows (R175, R176), the commit groups and the ledger (R179 to R186),
and accesses, by virtual or physical address, that reach either local or remote memory. -/
namespace Sys2Proof.Machine

/-- Whether port `k` is UP (PRT_STATUS state 5 of R291). -/
def State.portUp (s : State) (k : Nat) : Bool := s.fld F.PRT_STATUS_state k == 5

/-- The 64 bytes of a ledger entry (R180). -/
def Group.bytes (g : Group) : List Byte :=
  leBytes 8 g.seq ++ leBytes 1 g.state ++ leBytes 1 g.port ++ leBytes 1 g.alt ++ leBytes 1 g.mode ++ leBytes 2 g.comp ++
  leBytes 2 g.writes ++ leBytes 8 g.lo ++ leBytes 8 g.hi ++ leBytes 4 g.owner ++ leBytes 4 g.fence ++ leBytes 8 g.fenceValue ++
  leBytes 8 g.dtOpen ++ leBytes 8 g.dtCommit

/-- Write entry `i` to every ledger copy that is not lost (R180, R186). -/
def State.ledgerCopies (s : State) (i : Nat) (bytes : List Byte) : State :=
  let a := partBase (s.fld F.MEM_LEDGER_CFG_stack_a 0) (s.fld F.MEM_LEDGER_CFG_part_a 0) + 64 * i
  let b := partBase (s.fld F.MEM_LEDGER_CFG_stack_b 0) (s.fld F.MEM_LEDGER_CFG_part_b 0) + 64 * i
  let s := s.when (s.ledgerLost % 2 == 0) fun s => (s.writePhys .fw 0 a bytes).s
  s.when (s.ledgerLost / 2 == 0) fun s => (s.writePhys .fw 0 b bytes).s

/-- The state with ledger entry `i` holding `g`, in the table and in both copies. -/
def State.setGroup (s : State) (i : Nat) (g : Group) : State :=
  let s := { s with ledger := s.ledger.put i g }
  (s.setFld F.MEM_LEDGER_CFG_open 0 s.ledger.length).ledgerCopies i g.bytes

/-- The state with ledger entry `i` FREE. -/
def State.freeGroup (s : State) (i : Nat) : State :=
  let s := { s with ledger := s.ledger.del i }
  (s.setFld F.MEM_LEDGER_CFG_open 0 s.ledger.length).ledgerCopies i (zeros 64)

/-- The redundancy range of port `k` that holds a window offset, 16 for none (R182). -/
def State.rangeOf (s : State) (k off : Nat) : Nat :=
  ((List.range 16).find? fun r =>
    let i := 16 * k + r
    s.fld F.MEM_RRD_enable i == 1 && decide (s.fld F.MEM_RRD_base i ≤ off / 0x200000) &&
      decide (off / 0x200000 < s.fld F.MEM_RRD_base i + s.fld F.MEM_RRD_size i)).getD 16

/-- The sealing address of a window offset: the offset from the base of the redundancy range that holds it, else the window offset (R176). -/
def State.sealAddr (s : State) (k off : Nat) : Nat :=
  let r := s.rangeOf k off
  if r < 16 then off - s.fld F.MEM_RRD_base (16 * k + r) * 0x200000 else off

/-- Data cut into lines of 64 bytes; `fuel` counts lines. -/
def linesOfData (fuel : Nat) (data : List Byte) : List (List Byte) :=
  match fuel with
  | 0 => []
  | f + 1 => if data.isEmpty then [] else data.take 64 :: linesOfData f (data.drop 64)

/-- The key under which the lines of a selector are sealed: the key of its slot, or the device integrity key (R171). -/
def State.lineKey (s : State) (sel : Nat) : Nat := if sel = 0 then s.aon.intKey else (s.slots.get sel Slot.free).key

/-- The sealed form of data at a window offset, of at most four lines: ciphertext and one metadata word for each line, MAC below the key tag (R170, R171, R176). -/
def State.sealData (s : State) (sel k off : Nat) (data : List Byte) : List Byte × List Nat :=
  let a := s.sealAddr k off
  let cs := (linesOfData 4 data).zipIdx.map fun p => (Config.sealLine (s.lineKey sel) sel (s.installCount sel) (a + 64 * p.2) p.1, a + 64 * p.2)
  ((cs.map (·.1)).flatten, cs.map fun c => (Config.lineMac (s.lineKey sel) sel c.2 c.1).toNat + sel * 2 ^ 56)

/-- The index of the owner's group that still takes writes. -/
def State.openGroup (s : State) (owner : Nat) : Option (Nat × Group) :=
  s.ledger.find? fun e => e.2.owner == owner && e.2.state == 1

/-- Send COMMIT for group `i` (R179, R180): state COMMITTING in both copies, then the message. -/
def State.commitGroup (s : State) (i : Nat) : State :=
  match s.ledger.find i with
  | none => s
  | some g =>
    let s := s.setGroup i { g with state := 2, dtCommit := s.aon.dt }
    s.sendIn g.port g.cls { PortMsg.of 3 with group := g.seq, aux := g.mode } []

/-- Close the owner's open group, if it has one, by sending its COMMIT (R179). -/
def State.commitOwner (s : State) (owner : Nat) : State :=
  match s.openGroup owner with
  | some (i, _) => s.commitGroup i
  | none => s

/-- The lowest FREE entry of the ledger, none when all 65,536 are taken or the ledger is LOST (R180, R186). -/
def State.freeEntry (s : State) : Option Nat :=
  if s.ledgerLost = 3 then none else (List.range (s.ledger.length + 1)).find? fun i => decide (i < 65536) && (s.ledger.find i).isNone

/-- The fence and the value that the command on DMA channel `x` signals at its end, or 0xFFFF_FFFF (R180). -/
def State.chanFence (s : State) (x : Nat) : Nat × Nat :=
  match s.queues.findSome? fun e => e.2.cur.filter fun k => k.chan == some x with
  | some k => if bits k.rec_.flags 0 0 = 1 then (k.rec_.sigFence, k.rec_.sigValue) else (0xFFFFFFFF, 0)
  | none => (0xFFFFFFFF, 0)

/-- The fence and value of a ledger owner's operation; cores and command processors signal none with a group. -/
def State.groupFence (s : State) (owner : Nat) : Nat × Nat := if owner / 2 ^ 30 = 1 then s.chanFence (owner % 2 ^ 30) else (0xFFFFFFFF, 0)

/-- One remote write of 64 to 256 bytes: the owner's group is opened, or closed first where the write falls outside its range; the entry is
updated in both copies; the PREPARE leaves in the write's class; the 256th write commits (R175, R179, R180, R182, R187). -/
def State.prepareWrite (s : State) (w : Who) (k off : Nat) (data : List Byte) (sel : Nat) : State :=
  let owner := ownerLedger w.own
  let range := s.rangeOf k off
  let s := match s.openGroup owner with
    | some (i, g) => if g.port = k ∧ g.range = range then s else s.commitGroup i
    | none => s
  let s := match s.openGroup owner with
    | some _ => s
    | none =>
      match s.freeEntry with
      | none => s
      | some i =>
        let rr := 16 * k + range
        let inR := decide (range < 16)
        let g : Group :=
          { seq := s.groupSeq, state := 1, port := k,
            alt := if inR && s.fld F.MEM_RRD_mode rr != 0 then s.fld F.MEM_RRD_alt_port rr else 0xFF,
            altBase := if inR then s.fld F.MEM_RRD1_alt_base rr else 0,
            mode := if inR then s.fld F.MEM_RRD_mode rr else 0, range := range, comp := w.comp.getD 0, writes := 0, acked := 0,
            lo := off, hi := off, owner := owner, fence := (s.groupFence owner).1, fenceValue := (s.groupFence owner).2, dtOpen := s.aon.dt,
            dtCommit := 0, cls := w.cls, unacked := [] }
        { s.setGroup i g with groupSeq := s.groupSeq + 1 }
  match s.openGroup owner with
  | none => s
  | some (i, g) =>
    let g := { g with writes := g.writes + 1, lo := min g.lo off, hi := max g.hi off, unacked := g.unacked ++ [s.aon.dt] }
    let s := s.setGroup i g
    let sd := if sel = 0 then (data, []) else s.sealData sel k off data
    let m : PortMsg := { PortMsg.of 2 with sealedReq := sel ≠ 0, ndata := 1, tag := i, offset := off, group := g.seq, length := data.length,
                                           metaWords := sd.2 }
    let s := s.sendIn k w.cls m sd.1
    s.when (g.writes == 256) fun s => s.commitGroup i

/-- Whether every group of the owner has closed (R179). -/
def State.groupsClosed (s : State) (owner : Nat) : Bool :=
  s.ledger.all fun e => e.2.owner != owner || e.2.state == 4 || e.2.state == 5

/-- Whether a closed group of the owner is POISONED (R183). -/
def State.groupsPoisoned (s : State) (owner : Nat) : Bool := s.ledger.any fun e => e.2.owner == owner && e.2.state == 5

/-- Free the owner's closed groups, once its operation has taken notice of them. -/
def State.freeClosed (s : State) (owner : Nat) : State :=
  (s.ledger.filter fun e => e.2.owner == owner && (e.2.state == 4 || e.2.state == 5)).foldl (fun s e => s.freeGroup e.1) s

/-! ## Data of partners (R175) -/

/-- A number for each unit that takes data of partners; the tiles that a stream reads ahead are one unit. -/
def ownerKey (o : Owner) : Nat :=
  match o with
  | .loadIns n r => 32 * (2 * n + r % 2)
  | .storeIns n r => 32 * (2 * n + r % 2) + 1
  | .scalar n r => 32 * (2 * n + r % 2) + 2
  | .ahead n r st _ => 32 * (2 * n + r % 2) + 16 + st
  | .dmaPiece x => 65536 + x
  | .descFetch x => 2 * 65536 + x
  | .indexLine e _ => 3 * 65536 + e
  | .cpAccess p => 4 * 65536 + p
  | .fw => 5 * 65536
  | .agent k => 6 * 65536 + k
  | .host h => 7 * 65536 + h

/-- The key under which `remoteBuf` holds the byte of remote physical address `a` that a reply has brought for unit `o`. -/
def remKey (o : Owner) (a : Nat) : Nat := ownerKey o * 2 ^ 48 + a

/-- Whether every one of `n` bytes from remote physical address `a` has been brought for unit `o` by a reply (R175). -/
def State.remoteHere (s : State) (o : Owner) (a n : Nat) : Bool := (List.range n).all fun i => (s.remoteBuf.find (remKey o (a + i))).isSome

/-- The bytes that replies have brought for a remote address. -/
def State.remoteBytes (s : State) (o : Owner) (a n : Nat) : List Byte := (List.range n).map fun i => s.remoteBuf.get (remKey o (a + i)) 0#8

/-- The state without them: their requester has taken them. -/
def State.remoteDrop (s : State) (o : Owner) (a n : Nat) : State :=
  { s with remoteBuf := s.remoteBuf.clear (remKey o a) (remKey o (a + n)) }

/-- The state without any data brought for unit `o`. -/
def State.remoteForget (s : State) (o : Owner) : State := s.remoteDrop o 0 (2 ^ 48)

/-- The port shares of a composition: port, weight, peer composition (R318). -/
def State.portShares (s : State) (c : Nat) : List (Nat × Nat × Option Nat) := ((s.comp c).record.map (·.ports)).getD []

/-- The share of port `k` that composition `c` holds, as a bound resource: staying, joining or leaving while a change of map drains (R316, R318,
R324). -/
def State.shareOf (s : State) (c k : Nat) : Option Bound :=
  let has := (s.portShares c).any fun p => p.1 == k
  match (s.comp c).change with
  | none => if has then some ⟨c, .staying⟩ else none
  | some h =>
    let had := if h.step < 5 then has else h.oldPorts.contains k
    if has then some ⟨c, if had then .staying else .joining⟩ else if had then some ⟨c, .leaving⟩ else none

/-- How the port of a remote window meets a request at once: EPOCH_NACK where the share of its composition does not accept it (R318, R324), ABSENT
where it is not UP (R175), ISLAND_OFF where its domain or a segment on the way lets nothing in (R29, R31, R34). -/
def State.portReach (s : State) (w : Who) (k : Nat) : MemStatus :=
  if w.comp.any fun c => !s.accepts (s.shareOf (s.actsFor c) k) c w.epoch then .epochNack
  else if !s.portUp k then .absent else if s.domOn (120 + k) && s.pathOn (ownerIsl w.own) (120 + k) then .ok else .islandOff

/-- A remote write of data from physical address `a` (R175, R179): whole lines, in requests of at most 256 bytes that lie within 256 aligned bytes;
the rest of a line of which it writes a part is what a READ has brought (DESIGN CHOICE, log 119). `fuel` counts requests. -/
def State.remoteLines (s : State) (w : Who) (fuel k off : Nat) (data : List Byte) (sel : Nat) : State :=
  match fuel with
  | 0 => s
  | f + 1 =>
    if data.isEmpty then s
    else
      let m := min data.length (256 - off % 256)
      (s.prepareWrite w k off (data.take m) sel).remoteLines w f k (off + m) (data.drop m) sel

/-- The requests of 256 aligned bytes that `n` bytes from `a` take. -/
def unitsOf (a n : Nat) : Nat := (a % 256 + n + 255) / 256

/-- Write to a remote window; its first and last line are completed with the bytes that READs have brought. -/
def State.remoteWrite (s : State) (w : Who) (sel a k off : Nat) (data : List Byte) : State :=
  let lo := a / 64 * 64
  let hi := (a + data.length + 63) / 64 * 64
  let full := s.remoteBytes w.own lo (a - lo) ++ data ++ s.remoteBytes w.own (a + data.length) (hi - (a + data.length))
  let s := (s.remoteDrop w.own lo (a - lo)).remoteDrop w.own (a + data.length) (hi - (a + data.length))
  s.remoteLines w (unitsOf lo (hi - lo)) k (off - (a - lo)) full sel

/-- Whether the rest of the lines that a remote write of `n` bytes from `a` writes in part has been brought. -/
def State.edgesHere (s : State) (o : Owner) (a n : Nat) : Bool :=
  s.remoteHere o (a / 64 * 64) (a % 64) && s.remoteHere o (a + n) ((a + n + 63) / 64 * 64 - (a + n))

/-- Whether the ledger has room for a remote write of `n` bytes at offset `off` of port `k`: its owner's open group, or FREE entries for the groups
that it opens (R180, R186). -/
def State.groupRoom (s : State) (owner k off n : Nat) : Bool :=
  let writes := unitsOf off (n + 126)
  let left := match s.openGroup owner with
    | some (_, g) => if g.port = k ∧ g.range = s.rangeOf k off then 256 - g.writes else 0
    | none => 0
  let need := (writes - left + 255) / 256 + if s.rangeOf k off = s.rangeOf k (off + n - 1) then 0 else 1
  s.ledgerLost != 3 && decide (need ≤ 65536 - s.ledger.length)

/-! ## Accesses to local or remote memory (R175, R180, R255) -/

/-- Whether a piece of an access has to wait, with the state that it waits in: for a half that wakes, a partner's answer, or the ledger. -/
def State.pieceWait (s : State) (w : Who) (sel a n : Nat) (write : Bool) : Option State :=
  match region a with
  | .remote k off =>
    match s.portReach w k with
    | .ok => if (if write then s.edgesHere w.own a n && s.groupRoom (ownerLedger w.own) k off n else s.remoteHere w.own a n) then none else some s
    | .islandOff => s.sleepWait w sel a
    | _ => none
  | _ => s.sleepWait w sel a

/-- A read of local or remote memory by physical address: a remote one takes what the port's replies have brought (R175). -/
def State.readAny (s : State) (w : Who) (sel a n : Nat) : LineResult :=
  match region a with
  | .remote k _ => if s.remoteHere w.own a n then ⟨s.remoteDrop w.own a n, .ok, s.remoteBytes w.own a n⟩ else ⟨s.unhold w.own a, s.portReach w k, []⟩
  | _ => (s.unhold w.own a).readPhys w sel a n

/-- A write of local or remote memory by physical address. -/
def State.writeAny (s : State) (w : Who) (sel a : Nat) (data : List Byte) : LineResult :=
  match region a with
  | .remote k off =>
    let j := s.portReach w k
    if j ≠ .ok then ⟨s.unhold w.own a, j, []⟩ else ⟨s.remoteWrite w sel a k off data, .ok, []⟩
  | _ => (s.unhold w.own a).writePhys w sel a data

/-! ## Accesses by virtual address, or physical with a selector (R107, R108, R202, R223) -/

/-- Where an access finds its memory: by the translations of a unit for a requester under a tag, or by physical address with a selector. -/
inductive Space where
  | virt (u : TlbUnit) (q : Requester) (tag : Nat)
  | phys (sel : Nat)
  deriving DecidableEq, Repr

/-- The physical address and the leaf of an address of a space; by physical address the leaf carries the selector alone. -/
def State.place (s : State) (sp : Space) (va : Nat) (need : Need) : State × Xlate :=
  match sp with
  | .virt u q tag => s.translate u q tag va need
  | .phys sel => (s, .ok va (sel * 256))

/-- Whether a part of an access has to wait, with the state that it waits in; the first part that fails ends the search. `fuel` counts requests. -/
def State.vwaits (s : State) (w : Who) (sp : Space) (fuel va n : Nat) (need : Need) : Option State :=
  match fuel with
  | 0 => none
  | k + 1 =>
    if n = 0 then none
    else
      let m := min n (256 - va % 256)
      let x := s.place sp va need
      match x.2 with
      | .waits => some x.1
      | .transFault | .permFault => none
      | .ok pa leaf =>
        match x.1.pieceWait w (leafSel leaf) pa m need.w with
        | some t => some t
        | none => x.1.vwaits w sp k (va + m) (n - m) need

/-- Read in requests of at most 256 bytes that lie within 256 aligned bytes (R170, R202), each translated and performed; the first failure ends it
(R107, R108). `fuel` counts requests. -/
def State.vreads (s : State) (w : Who) (sp : Space) (fuel va n : Nat) (need : Need) : VResult :=
  match fuel with
  | 0 => ⟨s, none, [], false⟩
  | k + 1 =>
    if n = 0 then ⟨s, none, [], false⟩
    else
      let m := min n (256 - va % 256)
      let x := s.place sp va need
      match x.2 with
      | .waits | .transFault => ⟨x.1, some ⟨0x10, va⟩, [], false⟩
      | .permFault => ⟨x.1, some ⟨0x11, va⟩, [], false⟩
      | .ok pa leaf =>
        let r := x.1.readAny w (leafSel leaf) pa m
        if r.st ≠ .ok then ⟨r.s, some ⟨memCode r.st, va⟩, [], false⟩
        else
          let q := r.s.vreads w sp k (va + m) (n - m) need
          { q with data := r.data ++ q.data }

/-- A read of a space: nothing of it is done while a part of it waits. -/
def State.vread (s : State) (w : Who) (sp : Space) (va n : Nat) (need : Need) : VResult :=
  match s.vwaits w sp (unitsOf va n) va n need with
  | some t => ⟨t, none, [], true⟩
  | none => s.vreads w sp (unitsOf va n) va n need

/-- What follows a write through a leaf: the dirty log (R241) and the mirror to the twin (R340), as the leaf says; the twin takes the
lines written as memory holds them now. -/
def State.wrote (s : State) (w : Who) (leaf pa : Nat) (data : List Byte) : State :=
  match w.comp with
  | none => s
  | some c => (s.dirty c leaf pa).when (bits leaf 5 5 == 1) fun s =>
      let lo := pa / 64 * 64
      let r := s.readPhys .fw (leafSel leaf) lo ((pa + data.length + 63) / 64 * 64 - lo)
      r.s.mirrorPage 2 (leafSel leaf) c lo r.data

/-- Write in requests of at most 256 bytes, as `vreads` reads. -/
def State.vwrites (s : State) (w : Who) (sp : Space) (fuel va : Nat) (data : List Byte) (need : Need) : VResult :=
  match fuel with
  | 0 => ⟨s, none, [], false⟩
  | k + 1 =>
    if data.isEmpty then ⟨s, none, [], false⟩
    else
      let m := min data.length (256 - va % 256)
      let x := s.place sp va need
      match x.2 with
      | .waits | .transFault => ⟨x.1, some ⟨0x10, va⟩, [], false⟩
      | .permFault => ⟨x.1, some ⟨0x11, va⟩, [], false⟩
      | .ok pa leaf =>
        let r := x.1.writeAny w (leafSel leaf) pa (data.take m)
        if r.st ≠ .ok then ⟨r.s, some ⟨memCode r.st, va⟩, [], false⟩
        else (r.s.wrote w leaf pa (data.take m)).vwrites w sp k (va + m) (data.drop m) need

/-- A write to a space: nothing of it is done while a part of it waits. -/
def State.vwrite (s : State) (w : Who) (sp : Space) (va : Nat) (data : List Byte) (need : Need) : VResult :=
  match s.vwaits w sp (unitsOf va data.length) va data.length need with
  | some t => ⟨t, none, [], true⟩
  | none => s.vwrites w sp (unitsOf va data.length) va data need

end Sys2Proof.Machine
end

