-- ==== Sys2Proof/Machine/Operands.lean ====
section
/-! DEFINITION. Machine/Operands.lean: the operand forms: the fields of an instruction word and the sequencer's formats (R75, R87),
the operand slots of station instructions (R77, R78, R99), a core's residents (R378), tile handles and their bytes (R37, R38,
R133). -/
namespace Sys2Proof.Machine

/-! ## The operand field -/

/-- Bits hi to lo of an operand field. -/
def ob (o : Ops) (hi lo : Nat) : Nat := bits o.toNat hi lo

/-- rd, bits 47:43 (R87). -/
def rdOf (o : Ops) : Nat := ob o 47 43
/-- ra, bits 42:38. -/
def raOf (o : Ops) : Nat := ob o 42 38
/-- rb, bits 37:33. -/
def rbOf (o : Ops) : Nat := ob o 37 33
/-- The signed immediate of RI and M, bits 37:0. -/
def immOf (o : Ops) : Int := signed o.toNat 38
/-- The signed immediate of CI, bits 32:0. -/
def imm33Of (o : Ops) : Int := signed o.toNat 33
/-- The signed offset of BR in instructions, bits 31:0. -/
def offOf (o : Ops) : Int := signed o.toNat 32
/-- pd, bits 47:45. -/
def pdOf (o : Ops) : Nat := ob o 47 45

/-- An integer as a 64-bit word, modulo 2^64 (R88). -/
def w64 (i : Int) : Word := BitVec.ofInt 64 i

/-- The four operand slots and mod of a station instruction (R78). -/
def dstOf (o : Ops) : Nat := ob o 47 40
/-- src1. -/
def s1Of (o : Ops) : Nat := ob o 39 32
/-- src2. -/
def s2Of (o : Ops) : Nat := ob o 31 24
/-- src3. -/
def s3Of (o : Ops) : Nat := ob o 23 16
/-- mod. -/
def modOf (o : Ops) : Nat := ob o 15 0

/-- The operand sets of R99. -/
inductive OpSet where
  | td | td0 | ts | f | q | s | ts_s | a | ap | g | g_none | ts_none | none
  deriving DecidableEq, Repr

/-- Whether a set allows a code (R77, R99); in a SHARED composition the accumulators are a0, a1 and a0:a1 (R378). -/
def OpSet.has (set : OpSet) (shared : Bool) (c : Nat) : Bool :=
  match set with
  | .td | .ts => c < 0x60
  | .td0 => c < 0x50
  | .f => c < 0x40
  | .q => 0x40 ≤ c && c < 0x50
  | .s => 0x70 ≤ c && c < 0x80
  | .ts_s => c < 0x60 || (0x70 ≤ c && c < 0x80)
  | .a => if shared then c == 0x60 || c == 0x61 else 0x60 ≤ c && c ≤ 0x63
  | .ap => if shared then c == 0x60 || c == 0x61 || c == 0x64 else 0x60 ≤ c && c ≤ 0x66
  | .g => 0x80 ≤ c && c < 0xA0
  | .g_none => (0x80 ≤ c && c < 0xA0) || c == 0xFF
  | .ts_none => c < 0x60 || c == 0xFF
  | .none => c == 0xFF

/-- What an operand slot names (R77). -/
inductive Operand where
  | handle (t : Nat)
  | queue (q : Nat) (suffix : Bool)
  | acc (a : Nat) (pair : Bool)
  | stream (st : Nat)
  | scalar (g : Nat)
  | none
  deriving DecidableEq, Repr

/-- The operand that a code names. -/
def operand (c : Nat) : Operand :=
  if c < 0x40 then .handle c
  else if c < 0x50 then .queue (c - 0x40) false
  else if c < 0x60 then .queue (c - 0x50) true
  else if c < 0x64 then .acc (c - 0x60) false
  else if c < 0x67 then .acc (c - 0x64) true
  else if 0x70 ≤ c ∧ c < 0x80 then .stream (c - 0x70)
  else if 0x80 ≤ c ∧ c < 0xA0 then .scalar (c - 0x80)
  else .none

/-! ## The sequencer's file (R79, R80, R96) -/

/-- Read a scalar register: g0 reads zero (R80). -/
def SeqFile.rg (f : SeqFile) (i : Nat) : Word := if i = 0 then 0#64 else f.g.getD i 0#64

/-- Write a scalar register: a write to g0 is discarded (R80). -/
def SeqFile.wg (f : SeqFile) (i : Nat) (v : Word) : SeqFile := if i = 0 then f else { f with g := f.g.set i v }

/-- Read a predicate: p0 reads one (R80). -/
def SeqFile.rp (f : SeqFile) (i : Nat) : Bool := if i = 0 then true else f.p.getD i false

/-- Write a predicate: a write to p0 is discarded (R80). -/
def SeqFile.wp (f : SeqFile) (i : Nat) (v : Bool) : SeqFile := if i = 0 then f else { f with p := f.p.set i v }

/-- The file with its pc advanced by one word; bits 63:52 stay zero (R79). -/
def SeqFile.adv (f : SeqFile) : SeqFile := { f with pc := (f.pc + 8) % 2 ^ 52 }

/-- The file branching by `off` instructions (R88). -/
def SeqFile.jump (f : SeqFile) (off : Int) : SeqFile := { f with pc := (((f.pc : Int) + off * 8) % 2 ^ 52).toNat }

/-- Whether the predicate holds: p[psel] XOR pneg (R76). -/
def SeqFile.holds (f : SeqFile) (p : Pred) : Bool := xor (f.rp p.psel) p.pneg

/-- The file after reset and before any launch. -/
def SeqFile.init : SeqFile := { g := List.replicate 32 0#64, p := true :: List.replicate 7 false, pc := 0 }

/-! ## Residents -/

/-- A resident that has run no launch (R79, R81, R151). -/
def Res.init : Res :=
  { status := .idle, file := SeqFile.init, live := 2 ^ 44 - 1, item := none, sflags := 0, sclass := 2, srseed := 0,
    gens := [1, 1, 1, 1], handles := [], queues := [], streams := [], sq := [], started := [], ahead := [], fills := [],
    wait := .none, fault := none, seqNo := 0, replay := [], reqs := [], granted := [], droppedBytes := 0, abandoned := 0,
    arrived := [none, none], comp := 0, lane := 0, ctx := 0, rank := none, leaveReq := false, lastCtx := none,
    asked := none, askedTwice := false, syncOn := none, contribs := [], released := [0, 0],
    stopReq := none, stopAt := 0, overrun := false, doneAt := 0, actAt := 0, accepted := [], askedAt := 0, answer := none }

/-- Resident `r` of core `n`. -/
def State.core (s : State) (n r : Nat) : Res := s.res.get (2 * n + r % 2) Res.init

/-- The state with a resident replaced. -/
def State.setCore (s : State) (n r : Nat) (x : Res) : State := { s with res := s.res.put (2 * n + r % 2) x }

/-- The state with a resident changed by `f`. -/
def State.onCore (s : State) (n r : Nat) (f : Res → Res) : State := s.setCore n r (f (s.core n r))

/-- A command processor after its reset (R96). -/
def Cp.init : Cp :=
  { file := SeqFile.init, evtDone := 0, evtDt := 0, evtHead := 0, evtPos := 0, fwData := 0, fwEntry := 0, wakes := [],
    sleep := none, until_ := none, reload := false, taken := [], aliveAt := 0, busy := none }

/-- Command processor `p`. -/
def State.cp (s : State) (p : Nat) : Cp := s.cps.get p Cp.init

/-- The state with a command processor replaced. -/
def State.setCp (s : State) (p : Nat) (x : Cp) : State := { s with cps := s.cps.put p x }

/-- The requester of an access of a resident: its composition with the epoch that the composition holds (R323). -/
def State.coreWho (s : State) (own : Owner) (n r cls : Nat) : Who := ⟨own, some (s.core n r).comp, s.epochOf (s.core n r).comp, cls⟩

/-- The requester of a resident's scalar access, in the class of its sclass (R89). -/
def State.scalarWho (s : State) (n r : Nat) : Who := s.coreWho (.scalar n r) n r (s.core n r).sclass

/-- The requester of a command processor's access: of no composition, in class RT (R96). -/
def cpWho (p : Nat) : Who := ⟨.cpAccess p, none, 0, clsRt⟩

/-- Whether composition `c` is SHARED (R319, R346). -/
def State.shared (s : State) (c : Nat) : Bool := s.fld F.CMP_STATUS_mode c == 1

/-- The key selector under which a context runs (R168, R434). -/
def State.ctxSel (s : State) (ctx : Nat) : Nat :=
  match s.ctxs.find ctx with
  | some c => c.sel
  | none => 0

/-- The address-space tag of a context. -/
def State.ctxTag (s : State) (ctx : Nat) : Nat :=
  match s.ctxs.find ctx with
  | some c => c.tag
  | none => 0

/-- Whether a context is real-time (R393). -/
def State.ctxRt (s : State) (ctx : Nat) : Bool :=
  match s.ctxs.find ctx with
  | some c => c.rt
  | none => false

/-- The bytes of scratchpad a resident sees (R378). -/
def State.spLimit (s : State) (c : Nat) : Nat := if s.shared c then 655360 else 1310720

/-- The physical address of a resident's scratchpad offset (R16, R378). -/
def State.spAddr (s : State) (n r off : Nat) : Nat :=
  scratchBase n + (if s.shared (s.core n r).comp then r * 655360 else 0) + off

/-- The physical accumulators that an operand names, lower first (R378). -/
def State.accIds (s : State) (n r a : Nat) (pair : Bool) : List Nat :=
  let b := 4 * n + (if s.shared (s.core n r).comp then 2 * r else 0) + a
  if pair then [b, b + 1] else [b]

/-- Read a resident's scratchpad under its context's selector; lines under another tag read as zeros (R167, R168). -/
def State.spRead (s : State) (n r off len : Nat) : List Byte × State :=
  let a := s.spAddr n r off
  let q := s.readLines (linesOf a len) a len (s.ctxSel (s.core n r).ctx)
  (if q.st = .ok then q.data else s.bytes a len, q.s)

/-- Write a resident's scratchpad under its context's selector (R167, R168). -/
def State.spWrite (s : State) (n r off : Nat) (data : List Byte) : State :=
  let a := s.spAddr n r off
  (s.writeLines (linesOf a data.length) a data (s.ctxSel (s.core n r).ctx)).s

/-! ## Tiles (R37, R38, R133) -/

/-- The elements of each row (R132). -/
def Handle.cols (h : Handle) : Nat := h.rowBytes * 8 / elemBits h.format

/-- The block-scale bytes of a tile: one for each 32 elements of each row of an MX format (R38). -/
def Handle.scaleBytes (h : Handle) : Nat := if isMx h.format then h.rows * (h.cols / 32) else 0

/-- The span of a tile (R38). -/
def Handle.span (h : Handle) : Nat := h.rows * h.pitch + h.scaleBytes

/-- The offset of the scale area: after the last row's pitch (R38). -/
def Handle.scaleOff (h : Handle) : Nat := h.base + h.rows * h.pitch

/-- The patterns of a row's elements, in order (R133). -/
def unpack (w : Nat) (row : List Byte) : List Nat :=
  let v := leNat row
  (List.range (row.length * 8 / w)).map fun i => v / 2 ^ (w * i) % 2 ^ w

/-- The bytes of a row of element patterns (R133). -/
def pack (w nbytes : Nat) (es : List Nat) : List Byte :=
  leBytes nbytes (es.foldr (fun e acc => e % 2 ^ w + acc * 2 ^ w) 0)

/-- A tile's contents: rows of element patterns, and its block scales. -/
structure Tile where
  rows : List (List Nat)
  scales : List Nat
  deriving DecidableEq, Repr

/-- The bytes of the rows of a handle, from row `i` on. -/
def State.rowBytesOf (s : State) (n r : Nat) (h : Handle) (k : Nat) : List (List Byte) × State :=
  (List.range k).foldl (fun (acc : List (List Byte) × State) i =>
    let q := acc.2.spRead n r (h.base + i * h.pitch) h.rowBytes
    (acc.1 ++ [q.1], q.2)) ([], s)

/-- Read a tile. -/
def State.readTile (s : State) (n r : Nat) (h : Handle) : Tile × State :=
  let q := s.rowBytesOf n r h h.rows
  let sc := if isMx h.format then q.2.spRead n r h.scaleOff h.scaleBytes else ([], q.2)
  (⟨q.1.map (unpack (elemBits h.format)), sc.1.map (·.toNat)⟩, sc.2)

/-- Write rows of bytes into a handle from row `i`. -/
def State.writeRows (s : State) (n r : Nat) (h : Handle) (i : Nat) (rows : List (List Byte)) : State :=
  (rows.foldl (fun (acc : Nat × State) row => (acc.1 + 1, acc.2.spWrite n r (h.base + acc.1 * h.pitch) row)) (i, s)).2

/-- Write a tile's rows, and its scales where its format carries them. -/
def State.writeTile (s : State) (n r : Nat) (h : Handle) (t : Tile) : State :=
  let s := s.writeRows n r h 0 (t.rows.map (pack (elemBits h.format) h.rowBytes))
  if isMx h.format then s.spWrite n r h.scaleOff (t.scales.map (BitVec.ofNat 8)) else s

/-- Element (i, j) of a tile's rows. -/
def Tile.at_ (t : Tile) (i j : Nat) : Nat := (t.rows.getD i []).getD j 0

/-- Whether handle attributes lie in the ranges of R37 and the span within `limit` (R38). -/
def Handle.ok (h : Handle) (limit : Nat) : Bool :=
  h.base % 256 == 0 && decide (1 ≤ h.rows) && decide (h.rows ≤ 64) && decide (32 ≤ h.rowBytes) && decide (h.rowBytes ≤ 1024) &&
    h.rowBytes % 32 == 0 && decide (h.rowBytes ≤ h.pitch) && decide (h.pitch ≤ 4096) && h.pitch % 32 == 0 && fmtOk h.format &&
    (elemBits h.format != 6 || h.rowBytes % 96 == 0) && decide (h.base + h.span ≤ limit)

/-! ## Queues and streams -/

/-- The configured queue whose ring holds a handle (R41). -/
def Res.queueOf (x : Res) (h : Nat) : Option (Nat × TQueue) :=
  x.queues.find? fun e => decide (e.2.first ≤ h) && decide (h < e.2.first + e.2.depth)

/-- The token of a handle of a queue. -/
def TQueue.tok (q : TQueue) (h : Nat) : Tok := q.toks.getD (h - q.first) .empty

/-- The queue with the token of a handle changed. -/
def TQueue.setTok (q : TQueue) (h : Nat) (t : Tok) : TQueue := { q with toks := q.toks.set (h - q.first) t }

/-- The next handle of a ring. -/
def TQueue.next (q : TQueue) (h : Nat) : Nat := if h + 1 < q.first + q.depth then h + 1 else q.first

/-- The handle before one of a ring. -/
def TQueue.prev (q : TQueue) (h : Nat) : Nat := if h = q.first then q.first + q.depth - 1 else h - 1

/-- The tiles of a stream, T (R52). -/
def Stream.total (st : Stream) : Nat := st.counts.foldl (· * ·) 1

/-- The address of tile `k` of a stream (R52); an address outside the 52 bits of the address space is taken modulo 2^52 (DESIGN CHOICE, log 122). -/
def Stream.address (st : Stream) (k : Nat) : Nat :=
  let c := fun i => st.counts.getD i 1
  let d := fun i => st.strides.getD i 0
  let i0 : Int := (k % c 0 : Nat)
  let i1 : Int := (k / c 0 % c 1 : Nat)
  let i2 : Int := (k / (c 0 * c 1) % c 2 : Nat)
  let i3 : Int := (k / (c 0 * c 1 * c 2) : Nat)
  (((st.base : Int) + i0 * d 0 + i1 * d 1 + i2 * d 2 + i3 * d 3) % 2 ^ 52).toNat

/-- The elements of each row of a stream's tile. -/
def Stream.cols (st : Stream) : Nat := st.rowBytes * 8 / elemBits st.format

/-- The address of the block scales of tile `k` (R106). -/
def Stream.scaleAddr (st : Stream) (k : Nat) : Nat := st.address k + st.rows * st.memPitch

end Sys2Proof.Machine
end

