-- ==== Sys2Proof/Machine/Rings.lean ====
section
/-! DEFINITION. Machine/Rings.lean: the queue rings of functions and contexts (R352 to R355), the completion record (R359, R360),
and how a running command ends. -/
namespace Sys2Proof.Machine

/-- The ring that a reference names. -/
def State.ring (s : State) (q : QRef) : Ring :=
  match q with
  | .queue i => s.queues.get i Ring.init
  | .admin f => (s.fn f).admin

/-- Whether the queue exists: a taken queue, or the admin queue of a function that has enabled it. -/
def State.ringLive (s : State) (q : QRef) : Bool :=
  match q with
  | .queue i => (s.queues.find i).isSome
  | .admin f => decide (f < 128) && s.fld F.CTX_ADMIN_enable f == 1

/-- The state with a ring replaced. -/
def State.setRing (s : State) (q : QRef) (x : Ring) : State :=
  match q with
  | .queue i => { s with queues := s.queues.put i x }
  | .admin f => s.setFn f { s.fn f with admin := x }

/-- The function that owns a queue. -/
def State.ringFn (s : State) (q : QRef) : Nat :=
  match q with
  | .queue i => (s.queues.get i Ring.init).fn
  | .admin f => f

/-- The 16 bytes of a completion record (R360). -/
def completionBytes (status flags detail result dt : Nat) : List Byte :=
  leBytes 1 status ++ leBytes 1 flags ++ leBytes 2 detail ++ leBytes 4 result ++ leBytes 8 dt

/-- The phase bit of command index `i` in a ring of 2^n entries: 1 on the first pass, alternating (R360). -/
def phaseOf (i n : Nat) : Nat := if i / 2 ^ n % 2 = 0 then 1 else 0

/-- Whether fence `id` belongs to context `ctx`. -/
def State.ownsFence (s : State) (ctx id : Nat) : Bool := ((s.fence id).map fun x => x.ctx == ctx).getD false

/-- Whether fence `id` belongs to a context of function `f`. -/
def State.fnFence (s : State) (f id : Nat) : Bool := decide (id < 2 ^ 32) && ((s.fence id).map fun x => x.fn == f).getD false

/-- Whether a command of `q` may signal fence `id`: one its queue's context owns, or for an administration ring one of its function
(R353; DEDUCED, log 114). -/
def State.maySignal (s : State) (q : QRef) (id : Nat) : Bool :=
  match q with
  | .admin f => s.fnFence f id
  | .queue _ => decide (id < 2 ^ 32) && s.ownsFence (s.ring q).ctx id

/-- The flags sig_refused (4) and sig_regressed (8) of a record whose command signals a fence (R360, R362). -/
def State.sigFlags (s : State) (q : QRef) (c : CmdRec) : Nat :=
  if bits c.flags 0 0 = 0 || !s.maySignal q c.sigFence then 0
  else
    match s.fence c.sigFence with
    | none => 0
    | some x =>
      if x.abandoned then 0
      else if bits c.flags 1 1 = 1 then (if c.sigValue ≠ 0 ∧ 2 ^ 64 - 1 < x.value + c.sigValue then 4 else 0)
      else if c.sigValue < x.value then 8 else 0

/-- Write the completion record of the ring's oldest command and make it visible to the host (R359, R360); `extra` holds the
flags above phase that the signal does not set. -/
def State.writeCompletion (s : State) (q : QRef) (status extra detail result : Nat) : State :=
  let x := s.ring q
  let extra := extra + ((x.cur.map fun c => s.sigFlags q c.rec_).getD 0)
  let a := x.cplBase + 16 * (x.rd % 2 ^ x.n)
  s.hostStore (s.ringFn q / 64) a (completionBytes status (phaseOf x.rd x.n + extra) detail result s.aon.dt)

/-- Change the running command of a ring. -/
def State.onCur (s : State) (q : QRef) (f : Cur → Cur) : State :=
  let x := s.ring q
  match x.cur with
  | none => s
  | some c => s.setRing q { x with cur := some (f c) }

/-- The work of the ring's command has ended with this status, detail and result; COMMAND_COMPLETION reports it (R359). The first
end stands. -/
def State.endCommand (s : State) (q : QRef) (status detail result : Nat) : State :=
  s.onCur q fun c => if c.ended.isSome then c else { c with ended := some (status, detail, result) }


end Sys2Proof.Machine
end

