-- ==== Sys2Proof/Machine/RegAccess.lean ====
section
/-! DEFINITION. Machine/RegAccess.lean: register accesses (R10 to R15, R350, R351): which register an offset names for whom, what
a read returns, what a write changes, and the MSI-X table (R366). -/
namespace Sys2Proof.Machine

/-! ## Which register -/

/-- The function whose registers an accessor sees: its own; for firmware and command processors, function 0's, a physical
function (R350, DEDUCED, log 8). -/
def accFn (who : Accessor) : Nat :=
  match who with
  | .fn f => f
  | .fw | .cp _ => 0

/-- Whether the accessor sees the registers of a physical function (R350, R351). -/
def accPf (who : Accessor) : Bool :=
  match who with
  | .fn f => f % 64 == 0
  | .fw | .cp _ => true

/-- Whether an accessor exists. -/
def accOk (who : Accessor) : Bool :=
  match who with
  | .fn f => decide (f < 128)
  | .fw => true
  | .cp p => decide (p < 16)

/-- A register as an accessor reaches it: name, copy, and whether it may write. -/
structure RegRef where
  r : RegName
  i : Nat
  wr : Bool
  deriving DecidableEq, Repr

/-- Whether a register is one of a DMA channel's (R217). -/
def chanReg (r : RegName) : Bool := chanRegs.contains r

/-- The register at a 64-bit aligned offset for an accessor; none under R11. A virtual function sees the four SCH registers and
SEC_COMP_CFG of its attached composition at the first copy's offsets (R401, R443), and the registers of the channels bound to it (R217). -/
def State.locate (s : State) (who : Accessor) (off : Nat) : Option RegRef :=
  let f := accFn who
  match RegName.locate off with
  | none => none
  | some (r, i) =>
    if r.row.perFn then some ⟨r, f, true⟩
    else if r.row.scope = .all ∨ accPf who then some ⟨r, i, true⟩
    else
      match s.compOf f with
      | none => none
      | some c =>
        if chanReg r then
          if s.fld F.DMA_CH_STATUS_state i ≠ 0 ∧ s.fld F.DMA_CH_STATUS_composition i = c then some ⟨r, i, r != .DMA_CH_HEAD⟩ else none
        else if i = 0 then
          match r with
          | .SCH_COMP_CFG | .SEC_COMP_CFG => some ⟨r, c, false⟩
          | .SCH_MIX_CFG | .SCH_MIX_AREA | .SCH_MIX_BUDGET => some ⟨r, c, true⟩
          | _ => none
        else none

/-! ## What a read returns -/

/-- The context that SCH_CTX_SEL of function `f` names, where it is one of that function's (R401). -/
def State.selCtx (s : State) (f : Nat) : Option (Nat × Ctx) :=
  let i := s.fld F.SCH_CTX_SEL_context f
  match s.ctxs.find i with
  | some c => if c.fn = f then some (i, c) else none
  | none => none

/-- The key slot that SEC_SLOT_SEL names. -/
def State.selSlot (s : State) : Slot := s.slots.get (s.fld F.SEC_SLOT_SEL_slot 0) Slot.free

/-- The state of a domain as PWR_DOM_STATUS codes it (R463): 0 OFF, 1 RETAIN, 2 ON, 3 in transition. -/
def domCode (d : Dom) : Nat :=
  if d.trans ≠ .none then 3
  else match d.state with
    | .off => 0
    | .retain => 1
    | .on => 2

/-- The state of a context as SCH_CTX_SEL codes it. -/
def ctxCode (c : Ctx) : Nat :=
  match c.state with
  | .live => 1
  | _ => 2

/-- Put a field's value into a word. -/
def Fld.into (F : Fld) (w v : Nat) : Nat := putBits w F.hi F.lo v

/-- The value that a read of a register returns: its word, with the fields that show other state. -/
def State.regView (s : State) (r : RegName) (i : Nat) : Word :=
  let w := (s.reg r i).toNat
  let n := BitVec.ofNat 64
  match r with
  | .TIM_DT => n s.aon.dt
  | .FEN_SEL =>
    match s.fence (w % 2 ^ 32) with
    | some x => if x.fn = i then
        n (F.FEN_SEL_state.into (F.FEN_SEL_last_status.into (w % 2 ^ 32) x.last) (if x.abandoned then 2 else 1)) else n (w % 2 ^ 32)
    | none => n (w % 2 ^ 32)
  | .FEN_VAL =>
    match s.fence (s.fld F.FEN_SEL_fence i) with
    | some x => if x.fn = i then n x.value else 0#64
    | none => 0#64
  | .SCH_CTX_SEL =>
    match s.selCtx i with
    | some (_, c) => n (F.SCH_CTX_SEL_state.into w (ctxCode c))
    | none => n w
  | .SCH_CTX_CFG =>
    match s.selCtx i with
    | some (k, c) => n (F.SCH_CTX_CFG_rt.into (F.SCH_CTX_CFG_prio.into (F.SCH_CTX_CFG_suspended.into (F.SCH_CTX_CFG_weight.into 0
        c.weight) (if s.suspended.any fun l => l.ctx == k then 1 else 0)) c.prio.toNat) c.rt.toNat)
    | none => 0#64
  | .SCH_CTX_TIME => n (((s.selCtx i).map fun p => p.2.time).getD 0)
  | .SCH_CTX_OVR => n (((s.selCtx i).map fun p => p.2.overrun).getD 0)
  | .FLT_CTX_OVF =>
    match s.selCtx i with
    | some (_, c) => n (F.FLT_CTX_OVF_ovf_sat.into (F.FLT_CTX_OVF_count.into 0 c.ovf) c.ovfSat.toNat)
    | none => 0#64
  | .SEC_SLOT_STATUS =>
    let k := s.selSlot
    n (F.SEC_SLOT_STATUS_state.into (F.SEC_SLOT_STATUS_owner.into (F.SEC_SLOT_STATUS_install_count.into w k.count) k.owner) k.state)
  | .SEC_SLOT_KEYID => n s.selSlot.keyId
  | .PRT_RT_DATA => n (s.route.get (s.fld F.PRT_RT_ADDR_index 0) 15)
  | .FAB_SEAM_STATUS =>
    let held := (s.pulses.filter fun u => seamOf (cpIsl u.cp) == i && s.asleep (decide (8 ≤ u.cp)) && islEast (u.x / 16) != decide (8 ≤ u.cp)).length +
      (s.heldAcc.filter fun h => h.sync && seamOf (meshOfIsl (memIsl (h.line * 64))) == i).length
    let w := F.FAB_SEAM_STATUS_wake_pending.into w (s.seamWakes.any fun x => x.1 == i).toNat
    n (F.FAB_SEAM_STATUS_west_asleep.into (F.FAB_SEAM_STATUS_east_asleep.into (F.FAB_SEAM_STATUS_sync_hold.into w (min held 32))
      (s.asleep true).toNat) (s.asleep false).toNat)
  | .TIM_OWD_AUX => (s.owdAux.find i).getD (s.reg .TIM_OWD_AUX i)
  | .PWR_DOM_STATUS => n (F.PWR_DOM_STATUS_state.into w (domCode (s.dom (s.fld F.PWR_DOM_STATUS_island 0))))
  | _ => s.reg r i

/-! ## What a write changes -/

/-- The mask of a field in its register. -/
def Fld.mask (F : Fld) : Nat := (2 ^ (F.hi + 1 - F.lo) - 1) * 2 ^ F.lo

/-- The masks of several fields. -/
def masks (fs : List Fld) : Nat := fs.foldl (fun m F => m ||| F.mask) 0

/-- The RW and W1C fields of a register whose writes another row of the table performs. -/
def rowFields (r : RegName) : Nat :=
  match r with
  | .CMP_TWIN => masks [F.CMP_TWIN_enable]
  | .CMP_TWIN_LOG => masks [F.CMP_TWIN_LOG_enable]
  | .CTX_EVR_BASE => masks [F.CTX_EVR_BASE_enable]
  | .CTX_EVR_RD => masks [F.CTX_EVR_RD_rd]
  | .TLX_POOL => masks [F.TLX_POOL_enable]
  | .TLX_DLOG_CFG => masks [F.TLX_DLOG_CFG_enable]
  | .DMA_CH_HEAD => masks [F.DMA_CH_HEAD_addr]
  | .MEM_RSV_CFG => masks [F.MEM_RSV_CFG_valid, F.MEM_RSV_CFG_class, F.MEM_RSV_CFG_transit, F.MEM_RSV_CFG_rank, F.MEM_RSV_CFG_resource,
      F.MEM_RSV_CFG_composition, F.MEM_RSV_CFG_rate]
  | .MEM_PXW_CFG => masks [F.MEM_PXW_CFG_enable, F.MEM_PXW_CFG_mode, F.MEM_PXW_CFG_wr, F.MEM_PXW_CFG_rd, F.MEM_PXW_CFG_key_sel, F.MEM_PXW_CFG_roff,
      F.MEM_PXW_CFG_size]
  | .PRT_CFG => masks [F.PRT_CFG_enable]
  | .PRT_RT_DATA => masks [F.PRT_RT_DATA_egress]
  | .TIM_SIL_CFG => masks [F.TIM_SIL_CFG_enable]
  | .SCH_MIX_CFG => masks [F.SCH_MIX_CFG_enable]
  | .SCH_CYC_START => masks [F.SCH_CYC_START_dt]
  | .FLT_RING_BASE => masks [F.FLT_RING_BASE_enable]
  | .FLT_RING_STATUS => masks [F.FLT_RING_STATUS_overflow]
  | .SEC_FW_LOAD => masks [F.SEC_FW_LOAD_addr]
  | .SEC_COMP_CFG => masks [F.SEC_COMP_CFG_confidential, F.SEC_COMP_CFG_ctx_sel]
  | .PWR_POLICY => masks [F.PWR_POLICY_drydown]
  | .MON_CFG => masks [F.MON_CFG_level]
  | .MON_TW_CFG => masks [F.MON_TW_CFG_enable]
  | .MON_TW_DIG => masks [F.MON_TW_DIG_enable]
  | _ => 0

/-- Whether a ring read index may take the value `v`: not above `wr` and not below it by more than the capacity, for indices of
`bits` bits (R315, R377, R420). -/
def rdOk (bits wr cap v : Nat) : Bool := decide ((wr + 2 ^ bits - v % 2 ^ bits) % 2 ^ bits ≤ cap)

/-- The fields whose writes are ignored in the present state, for a write of `v` (the conditions of the register tables). -/
def State.lockedFields (s : State) (r : RegName) (i v : Nat) : Nat :=
  let on (F : Fld) (fs : List Fld) : Nat := if s.fld F i = 1 then masks fs else 0
  match r with
  | .CMP_MAP => if s.fld F.CMP_STATUS_busy i = 1 then masks [F.CMP_MAP_addr] else 0
  | .CMP_TWIN => on F.CMP_TWIN_enable [F.CMP_TWIN_port]
  | .CMP_TWIN_LOG => on F.CMP_TWIN_LOG_enable [F.CMP_TWIN_LOG_size, F.CMP_TWIN_LOG_base]
  | .CTX_ADMIN => on F.CTX_ADMIN_enable [F.CTX_ADMIN_base] |||
      (if s.fld F.CTX_ADMIN_enable i = 1 ∧ (s.fn i).admin.rd ≠ (s.fn i).admin.prod then masks [F.CTX_ADMIN_enable] else 0)
  | .CTX_ADMIN_CPL => on F.CTX_ADMIN_enable [F.CTX_ADMIN_CPL_base]
  | .CTX_EVR_BASE => on F.CTX_EVR_BASE_enable [F.CTX_EVR_BASE_base]
  | .CTX_EVR_CFG => on F.CTX_EVR_BASE_enable [F.CTX_EVR_CFG_size]
  | .TLX_POOL => on F.TLX_POOL_enable [F.TLX_POOL_part, F.TLX_POOL_stack]
  | .TLX_DLOG_CFG => on F.TLX_DLOG_CFG_enable [F.TLX_DLOG_CFG_base]
  | .PRT_CFG =>
    let st := s.fld F.PRT_STATUS_state i
    if st = 0 ∨ st = 6 ∨ st = 8 then 0 else masks [F.PRT_CFG_role, F.PRT_CFG_peer_id]
  | .TIM_SIL_CFG => on F.TIM_SIL_CFG_enable [F.TIM_SIL_CFG_size, F.TIM_SIL_CFG_base]
  | .TIM_SIL_RD => if v ≤ (s.reg .TIM_SIL_WR i).toNat ∧
      (s.reg .TIM_SIL_WR i).toNat ≤ v + 4096 * 2 ^ s.fld F.TIM_SIL_CFG_size i then 0 else masks [F.TIM_SIL_RD_rd]
  | .SCH_MIX_CFG => on F.SCH_MIX_CFG_enable [F.SCH_MIX_CFG_context]
  | .SCH_MIX_AREA => on F.SCH_MIX_CFG_enable [F.SCH_MIX_AREA_va]
  | .SCH_CYC_CFG =>
    let p := F.SCH_CYC_CFG_next_period.of (BitVec.ofNat 64 v)
    if p = 0 ∨ p > 1000000 then masks [F.SCH_CYC_CFG_next_period] else 0
  | .FLT_RING_BASE => on F.FLT_RING_BASE_enable [F.FLT_RING_BASE_base]
  | .FLT_RING_RD => if rdOk 32 (s.fld F.FLT_RING_STATUS_wr i) 4096 v then 0 else masks [F.FLT_RING_RD_rd]
  | .FLT_DUMP_HOST => on F.FLT_DUMP_STATUS_copy_busy [F.FLT_DUMP_HOST_addr]
  | .MON_TW_CFG => on F.MON_TW_CFG_enable [F.MON_TW_CFG_composition, F.MON_TW_CFG_unit, F.MON_TW_CFG_core_any, F.MON_TW_CFG_core,
      F.MON_TW_CFG_q_any, F.MON_TW_CFG_queue, F.MON_TW_CFG_ctx_any, F.MON_TW_CFG_hbase]
  | .MON_TW_DIG => on F.MON_TW_DIG_enable [F.MON_TW_DIG_size, F.MON_TW_DIG_base]
  | .MON_TW_DIGRD => if v ≤ (s.reg .MON_TW_DIGWR i).toNat ∧
      (s.reg .MON_TW_DIGWR i).toNat ≤ v + 4096 * 2 ^ s.fld F.MON_TW_DIG_size i then 0 else masks [F.MON_TW_DIGRD_rd]
  | _ => 0

/-- Keep a field between two bounds. -/
def Fld.clamp (F : Fld) (lo hi w : Nat) : Nat := F.into w (min hi (max lo (bits w F.hi F.lo)))

/-- The word stored for a word written: the values that the register tables store otherwise. -/
def storedWord (r : RegName) (w : Nat) : Nat :=
  match r with
  | .CMP_SLICE => F.CMP_SLICE_slice_us.clamp 1000 1000000 w
  | .CTX_ADMIN => F.CTX_ADMIN_size.clamp 0 8 w
  | .CTX_EVR_CFG => F.CTX_EVR_CFG_size.clamp 0 12 w
  | .FAB_SEAM_CFG => F.FAB_SEAM_CFG_credit_timeout.clamp 4096 0xFFFFF w
  | .MEM_RRD => if bits w 62 61 = 3 then F.MEM_RRD_enable.into w 0 else w
  | .TIM_CFG => F.TIM_CFG_pps_out_phase.into w (bits w 30 0 % 2000000000)
  | .SCH_COMP_CFG => F.SCH_COMP_CFG_tile_budget_us.clamp 10 10000 (F.SCH_COMP_CFG_quantum_us.clamp 100 1000000 w)
  | .SCH_MIX_CFG => F.SCH_MIX_CFG_max_items.clamp 1 4096 w
  | .FLT_WD_CFG => F.FLT_WD_CFG_dma_ms.clamp 1 0xFFFF (F.FLT_WD_CFG_cp_ms.clamp 1 0xFFFF w)
  | .SEC_SLOT_SEL => F.SEC_SLOT_SEL_slot.clamp 1 0xFF w
  | .PWR_POLICY =>
    let w := F.PWR_POLICY_finish_ms.clamp 0 1000 (F.PWR_POLICY_single_delay_ms.clamp 0 1000 w)
    if bits w 63 62 = 3 then F.PWR_POLICY_on_single.into w 0 else w
  | _ => w

/-- The state after a write of `v` to the bits of `wm` of a register: RW fields set, W1C fields cleared where a 1 is written,
everything else kept (R13 to R15). -/
def State.writeReg (s : State) (r : RegName) (i v wm : Nat) : State :=
  let old := (s.reg r i).toNat
  let free := wm - (wm &&& (rowFields r ||| s.lockedFields r i ((v &&& wm) ||| (old - (old &&& wm)))))
  let rw := r.row.rw &&& free
  let set := (old - (old &&& rw)) ||| (v &&& rw)
  let clr := v &&& r.row.w1c &&& free
  s.setReg r i (BitVec.ofNat 64 (storedWord r (set - (set &&& clr))))

/-- A write of the registers that act on the context selected in SCH_CTX_SEL (R401, R420): ignored unless it is LIVE. -/
def State.writeSelCtx (s : State) (r : RegName) (f v wm : Nat) : State :=
  match s.selCtx f with
  | none => s
  | some (k, c) =>
    match r with
    | .SCH_CTX_CFG =>
      if c.state = .live then
        let prio := if c.rt || bits wm 62 62 == 0 then c.prio else bits v 62 62 == 1
        { s with ctxs := s.ctxs.put k { c with prio := prio, weight := if bits wm 31 0 = 0 then c.weight else bits v 31 0 } }
      else s
    | .FLT_CTX_OVF =>
      if bits (v &&& wm) 32 32 = 1 then { s with ctxs := s.ctxs.put k { c with ovfSat := false } } else s
    | _ => s

/-- Enabling the admin queue takes its ring and completion array from the registers, with both indices 0 (R354, R377). -/
def State.adminEnabled (s : State) (f : Nat) (was : Nat) : State :=
  if was = 0 ∧ s.fld F.CTX_ADMIN_enable f = 1 then
    s.setFn f { s.fn f with admin := { Ring.init with fn := f, base := s.fld F.CTX_ADMIN_base f * 4096, n := s.fld F.CTX_ADMIN_size f + 4,
                                                      cplBase := s.fld F.CTX_ADMIN_CPL_base f * 4096 } }
  else s

/-- Dispatch resumes on the cores that stand stopped in place, of composition `c` where one is named (R396). -/
def State.resumeInPlace (s : State) (c : Option Nat) : State :=
  s.res.foldl (fun s e =>
    if e.2.status = .stopped .inPlace ∧ (c = none ∨ c = some e.2.comp) then { s with res := s.res.put e.1 { e.2 with status := .running } } else s) s

/-- With the cyclic table out of force no window stands, and every composition runs as if the table named none (R394). -/
def State.cyclicOff (s : State) : State :=
  if s.fld F.SCH_CYC_CFG_enable 0 = 0 then ({ s with openWindows := [], windowEnds := [] }).resumeInPlace none else s

/-- The state after a write of a located register; a write of an export window's base ends the export (R177). -/
def State.writeLocated (s : State) (x : RegRef) (v wm : Nat) : State :=
  if !x.wr then s
  else
    match x.r with
    | .SCH_CTX_CFG | .FLT_CTX_OVF => s.writeSelCtx x.r x.i v wm
    | .MEM_PXW_BASE =>
      let s := s.writeReg x.r x.i v wm
      if wm &&& F.MEM_PXW_BASE_base.mask = 0 then s else s.setFld F.MEM_PXW_CFG_enable x.i 0
    | .SCH_CYC_CFG => (s.writeReg x.r x.i v wm).cyclicOff
    | .CTX_ADMIN => (s.writeReg x.r x.i v wm).adminEnabled x.i (s.fld F.CTX_ADMIN_enable x.i)
    | _ => s.writeReg x.r x.i v wm

/-! ## MSI-X (R366) -/

/-- Where an offset of block 15 lies: the table (word index), the pending bits (word index), or neither. -/
inductive MsixPlace where
  | table (j : Nat)
  | pba (j : Nat)
  | none
  deriving DecidableEq, Repr

/-- The place of a BAR0 offset in block 15 (R350). -/
def msixPlace (off : Nat) : MsixPlace :=
  if 0xF00000 ≤ off ∧ off < 0xF08000 then .table ((off - 0xF00000) / 8)
  else if 0xF08000 ≤ off ∧ off < 0xF08100 then .pba ((off - 0xF08000) / 8)
  else .none

/-- Write a word of the MSI-X table; a vector that is unmasked with its pending bit set sends its message (PRESUMED, log 5). -/
def State.writeMsix (s : State) (f j v wm : Nat) : State :=
  let x := s.fn f
  let old := (x.msixTab.get j (msixReset j)).toNat
  let s := s.setFn f { x with msixTab := x.msixTab.set (msixReset j) j (BitVec.ofNat 64 ((old - (old &&& wm)) ||| (v &&& wm))) }
  let vec := j / 2
  if !s.msixMasked f vec && x.msixPending.get vec false then
    (s.setFn f { s.fn f with msixPending := x.msixPending.del vec }).emit (.msix f vec)
  else s

/-- The pending bits of vectors 64j to 64j + 63. -/
def State.pendingWord (s : State) (f j : Nat) : Word :=
  BitVec.ofNat 64 ((List.range 64).foldl (fun a b => a + if (s.fn f).msixPending.get (64 * j + b) false then 2 ^ b else 0) 0)

/-! ## Accesses -/

/-- Whether an access has a size and alignment that the device accepts (R10, R11). -/
def accessFits (off size : Nat) : Bool := (size == 4 || size == 8) && off % size == 0

/-- The bits of a 64-bit register that an access of `size` bytes at `off` covers. -/
def accessMask (off size : Nat) : Nat := if size = 8 then 2 ^ 64 - 1 else if off % 8 = 0 then 2 ^ 32 - 1 else 2 ^ 64 - 2 ^ 32

/-- The state in which the requester has seen `a`. -/
def State.answer (s : State) (unsupported : Bool) (v : Word) : State :=
  { s with lastAccess := some { unsupported := unsupported, value := v } }

/-- A register write (R10 to R15): Unsupported Request for a wrong size or alignment; ignored where no register is. -/
def State.regWrite (s : State) (who : Accessor) (off size : Nat) (v : Word) : State :=
  if !accessFits off size then s.answer true 0#64
  else
    let wm := accessMask off size
    let v64 := if off % 8 = 0 then v.toNat else v.toNat * 2 ^ 32 % 2 ^ 64
    let s := s.answer false 0#64
    match msixPlace off with
    | .table j => s.writeMsix (accFn who) j v64 wm
    | .pba _ => s
    | .none =>
      match s.locate who (off / 8 * 8) with
      | none => s
      | some x => s.writeLocated x v64 wm

/-- The value that a read of `size` bytes at `off` returns (R10, R11, R13). -/
def State.regRead (s : State) (who : Accessor) (off size : Nat) : Word :=
  let v :=
    match msixPlace off with
    | .table j => (s.fn (accFn who)).msixTab.get j (msixReset j)
    | .pba j => s.pendingWord (accFn who) j
    | .none =>
      match s.locate who (off / 8 * 8) with
      | none => 0#64
      | some x => s.regView x.r x.i
  if size = 8 then v else BitVec.ofNat 64 (if off % 8 = 0 then v.toNat % 2 ^ 32 else v.toNat / 2 ^ 32)

/-- What a read changes in the same access: the RC fields that it reads are cleared (R13); a read of TIM_OWD takes a snapshot of TIM_OWD_AUX, which the
next read of that returns (R315). -/
def State.clearRc (s : State) (who : Accessor) (off size : Nat) : State :=
  match s.locate who (off / 8 * 8) with
  | none => s
  | some x =>
    let w := (s.reg x.r x.i).toNat
    match x.r with
    | .TIM_OWD => { s with owdAux := s.owdAux.put x.i (s.reg .TIM_OWD_AUX x.i) }
    | .TIM_OWD_AUX => { s with owdAux := s.owdAux.del x.i }
    | _ => s.setReg x.r x.i (BitVec.ofNat 64 (w - (w &&& x.r.row.rc &&& accessMask off size)))

/-- REGISTER_WRITE: a write to the fields that have no row of their own (R10 to R15). -/
def execRegisterWrite (who : Accessor) (off size : Nat) (v : Word) (s : State) : Out :=
  checked (accOk who) (s.regWrite who off size v)

/-- RC_FIELD_READ: a read answers the register's value and clears its RC fields in the same access (R13). -/
def execRcFieldRead (who : Accessor) (off size : Nat) (s : State) : Out :=
  checked (accOk who)
    (if !accessFits off size then s.answer true 0#64
     else (s.clearRc who off size).answer false (s.regRead who off size))

end Sys2Proof.Machine
end

