-- ==== Sys2Proof/Machine/Flags.lean ====
section
/-! DEFINITION. Machine/Flags.lean: the sticky station status flags (R152), the conditions of compares (R88), and the
stochastic-rounding generators (R150, R151). -/
namespace Sys2Proof.Machine

/-! ## The flags of sflags (R152), as masks -/

/-- An accumulator renormalisation rounded a bit away. -/
def accRen : Nat := 0x0001
/-- An accumulator element saturated. -/
def accSat : Nat := 0x0002
/-- An accumulator element took a NaN contribution, or came to hold both infinities. -/
def accNan : Nat := 0x0004
/-- MATRIX met an E8M0 scale of 0xFF. -/
def scaleNan : Nat := 0x0008
/-- A finite value overflowed a destination, or an MX scale was clamped at 127. -/
def cvtOvf : Nat := 0x0010
/-- A NaN or infinity was converted into a format or block that cannot hold it. -/
def cvtNan : Nat := 0x0020
/-- VECTOR produced NaN from inputs with no NaN. -/
def vecNan : Nat := 0x0100
/-- A VECTOR result overflowed to infinity from finite inputs. -/
def vecOvf : Nat := 0x0200
/-- REDUCE produced NaN from inputs with no NaN. -/
def redNan : Nat := 0x1000
/-- A REDUCE result overflowed to infinity from finite inputs. -/
def redOvf : Nat := 0x2000

/-- Two masks together. -/
def flagsOr (a b : Nat) : Nat := a ||| b

/-- The mask where `c` holds, else none. -/
def flagIf (c : Bool) (m : Nat) : Nat := if c then m else 0

/-- The resident with the flags of `m` set in sflags (R152). -/
def Res.setFlags (x : Res) (m : Nat) : Res := { x with sflags := x.sflags ||| m }

/-- The resident with the flags that `w` names cleared (W1C, R81). -/
def Res.clearFlags (x : Res) (w : Nat) : Res := { x with sflags := x.sflags - (x.sflags &&& w) }

/-- The state with flags set in a resident's sflags. -/
def State.setFlags (s : State) (n r m : Nat) : State := s.onCore n r fun x => x.setFlags m

/-! ## Conditions (R88) -/

/-- Whether `a cond b` holds. -/
def condHolds (c : Cond) (a b : Word) : Bool :=
  match c with
  | .eq => a == b
  | .ne => a != b
  | .lt => a.slt b
  | .ge => !a.slt b
  | .ltu => a.ult b
  | .geu => !a.ult b

/-- The condition of `flag.wait` (R127): 0 at or above, unsigned; 1 equal; 2 unequal. -/
def flagCond (c : Nat) (v w : Nat) : Bool :=
  match c with
  | 0 => decide (w ≤ v)
  | 1 => v == w
  | _ => v != w

/-! ## Generators (R151) -/

/-- One draw: the 16 bits drawn and the generator's next state. -/
def draw (x : Nat) : Nat × Nat :=
  let a := x ^^^ (x * 2 ^ 13 % 2 ^ 64)
  let b := a ^^^ (a / 2 ^ 7)
  let c := b ^^^ (b * 2 ^ 17 % 2 ^ 64)
  (c / 2 ^ 48, c)

/-- The state of unit `u`'s generator at launch entry, for generator number `n` (R151, R378). -/
def genSeed (srseed u n : Nat) : Nat :=
  let x := srseed % 2 ^ 64 ^^^ (u * 0x9E3779B97F4A7C15 % 2 ^ 64) ^^^ (n * 0xD1B54A32D192ED03 % 2 ^ 64)
  if x = 0 then 1 else x

/-- The generator of unit `u` of a resident: XFORM, MATRIX, VECTOR, and REDUCE (DESIGN CHOICE, log 21). -/
def Res.gen (x : Res) (u : Nat) : Nat := x.gens.getD (u - 3) 1

/-- The resident with unit `u`'s generator at `g`. -/
def Res.setGen (x : Res) (u g : Nat) : Res := { x with gens := x.gens.set (u - 3) g }

/-- `n` draws in order, and the generator's state after them. -/
def draws (n x : Nat) : List Nat × Nat :=
  match n with
  | 0 => ([], x)
  | k + 1 =>
    let d := draw x
    let q := draws k d.2
    (d.1 :: q.1, q.2)

/-- Convert a list of exact values into format `f`, one draw for each where `sr` (R140, R150, R151): the patterns, the flags set,
the generator's next state. The flags are those of conversions. -/
def convAll (f : Nat) (sr : Bool) (gen : Nat) (vs : List Val) : List Nat × Nat × Nat :=
  let go := vs.foldl (fun (acc : List Nat × Nat × Nat) v =>
    let d := if sr then draw acc.2.2 else (0, acc.2.2)
    let c := convElem f (if sr then some d.1 else none) v
    (c.w :: acc.1, flagsOr acc.2.1 (flagsOr (flagIf c.ovf cvtOvf) (flagIf c.nan cvtNan)), d.2)) ([], 0, gen)
  (go.1.reverse, go.2.1, go.2.2)

end Sys2Proof.Machine
end

