-- ==== Sys2Proof/Machine/CoreOps.lean ====
section
/-! DEFINITION. Machine/CoreOps.lean: what the meanings of a core share: its launch, the tokens of its queues (R42 to R47), program
faults and leaving a launch (R74, R128), and when an instruction may leave the sequencer (R84). -/
namespace Sys2Proof.Machine

/-! ## Launches -/

/-- The key of a launch: its composition and lane (R381). -/
def laneKey (c lane : Nat) : Nat := 2 * c + lane % 2

/-- The launch that a resident runs. -/
def State.launchOf (s : State) (n r : Nat) : Option Launch :=
  let x := s.core n r
  s.launches.find (laneKey x.comp x.lane)

/-- The state with the launch of composition `c` and lane `lane` replaced. -/
def State.setLaunch (s : State) (c lane : Nat) (l : Launch) : State := { s with launches := s.launches.put (laneKey c lane) l }

/-- The residents of a launch: those of its cores that run in its lane. -/
def State.onLaunch (s : State) (c lane : Nat) (f : Launch → Launch) : State :=
  match s.launches.find (laneKey c lane) with
  | none => s
  | some l => s.setLaunch c lane (f l)

/-- Whether a resident takes part in the launch of its composition and lane. -/
def Res.inLaunch (x : Res) : Bool :=
  match x.status with
  | .idle | .left => false
  | _ => true

/-- The 8-byte word of the work-list header at an offset (R57). -/
def State.headerWord (s : State) (l : Launch) (off : Nat) : Nat := s.word (l.headerPa + off)

/-- Write `n` bytes of a header field as the near-memory controller does (R58). -/
def State.setHeader (s : State) (l : Launch) (off n v : Nat) : State := s.store (l.headerPa + off) (leBytes n v)

/-- A launch's work has ended with a status: its command's, or its step's where it is a step of the mixer (R359, R400). -/
def State.endLaunch (s : State) (c : Nat) (l : Launch) (status : Nat) : State :=
  if l.step then
    match s.mixers.find c with
    | none => s
    | some m => { s with mixers := s.mixers.put c { m with ended := some status } }
  else s.endCommand l.q status 0 0

/-- A core's record of sillage where it starts or leaves a launch: kind 1 BEGIN, 2 END; where a buffer traces cores and the command's
layer is not 0 (R310). -/
def State.coreTrace (s : State) (n kind : Nat) (l : Launch) : State :=
  match (s.ring l.q).cur with
  | none => s
  | some c =>
    if c.rec_.layer ≠ 0 ∧ (List.range 16).any (fun i => s.fld F.TIM_SIL_CFG_enable i == 1 && s.fld F.TIM_SIL_CFG_core_trace i == 1) then
      s.trace (n / 8) kind ((s.ctxs.find l.ctx).map (·.comp) |>.getD 0xFF) 0 c.rec_.layer c.rec_.operator (engineCode 2 n) l.ctx 0
    else s

/-- End the launch of a lane once every core has left it, where something has ended it: all items done, an abort, a lost core, a
squashed item that is not reissued, or a program fault; a launch still to be continued stays (R61, R74, R337, R371). -/
def State.settleLaunch (s : State) (c lane : Nat) : State :=
  match s.launches.find (laneKey c lane) with
  | none => s
  | some l =>
    if l.cores.any fun n => (s.core n lane).inLaunch && (s.core n lane).comp == c then s
    else
      let gone := { s with launches := s.launches.del (laneKey c lane) }
      if l.recorded then gone
      else if l.aborting.isSome then gone.endLaunch c l 1
      else if l.coreLost then gone.endLaunch c l 9
      else if l.squashed then gone.endLaunch c l 8
      else if l.faulted then gone.endLaunch c l 7
      else s

/-- The writes that the memory tier has accepted from a resident's STORE become visible to all, oldest first (R48, R72, R241). The model makes them
visible at the latest moment that the spec allows (DESIGN CHOICE, log 123). -/
def State.makeVisible (s : State) (n r : Nat) : State :=
  let w := s.coreWho (.storeIns n r) n r clsBulk
  let s' := s.onCore n r fun x => { x with accepted := [] }
  (s.core n r).accepted.foldl (fun s a => ((s.writeLines (linesOf a.pa a.data.length) a.pa a.data (leafSel a.leaf)).s).wrote w a.leaf a.pa a.data) s'

/-- The resident after it has left its launch: nothing of its program remains. -/
def Res.leave (x : Res) : Res :=
  { x with status := .left, sq := [], started := [], ahead := [], item := none, wait := .none, reqs := [], granted := [],
           leaveReq := false, fault := none, replay := [], asked := none, askedTwice := false, answer := none, syncOn := none, contribs := [],
           stopReq := none, overrun := false }

/-- The resident whose requests a unit's are. -/
def ownerRes (o : Owner) : Option (Nat × Nat) :=
  match o with
  | .loadIns n r | .ahead n r _ _ | .scalar n r | .storeIns n r => some (n, r % 2)
  | _ => none

/-- The resident whose translations a requester of a unit waits for. -/
def missRes (u : TlbUnit) (q : Requester) : Option (Nat × Nat) :=
  match u, q with
  | .load n, .stream r _ | .store n, .stream r _ | .load n, .scalar r | .store n, .scalar r | .load n, .fetch r => some (n, r % 2)
  | _, _ => none

/-- Nothing of a resident's accesses remains: the replies still to come for it are dropped, and it waits for no walk and no half. -/
def State.dropRequests (s : State) (n r : Nat) : State :=
  let mine (o : Owner) : Bool := ownerRes o == some (n, r % 2)
  let k := 32 * (2 * n + r % 2) * 2 ^ 48
  { s with
    outst := s.outst.map fun e => if mine e.2.req.owner then (e.1, { e.2 with discarded := true }) else e,
    remoteBuf := s.remoteBuf.clear k (k + 32 * 2 ^ 48),
    heldAcc := s.heldAcc.filter fun h => !mine h.own,
    misses := s.misses.filter fun m => missRes m.unit m.req != some (n, r % 2) }

/-- Resident `r` of core `n` leaves its launch (R58, R61, R74). -/
def State.leaveLaunch (s : State) (n r : Nat) : State :=
  let x := s.core n r
  let s := match s.launchOf n r with
    | some l => s.coreTrace n 2 l
    | none => s
  let s := (s.makeVisible n r).dropRequests n r
  (s.onCore n r Res.leave).settleLaunch x.comp x.lane

/-- Every core that is parked in `seq.pull` in a launch that claims nothing further leaves it (R58, R61, R74). -/
def State.freeParked (s : State) (c lane : Nat) : State :=
  match s.launches.find (laneKey c lane) with
  | none => s
  | some l => l.cores.foldl (fun s n =>
      if (s.core n lane).status = .running ∧ (s.core n lane).wait = .parked ∧ (s.core n lane).comp = c then s.leaveLaunch n lane else s) s

/-! ## Program faults (R74, R128, R402 to R406) -/

/-- Write the record of a resident's program fault once none of its started instructions remains, and leave the launch; while the
record waits at a full ring the resident stays (R74, R406). -/
def State.settleFault (s : State) (n r : Nat) : State :=
  let x := s.core n r
  match x.fault with
  | none => s
  | some f =>
    if x.status = .faulting ∧ x.started.isEmpty then
      let s := (s.onLaunch x.comp x.lane fun l => { l with faulted := true }).freeParked x.comp x.lane
      let q := s.report (n / 8) 1 x.comp (engineCode 2 n) x.ctx f.pc f.pos f.code (leBytes 1 f.unit ++ leBytes 1 r) (.core n r)
      if q.2 then q.1.leaveLaunch n r else q.1.setCore n r { q.1.core n r with status := .waitRecord, sq := [], ahead := [] }
    else s

/-- Whether a station instruction waits at a barrier: `bar.sync` or `bar.wait`. -/
def StIns.atBarrier (i : StIns) : Bool := i.u == 9 && (i.op == 0 || i.op == 2)

/-- A resident whose barrier broke: the waiting barrier operation completes with BARRIER_BROKEN (R128). A SYNC operation that waits
has not started (R65): it stands at the head of its queue, noted in `syncOn`. -/
def State.breakAt (s : State) (n r : Nat) : State :=
  let x := s.core n r
  match x.sq.find? fun i => i.u == 9 with
  | none => s
  | some i =>
    if i.atBarrier && x.syncOn == some i.seq && x.inLaunch then
      let f : ProgFault := { code := 0x2B, unit := 9, pc := i.pc, pos := 0, cause := 0, addr := 0 }
      let x := { x with sq := x.sq.filter (fun j => j.seq != i.seq), syncOn := none }
      if x.fault.isSome then s.setCore n r x else s.setCore n r { x with fault := some f, status := .faulting, wait := .none }
    else s

/-- When a core has left a FIXED launch by a fault, its barriers break for every other core (R128). -/
def State.breakBarriers (s : State) (c lane : Nat) : State :=
  match s.launches.find (laneKey c lane) with
  | none => s
  | some l =>
    if l.fixed && !l.broken then
      let s := s.setLaunch c lane { l with broken := true }
      let s := l.cores.foldl (fun s n => s.breakAt n lane) s
      l.cores.foldl (fun s n => s.settleFault n lane) s
    else s

/-- Complete the fault action of a resident where it can: write its record, leave, break the barriers (R74, R128). -/
def State.finishFault (s : State) (n r : Nat) : State :=
  let x := s.core n r
  let t := s.settleFault n r
  if x.fault.isSome && (t.core n r).status == .left then t.breakBarriers x.comp x.lane else t

/-- Raise a program fault in a resident: dispatch stops; the record follows once its started instructions have completed. A
resident that already stops for a fault keeps the first. -/
def State.progFault (s : State) (n r : Nat) (f : ProgFault) : State :=
  let x := s.core n r
  if x.fault.isSome then s else (s.setCore n r { x with fault := some f, status := .faulting, wait := .none }).finishFault n r

/-- A fault that the sequencer raises at its pc (R95). -/
def State.seqFault (s : State) (n r code : Nat) : State :=
  s.progFault n r { code := code, unit := 0, pc := (s.core n r).file.pc, pos := 0, cause := 0, addr := 0 }

/-! ## The codes of R403 -/

/-- TILE_SHAPE. -/
def fTileShape : Nat := 0x01
/-- QUEUE_CONFIG. -/
def fQueueConfig : Nat := 0x02
/-- QUEUE_ROLE. -/
def fQueueRole : Nat := 0x03
/-- HANDLE_IN_QUEUE. -/
def fHandleInQueue : Nat := 0x04
/-- TILE_BUSY. -/
def fTileBusy : Nat := 0x05
/-- QUEUE_DEADLOCK. -/
def fQueueDeadlock : Nat := 0x06
/-- STREAM_EXHAUSTED. -/
def fStreamExhausted : Nat := 0x07
/-- STREAM_DIRECTION. -/
def fStreamDirection : Nat := 0x08
/-- ELASTIC_VIOLATION. -/
def fElastic : Nat := 0x09
/-- NO_ITEM. -/
def fNoItem : Nat := 0x0A
/-- ILLEGAL_INSTRUCTION. -/
def fIllegalIns : Nat := 0x10
/-- ILLEGAL_OPERAND. -/
def fIllegalOp : Nat := 0x11
/-- PRIVILEGED_INSTRUCTION. -/
def fPrivileged : Nat := 0x12
/-- FETCH_ALIGN. -/
def fFetchAlign : Nat := 0x13
/-- FETCH_FAULT. -/
def fFetchFault : Nat := 0x14
/-- SCALAR_ALIGN. -/
def fScalarAlign : Nat := 0x15
/-- SCALAR_FAULT. -/
def fScalarFault : Nat := 0x16
/-- TILE_UNSET. -/
def fTileUnset : Nat := 0x17
/-- STREAM_UNSET. -/
def fStreamUnset : Nat := 0x18
/-- STREAM_CONFIG. -/
def fStreamConfig : Nat := 0x19
/-- FORMAT_MISMATCH. -/
def fFormat : Nat := 0x20
/-- SHAPE_MISMATCH. -/
def fShape : Nat := 0x21
/-- STREAM_TARGET. -/
def fStreamTarget : Nat := 0x22
/-- MEM_FAULT. -/
def fMem : Nat := 0x23
/-- GATHER_RANGE. -/
def fGatherRange : Nat := 0x24
/-- SEND_DEST. -/
def fSendDest : Nat := 0x25
/-- SEND_SHAPE. -/
def fSendShape : Nat := 0x26
/-- SEND_FAILED. -/
def fSendFailed : Nat := 0x27
/-- SYNC_ADDR. -/
def fSyncAddr : Nat := 0x28
/-- SYNC_TIMEOUT. -/
def fSyncTimeout : Nat := 0x29
/-- BARRIER_ORDER. -/
def fBarrierOrder : Nat := 0x2A
/-- BARRIER_BROKEN. -/
def fBarrierBroken : Nat := 0x2B
/-- FENCE_ACCESS. -/
def fFenceAccess : Nat := 0x2C
/-- FENCE_ABANDONED. -/
def fFenceAbandoned : Nat := 0x2D
/-- SCALE_CONFLICT. -/
def fScaleConflict : Nat := 0x30

/-- The code where `c` does not hold, 0 where it does. -/
def need (c : Bool) (code : Nat) : Nat := if c then 0 else code

/-! ## Tokens (R42 to R47) -/

/-- The configured queue `q` of a resident. -/
def Res.tq (x : Res) (q : Nat) : Option TQueue := x.queues.find q

/-- The resident with queue `q` replaced. -/
def Res.setTq (x : Res) (q : Nat) (t : TQueue) : Res := { x with queues := x.queues.put q t }

/-- The queue that an operand code names, with its suffix. -/
def queueCode (c : Nat) : Option (Nat × Bool) :=
  match operand c with
  | .queue q sfx => some (q, sfx)
  | _ => none

/-- The source slots of a station instruction. -/
def StIns.srcs (i : StIns) : List Nat := [s1Of i.ops, s2Of i.ops, s3Of i.ops]

/-- Whether an instruction names queue `q` as a source without the keep suffix. -/
def StIns.releases (i : StIns) (q : Nat) : Bool := i.srcs.any fun c => queueCode c == some (q, false)

/-- Whether an instruction names queue `q` as its destination. -/
def StIns.writesQ (i : StIns) (q : Nat) : Bool :=
  match queueCode (dstOf i.ops) with
  | some (d, _) => d == q
  | none => false

/-- The read-ahead handle that a demanding LOAD of stream tile `k` into queue `q` takes (R53). -/
def Res.aheadFor (x : Res) (st k : Nat) : Option Ahead := x.ahead.find? fun a => a.st == st && a.k == k

/-- Whether the destination token of an instruction is there (R43): the head is EMPTY, or is held open with no started
instruction on it. -/
def Res.dstReady (x : Res) (i : StIns) : Bool :=
  match queueCode (dstOf i.ops) with
  | none => true
  | some (q, _) =>
    match x.tq q with
    | none => true
    | some t =>
      match t.tok t.head with
      | .empty => true
      | .filling => !(x.started.any fun st => st.ins.u == i.u && st.ins.writesQ q) && !(x.ahead.any fun a => a.tq == q && a.h == t.head)
      | _ => false

/-- Whether a source token of an instruction is there (R44): the tail is FULL, or DRAINING with no started instruction
releasing it. -/
def Res.srcReady (x : Res) (i : StIns) (c : Nat) : Bool :=
  match queueCode c with
  | none => true
  | some (q, _) =>
    match x.tq q with
    | none => true
    | some t =>
      match t.tok t.tail with
      | .full => true
      | .draining => !(x.started.any fun st => st.ins.u == i.u && st.ins.releases q)
      | _ => false

/-- Whether every token of an instruction is there. -/
def Res.tokensReady (x : Res) (i : StIns) : Bool := x.dstReady i && i.srcs.all fun c => x.srcReady i c

/-- The handle that an operand slot works on: a free handle, the head of a destination queue, the tail of a source queue. -/
def Res.handleOf (x : Res) (c : Nat) (dst : Bool) : Option Nat :=
  match operand c with
  | .handle t => some t
  | .queue q _ => (x.tq q).map fun t => if dst then t.head else t.tail
  | _ => none

/-- The resident with the token of handle `h` of queue `q` changed. -/
def Res.setTok (x : Res) (q h : Nat) (t : Tok) : Res :=
  match x.tq q with
  | none => x
  | some tq => x.setTq q (tq.setTok h t)

/-- The tokens that an instruction takes at its start (R43, R44); `dst` is false where it takes a read-ahead handle. -/
def Res.takeTokens (x : Res) (i : StIns) (dst : Bool) : Res :=
  let x :=
    match queueCode (dstOf i.ops) with
    | some (q, _) => if dst then (match x.tq q with
        | some t => x.setTok q t.head .filling
        | none => x) else x
    | none => x
  i.srcs.foldl (fun x c =>
    match queueCode c with
    | some (q, _) => (match x.tq q with
        | some t => x.setTok q t.tail .draining
        | none => x)
    | none => x) x

/-- The destination token at completion (R43): FULL and the head advances, unless held open; a read-ahead handle becomes FULL
where it stands, its head having advanced already (R53). -/
def Res.giveDst (x : Res) (i : StIns) (h : Option Nat) (ahead : Bool) : Res :=
  match queueCode (dstOf i.ops), h with
  | some (q, sfx), some h =>
    match x.tq q with
    | none => x
    | some t =>
      if sfx then x
      else
        let t := t.setTok h .full
        x.setTq q (if ahead then t else { t with head := t.next t.head })
  | _, _ => x

/-- The source tokens at completion (R44): a release empties the handle and advances the tail. A queue named twice is released
once. -/
def Res.giveSrcs (x : Res) (i : StIns) : Res :=
  let qs := (i.srcs.filterMap queueCode).filterMap fun p => if p.2 then none else some p.1
  qs.eraseDups.foldl (fun x q =>
    match x.tq q with
    | none => x
    | some t => x.setTq q { (t.setTok t.tail .empty) with tail := t.next t.tail }) x

/-! ## Issue from the sequencer (R84, R90) -/

/-- Whether every instruction dispatched before `upto` to a unit of the mask has completed (R88). -/
def Res.stationsDone (x : Res) (mask upto : Nat) : Bool :=
  let busy (i : StIns) : Bool := bits mask i.u i.u == 1 && decide (i.seq < upto)
  !(x.sq.any busy) && !(x.started.any fun st => busy st.ins)

/-- Whether command processor `p` exists. -/
def cpOk (p : Nat) : Bool := decide (p < 16)

/-- Whether a resident's sequencer takes its next instruction: it runs, its island is ON, and nothing holds it. -/
def State.canIssue (s : State) (n r : Nat) : Bool :=
  let x := s.core n r
  x.status == .running && (s.dom (n / 8)).state == .on && x.wait == .none

/-- The code of an instruction in progress: its SEQ opcode (R88, R97), or its unit and opcode above 2^12. -/
def insCode (u op : Nat) : Nat := if u = 0 then op else 0x1000 + 256 * u + op

/-- Whether a resident is being stopped for a pre-emption. -/
def ResStatus.isStopping (t : ResStatus) : Bool :=
  match t with
  | .stopping _ => true
  | _ => false

/-- Whether an instruction is the one in progress at a resident's sequencer. It goes on where it is commanded again (DESIGN CHOICE, log 120), also
after a pre-emption request, which lets it end (R89, R90). -/
def State.goesOn (s : State) (n r code : Nat) (o : Ops) : Bool :=
  let x := s.core n r
  (x.status == .running || x.status.isStopping) && (s.dom (n / 8)).state == .on &&
    match x.wait with
    | .busy c p _ => c == code && p == o
    | _ => false

/-- Whether the instruction in progress has made its write or claimed its item. -/
def Res.sent (x : Res) : Bool :=
  match x.wait with
  | .busy _ _ b => b
  | _ => false

/-- The sequencer holds an instruction that has not ended, with every later one (R86, R89). -/
def State.holdSeq (s : State) (n r code : Nat) (o : Ops) (sent : Bool) : State := s.onCore n r fun x => { x with wait := .busy code o sent }

/-- A blocking instruction ends: its file, past it (R89). -/
def State.endSeq (s : State) (n r : Nat) (f : SeqFile → SeqFile) : State :=
  s.onCore n r fun x => { x with file := f x.file, wait := .none, actAt := s.aon.dt }

/-- Whether an instruction is the one in progress at a command processor (R89, R97). -/
def State.cpGoesOn (s : State) (p code : Nat) (o : Ops) : Bool :=
  let x := s.cp p
  s.domOn (cpIsl p) && !x.reload && x.busy.any fun b => b.1 == code && b.2.1 == o

/-- A command processor holds an instruction that has not ended. -/
def State.holdCp (s : State) (p code : Nat) (o : Ops) (sent : Bool) : State := s.setCp p { s.cp p with busy := some (code, o, sent) }

/-- A blocking instruction of a command processor ends. -/
def State.endCp (s : State) (p : Nat) (f : SeqFile → SeqFile) : State := s.setCp p { s.cp p with file := f (s.cp p).file, busy := none }

/-- Whether a command processor takes its next instruction: its domain is ON, it is not being reloaded, it does not sleep, and no instruction of it is
in progress. -/
def State.cpCanIssue (s : State) (p : Nat) : Bool :=
  let x := s.cp p
  s.domOn (cpIsl p) && !x.reload && x.sleep.isNone && x.until_.isNone && x.busy.isNone

/-- A fault of a command processor goes to management firmware as a CP_FAULT record; the instruction has no effect (R96, R403). -/
def State.cpFault (s : State) (p code : Nat) : State :=
  ((s.report (cpIsl p) 0x10 0xFF (engineCode 0 p) noCtx (s.cp p).file.pc 0 code [] .none).1).endCp p id

/-- Issue a sequencer instruction that changes the file alone: the encoding fault `enc` (0 for none) first, then the predicate, then
the effect `f`, which advances or moves pc (R76, R84, R95). -/
def State.seqOp (s : State) (q : Seqr) (enc : Nat) (p : Pred) (f : SeqFile → SeqFile) : State :=
  match q with
  | .core n r =>
    if !s.canIssue n r then s
    else if enc ≠ 0 then s.seqFault n r enc
    else
      let x := s.core n r
      s.setCore n r { x with file := if x.file.holds p then f x.file else x.file.adv }
  | .cp i =>
    if !s.cpCanIssue i then s
    else if enc ≠ 0 then s.cpFault i enc
    else
      let x := s.cp i
      s.setCp i { x with file := if x.file.holds p then f x.file else x.file.adv }

/-- Whether the executor of a sequencer instruction exists. -/
def seqrOk (q : Seqr) : Bool :=
  match q with
  | .core n r => coreOk n r
  | .cp p => cpOk p

/-- Issue an instruction that only a core executes: on a command processor it is an ILLEGAL_INSTRUCTION (R96). -/
def State.coreOp (s : State) (q : Seqr) (enc : Nat) (p : Pred) (f : Nat → Nat → State → State) : State :=
  match q with
  | .cp i => if s.cpCanIssue i then s.cpFault i fIllegalIns else s
  | .core n r =>
    if !s.canIssue n r then s
    else if enc ≠ 0 then s.seqFault n r enc
    else
      if (s.core n r).file.holds p then f n r s else s.onCore n r fun x => { x with file := x.file.adv }

/-- Issue a blocking instruction that only a core executes, or go on with it (R89). -/
def State.coreBlock (s : State) (q : Seqr) (code enc : Nat) (p : Pred) (o : Ops) (f : Nat → Nat → State → State) : State :=
  match q with
  | .core n r => if s.goesOn n r code o then f n r s else s.coreOp q enc p f
  | .cp _ => s.coreOp q enc p f

/-- The state with resident `r` of core `n` past its instruction. -/
def State.pass (s : State) (n r : Nat) : State := s.onCore n r fun x => { x with file := x.file.adv }

/-- The state with a command processor past its instruction. -/
def State.cpPass (s : State) (p : Nat) : State := s.setCp p { s.cp p with file := (s.cp p).file.adv }

end Sys2Proof.Machine
end

