-- ==== Sys2Proof/Machine/OpTable.lean ====
section
/-! DEFINITION. Machine/OpTable.lean: the operation tables of the stations (R99, R101, R104, R109, R113, R114, R117, R120, R122, R127):
for each unit and opcode the operand sets of the four slots and the values that mod may hold; and the opcodes of SEQ (R88). -/
namespace Sys2Proof.Machine

/-- An operation of a station: the sets of its slots, the highest mod value it defines, and the mod values reserved below it. -/
structure OpInfo where
  d : OpSet
  a : OpSet
  b : OpSet
  c : OpSet
  modOk : Bool
  deriving DecidableEq, Repr

/-- Whether mod has no bit above `hi`. -/
def modWithin (m hi : Nat) : Bool := decide (m < 2 ^ (hi + 1))

/-- XFORM's operations (R109). -/
def xformInfo (op : Nat) (o : Ops) : Option OpInfo :=
  let m := modOf o
  if op ≤ 0x05 then some ⟨.td, .ts, .none, .none, m == 0⟩
  else if 0x08 ≤ op ∧ op ≤ 0x16 then some ⟨.td, .ts, .none, .none, modWithin m 2 && bits m 2 1 != 3⟩
  else if op = 0x18 then some ⟨.td, .ts, .ts, .none, m == 1 || m == 2⟩
  else if op = 0x20 then some ⟨.td, .ts_s, .ts, .none, modWithin m 6⟩
  else none

/-- MATRIX's operations (R113, R114). -/
def matrixInfo (op : Nat) (o : Ops) : Option OpInfo :=
  let m := modOf o
  if op ≤ 0x08 ∨ (0x10 ≤ op ∧ op ≤ 0x13) then some ⟨.ap, .ts, .ts, if m % 4 = 0 then .none else .ts, modWithin m 1 && m != 3⟩
  else if 0x20 ≤ op ∧ op ≤ 0x24 then some ⟨.td, .ap, .none, .none, modWithin m 1⟩
  else if op = 0x28 then some ⟨.ap, .none, .none, .none, m == 0⟩
  else if op = 0x29 then some ⟨.ap, .ts, .none, .none, m == 0⟩
  else none

/-- VECTOR's operations (R117). The suffix is 0 for `.f32`, 1 for `.bf16` (opcode + 0x40), 2 for `.f16` (opcode + 0x80). -/
def vectorInfo (op : Nat) (o : Ops) : Option OpInfo :=
  let m := modOf o
  let base := op % 0x40
  if op < 0xC0 ∧ base ≤ 0x04 then some ⟨.td, .ts, .ts, .none, modWithin m 2⟩
  else if op = 0x05 ∧ s3Of o = 0xFF then some ⟨.f, .f, .ts, .none, m == 0 || m == 4⟩
  else if op < 0xC0 ∧ base = 0x05 then some ⟨.td, .ts, .ts, .ts, modWithin m 2⟩
  else if 0x08 ≤ op ∧ op ≤ 0x0B then some ⟨.td, .ts, .none, .none, m == 0 || m == 4⟩
  else if op = 0x10 then some ⟨.td, .f, .ts, .none, m == 0 || m == 4⟩
  else if 0x11 ≤ op ∧ op ≤ 0x15 then some ⟨.td, .ts, .f, .none, m == 0 || m == 4⟩
  else if op = 0x18 then some ⟨.f, .g, .none, .none, m == 0⟩
  else none

/-- REDUCE's operations (R120). -/
def reduceInfo (op : Nat) (o : Ops) : Option OpInfo :=
  let m := modOf o
  if op < 0xC0 ∧ op % 0x40 ≤ 3 then
    some (if m % 4 = 2 then ⟨.td, .ts, .ts, .ts_none, modWithin m 2⟩ else ⟨.td, .ts, .none, .none, modWithin m 2⟩)
  else none

/-- SYNC's operations (R127). -/
def syncInfo (op : Nat) (o : Ops) : Option OpInfo :=
  let m := modOf o
  if op ≤ 0x02 then some ⟨.none, .none, .none, .none, decide (m < 2)⟩
  else if op = 0x08 ∨ op = 0x09 then some ⟨.g, .g, .none, .none, m == 0⟩
  else if op = 0x0A then some ⟨.g, .g, .g_none, .none, decide (m < 3)⟩
  else if op = 0x10 then some ⟨.none, .none, .none, .none, m == 0⟩
  else if op = 0x18 then some ⟨.g, .g, .g_none, .none, m == 0⟩
  else none

/-- The operation of unit `u` and opcode `op` with operand field `o`; none where the opcode is not defined (R95). -/
def opInfo (u op : Nat) (o : Ops) : Option OpInfo :=
  let m := modOf o
  match u with
  | 1 => if op = 0 then some ⟨.td0, .s, .none, .none, modWithin m 6⟩ else none
  | 2 => if op = 0 then some ⟨.s, .ts, .none, .none, modWithin m 6⟩ else none
  | 3 => xformInfo op o
  | 4 => matrixInfo op o
  | 5 => vectorInfo op o
  | 6 => reduceInfo op o
  | 7 => if op = 0x00 ∨ op = 0x08 then some ⟨.g, .ts, .none, .none, m == 0⟩ else none
  | 8 => if op = 0x00 then some ⟨.q, .none, .none, .none, m == 0⟩
    else if op = 0x08 then some ⟨.q, .g, .none, .none, m == 0⟩ else none
  | 9 => syncInfo op o
  | _ => none

/-- Whether each slot holds a code of its set (R77, R99). -/
def OpInfo.slotsOk (i : OpInfo) (shared : Bool) (o : Ops) : Bool :=
  i.d.has shared (dstOf o) && i.a.has shared (s1Of o) && i.b.has shared (s2Of o) && i.c.has shared (s3Of o)

/-- Whether SEQ defines an opcode, on a core or on a command processor (R88, R96, R97). -/
def seqOpcode (op : Nat) : Bool :=
  op == 0x00 || (0x10 ≤ op && op ≤ 0x20) || (0x24 ≤ op && op ≤ 0x2B) || (0x30 ≤ op && op ≤ 0x35) || (0x38 ≤ op && op ≤ 0x3D) ||
  (0x40 ≤ op && op ≤ 0x44) || (0x50 ≤ op && op ≤ 0x53) || (0x60 ≤ op && op ≤ 0x68) || (0x70 ≤ op && op ≤ 0x74) || op == 0x76 ||
  op == 0x77 || (0x80 ≤ op && op ≤ 0x86) || (0xC0 ≤ op && op ≤ 0xC4)

/-- Whether a command processor executes a SEQ opcode (R96). -/
def cpOpcode (op : Nat) : Bool :=
  seqOpcode op && (op ≤ 0x68 || op == 0x73 || op == 0x74 || op == 0x77 || (0xC0 ≤ op && op ≤ 0xC4))

/-! ## The zero fields of the SEQ formats (R87) -/

/-- ILLEGAL_INSTRUCTION where a must-be-zero field is not zero, 0 for none. -/
def zeroElse (ok : Bool) : Nat := if ok then 0 else 0x10

/-- N. -/
def encN (o : Ops) : Nat := zeroElse (o == 0#48)
/-- RR with its three registers used. -/
def encRR (o : Ops) : Nat := zeroElse (ob o 32 0 == 0)
/-- RI of the shifts: imm[37:6] zero. -/
def encShift (o : Ops) : Nat := zeroElse (ob o 37 6 == 0)
/-- RI of `seq.movi`: ra zero. -/
def encMovi (o : Ops) : Nat := zeroElse (raOf o == 0)
/-- RI of `seq.movhi`: imm[37:32] zero. -/
def encMovhi (o : Ops) : Nat := zeroElse (ob o 37 32 == 0)
/-- CR. -/
def encCR (o : Ops) : Nat := zeroElse (ob o 44 43 == 0 && ob o 32 0 == 0)
/-- CI. -/
def encCI (o : Ops) : Nat := zeroElse (ob o 44 43 == 0 && ob o 37 33 == 0)
/-- PL; `pb` says whether the operation uses pb. -/
def encPL (o : Ops) (pb : Bool) : Nat := zeroElse (ob o 38 0 == 0 && (pb || ob o 41 39 == 0))
/-- SL. -/
def encSL (o : Ops) : Nat := zeroElse (ob o 29 0 == 0)
/-- BR; whether the operation uses rd, ra and off. -/
def encBR (o : Ops) (d a off : Bool) : Nat :=
  zeroElse (ob o 37 32 == 0 && (d || rdOf o == 0) && (a || raOf o == 0) && (off || ob o 31 0 == 0))
/-- CS; whether the operation uses rd and ra. -/
def encCS (o : Ops) (d a : Bool) : Nat :=
  zeroElse (ob o 37 33 == 0 && ob o 32 12 == 0 && (d || rdOf o == 0) && (a || raOf o == 0))
/-- RR with only some of its registers used. -/
def encRRuse (o : Ops) (d a b : Bool) : Nat :=
  zeroElse (ob o 32 0 == 0 && (d || rdOf o == 0) && (a || raOf o == 0) && (b || rbOf o == 0))
/-- W: bits 47:10 zero and mask bit 0 zero (R87, R88). -/
def encW (o : Ops) : Nat := zeroElse (ob o 47 10 == 0 && ob o 0 0 == 0)
/-- OG: bits 34:0 zero; the object code in [lo, hi] or ILLEGAL_OPERAND; `g` says whether the register field is used. -/
def encOG (o : Ops) (lo hi : Nat) (g : Bool) : Nat :=
  if ob o 34 0 ≠ 0 ∨ (g = false ∧ ob o 39 35 ≠ 0) then 0x10
  else if lo ≤ dstOf o ∧ dstOf o ≤ hi then 0 else 0x11

end Sys2Proof.Machine
end

