-- ==== Sys2Proof/Machine/SeqArith.lean ====
section
/-! DEFINITION. Machine/SeqArith.lean: the sequencer's arithmetic, compares, predicates and branches (R88), on a core or on a
command processor (R96). -/
namespace Sys2Proof.Machine

/-- The file after rd receives `v` and pc advances. -/
def SeqFile.put (f : SeqFile) (o : Ops) (v : Word) : SeqFile := (f.wg (rdOf o) v).adv

/-- The file after pd receives `v` and pc advances. -/
def SeqFile.putP (f : SeqFile) (o : Ops) (v : Bool) : SeqFile := (f.wp (pdOf o) v).adv

/-- An RR instruction: rd = f ra rb. -/
def seqRR (q : Seqr) (p : Pred) (ops : Ops) (f : Word → Word → Word) (s : State) : Out :=
  checked (seqrOk q) (s.seqOp q (encRR ops) p fun x => x.put ops (f (x.rg (raOf ops)) (x.rg (rbOf ops))))

/-- An RI instruction with encoding check `enc`: rd = f ra imm. -/
def seqRI (q : Seqr) (p : Pred) (ops : Ops) (enc : Nat) (f : Word → Word → Word) (s : State) : Out :=
  checked (seqrOk q) (s.seqOp q enc p fun x => x.put ops (f (x.rg (raOf ops)) (w64 (immOf ops))))

/-- A PL instruction: pd = f pa pb. -/
def seqPL (q : Seqr) (p : Pred) (ops : Ops) (pb : Bool) (f : Bool → Bool → Bool) (s : State) : Out :=
  checked (seqrOk q) (s.seqOp q (encPL ops pb) p fun x => x.putP ops (f (x.rp (ob ops 44 42)) (x.rp (ob ops 41 39))))

/-- The high 64 bits of the unsigned product. -/
def mulHigh (a b : Word) : Word := BitVec.ofNat 64 (a.toNat * b.toNat / 2 ^ 64)

/-- Unsigned quotient; all ones for a divisor of 0. -/
def divUnsigned (a b : Word) : Word := if b = 0#64 then BitVec.allOnes 64 else a / b

/-- Unsigned remainder; the dividend for a divisor of 0. -/
def remUnsigned (a b : Word) : Word := if b = 0#64 then a else a % b

/-- The shift count: bits 5:0. -/
def shiftCount (b : Word) : Nat := b.toNat % 64

/-- `seq.add` (R88). -/
def execSeqAdd (q : Seqr) (p : Pred) (ops : Ops) (s : State) : Out := seqRR q p ops (fun a b => a + b) s

/-- `seq.sub` (R88). -/
def execSeqSub (q : Seqr) (p : Pred) (ops : Ops) (s : State) : Out := seqRR q p ops (fun a b => a - b) s

/-- `seq.mul` (R88). -/
def execSeqMul (q : Seqr) (p : Pred) (ops : Ops) (s : State) : Out := seqRR q p ops (fun a b => a * b) s

/-- `seq.mulhu` (R88). -/
def execSeqMulhu (q : Seqr) (p : Pred) (ops : Ops) (s : State) : Out := seqRR q p ops (mulHigh) s

/-- `seq.and` (R88). -/
def execSeqAnd (q : Seqr) (p : Pred) (ops : Ops) (s : State) : Out := seqRR q p ops (fun a b => a &&& b) s

/-- `seq.or` (R88). -/
def execSeqOr (q : Seqr) (p : Pred) (ops : Ops) (s : State) : Out := seqRR q p ops (fun a b => a ||| b) s

/-- `seq.xor` (R88). -/
def execSeqXor (q : Seqr) (p : Pred) (ops : Ops) (s : State) : Out := seqRR q p ops (fun a b => a ^^^ b) s

/-- `seq.shl` (R88). -/
def execSeqShl (q : Seqr) (p : Pred) (ops : Ops) (s : State) : Out := seqRR q p ops (fun a b => a <<< shiftCount b) s

/-- `seq.shr` (R88). -/
def execSeqShr (q : Seqr) (p : Pred) (ops : Ops) (s : State) : Out := seqRR q p ops (fun a b => a >>> shiftCount b) s

/-- `seq.sra` (R88). -/
def execSeqSra (q : Seqr) (p : Pred) (ops : Ops) (s : State) : Out := seqRR q p ops (fun a b => a.sshiftRight (shiftCount b)) s

/-- `seq.min, signed` (R88). -/
def execSeqMin (q : Seqr) (p : Pred) (ops : Ops) (s : State) : Out := seqRR q p ops (fun a b => if a.slt b then a else b) s

/-- `seq.max, signed` (R88). -/
def execSeqMax (q : Seqr) (p : Pred) (ops : Ops) (s : State) : Out := seqRR q p ops (fun a b => if a.slt b then b else a) s

/-- `seq.minu` (R88). -/
def execSeqMinu (q : Seqr) (p : Pred) (ops : Ops) (s : State) : Out := seqRR q p ops (fun a b => if a.ult b then a else b) s

/-- `seq.maxu` (R88). -/
def execSeqMaxu (q : Seqr) (p : Pred) (ops : Ops) (s : State) : Out := seqRR q p ops (fun a b => if a.ult b then b else a) s

/-- `seq.divu` (R88). -/
def execSeqDivu (q : Seqr) (p : Pred) (ops : Ops) (s : State) : Out := seqRR q p ops (divUnsigned) s

/-- `seq.remu` (R88). -/
def execSeqRemu (q : Seqr) (p : Pred) (ops : Ops) (s : State) : Out := seqRR q p ops (remUnsigned) s

/-- `seq.addi` (R88). -/
def execSeqAddi (q : Seqr) (p : Pred) (ops : Ops) (s : State) : Out := seqRI q p ops 0 (fun a i => a + i) s

/-- `seq.andi` (R88). -/
def execSeqAndi (q : Seqr) (p : Pred) (ops : Ops) (s : State) : Out := seqRI q p ops 0 (fun a i => a &&& i) s

/-- `seq.ori` (R88). -/
def execSeqOri (q : Seqr) (p : Pred) (ops : Ops) (s : State) : Out := seqRI q p ops 0 (fun a i => a ||| i) s

/-- `seq.xori` (R88). -/
def execSeqXori (q : Seqr) (p : Pred) (ops : Ops) (s : State) : Out := seqRI q p ops 0 (fun a i => a ^^^ i) s

/-- `seq.shli` (R88). -/
def execSeqShli (q : Seqr) (p : Pred) (ops : Ops) (s : State) : Out := seqRI q p ops (encShift ops) (fun a i => a <<< shiftCount i) s

/-- `seq.shri` (R88). -/
def execSeqShri (q : Seqr) (p : Pred) (ops : Ops) (s : State) : Out := seqRI q p ops (encShift ops) (fun a i => a >>> shiftCount i) s

/-- `seq.srai` (R88). -/
def execSeqSrai (q : Seqr) (p : Pred) (ops : Ops) (s : State) : Out := seqRI q p ops (encShift ops) (fun a i => a.sshiftRight (shiftCount i)) s

/-- `seq.movi` (R88). -/
def execSeqMovi (q : Seqr) (p : Pred) (ops : Ops) (s : State) : Out := seqRI q p ops (encMovi ops) (fun _ i => i) s

/-- `seq.movhi` (R88). -/
def execSeqMovhi (q : Seqr) (p : Pred) (ops : Ops) (s : State) : Out := seqRI q p ops (encMovhi ops) (fun a i => (a &&& 0xFFFFFFFF#64) ||| (i <<< 32)) s

/-- `seq.cmp` with a condition (R88). -/
def execSeqCmp (q : Seqr) (c : Cond) (p : Pred) (ops : Ops) (s : State) : Out :=
  checked (seqrOk q) (s.seqOp q (encCR ops) p fun x => x.putP ops (condHolds c (x.rg (raOf ops)) (x.rg (rbOf ops))))

/-- `seq.cmpi` with a condition (R88). -/
def execSeqCmpi (q : Seqr) (c : Cond) (p : Pred) (ops : Ops) (s : State) : Out :=
  checked (seqrOk q) (s.seqOp q (encCI ops) p fun x => x.putP ops (condHolds c (x.rg (raOf ops)) (w64 (imm33Of ops))))

/-- `seq.pand` (R88). -/
def execSeqPand (q : Seqr) (p : Pred) (ops : Ops) (s : State) : Out := seqPL q p ops true (fun a b => a && b) s

/-- `seq.por` (R88). -/
def execSeqPor (q : Seqr) (p : Pred) (ops : Ops) (s : State) : Out := seqPL q p ops true (fun a b => a || b) s

/-- `seq.pxor` (R88). -/
def execSeqPxor (q : Seqr) (p : Pred) (ops : Ops) (s : State) : Out := seqPL q p ops true (fun a b => xor a b) s

/-- `seq.pnot` (R88). -/
def execSeqPnot (q : Seqr) (p : Pred) (ops : Ops) (s : State) : Out := seqPL q p ops false (fun a _ => !a) s

/-- `seq.sel` (R88). -/
def execSeqSel (q : Seqr) (p : Pred) (ops : Ops) (s : State) : Out :=
  checked (seqrOk q) (s.seqOp q (encSL ops) p fun x =>
    x.put ops (if x.rp (ob ops 32 30) then x.rg (raOf ops) else x.rg (rbOf ops)))

/-- `seq.br` (R88). Its target is a whole number of instructions from pc. -/
def execSeqBr (q : Seqr) (p : Pred) (ops : Ops) (s : State) : Out :=
  checked (seqrOk q) (s.seqOp q (encBR ops false false true) p fun x => x.jump (offOf ops))

/-- `seq.call` (R88). -/
def execSeqCall (q : Seqr) (p : Pred) (ops : Ops) (s : State) : Out :=
  checked (seqrOk q) (s.seqOp q (encBR ops true false true) p fun x =>
    (x.wg (rdOf ops) (BitVec.ofNat 64 (x.pc + 8))).jump (offOf ops))

/-- The file that executes an instruction. -/
def State.fileOf (s : State) (q : Seqr) : SeqFile :=
  match q with
  | .core n r => (s.core n r).file
  | .cp p => (s.cp p).file

/-- Raise FETCH_ALIGN naming target `t` (R95). -/
def State.alignFault (s : State) (q : Seqr) (t : Nat) : State :=
  match q with
  | .core n r =>
    if s.canIssue n r then s.progFault n r { code := fFetchAlign, unit := 0, pc := t, pos := 0, cause := 0, addr := 0 } else s
  | .cp i =>
    if s.cpCanIssue i then (s.report (cpIsl i) 0x10 0xFF (engineCode 0 i) noCtx t 0 fFetchAlign [] .none).1 else s

/-- `seq.jr` (R88): a target that is not a multiple of 8 raises FETCH_ALIGN, which names the target (R95). A target with bits above 51, here and in a
branch, is taken modulo 2^52, since bits 63:52 of pc are zero (DESIGN CHOICE, log 122). -/
def execSeqJr (q : Seqr) (p : Pred) (ops : Ops) (s : State) : Out :=
  let enc := encBR ops false true false
  let x := s.fileOf q
  let t := (x.rg (raOf ops)).toNat
  checked (seqrOk q)
    (if enc = 0 ∧ x.holds p ∧ t % 8 ≠ 0 then s.alignFault q t
     else s.seqOp q enc p fun x => { x with pc := (x.rg (raOf ops)).toNat % 2 ^ 52 })

/-- `seq.loop` (R88): a counter of 0 becomes all ones, and the branch is taken. -/
def execSeqLoop (q : Seqr) (p : Pred) (ops : Ops) (s : State) : Out :=
  checked (seqrOk q) (s.seqOp q (encBR ops false true true) p fun x =>
    let v := x.rg (raOf ops) - 1#64
    let y := x.wg (raOf ops) v
    if v = 0#64 then y.adv else y.jump (offOf ops))

/-- `seq.nop`, and every word that is no operation of its own (R88, R95, R96): a reserved unit, an undefined opcode, a nonzero zero
field raises ILLEGAL_INSTRUCTION; a command-processor opcode on a core raises PRIVILEGED_INSTRUCTION. A word that another row
executes is none of this row's. -/
def execSeqNop (q : Seqr) (w : Word) (s : State) : Out :=
  let unit := bits w.toNat 63 60
  let op := bits w.toNat 59 52
  let o : Ops := BitVec.ofNat 48 w.toNat
  let p : Pred := { psel := bits w.toNat 51 49, pneg := bits w.toNat 48 48 == 1 }
  let isCp := match q with
    | .cp _ => true
    | .core _ _ => false
  checked (seqrOk q)
    (if unit = 0 ∧ op = 0 then s.seqOp q (encN o) p SeqFile.adv
     else if isCp then (if unit = 0 ∧ cpOpcode op then s else s.seqOp q fIllegalIns p SeqFile.adv)
     else if unit = 0 ∧ 0xC0 ≤ op ∧ op ≤ 0xC4 then s.seqOp q fPrivileged p SeqFile.adv
     else if (unit = 0 ∧ seqOpcode op) ∨ (opInfo unit op o).isSome then s
     else s.seqOp q fIllegalIns p SeqFile.adv)

end Sys2Proof.Machine
end

