-- ==== Sys2Proof/Machine/SeqMem.lean ====
section
/-! DEFINITION. Machine/SeqMem.lean: the sequencer's scalar accesses (R89), atomics at the near-memory controller (R166), work items
(R58 to R61), on a core; and the physical accesses of command processors (R96). -/
namespace Sys2Proof.Machine

/-- The bytes of a scalar access (R88). -/
def sizeBytes (z : Size) : Nat :=
  match z with
  | .b => 1
  | .h => 2
  | .w => 4
  | .d => 8

/-- The opcodes of the scalar loads and stores (R88). -/
def ldCode (z : Size) : Nat :=
  match z with
  | .b => 0x60
  | .h => 0x61
  | .w => 0x62
  | .d => 0x63

/-- `seq.st`. -/
def stCode (z : Size) : Nat := ldCode z + 4

/-- The address of a scalar access: ra + imm, modulo 2^64. -/
def SeqFile.ea (f : SeqFile) (o : Ops) : Nat := (f.rg (raOf o) + w64 (immOf o)).toNat

/-- The result of an atomic at the near-memory controller: the state, the old value, or the failure; or that it waits, nothing of it done, for a walk
or for a half that wakes (R231, R255). -/
structure Atomic where
  s : State
  old : Nat
  fail : Option MemFail
  wait : Bool
  deriving DecidableEq, Repr

/-- Change `n` bytes of near memory named by a virtual address in one step (R166): translated with r and w, performed under the
page's selector, logged and mirrored as the page says; `sync`: it travels as a SYNC message (R251, R257). -/
def State.atomicAt (s : State) (w : Who) (sync : Bool) (u : TlbUnit) (q : Requester) (tag va n : Nat) (f : Nat → Nat) : Atomic :=
  let x := s.translate u q tag va needRW
  match x.2 with
  | .waits => ⟨x.1, 0, none, true⟩
  | .transFault => ⟨x.1, 0, some ⟨0x10, va⟩, false⟩
  | .permFault => ⟨x.1, 0, some ⟨0x11, va⟩, false⟩
  | .ok pa leaf =>
    match region pa with
    | .near _ _ =>
      match (if sync then x.1.syncHeld w pa else x.1.sleepWait w (leafSel leaf) pa) with
      | some t => ⟨t, 0, none, true⟩
      | none =>
        let r := (x.1.unhold w.own pa).readPhys w (leafSel leaf) pa n
        if r.st ≠ .ok then ⟨r.s, 0, some ⟨memCode r.st, va⟩, false⟩
        else
          let old := leNat r.data
          let data := leBytes n (f old)
          let t := r.s.writePhys w (leafSel leaf) pa data
          if t.st ≠ .ok then ⟨t.s, 0, some ⟨memCode t.st, va⟩, false⟩ else ⟨t.s.wrote w leaf pa data, old, none, false⟩
    | _ => ⟨x.1, 0, some ⟨1, va⟩, false⟩

/-! ## Physical accesses of a command processor (R96) -/

/-- What an access of a command processor answers: it fails; it waits, in a state; it has been made, with the value read. -/
inductive CpAns where
  | fail
  | wait (s : State)
  | done (s : State) (v : Nat)
  deriving DecidableEq, Repr

/-- A read by a command processor: a register, or memory with selector 0, where a remote window's data is waited for (R96, R175). -/
def State.cpRead (s : State) (p a n : Nat) : CpAns :=
  match region a with
  | .regBlock off =>
    if accessFits off n then .done (s.clearRc (.cp p) off n) (s.regRead (.cp p) off n).toNat else .fail
  | .unmapped => .fail
  | _ =>
    match s.pieceWait (cpWho p) 0 a n false with
    | some t => .wait t
    | none =>
      let r := s.readAny (cpWho p) 0 a n
      if r.st = .ok then .done r.s (leNat r.data) else .fail

/-- A write by a command processor; one to a remote window ends when its commit group has closed (R89, R96, R179). -/
def State.cpWrite (s : State) (p a n v : Nat) : CpAns :=
  match region a with
  | .regBlock off => if accessFits off n then .done (s.regWrite (.cp p) off n (BitVec.ofNat 64 v)) 0 else .fail
  | .unmapped => .fail
  | _ =>
    match s.pieceWait (cpWho p) 0 a n true with
    | some t => .wait t
    | none =>
      let r := s.writeAny (cpWho p) 0 a (leBytes n v)
      if r.st = .ok then .done r.s 0 else .fail

/-- A command processor's access to an atomic's word: near memory alone (R89, R96). -/
def State.cpAmo (s : State) (p a v : Nat) : CpAns :=
  match region a with
  | .near _ _ =>
    match s.cpRead p a 8 with
    | .done t old =>
      match t.cpWrite p a 8 (old + v) with
      | .done t _ => .done t old
      | _ => .fail
    | x => x
  | _ => .fail

/-- Perform a scalar access of a command processor, or go on with it: `f` makes the access at its address; `g` changes the file by the value read. A
remote write ends when its commit group has closed, with SCALAR_FAULT where that is POISONED (R89, R96, R183). -/
def State.cpAccess (s : State) (p code : Nat) (pr : Pred) (o : Ops) (n : Nat) (f : Nat → CpAns) (g : SeqFile → Nat → SeqFile) : State :=
  let on := s.cpGoesOn p code o
  if !(s.cpCanIssue p || on) then s
  else
    let x := (s.cp p).file
    let a := x.ea o
    let close (s : State) : State :=
      if !s.groupsClosed (ownerCp p) then s.holdCp p code o true
      else if s.groupsPoisoned (ownerCp p) then (s.freeClosed (ownerCp p)).cpFault p fScalarFault
      else (s.freeClosed (ownerCp p)).endCp p fun y => (g y 0).adv
    if on && (s.cp p).busy.any (·.2.2) then close s
    else if !x.holds pr then s.cpPass p
    else if a % n ≠ 0 then s.cpFault p fScalarAlign
    else
      match f a with
      | .fail => s.cpFault p fScalarFault
      | .wait t => t.holdCp p code o false
      | .done t v => if isRemote a && (t.openGroup (ownerCp p)).isSome then close (t.commitOwner (ownerCp p)) else t.endCp p fun y => (g y v).adv

/-! ## Scalar accesses of a core (R89) -/

/-- Raise SCALAR_FAULT, keeping the failing access's cause and address. -/
def State.scalarFault (s : State) (n r : Nat) (m : MemFail) : State :=
  s.progFault n r { code := fScalarFault, unit := 0, pc := (s.core n r).file.pc, pos := 0, cause := m.cause, addr := m.addr }

/-- The space of a resident's accesses through a translation unit of its core, for its scalar requester (R89). -/
def State.scalarSpace (s : State) (n r : Nat) (store : Bool) : Space :=
  .virt (if store then .store n else .load n) (.scalar r) (s.ctxTag (s.core n r).ctx)

/-- `seq.ld`: rd receives the bytes, zero-extended, when they have arrived. -/
def State.coreLoad (s : State) (n r : Nat) (z : Size) (o : Ops) : State :=
  let va := (s.core n r).file.ea o
  let k := sizeBytes z
  if va % k ≠ 0 then s.seqFault n r fScalarAlign
  else
    let q := s.vread (s.scalarWho n r) (s.scalarSpace n r false) va k needR
    if q.wait then q.s.holdSeq n r (ldCode z) o false
    else
      match q.fail with
      | some m => q.s.scalarFault n r m
      | none => q.s.endSeq n r fun x => x.put o (BitVec.ofNat 64 (leNat q.data))

/-- A scalar store that has been staged to a partner ends when its commit group has closed; a POISONED one raises SCALAR_FAULT (R89, R179, R183). -/
def State.storeCloses (s : State) (n r : Nat) (z : Size) (o : Ops) : State :=
  let own := ownerCore n
  if !s.groupsClosed own then s.holdSeq n r (stCode z) o true
  else if s.groupsPoisoned own then (s.freeClosed own).scalarFault n r ⟨3, (s.core n r).file.ea o⟩
  else (s.freeClosed own).endSeq n r SeqFile.adv

/-- Whether an address of a space lies in a remote window. -/
def State.spaceRemote (s : State) (sp : Space) (va : Nat) (need : Need) : Bool :=
  match (s.place sp va need).2 with
  | .ok pa _ => isRemote pa
  | _ => false

/-- `seq.st`: the low bytes of rd are written; it ends when they are visible. -/
def State.coreStore (s : State) (n r : Nat) (z : Size) (o : Ops) : State :=
  let x := s.core n r
  let va := x.file.ea o
  let k := sizeBytes z
  if x.sent then s.storeCloses n r z o
  else if va % k ≠ 0 then s.seqFault n r fScalarAlign
  else
    let q := s.vwrite (s.scalarWho n r) (s.scalarSpace n r true) va (leBytes k (x.file.rg (rdOf o)).toNat) needW
    if q.wait then q.s.holdSeq n r (stCode z) o false
    else
      match q.fail with
      | some m => q.s.scalarFault n r m
      | none =>
        if s.spaceRemote (s.scalarSpace n r true) va needW then (q.s.commitOwner (ownerCore n)).storeCloses n r z o
        else q.s.endSeq n r SeqFile.adv

/-- `seq.amo.add.d`: rd is added to 8 bytes of near memory; rd receives the old value (R89, R166). -/
def State.coreAmo (s : State) (n r : Nat) (o : Ops) : State :=
  let x := s.core n r
  let va := x.file.ea o
  if va % 8 ≠ 0 then s.seqFault n r fScalarAlign
  else
    let a := s.atomicAt (s.scalarWho n r) false (.store n) (.scalar r) (s.ctxTag x.ctx) va 8 fun v => v + (x.file.rg (rdOf o)).toNat
    if a.wait then a.s.holdSeq n r 0x68 o false
    else
      match a.fail with
      | some m => a.s.scalarFault n r m
      | none => a.s.endSeq n r fun x => x.put o (BitVec.ofNat 64 a.old)

/-- SEQ_LD: `seq.ld.b`, `.h`, `.w`, `.d` (R88, R89). -/
def execSeqLd (q : Seqr) (z : Size) (p : Pred) (ops : Ops) (s : State) : Out :=
  checked (seqrOk q)
    (match q with
     | .core _ _ => s.coreBlock q (ldCode z) 0 p ops fun n r s => s.coreLoad n r z ops
     | .cp i => s.cpAccess i (ldCode z) p ops (sizeBytes z) (fun a => s.cpRead i a (sizeBytes z)) fun y v => y.wg (rdOf ops) (BitVec.ofNat 64 v))

/-- SEQ_ST: `seq.st.b`, `.h`, `.w`, `.d` (R88, R89). -/
def execSeqSt (q : Seqr) (z : Size) (p : Pred) (ops : Ops) (s : State) : Out :=
  checked (seqrOk q)
    (match q with
     | .core _ _ => s.coreBlock q (stCode z) 0 p ops fun n r s => s.coreStore n r z ops
     | .cp i => s.cpAccess i (stCode z) p ops (sizeBytes z) (fun a => s.cpWrite i a (sizeBytes z) ((s.cp i).file.rg (rdOf ops)).toNat) fun y _ => y)

/-- SEQ_AMO_ADD_D: adds rd to the 8 bytes of near memory at ra + imm; rd receives the old value (R89, R166). -/
def execSeqAmoAddD (q : Seqr) (p : Pred) (ops : Ops) (s : State) : Out :=
  checked (seqrOk q)
    (match q with
     | .core _ _ => s.coreBlock q 0x68 0 p ops fun n r s => s.coreAmo n r ops
     | .cp i => s.cpAccess i 0x68 p ops 8 (fun a => s.cpAmo i a ((s.cp i).file.rg (rdOf ops)).toNat) fun y v => y.wg (rdOf ops) (BitVec.ofNat 64 v))

/-! ## Work items (R57 to R61) -/

/-- Offsets of the header's device fields (R57). -/
def hClaim : Nat := 0x20
/-- done. -/
def hDone : Nat := 0x28
/-- retry_head. -/
def hRetryHead : Nat := 0x30
/-- retry_tail. -/
def hRetryTail : Nat := 0x34
/-- reissued. -/
def hReissued : Nat := 0x38
/-- Entry i of the retry ring. -/
def hRing (i : Nat) : Nat := 0x40 + i % 1024 * 8

/-- An atomic step on a launch's header by a resident, translated through LOAD's unit in its sclass (R58, R166). -/
def State.headerStep (s : State) (n r : Nat) (l : Launch) (off k : Nat) (f : Nat → Nat) : Atomic :=
  s.atomicAt (s.scalarWho n r) false (.load n) (.scalar r) (s.ctxTag l.ctx) (l.headerVa + off) k f

/-- Whether no core of the launch claims a further item: it is aborting, faulted, has lost a core, or had an item squashed that is
not reissued (R61, R74, R337, R371). -/
def Launch.closed (l : Launch) : Bool := l.aborting.isSome || l.faulted || l.coreLost || l.squashed

/-- What the header steps of a pull give: the item claimed, none where the list is exhausted; a failure; or that a step waits, nothing claimed. -/
structure Claim where
  s : State
  item : Option Nat
  fail : Option MemFail
  wait : Bool
  deriving DecidableEq, Repr

/-- A step that did not succeed ends the claim with its failure, or waits; else `f` goes on with its old value. -/
def Atomic.claim (a : Atomic) (f : State → Nat → Claim) : Claim := if a.wait || a.fail.isSome then ⟨a.s, none, a.fail, a.wait⟩ else f a.s a.old

/-- The header steps of `seq.pull` (R58): the next retry entry, else the next of the claim counter; a claim at or beyond N claims nothing. -/
def State.claimItem (s : State) (n r : Nat) (l : Launch) : Claim :=
  (s.headerStep n r l hRetryHead 4 id).claim fun s head =>
  (s.headerStep n r l hRetryTail 4 id).claim fun s tail =>
  if head ≠ tail then
    (s.headerStep n r l (hRing head) 8 id).claim fun s i =>
    (s.headerStep n r l hRetryHead 4 fun v => (v + 1) % 2 ^ 32).claim fun s _ => ⟨s, some i, none, false⟩
  else (s.headerStep n r l hClaim 8 fun v => v + 1).claim fun s c => ⟨s, if c < l.count then some c else none, none, false⟩

/-- The registers that a pull writes: g1 to g3, and g16 upward with the record's words, the rest zero (R58). -/
def SeqFile.pulled (f : SeqFile) (i itemVa argsVa : Nat) (words : List Nat) : SeqFile :=
  let f := ((f.wg 1 (BitVec.ofNat 64 i)).wg 2 (BitVec.ofNat 64 itemVa)).wg 3 (BitVec.ofNat 64 argsVa)
  (List.range 16).foldl (fun f j => f.wg (16 + j) (BitVec.ofNat 64 (words.getD j 0))) f

/-- The 8-byte words of a list of bytes. -/
def wordsOf (k : Nat) (data : List Byte) : List Nat := (List.range k).map fun i => leNat ((data.drop (8 * i)).take 8)

/-- The second half of `seq.pull`: the record of the claimed item is read, and the registers written; a failure raises SCALAR_FAULT with the item held
and g1 giving it (R58). -/
def State.pullRecord (s : State) (n r : Nat) (o : Ops) (l : Launch) (i : Nat) : State :=
  let va := l.itemsVa + i * l.itemBytes
  let q := s.vread (s.scalarWho n r) (s.scalarSpace n r false) va l.itemBytes needR
  if q.wait then q.s.holdSeq n r 0x70 o true
  else
    match q.fail with
    | some m => (q.s.onCore n r fun x => { x with file := x.file.wg 1 (BitVec.ofNat 64 i) }).scalarFault n r m
    | none => q.s.endSeq n r fun x => (x.pulled i va l.argsVa (wordsOf (l.itemBytes / 8) q.data)).adv

/-- The steps of `seq.pull` (R58, R60, R61, R74, R371): leave when asked to or when the launch claims nothing further; claim an
item and take its record; park where none is left, or leave once done = N; a failure raises SCALAR_FAULT. A core that holds an item already returns
with that one (DESIGN CHOICE, log 124). -/
def State.corePull (s : State) (n r : Nat) (o : Ops) : State :=
  let x := s.core n r
  match s.launchOf n r with
  | none => s
  | some l =>
    match x.item with
    | some i => s.pullRecord n r o l i
    | none =>
      if x.leaveReq || l.closed then s.leaveLaunch n r
      else
        let c := s.claimItem n r l
        if c.wait then c.s.holdSeq n r 0x70 o false
        else
          match c.fail, c.item with
          | some m, _ => c.s.scalarFault n r m
          | none, some i => (c.s.onCore n r fun x => { x with item := some i }).pullRecord n r o l i
          | none, none =>
            let d := c.s.headerStep n r l hDone 8 id
            match d.fail with
            | some m => d.s.scalarFault n r m
            | none => if d.old = l.count then d.s.leaveLaunch n r else d.s.onCore n r fun x => { x with wait := .parked }

/-- SEQ_PULL: `seq.pull` (R58). -/
def execSeqPull (q : Seqr) (p : Pred) (ops : Ops) (s : State) : Out :=
  checked (seqrOk q) (s.coreBlock q 0x70 (encN ops) p ops fun n r s => s.corePull n r ops)

/-- Whether a parked pull of a launch is released: a retry entry stands, every item is done, or nothing further is claimed (R58, R61). -/
def State.pullReleased (s : State) (l : Launch) : Bool :=
  l.closed || decide (s.headerWord l hRetryHead % 2 ^ 32 ≠ s.headerWord l hRetryTail % 2 ^ 32) || decide (s.headerWord l hDone = l.count)

/-- PARKED_PULL_WAKE: a parked `seq.pull` repeats, or leaves the launch when done = N (R58, R61). -/
def execParkedPullWake (n r : Nat) (s : State) : Out :=
  checked (coreOk n r)
    (let x := s.core n r
     match s.launchOf n r with
     | none => s
     | some l => if x.status = .running ∧ x.wait = .parked ∧ (x.leaveReq ∨ s.pullReleased l) then s.corePull n r 0#48 else s)

/-- A parked resident of a launch wakes for a retry entry: the first in rank order repeats its pull (R61). -/
def State.wakeParked (s : State) (c lane : Nat) : State :=
  match s.launches.find (laneKey c lane) with
  | none => s
  | some l =>
    match l.cores.find? fun n => (s.core n lane).status == .running && (s.core n lane).wait == .parked with
    | some n => s.corePull n lane 0#48
    | none => s

/-- Every parked resident of a launch repeats its pull: its items are done, or it claims nothing further (R58). -/
def State.wakeAllParked (s : State) (c lane : Nat) : State :=
  match s.launches.find (laneKey c lane) with
  | none => s
  | some l => l.cores.foldl (fun s n =>
      if (s.core n lane).status = .running ∧ (s.core n lane).wait = .parked then s.corePull n lane 0#48 else s) s

/-- Write a squashed item to the retry ring: the entry, retry_tail and reissued (R61). The device writes under the header page's
selector, and its writes are logged and mirrored as those of its composition (R241). -/
def State.reissueItem (s : State) (l : Launch) (i : Nat) : State :=
  let w : Who := ⟨.cpAccess 0, (s.ctxs.find l.ctx).map (·.comp), 0, clsBulk⟩
  let leaf := ((s.walk (s.ctxTag l.ctx) l.headerVa).map (·.leaf)).getD (l.headerSel * 256)
  let rd (s : State) (off k : Nat) : Nat := leNat (s.readPhys .fw l.headerSel (l.headerPa + off) k).data
  let wr (s : State) (off k v : Nat) : State :=
    ((s.writePhys .fw l.headerSel (l.headerPa + off) (leBytes k v)).s).wrote w leaf (l.headerPa + off) (leBytes k v)
  let t := rd s hRetryTail 4
  let s := wr s (hRing t) 8 i
  let s := wr s hRetryTail 4 ((t + 1) % 2 ^ 32)
  wr s hReissued 8 (rd s hReissued 8 + 1)

/-- The launch has done all its items: its completion record, its commit point, is written (R59, R371). -/
def State.recordDone (s : State) (c lane : Nat) (l : Launch) : State :=
  let s := if l.step then s.endLaunch c l 0
    else (s.writeCompletion l.q 0 (if l.late then 2 else 0) 0 0).onCur l.q fun k => { k with written := true, ended := some (0, 0, 0) }
  s.setLaunch c lane { l with recorded := true }

/-- Before a resident's writes count as visible, its STORE's accepted writes are made so and its open group is committed (R48, R179). -/
def State.publish (s : State) (n r : Nat) : State := (s.makeVisible n r).commitOwner (ownerCore n)

/-- `seq.done` (R59): NO_ITEM at once where none is held; else, once every instruction dispatched before it has completed and every
STORE write of the core is visible, done increments, and the increment that makes it N writes the completion record. A poisoned group raises
MEM_FAULT (R179, R183). -/
def State.coreDone (s : State) (n r : Nat) (o : Ops) : State :=
  let x := s.core n r
  let own := ownerCore n
  match x.item, s.launchOf n r with
  | none, _ => s.seqFault n r fNoItem
  | some _, none => s
  | some _, some l =>
    if !x.sq.isEmpty || !x.started.isEmpty || !x.replay.isEmpty then s.holdSeq n r 0x71 o false
    else
      let s := s.publish n r
      if !s.groupsClosed own then s.holdSeq n r 0x71 o false
      else if s.groupsPoisoned own then
        (s.freeClosed own).progFault n r { code := fMem, unit := 0, pc := x.file.pc, pos := 0, cause := 3, addr := 0 }
      else
        let d := (s.freeClosed own).headerStep n r l hDone 8 fun v => v + 1
        if d.wait then d.s.holdSeq n r 0x71 o false
        else
          match d.fail with
          | some m => d.s.scalarFault n r m
          | none =>
            let s := (d.s.endSeq n r SeqFile.adv).onCore n r fun x => { x with item := none }
            if d.old + 1 = l.count then (s.recordDone x.comp x.lane l).wakeAllParked x.comp x.lane else s

/-- SEQ_DONE: `seq.done` (R59). -/
def execSeqDone (q : Seqr) (p : Pred) (ops : Ops) (s : State) : Out :=
  checked (seqrOk q) (s.coreBlock q 0x71 (encN ops) p ops fun n r s => s.coreDone n r ops)

end Sys2Proof.Machine
end

