-- ==== Sys2Proof/Machine/SeqCtl.lean ====
section
/-! DEFINITION. Machine/SeqCtl.lean: the live mask (R67), the control and status registers of cores and command processors (R81,
R82, R98), and the waits of the sequencer (R88). -/
namespace Sys2Proof.Machine

/-- The bits of the live mask that a resident has: all 44, or bits 19:0 and 41:40 in a SHARED composition (R67, R378). -/
def State.liveMask (s : State) (c : Nat) : Nat := if s.shared c then 0x300000FFFFF else 2 ^ 44 - 1

/-- SEQ_LIVE: live = ra[43:0] (R67, R88). -/
def execSeqLive (q : Seqr) (p : Pred) (ops : Ops) (s : State) : Out :=
  checked (seqrOk q)
    (s.coreOp q (encRRuse ops false true false) p fun n r s =>
      s.onCore n r fun x =>
        { x with live := (x.file.rg (raOf ops)).toNat &&& s.liveMask x.comp, file := x.file.adv })

/-! ## Reading -/

/-- Read the DT of an island's replica; later reads are never behind it (R294). -/
def State.readDt (s : State) (isl : Nat) : Nat × State :=
  if isl = 255 then (s.aon.dt, s)
  else (s.dtOf isl, s.setDom isl { s.dom isl with floor := s.dtOf isl })

/-- The number of cores bound into a composition (R81). -/
def State.boundCores (s : State) (c : Nat) : Nat := (s.coreOwner.filter fun e => e.2.comp == c).length

/-- All ones. -/
def ones64 : Word := BitVec.allOnes 64

/-- The value of CSR `k` in a core; none where the number is not one of R81's. -/
def State.coreCsr (s : State) (n r k : Nat) : Option (Word × State) :=
  let x := s.core n r
  let v (w : Nat) : Option (Word × State) := some (BitVec.ofNat 64 w, s)
  match k with
  | 0 => v x.file.pc
  | 1 => some (match x.rank with | some i => BitVec.ofNat 64 i | none => ones64, s)
  | 2 => v (s.boundCores x.comp)
  | 3 => let d := s.readDt (n / 8); some (BitVec.ofNat 64 d.1, d.2)
  | 4 => v x.live
  | 5 => some (match x.item with | some i => BitVec.ofNat 64 i | none => ones64, s)
  | 6 => v x.sflags
  | 7 => v x.sclass
  | 8 => v x.srseed
  | _ => none

/-- The kind of a wake (R98): 1 doorbell, 2 event. -/
def Wake.kind (w : Wake) : Nat :=
  match w with
  | .doorbell _ => 1
  | .event _ _ _ _ _ _ _ => 2

/-- The word of a wake (R98); `more` says whether another is pending after it. -/
def Wake.word (w : Wake) (fn : Nat) (more : Bool) : Nat :=
  w.kind * 2 ^ 62 + (if more then 2 ^ 61 else 0) +
    match w with
    | .doorbell (.queue i) => i % 2 ^ 17 + fn * 2 ^ 17
    | .doorbell (.admin f) => f * 2 ^ 17 + 2 ^ 24
    | .event x status cause _ _ _ _ => x + status * 2 ^ 11 + cause * 2 ^ 14

/-- End a `cp.sleep` with its cause in rd: 1 doorbell, 2 event, 3 time (R97). -/
def State.endSleep (s : State) (p cause : Nat) : State :=
  let c := s.cp p
  match c.sleep with
  | none => s
  | some (rd, _) => s.setCp p { c with sleep := none, file := (c.file.wg rd (BitVec.ofNat 64 cause)).adv }

/-- A wake reaches a command processor (R98): a doorbell merges into a pending one of its queue; a sleeping processor wakes with the kind of
its oldest wake. -/
def State.giveWake (s : State) (p : Nat) (w : Wake) : State :=
  let c := s.cp p
  let again := match w with
    | .doorbell _ => c.wakes.contains w
    | _ => false
  let c := if again then c else { c with wakes := c.wakes ++ [w] }
  (s.setCp p c).endSleep p ((c.wakes.head?.map Wake.kind).getD 0)

/-- Take the oldest pending wake of a command processor: the wake word, 0 for none, and the evt registers of an event (R98). -/
def State.takeWake (s : State) (p : Nat) : Word × State :=
  let c := s.cp p
  match c.wakes with
  | [] => (0#64, s)
  | w :: rest =>
    let fn := match w with
      | .doorbell q => s.ringFn q
      | _ => 0
    let c :=
      match w with
      | .doorbell _ => { c with wakes := rest }
      | .event _ status _ done dt head pos =>
        { c with wakes := rest, evtDone := done, evtDt := dt, evtHead := if status = 2 then head else 0,
                 evtPos := if status = 2 then pos else 0 }
    (BitVec.ofNat 64 (w.word fn (!rest.isEmpty)), s.setCp p c)

/-- The mask of the compositions homed on a command processor (R98, R382). -/
def State.homedMask (s : State) (p : Nat) : Nat :=
  (List.range 64).foldl (fun m c => if s.fld F.SCH_COMP_CFG_home_cp c = p then m + 2 ^ c else m) 0

/-- The value of CSR `k` in a command processor; none where the number is illegal (R98). -/
def State.cpCsr (s : State) (p k : Nat) : Option (Word × State) :=
  let x := s.cp p
  let v (w : Nat) : Option (Word × State) := some (BitVec.ofNat 64 w, s)
  match k with
  | 0 => v x.file.pc
  | 1 => v p
  | 2 => v (s.homedMask p)
  | 3 => let d := s.readDt (cpIsl p); some (BitVec.ofNat 64 d.1, d.2)
  | 0x100 => some (s.takeWake p)
  | 0x101 => v x.evtDone
  | 0x102 => v x.evtDt
  | 0x103 => v x.evtHead
  | 0x104 => v x.evtPos
  | 0x105 => v x.fwData
  | _ => none

/-- The fault of a CSR number that a core may not access (R81): PRIVILEGED_INSTRUCTION for a command processor's, else
ILLEGAL_OPERAND. -/
def csrFault (k : Nat) : Nat := if 0x100 ≤ k ∧ k ≤ 0x1FF then fPrivileged else fIllegalOp

/-- The encoding check of a CSR access on a core: the zero fields, then the number. -/
def encCsr (o : Ops) (d a : Bool) : Nat :=
  let e := encCS o d a
  if e ≠ 0 then e else if ob o 11 0 ≤ 8 then 0 else csrFault (ob o 11 0)

/-- SEQ_CSRR: rd = csr (R81, R98). -/
def execSeqCsrr (q : Seqr) (p : Pred) (ops : Ops) (s : State) : Out :=
  checked (seqrOk q)
    (match q with
     | .core _ _ => s.coreOp q (encCsr ops true false) p fun n r s =>
       match s.coreCsr n r (ob ops 11 0) with
       | none => s
       | some (v, t) => t.onCore n r fun x => { x with file := x.file.put ops v }
     | .cp i =>
       if !s.cpCanIssue i then s
       else if encCS ops true false ≠ 0 then s.cpFault i fIllegalIns
       else
         match s.cpCsr i (ob ops 11 0) with
         | none => s.cpFault i fIllegalOp
         | some (v, t) =>
           if (s.cp i).file.holds p then t.setCp i { t.cp i with file := (t.cp i).file.put ops v } else s.cpPass i)

/-- The encoding check of a CSR write on a core: the zero fields, the number, and RT in sclass outside a real-time context, raised whether the predicate
is true or false (R76, R82, R95). -/
def State.encCsrw (s : State) (n r : Nat) (o : Ops) : Nat :=
  let e := encCsr o false true
  if e ≠ 0 then e
  else if ob o 11 0 = 7 ∧ ((s.core n r).file.rg (raOf o)).toNat % 4 = 0 ∧ s.ctxRt (s.core n r).ctx = false then fIllegalOp else 0

/-- Write CSR `k` of a core; a read-only one ignores the write (R81, R82, R152). -/
def State.writeCsr (s : State) (n r k : Nat) (v : Word) : State :=
  match k with
  | 4 => s.onCore n r fun x => { x with live := v.toNat &&& s.liveMask x.comp, file := x.file.adv }
  | 6 => s.onCore n r fun x => { x.clearFlags v.toNat with file := x.file.adv }
  | 7 => s.onCore n r fun x => { x with sclass := v.toNat % 4, file := x.file.adv }
  | _ => s.pass n r

/-- SEQ_CSRW: csr = ra (R81, R82); on a command processor every number raises ILLEGAL_OPERAND (R98). -/
def execSeqCsrw (q : Seqr) (p : Pred) (ops : Ops) (s : State) : Out :=
  checked (seqrOk q)
    (match q with
     | .core n r => s.coreOp q (s.encCsrw n r ops) p fun n r s =>
       s.writeCsr n r (ob ops 11 0) ((s.core n r).file.rg (raOf ops))
     | .cp i =>
       if !s.cpCanIssue i then s
       else if encCS ops false true ≠ 0 then s.cpFault i fIllegalIns
       else s.cpFault i fIllegalOp)

/-- CP_WAKE_READ: a command processor reads its oldest wake and removes it; the evt registers take an event's values (R98). -/
def execCpWakeRead (c : Nat) (s : State) : Out := checked (cpOk c) (s.takeWake c).2

/-! ## Waits -/

/-- SEQ_WAIT: blocks until every instruction dispatched earlier to the stations of the mask has completed (R88). -/
def execSeqWait (q : Seqr) (p : Pred) (ops : Ops) (s : State) : Out :=
  checked (seqrOk q)
    (s.coreOp q (encW ops) p fun n r s =>
      let x := s.core n r
      if x.stationsDone (ob ops 9 0) x.seqNo then s.pass n r
      else s.setCore n r { x with wait := .stations (ob ops 9 0) x.seqNo })

/-- End a `seq.wait` whose stations have completed (R88). -/
def State.wakeStations (s : State) (n r : Nat) : State :=
  let x := s.core n r
  match x.wait with
  | .stations mask upto =>
    if x.stationsDone mask upto then s.setCore n r { x with wait := .none, file := x.file.adv } else s
  | _ => s

/-- SEQ_UNTIL: blocks until DT ≥ ra (R88). -/
def execSeqUntil (q : Seqr) (p : Pred) (ops : Ops) (s : State) : Out :=
  let enc := encRRuse ops false true false
  checked (seqrOk q)
    (match q with
     | .core _ _ => s.coreOp q enc p fun n r s =>
       let x := s.core n r
       let t := (x.file.rg (raOf ops)).toNat
       if t ≤ s.dtOf (n / 8) then s.pass n r else s.setCore n r { x with wait := .dt t }
     | .cp i =>
       if !s.cpCanIssue i then s
       else if enc ≠ 0 then s.cpFault i enc
       else
         let x := s.cp i
         let t := (x.file.rg (raOf ops)).toNat
         if !x.file.holds p ∨ t ≤ s.dtOf (cpIsl i) then s.cpPass i else s.setCp i { x with until_ := some t })

/-- SEQ_UNTIL_DT_REACHED: DT has reached the awaited value and `seq.until` ends (R88). -/
def execSeqUntilDtReached (q : Seqr) (s : State) : Out :=
  checked (seqrOk q)
    (match q with
     | .core n r =>
       let x := s.core n r
       match x.wait with
       | .dt t => if x.status = .running ∧ t ≤ s.dtOf (n / 8) then s.setCore n r { x with wait := .none, file := x.file.adv } else s
       | _ => s
     | .cp i =>
       let x := s.cp i
       match x.until_ with
       | some t => if t ≤ s.dtOf (cpIsl i) then s.setCp i { x with until_ := none, file := x.file.adv } else s
       | none => s)

end Sys2Proof.Machine
end

