-- ==== Sys2Proof/Machine/SeqSetup.lean ====
section
/-! DEFINITION. Machine/SeqSetup.lean: the setup of tiles, queues and streams (R37, R41, R42, R51, R56, R91 to R94). -/
namespace Sys2Proof.Machine

/-! ## What holds a setup (R56, R94) -/

/-- Whether an instruction has an operand code that `f` selects. -/
def StIns.names (i : StIns) (f : Nat → Bool) : Bool := f (dstOf i.ops) || i.srcs.any f

/-- Whether an operand code names handle `t`, or a queue whose ring holds it. -/
def Res.touches (x : Res) (t c : Nat) : Bool :=
  match operand c with
  | .handle h => h == t
  | .queue q _ => match x.tq q with
    | some tq => decide (tq.first ≤ t) && decide (t < tq.first + tq.depth)
    | none => false
  | _ => false

/-- Whether an operand code names queue `q`. -/
def isQueue (q c : Nat) : Bool :=
  match operand c with
  | .queue k _ => k == q
  | _ => false

/-- Whether an operand code names stream `st`. -/
def isStream (st c : Nat) : Bool :=
  match operand c with
  | .stream k => k == st
  | _ => false

/-- Whether a dispatched instruction that has not completed names an object. -/
def Res.dispatched (x : Res) (f : Nat → Bool) : Bool := x.sq.any (·.names f) || x.started.any fun st => st.ins.names f

/-- Whether a setup instruction is held: its opcode and operand field (R56, R94). -/
def Res.setupHeld (x : Res) (opc : Nat) (o : Ops) : Bool :=
  let k := dstOf o % 16
  match opc with
  | 0x80 | 0x81 => x.dispatched (x.touches (dstOf o))
  | 0x82 | 0x83 => x.dispatched (isQueue k)
  | 0x84 | 0x85 => x.dispatched (isStream k)
  | _ => x.sq.any fun i => i.names (isStream k)

/-! ## Read-ahead and fill records that a setup discards -/

/-- Return every handle of read-ahead data that `f` selects to EMPTY and move its queue's head back over it (R55, R65, R94). -/
def Res.discardAhead (x : Res) (f : Ahead → Bool) : Res :=
  let gone := x.ahead.filter f
  let x := { x with ahead := x.ahead.filter fun a => !f a }
  gone.reverse.foldl (fun x a =>
    match x.tq a.tq with
    | none => x
    | some t => x.setTq a.tq { (t.setTok a.h .empty) with head := a.h }) x

/-- Discard the read-ahead of a resident that `f` selects: its handles are EMPTY again, what partners have brought for it is forgotten, and the replies
still to come for it are dropped (R55, R65, R94). -/
def State.dropAhead (s : State) (n r : Nat) (f : Ahead → Bool) : State :=
  let gone := (s.core n r).ahead.filter f
  let mine (o : Owner) : Bool := gone.any fun a => o == .ahead n r a.st a.k
  let s := gone.foldl (fun s a => s.remoteForget (.ahead n r a.st 0)) s
  { s.onCore n r fun x => x.discardAhead f with
    outst := s.outst.map fun e => if mine e.2.req.owner then (e.1, { e.2 with discarded := true }) else e }

/-- Mark the handles that stream `st` filled as filled by a stream since set up again or rewound (R68). -/
def Res.staleFills (x : Res) (st : Nat) : Res :=
  { x with fills := x.fills.map fun f => if f.st = st then { f with stale := true } else f }

/-! ## The effects -/

/-- Advance past a setup instruction with the resident changed. -/
def State.setupDone (s : State) (n r : Nat) (f : Res → Res) : State :=
  s.onCore n r fun x => let y := f x; { y with file := y.file.adv, actAt := s.aon.dt }

/-- The handle attributes of `seq.tdef`'s record (R91). -/
def handleRec (w : Nat) : Handle :=
  { base := bits w 12 0 * 256, rows := bits w 18 13 + 1, rowBytes := (bits w 23 19 + 1) * 32, pitch := (bits w 30 24 + 1) * 32,
    format := bits w 38 31, scale := 0x3F800000 }

/-- Whether a handle belongs to a queue and is not EMPTY (R45). -/
def Res.handleBusy (x : Res) (t : Nat) : Bool :=
  match x.queueOf t with
  | some (_, q) => q.tok t != .empty
  | none => false

/-- `seq.tdef` (R91). -/
def State.setTile (s : State) (n r t w : Nat) : State :=
  let x := s.core n r
  let h := handleRec w
  if !h.ok (s.spLimit x.comp) then s.seqFault n r fTileShape
  else if x.handleBusy t then s.seqFault n r fTileBusy
  else s.setupDone n r fun x => { x with handles := x.handles.put t h }

/-- Whether an FP32 pattern is finite. -/
def f32Finite (w : Nat) : Bool := bits w 30 23 != 255

/-- `seq.tscale` (R91). -/
def State.setScale (s : State) (n r t w : Nat) : State :=
  let x := s.core n r
  if !f32Finite w then s.seqFault n r fTileShape
  else if x.handleBusy t then s.seqFault n r fTileBusy
  else
    match x.handles.find t with
    | none => s
    | some h => s.setupDone n r fun x => { x with handles := x.handles.put t { h with scale := w } }

/-- Whether a set-up stream names queue `q` as its target (R92). -/
def Res.isTarget (x : Res) (q : Nat) : Bool := x.streams.any fun e => e.2.target == some q

/-- Whether every handle of a queue is EMPTY. -/
def TQueue.allEmpty (t : TQueue) : Bool := t.toks.all (· == .empty)

/-- Units that may produce into a queue (R40). -/
def isProducer (u : Nat) : Bool := u == 1 || u == 3 || u == 4 || u == 5 || u == 6 || u == 8

/-- Units that may consume from a queue (R40). -/
def isConsumer (u : Nat) : Bool := u == 3 || u == 4 || u == 5 || u == 6 || u == 2 || u == 7

/-- The queue that `seq.qdef`'s record names (R92), as setting it up leaves it (R42). -/
def queueRec (w : Nat) : TQueue :=
  let d := bits w 17 14 + 1
  { producer := bits w 3 0, consumer := bits w 7 4, first := bits w 13 8, depth := d, head := bits w 13 8, tail := bits w 13 8,
    toks := List.replicate d .empty }

/-- Whether two rings share a handle. -/
def TQueue.meets (a b : TQueue) : Bool := decide (a.first < b.first + b.depth) && decide (b.first < a.first + a.depth)

/-- Whether a queue setup is allowed (R40, R41, R92). -/
def Res.queueOk (x : Res) (q : Nat) (t : TQueue) : Bool :=
  isProducer t.producer && isConsumer t.consumer && t.producer != t.consumer && decide (t.first + t.depth ≤ 64) &&
  (x.queues.all fun e => e.1 == q || !e.2.meets t) && !x.isTarget q &&
  match x.tq q with
  | some old => old.allEmpty
  | none => true

/-- `seq.qdef` (R92). -/
def State.setQueue (s : State) (n r q w : Nat) : State :=
  if !(s.core n r).queueOk q (queueRec w) then s.seqFault n r fQueueConfig
  else s.setupDone n r fun x => { x.setTq q (queueRec w) with fills := x.fills.filter fun f => f.tq != q }

/-- `seq.qfree` (R92): no effect on a queue that is not configured. -/
def State.freeQueue (s : State) (n r q : Nat) : State :=
  let x := s.core n r
  match x.tq q with
  | none => s.pass n r
  | some t =>
    if !t.allEmpty || x.isTarget q then s.seqFault n r fQueueConfig
    else s.setupDone n r fun x => { x with queues := x.queues.del q, fills := x.fills.filter fun f => f.tq != q }

/-- The stream that the eight registers of `seq.sdef` describe (R93). -/
def streamRec (g : Nat → Nat) : Stream :=
  let t := bits (g 0) 59 55
  { base := bits (g 0) 51 0, write := bits (g 0) 52 52 == 1, cls := bits (g 0) 54 53, target := if t = 31 then none else some t,
    counts := (List.range 4).map fun i => bits (g 1) (16 * i + 15) (16 * i) + 1,
    strides := (List.range 4).map fun i => signed (g (2 + i)) 64,
    memPitch := bits (g 6) 24 0, rows := bits (g 6) 30 25 + 1, rowBytes := (bits (g 6) 35 31 + 1) * 32, format := bits (g 6) 43 36,
    depth := bits (g 6) 50 44, p := 0, held := [] }

/-- Whether the record's zero fields are zero (R93). -/
def streamZeros (g : Nat → Nat) : Bool := bits (g 0) 63 60 == 0 && bits (g 6) 63 51 == 0 && g 7 == 0

/-- Whether a stream's fields lie in their ranges (R51, R93). -/
def Res.streamOk (x : Res) (st : Stream) : Bool :=
  st.base % 32 == 0 && decide (st.total ≤ 2 ^ 48) &&
  (st.strides.all fun d => decide (-(2 : Int) ^ 39 ≤ d) && decide (d ≤ 2 ^ 39 - 32) && d % 32 == 0) &&
  decide (32 ≤ st.memPitch) && decide (st.memPitch ≤ 2 ^ 24) && st.memPitch % 32 == 0 && fmtOk st.format && decide (st.depth ≤ 64) &&
  (elemBits st.format != 6 || st.rowBytes % 96 == 0) &&
  match st.target with
  | none => true
  | some q => !st.write && match x.tq q with
    | some t => t.producer == 1
    | none => false

/-- The eight registers from `a` on that hold a stream's record (R93). -/
def Res.recOf (x : Res) (a i : Nat) : Nat := (x.file.rg (a + i)).toNat

/-- `seq.sdef` (R93): p becomes 0, and held faults and read-ahead of the old stream are discarded. -/
def State.setStream (s : State) (n r k a : Nat) : State :=
  let st := streamRec ((s.core n r).recOf a)
  (s.dropAhead n r fun a => a.st == k).setupDone n r fun x => { x.staleFills k with streams := x.streams.put k st }

/-- `seq.srew` (R94): p becomes gA; held faults and read-ahead are discarded. -/
def State.rewindStream (s : State) (n r k v : Nat) : State :=
  match (s.core n r).streams.find k with
  | none => s
  | some st =>
    (s.dropAhead n r fun a => a.st == k).setupDone n r fun x =>
      { x.staleFills k with streams := x.streams.put k { st with p := v, held := [] } }

/-- `seq.spos` (R94): p is written to gD. -/
def State.streamPos (s : State) (n r k d : Nat) : State :=
  match (s.core n r).streams.find k with
  | none => s
  | some st => s.setupDone n r fun x => { x with file := x.file.wg d (BitVec.ofNat 64 st.p) }

/-- The faults of R95's table that a setup instruction raises whether its predicate is true or false (R76): a nonzero zero bit of its record, an unset
tile or stream, RT outside a real-time context, and a record of a stream outside R93 or R94; 0 for none. The order among them is the model's
(DESIGN CHOICE, log 113). -/
def State.setupFault (s : State) (n r opc : Nat) (o : Ops) : Nat :=
  let x := s.core n r
  let a := ob o 39 35
  let w := (x.file.rg a).toNat
  let k := dstOf o % 16
  match opc with
  | 0x80 => need (bits w 63 39 == 0) fIllegalIns
  | 0x81 => if bits w 63 32 ≠ 0 then fIllegalIns else need (x.handles.find (dstOf o)).isSome fTileUnset
  | 0x82 => need (bits w 63 18 == 0) fIllegalIns
  | 0x84 =>
    let st := streamRec (x.recOf a)
    if !streamZeros (x.recOf a) then fIllegalIns
    else if st.cls = 0 ∧ s.ctxRt x.ctx = false then fIllegalOp
    else need (x.streamOk st) fStreamConfig
  | 0x85 =>
    match x.streams.find k with
    | none => fStreamUnset
    | some st => need (decide (w ≤ st.total)) fStreamConfig
  | 0x86 => need (x.streams.find k).isSome fStreamUnset
  | _ => 0

/-- The effect of a setup instruction once its objects are free. -/
def State.setupEffect (s : State) (n r opc : Nat) (o : Ops) : State :=
  let a := ob o 39 35
  let w := ((s.core n r).file.rg a).toNat
  let k := dstOf o % 16
  match opc with
  | 0x80 => s.setTile n r (dstOf o) w
  | 0x81 => s.setScale n r (dstOf o) w
  | 0x82 => s.setQueue n r k w
  | 0x83 => s.freeQueue n r k
  | 0x84 => s.setStream n r k a
  | 0x85 => s.rewindStream n r k w
  | _ => s.streamPos n r k a

/-- A setup instruction: held while its object is in use, with every instruction after it, else performed (R56, R84, R94). -/
def State.setup (s : State) (n r opc : Nat) (o : Ops) : State :=
  let x := s.core n r
  if x.setupHeld opc o then s.setCore n r { x with wait := .setup opc o } else s.setupEffect n r opc o

/-- Issue a setup instruction: its word's encoding fault `enc`, then R95's faults of its record and objects, then the predicate (R76). -/
def State.setupOp (s : State) (q : Seqr) (enc opc : Nat) (p : Pred) (o : Ops) : State :=
  let e :=
    match q with
    | .core n r => if enc ≠ 0 then enc else s.setupFault n r opc o
    | .cp _ => enc
  s.coreOp q e p fun n r s => s.setup n r opc o

/-- SEQ_TDEF (R91). -/
def execSeqTdef (q : Seqr) (p : Pred) (ops : Ops) (s : State) : Out := checked (seqrOk q) (s.setupOp q (encOG ops 0x00 0x3F true) 0x80 p ops)

/-- SEQ_TSCALE (R91). -/
def execSeqTscale (q : Seqr) (p : Pred) (ops : Ops) (s : State) : Out := checked (seqrOk q) (s.setupOp q (encOG ops 0x00 0x3F true) 0x81 p ops)

/-- SEQ_QDEF (R92). -/
def execSeqQdef (q : Seqr) (p : Pred) (ops : Ops) (s : State) : Out := checked (seqrOk q) (s.setupOp q (encOG ops 0x40 0x4F true) 0x82 p ops)

/-- SEQ_QFREE (R92). -/
def execSeqQfree (q : Seqr) (p : Pred) (ops : Ops) (s : State) : Out := checked (seqrOk q) (s.setupOp q (encOG ops 0x40 0x4F false) 0x83 p ops)

/-- The encoding check of `seq.sdef`: its registers start at g1 to g24 (R93). -/
def encSdef (o : Ops) : Nat :=
  let e := encOG o 0x70 0x7F true
  if e ≠ 0 then e else if 1 ≤ ob o 39 35 ∧ ob o 39 35 ≤ 24 then 0 else fIllegalOp

/-- SEQ_SDEF (R93). -/
def execSeqSdef (q : Seqr) (p : Pred) (ops : Ops) (s : State) : Out := checked (seqrOk q) (s.setupOp q (encSdef ops) 0x84 p ops)

/-- SEQ_SREW (R94). -/
def execSeqSrew (q : Seqr) (p : Pred) (ops : Ops) (s : State) : Out := checked (seqrOk q) (s.setupOp q (encOG ops 0x70 0x7F true) 0x85 p ops)

/-- SEQ_SPOS (R94). -/
def execSeqSpos (q : Seqr) (p : Pred) (ops : Ops) (s : State) : Out := checked (seqrOk q) (s.setupOp q (encOG ops 0x70 0x7F true) 0x86 p ops)

/-- Release a held setup whose objects have become free (R56, R84, R94). -/
def State.releaseSetup (s : State) (n r : Nat) : State :=
  let x := s.core n r
  match x.wait with
  | .setup opc o =>
    if x.status = .running ∧ x.setupHeld opc o = false then (s.setCore n r { x with wait := .none }).setupEffect n r opc o else s
  | _ => s

/-- SETUP_RELEASE: a held setup instruction takes effect (R56, R84, R94). -/
def execSetupRelease (n r : Nat) (s : State) : Out := checked (coreOk n r) (s.releaseSetup n r)

end Sys2Proof.Machine
end

