-- ==== Sys2Proof/Machine/LoadStore.lean ====
section
/-! DEFINITION. Machine/LoadStore.lean: what LOAD and STORE check and do (R52 to R54, R104 to R108), and the pieces that every
station's checks and effects share. -/
namespace Sys2Proof.Machine

/-! ## Shared pieces -/

/-- The attributes of the handle that a slot works on. -/
def Res.tile (x : Res) (h : Option Nat) : Option Handle := h.bind fun t => x.handles.find t

/-- The stream that an operand code names. -/
def Res.streamOf (x : Res) (c : Nat) : Option (Nat × Stream) :=
  match operand c with
  | .stream k => (x.streams.find k).map fun st => (k, st)
  | _ => none

/-- What a station's effect gives: the state, whether the work has been done (false where data has not come), the failure. -/
structure Effect where
  s : State
  ready : Bool
  fail : Option ProgFault
  deriving DecidableEq, Repr

/-- The work is done. -/
def Effect.ok (s : State) : Effect := ⟨s, true, none⟩

/-- The work ends with a fault. -/
def Effect.bad (s : State) (f : ProgFault) : Effect := ⟨s, true, some f⟩

/-- The work waits. -/
def Effect.wait (s : State) : Effect := ⟨s, false, none⟩

/-- A fault of a station instruction. -/
def StIns.fault (i : StIns) (code pos : Nat) : ProgFault := { code := code, unit := i.u, pc := i.pc, pos := pos, cause := 0, addr := 0 }

/-- The stream that a station instruction names: STORE's destination, else the first source. -/
def StIns.stream (i : StIns) : Option Nat :=
  match operand (if i.u = 2 then dstOf i.ops else s1Of i.ops) with
  | .stream k => some k
  | _ => none

/-- MEM_FAULT with its cause and the address of the failing row, for tile `k` of its stream (R108, R131). -/
def StIns.memFault (i : StIns) (k : Nat) (m : MemFail) : ProgFault :=
  { code := fMem, unit := i.u, pc := i.pc, pos := k, cause := m.cause, addr := m.addr, stream := i.stream }

/-- The rows that nrows moves: all of them for 0 (R105). -/
def rowsMoved (nrows rows : Nat) : Nat := if nrows = 0 then rows else nrows

/-- The first of several codes that is a fault. -/
def firstFault (cs : List Nat) : Nat := (cs.find? (· != 0)).getD 0

/-! ## Checks (R100, R105) -/

/-- The rules that LOAD and STORE share for a tile against its stream's shape (R105). -/
def tileFits (h : Handle) (st : Stream) (nrows : Nat) : Nat :=
  firstFault [need (h.format == st.format) fFormat, need (h.rows == st.rows && h.rowBytes == st.rowBytes) fShape,
              need (decide (nrows ≤ h.rows)) fShape]

/-- LOAD's checks of its stream, made before it takes tokens: direction, target, exhaustion (R52, R105). -/
def loadStreamCheck (i : StIns) (k : Option (Nat × Stream)) : Nat :=
  match k with
  | none => fStreamUnset
  | some (_, st) =>
    firstFault [need (!st.write) fStreamDirection,
                need (match st.target with
                  | none => true
                  | some q => queueCode (dstOf i.ops) == some (q, false)) fStreamTarget,
                need (decide (st.p < st.total)) fStreamExhausted]

/-- STORE's checks of its stream. -/
def storeStreamCheck (k : Option (Nat × Stream)) : Nat :=
  match k with
  | none => fStreamUnset
  | some (_, st) => firstFault [need st.write fStreamDirection, need (decide (st.p < st.total)) fStreamExhausted]

/-- The tile checks of LOAD and STORE. -/
def streamTileCheck (i : StIns) (k : Option (Nat × Stream)) (t : Option Handle) : Nat :=
  match k, t with
  | some (_, st), some h => tileFits h st (bits (modOf i.ops) 6 0)
  | _, _ => fTileUnset

/-! ## Reading and writing stream tiles -/

/-- A piece of a stream tile in memory: its virtual address, its bytes, the address of its row (R51, R106). -/
structure Piece where
  va : Nat
  len : Nat
  row : Nat
  deriving DecidableEq, Repr

/-- The bytes read from memory, piece by piece, the state, and the first failure with the address of its row; or that they have not all come. -/
structure Rows where
  s : State
  rows : List (List Byte)
  fail : Option MemFail
  short : Bool
  deriving DecidableEq, Repr

/-- Whether a piece has to wait, with the state that it waits in; the first that fails ends the search. -/
def State.piecesWait (s : State) (w : Who) (sp : Space) (ps : List Piece) (need : Need) : Option State :=
  ps.findSome? fun p => s.vwaits w sp (unitsOf p.va p.len) p.va p.len need

/-- Read pieces in order; the first failure ends it (R107, R108). -/
def State.readEach (s : State) (w : Who) (sp : Space) (ps : List Piece) : Rows :=
  match ps with
  | [] => ⟨s, [], none, false⟩
  | p :: rest =>
    let q := s.vreads w sp (unitsOf p.va p.len) p.va p.len needR
    match q.fail with
    | some m => ⟨q.s, [], some ⟨m.cause, p.row⟩, false⟩
    | none =>
      let t := q.s.readEach w sp rest
      { t with rows := q.data :: t.rows }

/-- Read pieces of a stream tile; nothing is read while one of them waits. -/
def State.readPieces (s : State) (w : Who) (sp : Space) (ps : List Piece) : Rows :=
  match s.piecesWait w sp ps needR with
  | some t => ⟨t, [], none, true⟩
  | none => s.readEach w sp ps

/-- What the memory tier makes of a write of STORE: the state, the failure, and the writes accepted (R48). -/
structure Taken where
  s : State
  fail : Option MemFail
  put : List Accepted
  deriving DecidableEq, Repr

/-- The memory tier takes one request of at most 256 bytes: a local one is judged, and performed when it becomes visible; a remote one is staged at
its partner (R48, R179). -/
def State.takeWrite (s : State) (w : Who) (pa leaf : Nat) (data : List Byte) : LineResult × List Accepted :=
  if isRemote pa then (s.writeAny w (leafSel leaf) pa data, [])
  else
    let r := s.writeAny w (leafSel leaf) pa data
    if r.st ≠ .ok then (r, []) else (⟨s.unhold w.own pa, .ok, []⟩, [⟨pa, leaf, data⟩])

/-- Offer bytes at a virtual address in requests of at most 256 bytes that lie within 256 aligned bytes; `fuel` counts requests. -/
def State.offer (s : State) (w : Who) (sp : Space) (fuel va : Nat) (data : List Byte) : Taken :=
  match fuel with
  | 0 => ⟨s, none, []⟩
  | k + 1 =>
    if data.isEmpty then ⟨s, none, []⟩
    else
      let m := min data.length (256 - va % 256)
      let x := s.place sp va needW
      match x.2 with
      | .waits | .transFault => ⟨x.1, some ⟨0x10, va⟩, []⟩
      | .permFault => ⟨x.1, some ⟨0x11, va⟩, []⟩
      | .ok pa leaf =>
        let r := x.1.takeWrite w pa leaf (data.take m)
        if r.1.st ≠ .ok then ⟨r.1.s, some ⟨memCode r.1.st, va⟩, []⟩
        else
          let t := r.1.s.offer w sp k (va + m) (data.drop m)
          { t with put := r.2 ++ t.put }

/-- Offer pieces with their data in order; the first failure ends it, with the address of its row. -/
def State.offerEach (s : State) (w : Who) (sp : Space) (ps : List (Piece × List Byte)) : Taken :=
  match ps with
  | [] => ⟨s, none, []⟩
  | (p, data) :: rest =>
    let q := s.offer w sp (unitsOf p.va data.length) p.va data
    match q.fail with
    | some m => { q with fail := some ⟨m.cause, p.row⟩ }
    | none =>
      let t := q.s.offerEach w sp rest
      { t with put := q.put ++ t.put }

/-- The block-scale bytes of each row of a tile. -/
def scaleCols (format rowBytes : Nat) : Nat := if isMx format then rowBytes * 8 / elemBits format / 32 else 0

/-- The rows of tile `k` that an instruction moves, then their block scales, `m` rows moved (R51, R106). -/
def Stream.pieces (st : Stream) (k m : Nat) : List Piece :=
  let row (i : Nat) : Nat := (st.address k + i * st.memPitch) % 2 ^ 64
  let sc := scaleCols st.format st.rowBytes
  ((List.range m).map fun i => ⟨row i, st.rowBytes, row i⟩) ++
    if sc = 0 then [] else (List.range m).map fun i => ⟨st.scaleAddr k + i * sc, sc, row i⟩

/-- Place the rows and scales that memory gave into a handle: rows beyond `m` zero, their scales 0x7F (R105). -/
def State.placeTile (s : State) (n r : Nat) (h : Handle) (m : Nat) (rows : List (List Byte)) : State :=
  let body := rows.take m ++ List.replicate (h.rows - m) (zeros h.rowBytes)
  let s := s.writeRows n r h 0 body
  let sc := scaleCols h.format h.rowBytes
  if sc = 0 then s
  else s.spWrite n r h.scaleOff ((rows.drop m).flatten ++ List.replicate ((h.rows - m) * sc) 0x7F#8)

/-- Rows from `m` on of a handle become zero, their scales 0x7F (R105). -/
def State.blankRows (s : State) (n r : Nat) (h : Handle) (m : Nat) : State :=
  let s := s.writeRows n r h m (List.replicate (h.rows - m) (zeros h.rowBytes))
  let sc := scaleCols h.format h.rowBytes
  if sc = 0 then s else s.spWrite n r (h.scaleOff + m * sc) (List.replicate ((h.rows - m) * sc) 0x7F#8)

/-- The space of a resident's accesses to stream `j` through a translation unit of its core (R231). -/
def State.streamSpace (s : State) (n r j : Nat) (store : Bool) : Space :=
  .virt (if store then .store n else .load n) (.stream r j) (s.ctxTag (s.core n r).ctx)

/-- Read tile `k` of stream `j` of a resident into handle `h` (R104 to R108), as the requests of `own`. -/
def State.loadTile (s : State) (own : Owner) (n r j : Nat) (st : Stream) (k nrows : Nat) (h : Handle) : Rows :=
  let m := rowsMoved nrows st.rows
  let q := s.readPieces (s.coreWho own n r st.cls) (s.streamSpace n r j false) (st.pieces k m)
  if q.fail.isSome || q.short then q else { q with s := q.s.placeTile n r h m q.rows, rows := [] }

/-- LOAD's effect: a read-ahead tile that has arrived is there already, whole (R53), and the rows that nrows leaves out become zero
(R105); else the tile is read now. -/
def State.loadEffect (s : State) (n r : Nat) (t : Started) (arrived : Bool) : Effect :=
  let x := s.core n r
  if arrived then
    match x.tile (t.hs.getD 0 none) with
    | some h =>
      let m := rowsMoved (bits (modOf t.ins.ops) 6 0) h.rows
      .ok (if m < h.rows then s.blankRows n r h m else s)
    | none => .ok s
  else
    match x.streamOf (s1Of t.ins.ops), x.tile (t.hs.getD 0 none) with
    | some (j, st), some h =>
      let q := s.loadTile (if t.ahead then .ahead n r j t.k else .loadIns n r) n r j st t.k (bits (modOf t.ins.ops) 6 0) h
      match q.fail with
      | some m => .bad q.s (t.ins.memFault t.k m)
      | none => if q.short then .wait q.s else .ok q.s
    | _, _ => .ok s

/-- STORE's effect: the rows, and the block scales of an MX tile, are accepted by the memory tier; they become visible later (R48, R72, R104 to
R106). -/
def State.storeEffect (s : State) (n r : Nat) (t : Started) : Effect :=
  let x := s.core n r
  match x.streamOf (dstOf t.ins.ops), x.tile (t.hs.getD 1 none) with
  | some (j, st), some h =>
    let m := rowsMoved (bits (modOf t.ins.ops) 6 0) h.rows
    let w := s.coreWho (.storeIns n r) n r st.cls
    let sp := s.streamSpace n r j true
    let ps := st.pieces t.k m
    match s.piecesWait w sp ps needW with
    | some u => .wait u
    | none =>
      let rd := s.rowBytesOf n r h m
      let sc := scaleCols h.format h.rowBytes
      let scales := if sc = 0 then ([], rd.2) else rd.2.spRead n r h.scaleOff (m * sc)
      let data := rd.1 ++ if sc = 0 then [] else (List.range m).map fun i => (scales.1.drop (i * sc)).take sc
      let q := scales.2.offerEach w sp (ps.zip data)
      let u := q.s.onCore n r fun x => { x with accepted := x.accepted ++ q.put }
      match q.fail with
      | some f => .bad u (t.ins.memFault t.k f)
      | none => .ok u
  | _, _ => .ok s

end Sys2Proof.Machine
end

