-- ==== Sys2Proof/Machine/Xform.lean ====
section
/-! DEFINITION. Machine/Xform.lean: what XFORM checks and does (R109 to R111, R137, R140, R141, R154, R155). -/
namespace Sys2Proof.Machine

/-! ## Values of tiles -/

/-- An exact value times 2^e. -/
def Val.scale (v : Val) (e : Int) : Val :=
  match v with
  | .fin n m x => .fin n m (x + e)
  | _ => v

/-- The value of an element under a block-scale byte; a scale of 0xFF makes it NaN (R137). -/
def scaled (v : Val) (b : Nat) : Val :=
  match e8m0 b with
  | none => .nan
  | some e => v.scale e

/-- The exact values of a tile's elements by rows, with the block scales of an MX format (R137). -/
def Tile.values (t : Tile) (h : Handle) : List (List Val) :=
  let per := h.cols / 32
  let f := h.format
  (t.rows.zip (List.range t.rows.length)).map fun (row, i) =>
    (row.zip (List.range row.length)).map fun (w, j) =>
      if isMx f then scaled (decodeElem f w) (t.scales.getD (i * per + j / 32) 0x7F) else decodeElem f w

/-! ## Format suffixes -/

/-- The format of `xf.tr`'s suffix (R109). -/
def trFormat (op : Nat) : Nat := [0, 1, 2, 3, 4, 8].getD op 0

/-- The format of `xf.cvt`'s suffix (R109). -/
def cvtFormat (op : Nat) : Nat := [0, 1, 2, 3, 4, 5, 6, 7, 8, 0x10, 0x11, 0x12, 0x13, 0x14, 0x15].getD (op - 8) 0

/-- "Any" format of R109: every one but IDX32 and SPM2. -/
def anyFormat (f : Nat) : Bool := f != 0x20 && f != 0x21

/-! ## The stacked layout (R112) -/

/-- The stack factor of a tile read as logical rows of `cols` elements; 0 where it is not a whole number. -/
def stackFactor (h : Handle) (cols : Nat) : Nat :=
  let row := h.rowBytes * 8
  let one := cols * elemBits h.format
  if one ≠ 0 ∧ row % one = 0 then row / one else 0

/-- The kept elements of each group: 2 for 2:4, 1 for 1:4. -/
def keptOf (pattern : Nat) : Nat := if pattern = 1 then 2 else 1

/-! ## Checks (R109 to R111, R154) -/

/-- `xf.tr`'s shape rule: j whole from 1 to 64, dst rows × j = C (R110). -/
def trCheck (op : Nat) (d a : Handle) : Nat :=
  let j := stackFactor d a.rows
  firstFault [need (d.format == trFormat op && a.format == trFormat op) fFormat,
              need (decide (1 ≤ j) && decide (j ≤ 64) && d.rows * j == a.cols) fShape]

/-- The N that kblk names: 64 or 128. -/
def kblkN (k : Nat) : Nat := if k = 1 then 64 else 128

/-- `xf.cvt`'s shape rules (R111). -/
def cvtCheck (op m : Nat) (d a : Handle) : Nat :=
  let k := bits m 2 1
  let j := stackFactor d (kblkN k)
  firstFault [need (d.format == cvtFormat op && anyFormat a.format) fFormat,
              need (d.rows == a.rows && d.cols == a.cols) fShape,
              need (k == 0 || (isMx d.format && j != 0 && d.rows * j % 32 == 0)) fShape]

/-- `xf.spx`'s shape rule (R154). -/
def spxCheck (m : Nat) (d a b : Handle) : Nat :=
  let kept := keptOf m
  firstFault [need (anyFormat d.format && !isMx d.format && anyFormat a.format && !isMx a.format && b.format == 0x21) fFormat,
              need (a.rows == d.rows && b.rows == d.rows && d.cols % 4 == 0 && a.cols * 4 == d.cols * kept &&
                b.cols * 4 == d.cols * kept) fShape]

/-- `xf.gth`'s shape rule (R111); `src` is the row bytes and format of src1, a tile or a stream. -/
def gthCheck (nrows : Nat) (d b : Handle) (srcBytes srcFormat : Nat) : Nat :=
  firstFault [need (b.format == 0x20 && anyFormat d.format && srcFormat == d.format) fFormat,
              need (decide (nrows ≤ d.rows) && decide (rowsMoved nrows d.rows ≤ b.rows * b.cols) && srcBytes == d.rowBytes) fShape]

/-! ## Effects -/

/-- `xf.tr`, which copies patterns, a NaN's as it is (DESIGN CHOICE, log 128): row c of the transpose lies in tile row c div j, from element (c mod
j) × R (R110, R112). -/
def transpose (src : List (List Nat)) (rowsOut j r : Nat) : List (List Nat) :=
  (List.range rowsOut).map fun d => (List.range (j * r)).map fun e => (src.getD (e % r) []).getD (d * j + e / r) 0

/-- The scale of a block of values under an MX format, the flags it sets, and how its elements are converted: none for a block
of zeros made of a NaN or infinity, else the exponent (R141). -/
structure BlockScale where
  byte : Nat
  flags : Nat
  bad : Bool
  e : Int
  deriving DecidableEq, Repr

/-- emax of an element format (R141). -/
def emaxOf (f : Nat) : Int :=
  match elemFmt f with
  | 3 => 8
  | 4 => 15
  | 5 => 2
  | 6 => 4
  | 7 => 2
  | _ => 0

/-- The exponent of the leading bit of a finite value's magnitude, none for a zero. -/
def Val.lead (v : Val) : Option Int :=
  match v with
  | .fin _ m e => if m = 0 then none else some (e + (bitLen m : Int) - 1)
  | _ => none

/-- The greatest leading exponent of several values. -/
def maxLead (vs : List Val) : Option Int :=
  vs.foldl (fun acc v => match acc, v.lead with
    | none, l => l
    | a, none => a
    | some a, some b => some (max a b)) none

/-- Whether a value is NaN or an infinity. -/
def Val.special (v : Val) : Bool :=
  match v with
  | .fin _ _ _ => false
  | _ => true

/-- The scale that `xf.cvt` computes for a block (R141). -/
def blockScale (f : Nat) (vs : List Val) : BlockScale :=
  if vs.any Val.special then ⟨0xFF, cvtNan, true, 0⟩
  else
    match maxLead vs with
    | none => ⟨0x7F, 0, false, 0⟩
    | some l =>
      let e := l - emaxOf f
      if e > 127 then ⟨254, cvtOvf, false, 127⟩
      else if e < -127 then ⟨0, 0, false, -127⟩
      else ⟨(e + 127).toNat, 0, false, e⟩

/-- Convert an element of a block: beyond the largest finite value it saturates, with no flag (R141). -/
def blockElem (f : Nat) (z : Option Nat) (b : BlockScale) (v : Val) : Nat :=
  if b.bad then 0
  else
    let c := convElem f z (v.scale (-b.e))
    if c.ovf && !isInt f then
      match v with
      | .fin n _ _ => (fp f).sign n + (fp f).maxFin
      | _ => c.w
    else c.w

/-- Where element (i, j) of a destination lies: its block, by rows (kblk 0) or as a stacked operand of N columns (R111, R112). -/
def blockOf (cols n stack i j : Nat) : Nat :=
  if n = 0 then i * (cols / 32) + j / 32
  else (i * stack + j / n) / 32 * n + j % n

/-- The elements of a list by block: the values of block `b`. -/
def valuesOfBlock (vals : List (List Val)) (cols n stack b : Nat) : List Val :=
  (vals.zip (List.range vals.length)).foldl (fun acc p =>
    acc ++ ((p.1.zip (List.range p.1.length)).filterMap fun q => if blockOf cols n stack p.2 q.2 = b then some q.1 else none)) []

/-- `xf.cvt` into an MX format: the tile, the flags, the generator (R111, R141, R151). -/
def convMx (d : Handle) (k : Nat) (sr : Bool) (gen : Nat) (vals : List (List Val)) : Tile × Nat × Nat :=
  let n := if k = 0 then 0 else kblkN k
  let stack := if k = 0 then 0 else stackFactor d n
  let scales := (List.range d.scaleBytes).map fun b => blockScale d.format (valuesOfBlock vals d.cols n stack b)
  let go := (vals.zip (List.range vals.length)).foldl (fun (acc : List (List Nat) × Nat) p =>
    let row := (p.1.zip (List.range p.1.length)).foldl (fun (a : List Nat × Nat) q =>
      let z := if sr then draw a.2 else (0, a.2)
      let b := scales.getD (blockOf d.cols n stack p.2 q.2) ⟨0x7F, 0, false, 0⟩
      (blockElem d.format (if sr then some z.1 else none) b q.1 :: a.1, z.2)) ([], acc.2)
    (row.1.reverse :: acc.1, row.2)) ([], gen)
  (⟨go.1.reverse, scales.map (·.byte)⟩, scales.foldl (fun m b => flagsOr m b.flags) 0, go.2)

/-- Split a list into rows of `n`. -/
def rowsOf {α : Type} (n : Nat) (k : Nat) (l : List α) : List (List α) := (List.range k).map fun i => (l.drop (i * n)).take n

/-- `xf.cvt` into any format. -/
def convTile (d : Handle) (k : Nat) (sr : Bool) (gen : Nat) (vals : List (List Val)) : Tile × Nat × Nat :=
  if isMx d.format then convMx d k sr gen vals
  else
    let c := convAll d.format sr gen vals.flatten
    (⟨rowsOf d.cols d.rows c.1, []⟩, c.2.1, c.2.2)

/-- Expand a row of kept values and positions into groups of four (R153, R154): of equal positions the first value is used. Patterns are copied, a NaN's
as it is (DESIGN CHOICE, log 128). -/
def expandRow (kept cols : Nat) (vals pos : List Nat) : List Nat :=
  (List.range cols).map fun c =>
    let g := c / 4
    match (List.range kept).find? fun i => pos.getD (g * kept + i) 0 == c % 4 with
    | some i => vals.getD (g * kept + i) 0
    | none => 0

/-- The index words of a gather, in row-major order. -/
def Tile.flat (t : Tile) : List Nat := t.rows.flatten

/-- The rows that a gather writes: each its bytes and its block scales, or a GATHER_RANGE or memory failure. -/
structure Gathered where
  s : State
  rows : List (List Byte × List Byte)
  fail : Option MemFail
  range : Bool
  short : Bool
  deriving DecidableEq, Repr

/-- A zero row of a gather. -/
def zeroRow (d : Handle) : List Byte × List Byte := (zeros d.rowBytes, List.replicate (scaleCols d.format d.rowBytes) 0x7F#8)

/-- Gather rows of a source tile (R111), their patterns as they are (DESIGN CHOICE, log 128). -/
def State.gatherTile (s : State) (n r : Nat) (d a : Handle) (idx : List Nat) : Gathered :=
  match idx with
  | [] => ⟨s, [], none, false, false⟩
  | i :: rest =>
    if i = 0xFFFFFFFF then
      let t := s.gatherTile n r d a rest
      { t with rows := zeroRow d :: t.rows }
    else if i ≥ a.rows then ⟨s, [], none, true, false⟩
    else
      let sc := scaleCols a.format a.rowBytes
      let row := s.spRead n r (a.base + i * a.pitch) a.rowBytes
      let scl := if sc = 0 then ([], row.2) else row.2.spRead n r (a.scaleOff + i * sc) sc
      let t := scl.2.gatherTile n r d a rest
      { t with rows := (row.1, scl.1) :: t.rows }

/-- The place of each gathered row among the rows read; an index of all ones is a zero row (R111). -/
def gatherPlace (d : Handle) (sc : Bool) (rows : List (List Byte)) (idx : List Nat) : List (List Byte × List Byte) :=
  match idx with
  | [] => []
  | i :: rest =>
    if i = 0xFFFFFFFF then zeroRow d :: gatherPlace d sc rows rest
    else if sc then (rows.getD 0 [], rows.getD 1 []) :: gatherPlace d sc (rows.drop 2) rest
    else (rows.getD 0 [], []) :: gatherPlace d sc (rows.drop 1) rest

/-- Gather rows of tile `k` of stream `j` (R111): the indexes before the first one out of range are read. -/
def State.gatherStream (s : State) (n r : Nat) (d : Handle) (j : Nat) (st : Stream) (k : Nat) (idx : List Nat) : Gathered :=
  let sc := scaleCols st.format st.rowBytes
  let good := idx.takeWhile fun i => i == 0xFFFFFFFF || !(sc != 0 && decide (st.rows ≤ i))
  let pieces (i : Nat) : List Piece :=
    let row := (st.address k + i * st.memPitch) % 2 ^ 64
    ⟨row, d.rowBytes, row⟩ :: if sc = 0 then [] else [⟨st.scaleAddr k + i * sc, sc, row⟩]
  let q := s.readPieces (s.coreWho (.loadIns n r) n r st.cls) (s.streamSpace n r j false) ((good.filter (· != 0xFFFFFFFF)).flatMap pieces)
  ⟨q.s, gatherPlace d (sc != 0) q.rows good, q.fail, decide (good.length < idx.length), q.short⟩

/-- Write gathered rows, the rest of dst zero with scales 0x7F. -/
def State.placeRows (s : State) (n r : Nat) (d : Handle) (rows : List (List Byte × List Byte)) : State :=
  let all := rows ++ List.replicate (d.rows - rows.length) (zeroRow d)
  let s := s.writeRows n r d 0 (all.map (·.1))
  if isMx d.format then s.spWrite n r d.scaleOff (all.map (·.2)).flatten else s

/-- XFORM's checks (R100, R109 to R111). -/
def xformCheck (x : Res) (i : StIns) (d a b : Option Handle) : Nat :=
  let m := modOf i.ops
  match d with
  | none => fTileUnset
  | some d =>
    if i.op ≤ 0x05 then (match a with
      | some a => trCheck i.op d a
      | none => fTileUnset)
    else if i.op ≤ 0x16 then (match a with
      | some a => cvtCheck i.op m d a
      | none => fTileUnset)
    else if i.op = 0x18 then (match a, b with
      | some a, some b => spxCheck m d a b
      | _, _ => fTileUnset)
    else
      match x.streamOf (s1Of i.ops), a, b with
      | some (_, st), _, some b =>
        firstFault [need (!st.write) fStreamDirection, gthCheck (bits m 6 0) d b st.rowBytes st.format]
      | none, some a, some b => gthCheck (bits m 6 0) d b a.rowBytes a.format
      | _, _, _ => fTileUnset

/-- Rows of free values of `w` bits: the spec states no element of an expansion into another format than its source's (DESIGN CHOICE, log 127). -/
def freeRows (w ctr rows cols : Nat) : List (List Nat) :=
  (List.range rows).map fun i => (List.range cols).map fun j => (Config.freeValue w (ctr + i * cols + j)).toNat

/-- XFORM's effect. -/
def State.xformEffect (s : State) (n r : Nat) (t : Started) : Effect :=
  let x := s.core n r
  let i := t.ins
  let m := modOf i.ops
  match x.tile (t.hs.getD 0 none) with
  | none => .ok s
  | some d =>
    if i.op = 0x20 then
      match x.tile (t.hs.getD 2 none) with
      | none => .ok s
      | some b =>
        let q := s.readTile n r b
        let idx := q.1.flat.take (rowsMoved (bits m 6 0) d.rows)
        let g := match x.streamOf (s1Of i.ops), x.tile (t.hs.getD 1 none) with
          | some (j, st), _ => q.2.gatherStream n r d j st t.k idx
          | none, some a => q.2.gatherTile n r d a idx
          | none, none => ⟨q.2, [], none, false, false⟩
        match g.fail with
        | some f => .bad g.s (i.memFault t.k f)
        | none =>
          if g.short then .wait g.s
          else if g.range then .bad g.s (i.fault fGatherRange t.k)
          else .ok (g.s.placeRows n r d g.rows)
    else
      match x.tile (t.hs.getD 1 none) with
      | none => .ok s
      | some a =>
        let q := s.readTile n r a
        if i.op ≤ 0x05 then .ok (q.2.writeTile n r d ⟨transpose q.1.rows d.rows (stackFactor d a.rows) a.rows, []⟩)
        else if i.op ≤ 0x16 then
          let c := convTile d (bits m 2 1) (bits m 0 0 == 1) (x.gen 3) (q.1.values a)
          .ok ((q.2.writeTile n r d c.1).onCore n r fun x => (x.setFlags c.2.1).setGen 3 c.2.2)
        else
          match x.tile (t.hs.getD 2 none) with
          | none => .ok s
          | some b =>
            let p := q.2.readTile n r b
            let vals := if a.format = d.format then q.1.rows else freeRows (elemBits d.format) p.2.freeCtr a.rows a.cols
            let s := if a.format = d.format then p.2 else { p.2 with freeCtr := p.2.freeCtr + a.rows * a.cols }
            let rows := vals.zipWith (fun v w => expandRow (keptOf m) d.cols v w) p.1.rows
            .ok (s.writeTile n r d ⟨rows, []⟩)

end Sys2Proof.Machine
end

