-- ==== Sys2Proof/Machine/Acc.lean ====
section
/-! DEFINITION. Machine/Acc.lean: the windowed accumulator (R138, R139, R144 to R149). -/
namespace Sys2Proof.Machine

/-- A fresh accumulator (R144). -/
def Acc.fresh : Acc := { elems := [], phi := none }

/-- A fresh element (R144). -/
def AccElem.fresh : AccElem := { v := 0, reach := none, sat := false, nan := false, pinf := false, ninf := false }

/-- Physical accumulator `k` (4 × core + number). -/
def State.acc (s : State) (k : Nat) : Acc := s.accs.get k Acc.fresh

/-- The state with a physical accumulator replaced. -/
def State.setAcc (s : State) (k : Nat) (a : Acc) : State := { s with accs := s.accs.set Acc.fresh k a }

/-- Element (i, j) of an accumulator. -/
def Acc.elem (a : Acc) (i j : Nat) : AccElem := a.elems.get (i * 64 + j) AccElem.fresh

/-- The accumulator with an element replaced. -/
def Acc.setElem (a : Acc) (i j : Nat) (e : AccElem) : Acc := { a with elems := a.elems.set AccElem.fresh (i * 64 + j) e }

/-- What one instruction adds into one element (R145, R148): NaN, an infinity, or a finite value with a reach. -/
inductive Contribution where
  | nan
  | inf (neg : Bool)
  | fin (neg : Bool) (m : Nat) (e : Int) (reach : Int)
  | none
  deriving DecidableEq, Repr

/-- The window bottom of an element (R146). -/
def windowOf (reach : Int) : Int := reach - 60

/-- Round a signed integer in units of 2^e to units of 2^u, nearest, ties to even: the value and whether a bit was lost. -/
def roundInt (v : Int) (e u : Int) : Int × Bool :=
  let q := roundMag v.natAbs e u none
  let w : Int := if v < 0 then -(q : Int) else (q : Int)
  (w, decide (u > e) && decide (v.natAbs % 2 ^ (u - e).toNat ≠ 0))

/-- The bounds of V (R146). -/
def accMax : Int := 2 ^ 79 - 1
/-- The lower bound. -/
def accMin : Int := -(2 : Int) ^ 79

/-- An element after a contribution, with the flags set (R146, R148). -/
def AccElem.add (a : AccElem) (c : Contribution) : AccElem × Nat :=
  match c with
  | .none => (a, 0)
  | .nan => ({ a with nan := true }, accNan)
  | .inf neg =>
    let b := if neg then { a with ninf := true } else { a with pinf := true }
    (b, flagIf (b.pinf && b.ninf && !(a.pinf && a.ninf)) accNan)
  | .fin neg m e r =>
    if a.sat then (a, 0)
    else
      let r' := match a.reach with
        | none => r
        | some old => max old r
      let w := windowOf r'
      let v := match a.reach with
        | none => (a.v, false)
        | some old => roundInt a.v (windowOf old) w
      let x := roundInt (if neg then -(m : Int) else m) e w
      let sum := v.1 + x.1
      let clipped := max accMin (min accMax sum)
      ({ a with v := clipped, reach := some r', sat := decide (clipped ≠ sum) },
       flagsOr (flagIf (v.2 || x.2) accRen) (flagIf (clipped != sum) accSat))

/-! ## Tile scales (R138) -/

/-- A tile scale split into sign, significand in units of 2^−23 in [2^23, 2^24), and exponent; zero has significand 0. -/
structure TileScale where
  neg : Bool
  sig : Nat
  e : Int
  deriving DecidableEq, Repr

/-- Split an FP32 tile scale (R138). A scale of zero has no significand in [1, 2): its exponent is taken as 0 (DESIGN CHOICE, log 129). -/
def tileScale (w : Nat) : TileScale :=
  match f32 w with
  | .fin neg m e =>
    if m = 0 then ⟨neg, 0, 0⟩
    else
      let sh := 24 - bitLen m
      ⟨neg, m * 2 ^ sh, e - sh + 23⟩
  | _ => ⟨false, 0, 0⟩

/-- The pass factor of two tile scales, in units of 2^−46 (R138). -/
def passFactor (a b : TileScale) : Int :=
  let p : Int := (a.sig * b.sig : Nat)
  if a.neg != b.neg then -p else p

/-- The scale 1.0. -/
def unitScale : TileScale := ⟨false, 2 ^ 23, 0⟩

/-- Whether a pass factor conflicts with the pass of an accumulator (R139). -/
def Acc.conflicts (a : Acc) (phi : Int) : Bool :=
  match a.phi with
  | none => false
  | some p => p != phi

/-! ## Contributions (R145, R148) -/

/-- qmax of a pair of element formats (R145). -/
def qmax (f g : Nat) : Int :=
  match f, g with
  | 7, 7 => 6
  | 5, 5 => 6
  | 6, 6 => 10
  | 5, 6 | 6, 5 => 8
  | 3, 3 => 18
  | 3, 4 | 4, 3 => 25
  | 4, 4 => 32
  | 8, 8 => 15
  | _, _ => 3

/-- A product or value of a wide format, scaled by the tile exponents, as a contribution of its own (R145). -/
def wideContribution (v : Val) (te : Int) : Contribution :=
  match v with
  | .nan => .nan
  | .inf n => .inf n
  | .fin n m e => if m = 0 then .none else .fin n m (e + te) (e + te + bitLen m)

/-- The dot product of a k-block: its exact sum, or the NaN or infinity its products make (R145, R148). -/
def dotBlock (ps : List Val) : Val :=
  let pos := ps.any fun p => p == .inf false
  let neg := ps.any fun p => p == .inf true
  if ps.any Val.isNan || (pos && neg) then .nan
  else if pos then .inf false
  else if neg then .inf true
  else ps.foldl Val.add (.fin false 0 0)

/-- The contribution of a k-block with block-scale bytes `sa` and `sb` (0x7F where the format has none), tile exponents `te` and
qmax `q`, and whether it met a scale of 0xFF. -/
def blockContribution (ps : List Val) (sa sb : Nat) (te q : Int) : Contribution × Bool :=
  match e8m0 sa, e8m0 sb with
  | some a, some b =>
    let c := a + b + te
    match dotBlock ps with
    | .nan => (.nan, false)
    | .inf n => (.inf n, false)
    | .fin n m e => (.fin n m (e + c) (c + q), false)
  | _, _ => (.nan, true)

/-! ## Output (R149) -/

/-- The exact value that `mma.out` converts (R149). -/
def AccElem.value (a : AccElem) (phi : Int) : Val :=
  if a.nan || (a.pinf && a.ninf) then .nan
  else if a.pinf then .inf false
  else if a.ninf then .inf true
  else
    match a.reach with
    | none => .fin false 0 0
    | some r =>
      let p := a.v * phi
      if p = 0 then .fin false 0 0 else .fin (decide (p < 0)) p.natAbs (windowOf r - 46)

/-- An output pattern: a zero result is +0 (R149; DEDUCED, log 112). -/
def plusZero (f w : Nat) : Nat := if w = 2 ^ (elemBits f - 1) ∧ f ≠ 8 then 0 else w

end Sys2Proof.Machine
end

