-- ==== Sys2Proof/Machine/Matrix.lean ====
section
/-! DEFINITION. Machine/Matrix.lean: what MATRIX checks and does (R112 to R115, R138, R139, R145 to R149, R153). -/
namespace Sys2Proof.Machine

/-- The formats that an `mma` opcode takes (R113). -/
def mmaFormats (op : Nat) : List Nat :=
  match op with
  | 0x00 => [0]
  | 0x01 => [1]
  | 0x02 => [2]
  | 0x03 => [3]
  | 0x04 => [4]
  | 0x05 => [3, 4]
  | 0x06 => [5, 6]
  | 0x07 => [7]
  | 0x08 => [8]
  | 0x10 => [0x10, 0x11]
  | 0x11 => [0x12, 0x13]
  | 0x12 => [0x14]
  | _ => [0x15]

/-- Whether an opcode multiplies a wide format, each product a contribution of its own (R145). -/
def isWide (op : Nat) : Bool := op ≤ 2

/-- The accumulators of an AP or A operand of a resident, as physical numbers, and the columns they give (64 or 128). -/
def State.accOf (s : State) (n r c : Nat) : List Nat :=
  match operand c with
  | .acc a pair => s.accIds n r a pair
  | _ => []

/-- How much longer the dense K is than the compressed rows: 1, 2 or 4 (R113). -/
def sparsity (m : Nat) : Nat := if m = 1 then 2 else if m = 2 then 4 else 1

/-- The metadata elements of a logical row (R153). -/
def metaCols (m n : Nat) : Nat := if m = 1 then 2 * n else n

/-- The shape rule of `mma` (R112, R113, R153). -/
def mmaShape (m n : Nat) (a b : Handle) (c : Option Handle) : Bool :=
  let j := stackFactor b n
  let k := a.cols
  j != 0 && k == sparsity m * (b.rows * j) && (!isMx a.format || k % 32 == 0) &&
  (m == 0 || k % 4 == 0 && match c with
    | some c => let jm := stackFactor c (metaCols m n); jm != 0 && c.rows * jm == k / 4
    | none => false)

/-- `mma`'s checks, the pass factor last (R100, R112, R113, R139). -/
def State.mmaCheck (s : State) (n r : Nat) (i : StIns) (a b c : Option Handle) : Nat :=
  let accs := s.accOf n r (dstOf i.ops)
  let m := modOf i.ops % 4
  match a, b with
  | some a, some b =>
    let fs := mmaFormats i.op
    let phi := passFactor (tileScale a.scale) (tileScale b.scale)
    firstFault
      [need (fs.contains a.format && fs.contains b.format && (m == 0 || match c with
          | some c => c.format == 0x21
          | none => false)) fFormat,
       need (mmaShape m (64 * accs.length) a b c) fShape,
       need (accs.all fun k => !(s.acc k).conflicts phi) fScaleConflict]
  | _, _ => fTileUnset

/-- Element (i, n) of a stacked tile with N columns and stack factor j (R112). -/
def Tile.stacked (t : Tile) (n j i col : Nat) : Nat := t.at_ (i / j) (i % j * n + col)

/-- A position of the metadata tile (R153): element `e` of logical row `g`. -/
def Tile.metaAt (t : Tile) (cols jm g e : Nat) : Nat := t.stacked cols jm g e

/-- The B operand as dense values: element (k, col), zero where a sparse group keeps nothing (R153); that zero is multiplied like any other, so that
an infinity of A beside it makes a NaN contribution (R148; DESIGN CHOICE, log 129). -/
def denseB (m n j jm f : Nat) (b c : Tile) (k col : Nat) : Val :=
  let zero : Val := .fin false 0 0
  let val (row : Nat) : Val := decodeElem f (b.stacked n j row col)
  if m = 0 then val k
  else
    let g := k / 4
    let kept := keptOf m
    match (List.range kept).find? fun i => c.metaAt (metaCols m n) jm g (kept * col + i) == k % 4 with
    | some i => val (kept * g + i)
    | none => zero

/-- The contributions of an `mma` to element (i, col), in order (R146), and whether a scale of 0xFF was met. -/
def mmaContributions (op : Nat) (te : Int) (row : List Val) (bcol : Nat → Val) (sa sb : Nat → Nat) (q : Int) :
    List Contribution × Bool :=
  let k := row.length
  let ps := (row.zip (List.range k)).map fun p => p.1.mul (bcol p.2)
  if isWide op then (ps.map fun v => wideContribution v te, false)
  else
    let bs := (List.range ((k + 31) / 32)).map fun kb =>
      blockContribution ((ps.drop (32 * kb)).take 32) (sa kb) (sb kb) te q
    (bs.map (·.1), bs.any (·.2))

/-- Add contributions to an element in order. -/
def AccElem.addAll (a : AccElem) (cs : List Contribution) : AccElem × Nat :=
  cs.foldl (fun (p : AccElem × Nat) c => let q := p.1.add c; (q.1, flagsOr p.2 q.2)) (a, 0)

/-- Add contributions to the elements of the accumulators: rows below M, columns below N (R115); the flags set. -/
def State.accumulate (s : State) (accs : List Nat) (phi : Int) (rows : Nat) (f : Nat → Nat → List Contribution × Bool) : State × Nat :=
  (accs.zip (List.range accs.length)).foldl (fun (p : State × Nat) ka =>
    let a0 := { p.1.acc ka.1 with phi := some phi }
    let q := (List.range rows).foldl (fun (u : Acc × Nat) i =>
      (List.range 64).foldl (fun (u : Acc × Nat) j =>
        let cs := f i (64 * ka.2 + j)
        let e := (u.1.elem i j).addAll cs.1
        (u.1.setElem i j e.1, flagsOr u.2 (flagsOr e.2 (flagIf cs.2 scaleNan)))) u) (a0, p.2)
    (p.1.setAcc ka.1 q.1, q.2)) (s, 0)

/-- `mma`'s effect (R113, R145, R146). An MX operand B has a scale for each 32 of its dense rows, K/32 × N in all; in a sparse pass these stand from
the scale offset of the compressed tile on, beyond the bytes that R38 counts for it (DESIGN CHOICE, log 129). -/
def State.mmaEffect (s : State) (n r : Nat) (i : StIns) (a b : Handle) (c : Option Handle) : State :=
  let accs := s.accOf n r (dstOf i.ops)
  let m := modOf i.ops % 4
  let cols := 64 * accs.length
  let j := stackFactor b cols
  let ta := s.readTile n r a
  let tb := ta.2.readTile n r b
  let tc := match c with
    | some c => tb.2.readTile n r c
    | none => (⟨[], []⟩, tb.2)
  let jm := match c with
    | some c => stackFactor c (metaCols m cols)
    | none => 1
  let sb := if isMx b.format then tc.2.spRead n r b.scaleOff (a.cols / 32 * cols) else ([], tc.2)
  let va := (ta.1.rows.map fun row => row.map (decodeElem a.format))
  let scA := tileScale a.scale
  let scB := tileScale b.scale
  let per := a.cols / 32
  let go := sb.2.accumulate accs (passFactor scA scB) a.rows fun row col =>
    mmaContributions i.op (scA.e + scB.e) (va.getD row []) (fun k => denseB m cols j jm b.format tb.1 tc.1 k col)
      (fun kb => if isMx a.format then ta.1.scales.getD (row * per + kb) 0x7F else 0x7F)
      (fun kb => if isMx b.format then (sb.1.getD (kb * cols + col) 0x7F#8).toNat else 0x7F)
      (qmax (elemFmt a.format) (elemFmt b.format))
  go.1.setFlags n r go.2

/-- The format of `mma.out`'s suffix. -/
def outFormat (op : Nat) : Nat := op - 0x20

/-- `mma.out`'s checks (R114). -/
def State.outCheck (s : State) (n r : Nat) (i : StIns) (d : Option Handle) : Nat :=
  match d with
  | some d =>
    firstFault [need (d.format == outFormat i.op) fFormat,
                need (decide (d.cols ≤ 64 * (s.accOf n r (s1Of i.ops)).length)) fShape]
  | none => fTileUnset

/-- `mma.out`'s effect (R114, R149, R151). -/
def State.outEffect (s : State) (n r : Nat) (i : StIns) (d : Handle) : State :=
  let accs := s.accOf n r (s1Of i.ops)
  let sr := bits (modOf i.ops) 0 0 == 1
  let vals := (List.range d.rows).flatMap fun row => (List.range d.cols).map fun col =>
    let a := s.acc (accs.getD (col / 64) 0)
    (a.elem row (col % 64)).value (a.phi.getD 0)
  let c := convAll d.format sr ((s.core n r).gen 4) vals
  let t : Tile := ⟨rowsOf d.cols d.rows (c.1.map (plusZero d.format)), []⟩
  let s := (s.writeTile n r d t).onCore n r fun x => (x.setFlags c.2.1).setGen 4 c.2.2
  if bits (modOf i.ops) 1 1 = 1 then s else accs.foldl (fun s k => s.setAcc k Acc.fresh) s

/-- `mma.add.f32`'s checks (R114, R139). -/
def State.addCheck (s : State) (n r : Nat) (i : StIns) (a : Option Handle) : Nat :=
  let accs := s.accOf n r (dstOf i.ops)
  match a with
  | some a =>
    firstFault [need (a.format == 0) fFormat, need (a.cols == 64 * accs.length) fShape,
                need (accs.all fun k => !(s.acc k).conflicts (passFactor (tileScale a.scale) unitScale)) fScaleConflict]
  | none => fTileUnset

/-- `mma.add.f32`'s effect: each value, scaled by the tile exponent, is a contribution (R114, R138, R145). -/
def State.addEffect (s : State) (n r : Nat) (i : StIns) (a : Handle) : State :=
  let t := s.readTile n r a
  let sc := tileScale a.scale
  let go := t.2.accumulate (s.accOf n r (dstOf i.ops)) (passFactor sc unitScale) a.rows fun row col =>
    ([wideContribution (f32 (t.1.at_ row col)) sc.e], false)
  go.1.setFlags n r go.2

/-- MATRIX's checks. -/
def State.matrixCheck (s : State) (n r : Nat) (i : StIns) (d a b c : Option Handle) : Nat :=
  if i.op ≤ 0x13 then s.mmaCheck n r i a b c
  else if i.op ≤ 0x24 then s.outCheck n r i d
  else if i.op = 0x29 then s.addCheck n r i a
  else 0

/-- MATRIX's effect. -/
def State.matrixEffect (s : State) (n r : Nat) (t : Started) : Effect :=
  let x := s.core n r
  let tl (k : Nat) : Option Handle := x.tile (t.hs.getD k none)
  let i := t.ins
  .ok (
    if i.op ≤ 0x13 then
      match tl 1, tl 2 with
      | some a, some b => s.mmaEffect n r i a b (if modOf i.ops % 4 = 0 then none else tl 3)
      | _, _ => s
    else if i.op ≤ 0x24 then
      match tl 0 with
      | some d => s.outEffect n r i d
      | none => s
    else if i.op = 0x28 then (s.accOf n r (dstOf i.ops)).foldl (fun s k => s.setAcc k Acc.fresh) s
    else
      match tl 1 with
      | some a => s.addEffect n r i a
      | none => s)

end Sys2Proof.Machine
end

