-- ==== Sys2Proof/Machine/Vector.lean ====
section
/-! DEFINITION. Machine/Vector.lean: what VECTOR checks and does (R117 to R119, R121, R142, R143). -/
namespace Sys2Proof.Machine

/-! ## Rounding into the suffix's format and into dst's (R117) -/

/-- Whether a format holds every value of a suffix's format, so that the conversion of R117 adds no rounding. -/
def holdsAll (sfx d : Nat) : Bool := d == sfx || d == 0

/-- A result's rounding: the pattern in dst, the flags, the generator's next state. -/
structure Rounded where
  w : Nat
  flags : Nat
  gen : Nat
  deriving DecidableEq, Repr

/-- Steps 2 and 3 of R117: the exact result is rounded once to the suffix's format, setting `ovf` (R143) and cvt_ovf (R140) where a finite result
overflows, then converted into dst's format, where an overflow sets cvt_ovf alone (DEDUCED, log 87); `sr` makes the last rounding stochastic,
with one draw for each element (R151). -/
def roundResult (ovf sfx d : Nat) (sr : Bool) (gen : Nat) (v : Val) : Rounded :=
  let z := if sr then draw gen else (0, gen)
  let last := holdsAll sfx d
  let a := convElem sfx (if sr && last then some z.1 else none) v
  let b := convElem d (if sr && !last then some z.1 else none) (decodeElem sfx a.w)
  ⟨b.w, flagsOr (flagIf a.ovf ovf) (flagsOr (flagIf (b.ovf || a.ovf) cvtOvf) (flagIf b.nan cvtNan)), z.2⟩

/-- Round a list of results in row-major order, after the flags already found. -/
def roundAll (ovf sfx d : Nat) (sr : Bool) (gen flags : Nat) (vs : List Val) : List Nat × Nat × Nat :=
  let go := vs.foldl (fun (acc : List Nat × Nat × Nat) v =>
    let q := roundResult ovf sfx d sr acc.2.2 v
    (q.w :: acc.1, flagsOr acc.2.1 q.flags, q.gen)) ([], flags, gen)
  (go.1.reverse, go.2)

/-- An exact value rounded to FP32, nearest-even. -/
def toF32 (v : Val) : Val := f32 (convElem 0 none v).w

/-- Whether rounding a value to FP32 overflows. -/
def f32Ovf (v : Val) : Bool := (convElem 0 none v).ovf

/-- Whether a value is a NaN made of operands that are none (R143). -/
def madeNan (v : Val) (ins : List Val) : Bool := v.isNan && !(ins.any Val.isNan)

/-- A sum in FP32 and what its additions met: whether a finite one overflowed, whether one was ∞ + (−∞) (R143). -/
structure TreeSum where
  v : Val
  ovf : Bool
  inv : Bool
  deriving DecidableEq, Repr

/-- The pairwise tree (R121; DEDUCED, log 109): the sums of the two halves of a list, the first the larger where its length is odd, are added and
rounded to FP32; `fuel` bounds the depth. -/
def treeSum (fuel : Nat) (vs : List Val) : TreeSum :=
  match fuel, vs with
  | _, [] => ⟨.fin false 0 0, false, false⟩
  | _, [v] => ⟨v, false, false⟩
  | 0, v :: _ => ⟨v, false, false⟩
  | k + 1, vs =>
    let h := (vs.length + 1) / 2
    let a := treeSum k (vs.take h)
    let b := treeSum k (vs.drop h)
    let c := a.v.add b.v
    ⟨toF32 c, f32Ovf c || a.ovf || b.ovf, madeNan c [a.v, b.v] || a.inv || b.inv⟩

/-! ## The operations -/

/-- The suffix of an opcode with `.f32`, `.bf16`, `.f16` forms: 0, 1, 2. -/
def suffixOf (op : Nat) : Nat := op / 0x40

/-- Whether a format is one of VECTOR's and REDUCE's: FP32, BF16, FP16, E4M3, E5M2 (R117, R120). -/
def vecFormat (f : Nat) : Bool := f ≤ 4

/-- The exact result of an elementwise operation (R117). -/
def vecOp (base : Nat) (a b c : Val) : Val :=
  match base with
  | 0 => a.add b
  | 1 => a.add b.neg
  | 2 => a.mul b
  | 3 => a.max b
  | 4 => a.min b
  | _ => (a.mul b).add c

/-- The element of src2 that a broadcast reads for (i, j) (R118). -/
def bcast (mode : Nat) (t : List (List Val)) (i j : Nat) : Val :=
  let at_ (i j : Nat) : Val := (t.getD i []).getD j (.fin false 0 0)
  match mode with
  | 0 => at_ i j
  | 1 => at_ 0 j
  | 2 => at_ i 0
  | _ => at_ 0 0

/-- The shape of src2 under a broadcast (R118). -/
def bcastOk (mode : Nat) (d b : Handle) : Bool :=
  match mode with
  | 0 => b.rows == d.rows && b.cols == d.cols
  | 1 => b.cols == d.cols
  | 2 => b.rows == d.rows
  | _ => true

/-- Whether two tiles have the same rows and elements per row. -/
def sameShape (a b : Handle) : Bool := a.rows == b.rows && a.cols == b.cols

/-- A row-state tile for `rows` rows (R119). -/
def isRowState (h : Handle) (rows : Nat) : Nat :=
  firstFault [need (h.format == 0) fFormat, need (h.rowBytes == 32 && h.rows == rows) fShape]

/-- Whether `a × b + c` is an invalid case: in its product or in its sum (R143). -/
def fmaInvalid (a b c : Val) : Bool := madeNan (a.mul b) [a, b] || madeNan ((a.mul b).add c) [a.mul b, c]

/-- Whether an elementwise operation is an invalid case of IEEE 754 (R143; DEDUCED, log 110). -/
def vecInvalid (base : Nat) (a b c : Val) : Bool := if base = 5 then fmaInvalid a b c else madeNan (vecOp base a b c) [a, b]

/-- VECTOR's checks (R100, R117 to R119). -/
def vectorCheck (i : StIns) (d a b c : Option Handle) : Nat :=
  let m := modOf i.ops
  let base := i.op % 0x40
  let fmt (h : Handle) : Nat := need (vecFormat h.format) fFormat
  if i.op = 0x18 then
    match d with
    | some d => isRowState d d.rows
    | none => fTileUnset
  else if base ≤ 0x04 then
    match d, a, b with
    | some d, some a, some b => firstFault [fmt d, fmt a, fmt b, need (sameShape d a && bcastOk (m % 4) d b) fShape]
    | _, _, _ => fTileUnset
  else if base = 0x05 ∧ s3Of i.ops ≠ 0xFF then
    match d, a, b, c with
    | some d, some a, some b, some c =>
      firstFault [fmt d, fmt a, fmt b, fmt c, need (sameShape d a && sameShape d c && bcastOk (m % 4) d b) fShape]
    | _, _, _, _ => fTileUnset
  else if base = 0x05 then
    match d, a, b with
    | some d, some a, some b => firstFault [need (d.format == 0) fFormat, fmt b, isRowState a d.rows, need (sameShape d b) fShape]
    | _, _, _ => fTileUnset
  else if i.op = 0x10 then
    match d, a, b with
    | some d, some a, some b => firstFault [fmt d, fmt b, isRowState a d.rows, need (sameShape d b) fShape]
    | _, _, _ => fTileUnset
  else if 0x11 ≤ i.op ∧ i.op ≤ 0x15 then
    match d, a, b with
    | some d, some a, some b =>
      firstFault [need (d.format == i.op - 0x11) fFormat, fmt a, isRowState b d.rows, need (sameShape d a) fShape]
    | _, _, _ => fTileUnset
  else
    match d, a with
    | some d, some a => firstFault [fmt d, fmt a, need (sameShape d a) fShape]
    | _, _ => fTileUnset

/-- The values of every element (i, j) of a tile of dst's shape. -/
def eachElem (d : Handle) (f : Nat → Nat → Val × Nat) : List Val × Nat :=
  let l := (List.range d.rows).flatMap fun i => (List.range d.cols).map fun j => f i j
  (l.map (·.1), l.foldl (fun m p => flagsOr m p.2) 0)

/-- Write a result tile of dst with its flags, and the generator of unit `u`. -/
def State.writeResult (s : State) (n r u : Nat) (d : Handle) (q : List Nat × Nat × Nat) : State :=
  (s.writeTile n r d ⟨rowsOf d.cols d.rows q.1, []⟩).onCore n r fun x => (x.setFlags q.2.1).setGen u q.2.2

/-- A bounded unary function of FP32 by its opcode (R142). -/
def unaryOf (op : Nat) (v : Val) : FnResult :=
  match op with
  | 0x08 => vexpOf v
  | 0x09 => vrcpOf v
  | 0x0A => vrsqrtOf v
  | _ => vtanhOf v

/-- The flags of a bounded function's result. -/
def fnFlags (q : FnResult) : Nat := flagsOr (flagIf q.ovf (flagsOr vecOvf cvtOvf)) (flagIf q.invalid vecNan)

/-- A row's state: m, l, α, σ (R119). -/
structure RowState where
  m : Val
  l : Val
  al : Val
  sg : Val
  deriving DecidableEq, Repr

/-- The row state in a row of FP32 words. -/
def rowState (ws : List Nat) : RowState := ⟨f32 (ws.getD 0 0), f32 (ws.getD 1 0), f32 (ws.getD 2 0), f32 (ws.getD 3 0)⟩

/-- A step of R119 that rounds to FP32: the rounded value and the flags it sets, for its operands. -/
def f32Step (v : Val) (ins : List Val) : Val × Nat :=
  (toF32 v, flagsOr (flagIf (f32Ovf v) vecOvf) (flagIf (madeNan v ins) vecNan))

/-- Minus infinity. -/
def minusInf : Val := .inf true

/-- The online normaliser for one row (R119): the new row state, p, and the flags. -/
def onlineRow (st : RowState) (row : List Val) : RowState × List Val × Nat :=
  let xs := row.map fun v => f32Step (st.sg.mul v) [st.sg, v]
  let x := xs.map (·.1)
  let fl := xs.foldl (fun a q => flagsOr a q.2) 0
  let mNew := x.foldl Val.max st.m
  let dm := f32Step (st.m.add mNew.neg) [st.m, mNew]
  let al := if mNew = minusInf then ⟨.fin false 1 0, false, false⟩ else vexpOf dm.1
  let fl := if mNew = minusInf then fl else flagsOr fl (flagsOr dm.2 (fnFlags al))
  let ps := x.map fun v =>
    if mNew = minusInf then (Val.fin false 0 0, 0)
    else
      let d := f32Step (v.add mNew.neg) [v, mNew]
      let e := vexpOf d.1
      (e.v, flagsOr d.2 (fnFlags e))
  let fl := ps.foldl (fun a q => flagsOr a q.2) fl
  let p := ps.map (·.1)
  let sum := treeSum (p.length + 1) p
  let l := (st.l.mul al.v).add sum.v
  let ovf := f32Ovf l || sum.ovf
  let inv := fmaInvalid st.l al.v sum.v || sum.inv
  (⟨mNew, toF32 l, al.v, st.sg⟩, p, flagsOr fl (flagsOr (flagIf ovf vecOvf) (flagIf inv vecNan)))

/-- The FP32 pattern of a value. -/
def f32Word (v : Val) : Nat := (convElem 0 none v).w

/-- VECTOR's effect (R117 to R119). -/
def State.vectorEffect (s : State) (n r : Nat) (t : Started) : Effect :=
  let x := s.core n r
  let i := t.ins
  let m := modOf i.ops
  let sr := bits m 2 2 == 1
  let base := i.op % 0x40
  let tl (k : Nat) : Option Handle := x.tile (t.hs.getD k none)
  let rd (s : State) (h : Option Handle) : List (List Val) × State :=
    match h with
    | some h => let q := s.readTile n r h; (q.1.values h, q.2)
    | none => ([], s)
  match tl 0 with
  | none => .ok s
  | some d =>
    let gen := x.gen 5
    let at_ (t : List (List Val)) (i j : Nat) : Val := (t.getD i []).getD j (.fin false 0 0)
    if i.op = 0x18 then
      let sg := (i.sc.getD 1 0#64).toNat % 2 ^ 32
      .ok (s.writeTile n r d ⟨List.replicate d.rows [0xFF800000, 0, 0x3F800000, sg, 0, 0, 0, 0], []⟩)
    else if base = 0x05 ∧ s3Of i.ops = 0xFF then
      let dv := rd s (some d)
      let av := rd dv.2 (tl 1)
      let bv := rd av.2 (tl 2)
      let e := eachElem d fun i j =>
        let v := ((at_ dv.1 i j).mul (at_ av.1 i 2)).add (at_ bv.1 i j)
        (v, flagIf (fmaInvalid (at_ dv.1 i j) (at_ av.1 i 2) (at_ bv.1 i j)) vecNan)
      .ok (bv.2.writeResult n r 5 d (roundAll vecOvf 0 d.format sr gen e.2 e.1))
    else if base ≤ 0x05 ∧ (i.op % 0x40 ≤ 0x05) then
      let av := rd s (tl 1)
      let bv := rd av.2 (tl 2)
      let cv := if base = 0x05 then rd bv.2 (tl 3) else ([], bv.2)
      let e := eachElem d fun i j =>
        let a := at_ av.1 i j
        let b := bcast (m % 4) bv.1 i j
        let c := at_ cv.1 i j
        let v := vecOp base a b c
        (v, flagIf (vecInvalid base a b c) vecNan)
      .ok (cv.2.writeResult n r 5 d (roundAll vecOvf (suffixOf i.op) d.format sr gen e.2 e.1))
    else if i.op = 0x10 then
      match tl 1, tl 2 with
      | some a, some b =>
        let st := s.readTile n r a
        let sv := rd st.2 (some b)
        let rows := (st.1.rows.zip sv.1).map fun p => onlineRow (rowState p.1) p.2
        let fl := rows.foldl (fun f q => flagsOr f q.2.2) 0
        let stRows := (st.1.rows.zip rows).map fun p =>
          [f32Word p.2.1.m, f32Word p.2.1.l, f32Word p.2.1.al] ++ p.1.drop 3
        let s := sv.2.writeTile n r a ⟨stRows, []⟩
        .ok (s.writeResult n r 5 d (roundAll vecOvf 0 d.format sr gen fl (rows.flatMap fun q => q.2.1)))
      | _, _ => .ok s
    else if 0x11 ≤ i.op ∧ i.op ≤ 0x15 then
      let av := rd s (tl 1)
      let bv := rd av.2 (tl 2)
      let e := eachElem d fun i j =>
        let q := vdivOf (at_ av.1 i j) (at_ bv.1 i 1)
        (q.v, fnFlags q)
      .ok (bv.2.writeResult n r 5 d (roundAll vecOvf 0 d.format sr gen e.2 e.1))
    else
      let av := rd s (tl 1)
      let e := eachElem d fun k j =>
        let q := unaryOf i.op (at_ av.1 k j)
        (q.v, fnFlags q)
      .ok (av.2.writeResult n r 5 d (roundAll vecOvf 0 d.format sr gen e.2 e.1))

end Sys2Proof.Machine
end

