-- ==== Sys2Proof/Machine/Reduce.lean ====
section
/-! DEFINITION. Machine/Reduce.lean: what REDUCE checks and does (R120, R121, R143). -/
namespace Sys2Proof.Machine

/-- REDUCE's checks (R120). -/
def reduceCheck (i : StIns) (d a b c : Option Handle) : Nat :=
  let fmt (h : Handle) : Nat := need (vecFormat h.format) fFormat
  match d, a with
  | some d, some a =>
    match modOf i.ops % 4 with
    | 0 => firstFault [fmt d, fmt a, need (d.rows == a.rows) fShape]
    | 1 => firstFault [fmt d, fmt a, need (d.cols == a.cols) fShape]
    | 2 =>
      match b with
      | none => fTileUnset
      | some b =>
        if s3Of i.ops = 0xFF then firstFault [fmt d, fmt a, fmt b, need (sameShape d a && sameShape d b) fShape]
        else
          match c with
          | none => fTileUnset
          | some c => firstFault [fmt d, fmt a, fmt b, fmt c, need (sameShape d a && sameShape d b && sameShape d c) fShape]
    | _ => firstFault [fmt d, fmt a]
  | _, _ => fTileUnset

/-- A reduction over a list (R120, R121, R143): 0 add, in the pairwise tree; 1 max; 2 min; 3 amax. Elements that are all zeros give +0. -/
def reduceVals (op : Nat) (vs : List Val) : TreeSum :=
  if vs.all Val.isZero then ⟨.fin false 0 0, false, false⟩
  else
    match op with
    | 0 => treeSum (vs.length + 1) vs
    | 1 => ⟨vs.foldl Val.max (vs.headD (.fin false 0 0)), false, false⟩
    | 2 => ⟨vs.foldl Val.min (vs.headD (.fin false 0 0)), false, false⟩
    | _ => ⟨vs.foldl (fun a v => a.max v.abs) ((vs.headD (.fin false 0 0)).abs), false, false⟩

/-- REDUCE's effect: every element of dst without a result is +0 (R120). Its conversion into dst sets cvt_ovf and cvt_nan as R140 says, though R152 does
not name REDUCE among the units that set them; a sum that overflows between two levels of the tree sets red_ovf alone (DEDUCED, log 87). -/
def State.reduceEffect (s : State) (n r : Nat) (t : Started) : Effect :=
  let x := s.core n r
  let i := t.ins
  let m := modOf i.ops
  let op := i.op % 0x40
  let rd (s : State) (k : Nat) : List (List Val) × State :=
    match x.tile (t.hs.getD k none) with
    | some h => let q := s.readTile n r h; (q.1.values h, q.2)
    | none => ([], s)
  match x.tile (t.hs.getD 0 none) with
  | none => .ok s
  | some d =>
    let a := rd s 1
    let b := if m % 4 = 2 then rd a.2 2 else ([], a.2)
    let c := if m % 4 = 2 ∧ s3Of i.ops ≠ 0xFF then rd b.2 3 else ([], b.2)
    let at_ (t : List (List Val)) (i j : Nat) : Val := (t.getD i []).getD j (.fin false 0 0)
    let inputs (i j : Nat) : Option (List Val) :=
      match m % 4 with
      | 0 => if j = 0 then some (a.1.getD i []) else none
      | 1 => if i = 0 then some (a.1.map fun row => row.getD j (.fin false 0 0)) else none
      | 2 => some ([at_ a.1 i j, at_ b.1 i j] ++ if c.1.isEmpty then [] else [at_ c.1 i j])
      | _ => if i = 0 ∧ j = 0 then some a.1.flatten else none
    let e := eachElem d fun i j =>
      match inputs i j with
      | none => (.fin false 0 0, 0)
      | some vs =>
        let q := reduceVals op vs
        (q.v, flagsOr (flagIf q.inv redNan) (flagIf q.ovf redOvf))
    .ok (c.2.writeResult n r 6 d (roundAll redOvf (suffixOf i.op) d.format (bits m 2 2 == 1) (x.gen 6) e.2 e.1))

end Sys2Proof.Machine
end

