-- ==== Sys2Proof/Machine/Watch.lean ====
section
/-! DEFINITION. Machine/Watch.lean: the tensor watches (R474 to R477): the statistics of the tiles they observe and their digest
records. -/
namespace Sys2Proof.Machine

/-- Binary64. -/
def b64 : Fp := ⟨11, 52, 1023, .ieee⟩

/-- The binary64 pattern of a value. -/
def b64Word (v : Val) : Word := BitVec.ofNat 64 (b64.conv none v).w

/-- A value rounded to binary64. -/
def toB64 (v : Val) : Val := b64.decode (b64.conv none v).w

/-- The binary64 pairwise tree (R475; DEDUCED, log 109); `fuel` bounds the depth. -/
def treeSum64 (fuel : Nat) (vs : List Val) : Val :=
  match fuel, vs with
  | _, [] => .fin false 0 0
  | _, [v] => v
  | 0, v :: _ => v
  | k + 1, vs =>
    let h := (vs.length + 1) / 2
    toB64 ((treeSum64 k (vs.take h)).add (treeSum64 k (vs.drop h)))

/-- Whether watch `w` selects the tile that an instruction of a resident has written (R474). -/
def State.watchSees (s : State) (w n : Nat) (x : Res) (i : StIns) : Bool :=
  s.fld F.MON_TW_CFG_enable w == 1 && s.fld F.MON_TW_CFG_composition w == x.comp && s.fld F.MON_TW_CFG_unit w == i.u &&
  (s.fld F.MON_TW_CFG_core_any w == 1 || s.fld F.MON_TW_CFG_core w == n) &&
  (s.fld F.MON_TW_CFG_q_any w == 1 ||
    match queueCode (dstOf i.ops) with
    | some (q, _) => q == s.fld F.MON_TW_CFG_queue w
    | none => false) &&
  (s.fld F.MON_TW_CFG_ctx_any w == 1 || s.twCtx.get w 0 == x.ctx) &&
  (i.u != 4 || (decide (0x20 ≤ i.op) && decide (i.op ≤ 0x24)))

/-- The histogram index of a finite nonzero value: clamp(floor(log2 |x|) − hbase, 0, 31) (R475). -/
def histIndex (hbase : Int) (m : Nat) (e : Int) : Nat := min 31 (e + (bitLen m : Int) - 1 - hbase).toNat

/-- Add the histogram counts of a tile's finite nonzero values. -/
def State.watchHist (s : State) (w : Nat) (vs : List Val) : State :=
  let hb := signed (s.fld F.MON_TW_CFG_hbase w) 12
  vs.foldl (fun s v =>
    match v with
    | .fin _ m e => if m = 0 then s else s.bump F.MON_TW_HIST_count (64 * w + histIndex hb m e) 1
    | _ => s) s

/-- Whether a value is finite. -/
def Val.finite (v : Val) : Bool :=
  match v with
  | .fin _ _ _ => true
  | _ => false

/-- Add one observed tile's values to the statistics of watch `w` (R475). -/
def State.watchStats (s : State) (w : Nat) (vs : List Val) : State :=
  let fs := vs.filter Val.finite
  let had := s.fld F.MON_TW_CNT_count w != 0
  let all := fun (F : Fld) => if had then [b64.decode (s.fld F w)] else []
  let lo := all F.MON_TW_MIN_value ++ fs
  let hi := all F.MON_TW_MAX_value ++ fs
  let s := s.when (!fs.isEmpty) fun s =>
    let s := s.setReg .MON_TW_MIN w (b64Word (lo.foldl Val.min (lo.headD .nan)))
    let s := s.setReg .MON_TW_MAX w (b64Word (hi.foldl Val.max (hi.headD .nan)))
    s.setReg .MON_TW_SUM w (b64Word ((b64.decode (s.fld F.MON_TW_SUM_value w)).add (treeSum64 (fs.length + 1) fs)))
  let s := s.bump F.MON_TW_CNT_count w fs.length
  let s := s.bump F.MON_TW_ZERO_count w (fs.countP Val.isZero)
  let s := s.bump F.MON_TW_SPEC_nan w (vs.countP Val.isNan)
  let s := s.bump F.MON_TW_SPEC_inf w (vs.countP fun v => !v.isNan && !v.finite)
  s.watchHist w fs

/-- One byte of the CRC-64 of ECMA-182 (R476). -/
def crcByte (crc b : Nat) : Nat :=
  (List.range 8).foldl (fun c _ => if c / 2 ^ 63 % 2 = 1 then (c * 2 % 2 ^ 64) ^^^ 0x42F0E1EBA9EA3693 else c * 2 % 2 ^ 64)
    (crc ^^^ (b * 2 ^ 56))

/-- The CRC-64 of a list of bytes. -/
def crc64 (data : List Byte) : Nat := data.foldl (fun c b => crcByte c b.toNat) 0

/-- Write a digest record of watch `w` to its ring, or drop it where the ring is full (R312, R476). -/
def State.watchDigest (s : State) (w : Nat) (data : List Byte) : State :=
  if s.fld F.MON_TW_DIG_enable w = 0 then s
  else
    let cap := 4096 * 2 ^ s.fld F.MON_TW_DIG_size w
    let wr := s.fld F.MON_TW_DIGWR_wr w
    if (wr + 2 ^ 64 - s.fld F.MON_TW_DIGRD_rd w) % 2 ^ 64 ≥ cap then s.bump F.MON_TW_DIGLOST_lost w 1
    else
      let a := s.fld F.MON_TW_DIG_base w * 4096 + wr % cap * 32
      (s.writePhys .fw 0 a data).s.setFld F.MON_TW_DIGWR_wr w (wr + 1)

/-- The bytes of a digest record (R476). -/
def digestBytes (dt crc pc item n u r w : Nat) : List Byte :=
  leBytes 8 dt ++ leBytes 8 crc ++ leBytes 8 pc ++ leBytes 4 item ++ leBytes 2 n ++ leBytes 1 (u + 128 * (r % 2)) ++ leBytes 1 w

/-- Watch `w` observes the tile in handle `h` that an instruction has written (R475, R476). -/
def State.observe (s : State) (w n r : Nat) (i : StIns) (h : Handle) : State :=
  let x := s.core n r
  let q := s.readTile n r h
  let s :=
    if h.format ≥ 0x20 then q.2
    else if s.fld F.MON_TW_CFG_freeze w = 1 then q.2.bump F.MON_TW_CFG_skipped w 1
    else q.2.watchStats w (q.1.values h).flatten
  if s.fld F.MON_TW_CFG_dig_en w = 1 then
    let rows := s.rowBytesOf n r h h.rows
    let sc := if isMx h.format then rows.2.spRead n r h.scaleOff h.scaleBytes else ([], rows.2)
    let crc := crc64 (rows.1.flatten ++ sc.1)
    sc.2.watchDigest w (digestBytes (s.dtOf (n / 8)) crc i.pc (x.item.getD (2 ^ 64 - 1)) n i.u r w)
  else s

/-- Every watch observes the destination tile that an instruction has written (R474). -/
def State.watchTile (s : State) (n r : Nat) (i : StIns) (h : Option Nat) : State :=
  let x := s.core n r
  match x.tile h with
  | none => s
  | some t =>
    if i.u = 1 ∨ i.u = 3 ∨ i.u = 4 ∨ i.u = 5 ∨ i.u = 6 ∨ i.u = 8 then
      (List.range 8).foldl (fun s w => if s.watchSees w n x i then s.observe w n r i t else s) s
    else s

/-- Clear the statistics and skipped of watch `w` together (R475). -/
def State.watchClear (s : State) (w : Nat) : State :=
  let s := (s.setReg .MON_TW_MIN w (RegName.resetWord .MON_TW_MIN w)).setReg .MON_TW_MAX w (RegName.resetWord .MON_TW_MAX w)
  let s := ((s.setReg .MON_TW_SUM w 0#64).setReg .MON_TW_CNT w 0#64).setReg .MON_TW_ZERO w 0#64
  let s := (s.setReg .MON_TW_SPEC w 0#64).setFld F.MON_TW_CFG_skipped w 0
  (List.range 32).foldl (fun s b => s.setReg .MON_TW_HIST (64 * w + b) 0#64) s

/-- TW_CLEAR: 1 written to the clear bit of MON_TW_CFG (R475). -/
def execTwClear (w : Nat) (s : State) : Out := checked (decide (w < 8)) (s.watchClear w)

/-- Whether watch `w` may be enabled with the written configuration `v`: a unit of the set, a composition ACTIVE, PARKED or
SLICED_OUT that is not confidential (R477). -/
def State.watchAllowed (s : State) (w : Nat) (v : Word) : Bool :=
  let c := F.MON_TW_CFG_composition.of v
  let u := F.MON_TW_CFG_unit.of v
  let st := s.fld F.CMP_STATUS_state c
  decide (w < 8) && (u == 1 || u == 3 || u == 4 || u == 5 || u == 6 || u == 8) && (st == 2 || st == 5 || st == 8) && !s.confidential c

/-- TW_ENABLE: a write of MON_TW_CFG that sets or clears enable, with its other fields (R477). While enable is 1 the selection
fields and hbase keep their values. -/
def execTwEnable (w : Nat) (v : Word) (s : State) : Out :=
  checked (decide (w < 8))
    (let old := (s.reg .MON_TW_CFG w).toNat
     let held := s.fld F.MON_TW_CFG_enable w == 1
     let keep := bits old 20 0
     let body := if held then bits old 59 21 else bits v.toNat 59 21
     let on := F.MON_TW_CFG_enable.of v == 1 && (held || s.watchAllowed w v)
     let nv := (if on then 2 ^ 63 else 0) + F.MON_TW_CFG_freeze.of v * 2 ^ 62 + F.MON_TW_CFG_dig_en.of v * 2 ^ 60 + body * 2 ^ 21 + keep
     let s := s.setReg .MON_TW_CFG w (BitVec.ofNat 64 nv)
     let s := s.when (on && !held) fun s =>
       { s with twCtx := s.twCtx.put w (bits (s.reg .SCH_CTX_SEL 0).toNat 15 0) }
     s.when (F.MON_TW_CFG_clear.of v == 1) fun s => s.watchClear w)

end Sys2Proof.Machine
end

