-- ==== Sys2Proof/Machine/Station.lean ====
section
/-! DEFINITION. Machine/Station.lean: what every station shares (R43 to R47, R71 to R73, R100, R102): the head of a station queue,
what holds it, the checks at its start, the start and the completion of the instructions of LOAD, STORE, XFORM, MATRIX, VECTOR and
REDUCE. -/
namespace Sys2Proof.Machine

/-! ## The queue of a station -/

/-- The oldest queued instruction of unit `u`. -/
def Res.headOf (x : Res) (u : Nat) : Option StIns := x.sq.find? fun i => i.u == u

/-- The oldest started instruction of unit `u`. -/
def Res.oldest (x : Res) (u : Nat) : Option Started := x.started.find? fun t => t.ins.u == u

/-- The resident without a queued instruction. -/
def Res.unqueue (x : Res) (i : StIns) : Res := { x with sq := x.sq.filter fun j => j.seq != i.seq }

/-- The resident without a started instruction. -/
def Res.unstart (x : Res) (t : Started) : Res := { x with started := x.started.filter fun v => v.ins.seq != t.ins.seq }

/-- The entries of a station queue: R85's, or R378's in a SHARED composition. -/
def queueDepth (shared : Bool) (u : Nat) : Nat :=
  let d := if u = 1 ∨ u = 2 ∨ u = 4 ∨ u = 5 then 16 else 8
  if shared then d / 2 else d

/-- The scalar values of the four slots, read at dispatch (R71). -/
def Res.scalarsOf (x : Res) (o : Ops) : List Word :=
  [dstOf o, s1Of o, s2Of o, s3Of o].map fun c =>
    match operand c with
    | .scalar g => x.file.rg g
    | _ => 0#64

/-- The value of operand slot `k` of an instruction: 0 dst, 1 to 3 the sources. -/
def StIns.val (i : StIns) (k : Nat) : Nat := (i.sc.getD k 0#64).toNat

/-- Whether the operand slots name an unset handle of no queue (R80). -/
def Res.unsetFree (x : Res) (o : Ops) : Bool :=
  [dstOf o, s1Of o, s2Of o, s3Of o].any fun c =>
    match operand c with
    | .handle t => (x.handles.find t).isNone && (x.queueOf t).isNone
    | _ => false

/-- Whether the operand slots name an unset stream (R80). -/
def Res.unsetStream (x : Res) (o : Ops) : Bool :=
  [dstOf o, s1Of o, s2Of o, s3Of o].any fun c =>
    match operand c with
    | .stream k => (x.streams.find k).isNone
    | _ => false

/-- The fault that the sequencer raises on a station instruction, 0 for none (R80, R95). Where several apply, the order is the one below (DESIGN
CHOICE, log 126). -/
def Res.stationFault (x : Res) (shared : Bool) (u op : Nat) (o : Ops) : Nat :=
  match opInfo u op o with
  | none => fIllegalIns
  | some i =>
    firstFault [need i.modOk fIllegalIns, need (i.slotsOk shared o) fIllegalOp, need (!x.unsetFree o) fTileUnset,
                need (!x.unsetStream o) fStreamUnset]

/-- Raise a fault of a queued instruction: it leaves its queue and changes nothing else. -/
def State.queuedFault (s : State) (n r : Nat) (i : StIns) (f : ProgFault) : State :=
  (s.onCore n r fun x => x.unqueue i).progFault n r f

/-! ## What holds an instruction back (R72, R73, R102) -/

/-- Whether an earlier SYNC operation of the kind `f` has not completed. -/
def Res.behind (x : Res) (i : StIns) (f : Nat → Bool) : Bool := x.sq.any fun j => j.u == 9 && decide (j.seq < i.seq) && f j.op

/-- Whether a gather reads a stream. -/
def StIns.streamGather (i : StIns) : Bool := i.u == 3 && i.op == 0x20 && (match operand (s1Of i.ops) with
  | .stream _ => true
  | _ => false)

/-- Whether an earlier fence or a wait holds the instruction (R72, R73): LOAD and XFORM behind `fence.mem`; LOAD, gathers and STORE
behind `flag.wait`, `bar.sync` and `bar.wait`. A replay of R69, numbered from 2^64 on, was dispatched before any saved one. -/
def Res.gated (x : Res) (i : StIns) : Bool :=
  decide (i.seq < 2 ^ 64) &&
    (((i.u == 1 || i.u == 3) && x.behind i fun op => op == 0x10) ||
     ((i.u == 1 || i.u == 2 || i.streamGather) && x.behind i fun op => op == 0x0A || op == 0x00 || op == 0x02))

/-- Whether every earlier STORE of the resident has completed. -/
def Res.storesDone (x : Res) (i : StIns) : Bool :=
  !(x.sq.any fun j => j.u == 2 && decide (j.seq < i.seq)) && !(x.started.any fun t => t.ins.u == 2 && decide (t.ins.seq < i.seq))

/-- The accumulators that an operand code names, as codes 0 to 3. -/
def accCodes (c : Nat) : List Nat :=
  match operand c with
  | .acc a false => [a]
  | .acc a true => [a, a + 1]
  | _ => []

/-- Whether two instructions of one station touch a common accumulator, or the later reads a free handle the earlier writes. -/
def StIns.hazard (i j : StIns) : Bool :=
  ((i.srcs ++ [dstOf i.ops]).flatMap accCodes).any (fun a => ((j.srcs ++ [dstOf j.ops]).flatMap accCodes).contains a) ||
  (match operand (dstOf j.ops) with
   | .handle t => (i.srcs ++ [dstOf i.ops]).any fun c => c == t
   | _ => false) ||
  (j.u == 5 && j.op == 0x10 && i.srcs.any fun c => c == s1Of j.ops && c < 0x40)

/-- Whether an earlier started instruction of the same station must complete first (R102, R115). -/
def Res.hazards (x : Res) (i : StIns) : Bool := x.started.any fun t => t.ins.u == i.u && i.hazard t.ins

/-! ## The checks of a start -/

/-- QUEUE_ROLE or HANDLE_IN_QUEUE, 0 for neither (R45, R80). -/
def Res.roleFault (x : Res) (i : StIns) : Nat :=
  let role (c : Nat) (dst : Bool) : Nat :=
    match operand c with
    | .queue q _ =>
      match x.tq q with
      | none => fQueueRole
      | some t => need ((if dst then t.producer else t.consumer) == i.u) fQueueRole
    | .handle t => need (x.queueOf t).isNone fHandleInQueue
    | _ => 0
  firstFault (role (dstOf i.ops) true :: i.srcs.map fun c => role c false)

/-- Whether a queue operand's handle is unset (R80). -/
def Res.handleUnset (x : Res) (hs : List (Option Nat)) : Bool :=
  hs.any fun h => match h with
    | some t => (x.handles.find t).isNone
    | none => false

/-- The stream that an instruction takes a tile of: LOAD's and a gather's source, STORE's destination. -/
def Res.tileStream (x : Res) (i : StIns) : Option (Nat × Stream) :=
  if i.u = 1 then x.streamOf (s1Of i.ops) else if i.u = 2 then x.streamOf (dstOf i.ops)
  else if i.streamGather then x.streamOf (s1Of i.ops) else none

/-- The stream checks made before any token is taken (R52, R105). -/
def streamFault (i : StIns) (k : Option (Nat × Stream)) : Nat :=
  if i.u = 1 then loadStreamCheck i k else if i.u = 2 then storeStreamCheck k
  else if i.streamGather then
    match k with
    | none => fStreamUnset
    | some (_, st) => firstFault [need (!st.write) fStreamDirection, need (decide (st.p < st.total)) fStreamExhausted]
  else 0

/-- The station's own checks of formats and shapes (R100) on the handles it works on. -/
def State.unitFault (s : State) (n r : Nat) (i : StIns) (hs : List (Option Nat)) : Nat :=
  let x := s.core n r
  let t (k : Nat) : Option Handle := x.tile (hs.getD k none)
  match i.u with
  | 1 => streamTileCheck i (x.streamOf (s1Of i.ops)) (t 0)
  | 2 => streamTileCheck i (x.streamOf (dstOf i.ops)) (t 1)
  | 3 => xformCheck x i (t 0) (t 1) (t 2)
  | 4 => s.matrixCheck n r i (t 0) (t 1) (t 2) (t 3)
  | 5 => vectorCheck i (t 0) (t 1) (t 2) (t 3)
  | 6 => reduceCheck i (t 0) (t 1) (t 2) (t 3)
  | _ => 0

/-! ## Start (R43, R44, R52 to R54, R102) -/

/-- The handles that an instruction works on, its destination a handle read ahead where there is one. -/
def Res.handlesFor (x : Res) (i : StIns) (ah : Option Ahead) : List (Option Nat) :=
  (match ah with
   | some a => some a.h
   | none => x.handleOf (dstOf i.ops) true) :: i.srcs.map fun c => x.handleOf c false

/-- Move an instruction to the started ones: its tokens are taken, its stream tile is taken. -/
def Res.begin (x : Res) (i : StIns) (hs : List (Option Nat)) (ah : Option Ahead) (at_ : Nat) : Res :=
  let ks := x.tileStream i
  let k := match ks with
    | some (_, st) => st.p
    | none => 0
  let x := x.takeTokens i ah.isNone
  let x := match ks with
    | some (j, st) => { x with streams := x.streams.put j { st with p := st.p + 1 } }
    | none => x
  let x := match ah with
    | some a => { x with ahead := x.ahead.filter fun b => !(b.st == a.st && b.k == a.k) }
    | none => x
  let t : Started :=
    { ins := i, hs := hs, k := k, ahead := ah.isSome, got := if (ah.map (·.arrived)).getD false then 1 else 0, fail := none,
      done := false, at_ := at_ }
  { x.unqueue i with started := x.started ++ [t], actAt := at_ }

/-- Whether a station holds all the started instructions it can: LOAD and STORE one for each entry of their queues (R107). -/
def Res.startedFull (x : Res) (shared : Bool) (u : Nat) : Bool :=
  (u == 1 || u == 2) && decide (queueDepth shared u ≤ (x.started.filter fun t => t.ins.u == u).length)

/-- Start an instruction of units 1 to 6 that stands at the head of its station. -/
def State.startWork (s : State) (n r : Nat) (i : StIns) : State :=
  let x := s.core n r
  let ks := x.tileStream i
  let ah := if i.u = 1 then (match ks with
    | some (j, st) => x.aheadFor j st.p
    | none => none) else none
  let role := x.roleFault i
  if role ≠ 0 then s.queuedFault n r i (i.fault role 0)
  else if x.gated i || x.hazards i || x.startedFull (s.shared x.comp) i.u then s
  else if !((ah.isSome || x.dstReady i) && i.srcs.all fun c => x.srcReady i c) then s
  else
    let k := match ks with
      | some (_, st) => st.p
      | none => 0
    let sf := streamFault i ks
    if sf ≠ 0 then s.queuedFault n r i (i.fault sf k)
    else
      match ks.bind fun p => (p.2.held.find p.2.p).map fun m => (⟨m.cause, p.2.address p.2.p⟩ : MemFail) with
      | some m => s.queuedFault n r i (i.memFault k m)
      | none =>
        let hs := x.handlesFor i ah
        if x.handleUnset hs then s.queuedFault n r i (i.fault fTileUnset k)
        else
          let uf := s.unitFault n r i hs
          if uf ≠ 0 then s.queuedFault n r i (i.fault uf k)
          else s.setCore n r (x.begin i hs ah (s.dtOf (n / 8)))

/-- The `ld.tile` that replays a record of R68: it names the recorded queue, stream and nrows, and is numbered after every
dispatched instruction (R69). -/
def FillRec.ins (f : FillRec) (pc : Nat) : StIns :=
  { u := 1, op := 0, pc := pc, seq := 2 ^ 64 + f.h, sc := [0#64, 0#64, 0#64, 0#64],
    ops := BitVec.ofNat 48 ((0x40 + f.tq) * 2 ^ 40 + (0x70 + f.st) * 2 ^ 32 + 0xFFFF * 2 ^ 16 + f.nrows) }

/-- Start LOAD: the replays of a resumed core come before its queue (R69). -/
def State.startLoad (s : State) (n r : Nat) : State :=
  let x := s.core n r
  match x.replay with
  | f :: rest =>
    let i := f.ins x.file.pc
    let t := s.startWork n r i
    if (t.core n r).started.length = x.started.length ∧ (t.core n r).fault = x.fault then s
    else t.onCore n r fun y => { y with replay := rest }
  | [] =>
    match x.headOf 1 with
    | some i => s.startWork n r i
    | none => s

/-! ## Completion (R48, R49, R102) -/

/-- The effect of a started instruction of units 1 to 6. -/
def State.workEffect (s : State) (n r : Nat) (t : Started) : Effect :=
  match t.ins.u with
  | 1 => s.loadEffect n r t (t.got == 1)
  | 2 => s.storeEffect n r t
  | 3 => s.xformEffect n r t
  | 4 => s.matrixEffect n r t
  | 5 => s.vectorEffect n r t
  | _ => s.reduceEffect n r t

/-- The record of how a LOAD filled a handle of a queue (R68). -/
def Res.noteFill (x : Res) (t : Started) : Res :=
  match t.ins.u, queueCode (dstOf t.ins.ops), t.hs.getD 0 none, x.streamOf (s1Of t.ins.ops) with
  | 1, some (q, _), some h, some (k, _) =>
    { x with fills := x.fills ++ [{ tq := q, h := h, st := k, nrows := bits (modOf t.ins.ops) 6 0, stale := false }] }
  | _, _, _, _ => x

/-- Forget how the handles that an instruction releases were filled. -/
def Res.dropFills (x : Res) (t : Started) : Res :=
  { x with fills := x.fills.filter fun f =>
      !((t.ins.srcs.zip (t.hs.drop 1)).any fun p => queueCode p.1 == some (f.tq, false) && p.2 == some f.h) }

/-- The token changes of a completed instruction (R43, R44), its place among the started ones given up. -/
def Res.finish (x : Res) (t : Started) : Res :=
  let x := (x.noteFill t).dropFills t
  ((x.giveDst t.ins (t.hs.getD 0 none) t.ahead).giveSrcs t.ins).unstart t

/-- What follows every completion: its DT is noted, a `seq.wait` may end, a stopped core may settle its fault (R47, R74, R84, R409). -/
def State.afterDone (s : State) (n r : Nat) : State :=
  ((s.onCore n r fun x => { x with doneAt := s.aon.dt, actAt := s.aon.dt }).wakeStations n r).finishFault n r

/-- What a started instruction comes to: the failure that one of its requests has met (R66, R108), else its effect. -/
def State.workOutcome (s : State) (n r : Nat) (t : Started) : Effect :=
  match t.fail with
  | some f => .bad s f
  | none => s.workEffect n r t

/-- Complete the oldest started instruction of unit `u`, one of 1 to 6, where its work can be done. -/
def State.completeWork (s : State) (n r u : Nat) : State :=
  match (s.core n r).oldest u with
  | none => s
  | some t =>
    let e := s.workOutcome n r t
    match e.fail with
    | some f => ((e.s.onCore n r fun x => x.unstart t).progFault n r f).afterDone n r
    | none =>
      if e.ready then ((e.s.onCore n r fun x => x.finish t).watchTile n r t.ins (t.hs.getD 0 none)).afterDone n r else e.s

end Sys2Proof.Machine
end

