-- ==== Sys2Proof/Machine/SendRecv.lean ====
section
/-! DEFINITION. Machine/SendRecv.lean: SEND and RECV (R50, R122 to R126, R130): destination words, reservations, grants, the tile's
bytes, reduce-on-route, and what is lost with a partner. -/
namespace Sys2Proof.Machine

/-! ## The destination word (R123) -/

/-- The rank of a destination word. -/
def destRank (w : Nat) : Nat := bits w 15 0
/-- The queue of a destination word. -/
def destQueue (w : Nat) : Nat := bits w 19 16
/-- Whether a destination word names the partner of a port. -/
def destRemote (w : Nat) : Bool := bits w 20 20 == 1
/-- The port of a destination word. -/
def destPort (w : Nat) : Nat := bits w 23 21

/-- Whether a destination word may be used by an instruction of a resident (R123, R318); `radd` allows no port (R130). -/
def State.destOk (s : State) (x : Res) (l : Launch) (w : Nat) (radd : Bool) : Bool :=
  bits w 63 24 == 0 &&
    if destRemote w then !radd && (s.portShares x.comp).any fun p => p.1 == destPort w && p.2.2.isSome
    else decide (destRank w < l.cores.length)

/-- The core that a destination word of this device names: the one of its rank in the launch (R63, R123). -/
def Launch.destCore (l : Launch) (w : Nat) : Option Nat := l.cores[destRank w]?

/-- Whether queue `q` of a resident is configured with producer RECV (R123). -/
def Res.recvQueue (x : Res) (q : Nat) : Bool := (x.tq q).any fun t => t.producer == 8

/-! ## Tile bytes in order: the rows without padding, then the block scales -/

/-- The bytes that a transfer of a tile carries. -/
def Handle.linear (h : Handle) : Nat := h.rows * h.rowBytes + h.scaleBytes

/-- The bytes of a tile in transfer order. -/
def State.linearBytes (s : State) (n r : Nat) (h : Handle) : List Byte × State :=
  let q := s.rowBytesOf n r h h.rows
  let sc := if isMx h.format then q.2.spRead n r h.scaleOff h.scaleBytes else ([], q.2)
  (q.1.flatten ++ sc.1, sc.2)

/-- Write bytes of a tile from a place in transfer order; `fuel` counts rows. -/
def State.putLinear (s : State) (fuel n r : Nat) (h : Handle) (off : Nat) (data : List Byte) : State :=
  match fuel with
  | 0 => s
  | k + 1 =>
    if data.isEmpty || off ≥ h.linear then s
    else if off < h.rows * h.rowBytes then
      let m := min data.length (h.rowBytes - off % h.rowBytes)
      (s.spWrite n r (h.base + off / h.rowBytes * h.pitch + off % h.rowBytes) (data.take m)).putLinear k n r h (off + m) (data.drop m)
    else
      let o := off - h.rows * h.rowBytes
      s.spWrite n r (h.scaleOff + o) (data.take (h.scaleBytes - o))

/-! ## Asking (R50, R124) -/

/-- The tag by which a sender's message names its instruction: resident and dispatch number. -/
def sendTag (n r seq : Nat) : Nat := (2 * n + r % 2) * 2 ^ 16 + seq % 2 ^ 16

/-- The aux field of a RESERVE: rank, queue, format, rows and row_bytes (R285); their places are this model's (DESIGN CHOICE, log 22). -/
def reserveAux (w : Nat) (h : Handle) : Nat :=
  destRank w + destQueue w * 2 ^ 16 + h.format * 2 ^ 20 + (h.rows - 1) * 2 ^ 28 + (h.rowBytes / 32 - 1) * 2 ^ 34

/-- Send the RESERVE of a remote `snd.tile`. -/
def State.sendReserve (s : State) (n r : Nat) (i : StIns) (h : Handle) : State :=
  let w := i.val 0
  s.sendMsg (destPort w) { PortMsg.of 0x10 with tag := sendTag n r i.seq, aux := reserveAux w h } []

/-- Whether an instruction's composition and launch let SEND and RECV run (R63): in a FIXED launch only. -/
def State.fixedLaunch (s : State) (n r : Nat) : Bool :=
  match s.launchOf n r with
  | some l => l.fixed
  | none => false

/-- START at SEND (R50, R123 to R125, R130): `snd.tile` asks for its reservation and waits; `snd.radd.f32`, whose destination queue must be one of
RECV, starts with its tokens. -/
def State.startSend (s : State) (n r : Nat) (i : StIns) : State :=
  let x := s.core n r
  let role := x.roleFault i
  let bad (c : Nat) : State := s.queuedFault n r i (i.fault c 0)
  if !s.fixedLaunch n r then bad fElastic
  else if role ≠ 0 then bad role
  else
    match s.launchOf n r with
    | none => s
    | some l =>
      if !s.destOk x l (i.val 0) (i.op == 8) then bad fSendDest
      else if !x.srcReady i (s1Of i.ops) then s
      else
        match x.tile (x.handleOf (s1Of i.ops) false) with
        | none => bad fTileUnset
        | some h =>
          if i.op = 8 then
            if h.format ≠ 0 then bad fFormat
            else if !((l.destCore (i.val 0)).any fun m => (s.core m r).recvQueue (destQueue (i.val 0))) then bad fSendDest
            else if (x.started.filter fun t => t.ins.u == 7).length ≥ 8 then s
            else s.setCore n r (x.begin i (x.handlesFor i none) none (s.dtOf (n / 8)))
          else if x.asked = some i.seq ∨ (x.started.filter fun t => t.ins.u == 7).length ≥ 8 then s
          else
            let s := s.setCore n r { x with asked := some i.seq, askedTwice := false, answer := none, askedAt := s.dtOf (n / 8) }
            if destRemote (i.val 0) then s.sendReserve n r i h else s

/-! ## Completing SEND (R125) -/

/-- Change the source tokens of the completed SENDs, in dispatch order; `fuel` counts started ones. -/
def Res.settleSends (x : Res) (fuel : Nat) : Res :=
  match fuel with
  | 0 => x
  | k + 1 =>
    match x.oldest 7 with
    | some t => if t.done then (x.finish t).settleSends k else x
    | none => x

/-- A started SEND has been accepted whole. -/
def State.sendDone (s : State) (n r seq : Nat) : State :=
  let x := s.core n r
  let mark (t : Started) : Started := if t.ins.u = 7 ∧ t.ins.seq = seq then { t with done := true } else t
  let x := { x with started := x.started.map mark }
  (s.setCore n r (x.settleSends 8)).afterDone n r

/-- The completion of a SEND that no receiver of this device reports, one through a port: the oldest not done. -/
def State.completeSend (s : State) (n r : Nat) : State :=
  let x := s.core n r
  match x.started.find? fun t => t.ins.u == 7 && !t.done && t.ins.op == 0 && destRemote (t.ins.val 0) with
  | some t => s.sendDone n r t.ins.seq
  | none => s

/-! ## Granting (R124) -/

/-- Whether a request's shape and format are those of a handle. -/
def fitsHandle (q : Reservation) (h : Handle) : Bool := q.rows == h.rows && q.rowBytes == h.rowBytes && q.format == h.format

/-- The `snd.tile` whose reservation is out. -/
def Res.asking (x : Res) : Option StIns := x.sq.find? fun i => i.u == 7 && x.asked == some i.seq

/-- Answer a sender. Behind a port: GRANT with a status, or a refusal with SEND_SHAPE in aux (R285, DESIGN CHOICE, log 22). Of this device: the answer
stands on its way to the sender, a refusal for shape as 16 (R50, R124). -/
def State.answerGrant (s : State) (q : Reservation) (status aux : Nat) : State :=
  match q.port with
  | some k => s.sendMsg k { PortMsg.of 0x11 with status := status, tag := q.src, aux := aux } []
  | none =>
    s.onCore q.src q.srcR fun x => if x.asked = some q.ins then { x with answer := some (if aux = 1 then 16 else status) } else x

/-- Grant the oldest pending request of the queue that the head `rcv.tile` names, where its head is EMPTY; refuse requests whose
shape differs; `fuel` counts requests (R80, R124). -/
def State.tryGrant (s : State) (fuel n r : Nat) : State :=
  match fuel with
  | 0 => s
  | k + 1 =>
    let x := s.core n r
    match x.headOf 8 with
    | none => s
    | some i =>
      match queueCode (dstOf i.ops) with
      | none => s
      | some (q, _) =>
        match x.tq q, x.reqs.find? fun g => g.tq == q with
        | some t, some g =>
          if i.op ≠ 0 || x.status != .running || t.tok t.head != .empty then s
          else
            match x.handles.find t.head with
            | none => s.queuedFault n r i (i.fault fTileUnset 0)
            | some h =>
              let x := { x with reqs := x.reqs.erase g }
              if !fitsHandle g h then ((s.setCore n r x).answerGrant g 0 1).tryGrant k n r
              else
                let dt := s.dtOf (n / 8)
                let x := x.begin i (x.handlesFor i none) none dt
                (s.setCore n r { x with granted := x.granted ++ [{ req := g, h := t.head, got := 0, at_ := dt }] }).answerGrant g 0 0
        | _, _ => s

/-- The reservation request of a sender of this device as its state has it: the queue of its destination word, the format and shape of its source tile
(R50, R123, R124); none where the sender has no such request out to resident `r` of core `n`, or has one answered or pending there. -/
def State.localRequest (s : State) (n r : Nat) (rq : Reservation) : Option Reservation :=
  let y := s.core rq.src rq.srcR
  match y.asking, s.launchOf rq.src rq.srcR with
  | some i, some l =>
    let w := i.val 0
    let mine (g : Reservation) : Bool := g.port == none && g.src == rq.src && g.srcR == rq.srcR && g.ins == rq.ins
    let known := (s.core n r).reqs.any mine || (s.core n r).granted.any fun g => mine g.req
    if i.seq = rq.ins ∧ !destRemote w ∧ l.destCore w = some n ∧ y.lane % 2 = r % 2 ∧ y.answer.isNone ∧ !known then
      (y.tile (y.handleOf (s1Of i.ops) false)).map fun h =>
        { rq with comp := y.comp, tq := destQueue w, rows := h.rows, rowBytes := h.rowBytes, format := h.format }
    else none
  | _, _ => none

/-- The request that a RESERVE brings: a partner's as it stands, one of this device as its sender has it. -/
def State.requestOf (s : State) (n r : Nat) (rq : Reservation) : Option Reservation :=
  if rq.port.isSome then some rq else s.localRequest n r rq

/-- A request reaches a RECV station: judged by epoch, refused where its queue is not configured with producer RECV, held pending, granted where it
can be (R50, R123, R124, R283, R324, R325). -/
def State.reserve (s : State) (n r : Nat) (rq : Reservation) : State :=
    (let x := s.core n r
     if !s.accepts (s.coreOwner.find n) rq.comp rq.epoch then
       match rq.port with
       | none => s.answerGrant rq 9 0
       | some k =>
         if s.rsvNacked.contains (k, rq.src) then
           { s with rsvNacked := s.rsvNacked.erase (k, rq.src) }.answerGrant rq 9 0
         else { s with rsvNacked := (k, rq.src) :: s.rsvNacked }
     else
       match x.tq rq.tq with
       | some t =>
         if t.producer ≠ 8 then s.answerGrant rq 1 0
         else if x.reqs.length ≥ 64 then s
         else (s.setCore n r { x with reqs := x.reqs ++ [rq] }).tryGrant 65 n r
       | none => s.answerGrant rq 1 0)

/-- Whether a request comes by a port that is going away (R289). -/
def State.requestAway (s : State) (rq : Reservation) : Bool := rq.port.any fun k => (s.ports.find k).any fun p => p.away != 0

/-- RESERVE: a reservation request reaches the RECV station of a resident; a partner's on a port that is going away is answered ABSENT (R50, R123,
R124, R289). -/
def execReserve (n r : Nat) (rq : Reservation) (s : State) : Out :=
  checked (coreOk n r)
    (match s.requestOf n r rq with
     | some q => if s.requestAway q then s.answerGrant q 6 0 else s.reserve n r q
     | none => s)

/-- The data of a tile leaves for the partner in TILE messages of at most 256 bytes, the last with zeros to the end of its line (R282, R285); `fuel`
counts messages. -/
def State.sendTiles (s : State) (fuel k tag off : Nat) (data : List Byte) : State :=
  match fuel with
  | 0 => s
  | f + 1 =>
    if data.isEmpty then s
    else
      let d := data.take 256
      let d := d ++ zeros ((64 - d.length % 64) % 64)
      (s.sendMsg k { PortMsg.of 0x12 with ndata := 1, tag := tag, offset := off, length := d.length } d).sendTiles f k tag (off + 256) (data.drop 256)

/-- A grant starts the `snd.tile` that waits for it; the bytes of one through a port leave (R124). -/
def State.startGranted (s : State) (n r : Nat) (i : StIns) : State :=
  let x := s.core n r
  match x.tile (x.handleOf (s1Of i.ops) false) with
  | none => s
  | some h =>
    let s := s.setCore n r { x.begin i (x.handlesFor i none) none (s.dtOf (n / 8)) with asked := none, answer := none }
    if destRemote (i.val 0) then
      let q := s.linearBytes n r h
      q.2.sendTiles 1040 (destPort (i.val 0)) (sendTag n r i.seq) 0 q.1
    else s

/-- A refused reservation: its `snd.tile` raises the fault. -/
def State.refusedSend (s : State) (n r : Nat) (i : StIns) (code : Nat) : State :=
  (s.onCore n r fun x => { x with asked := none, answer := none }).queuedFault n r i (i.fault code 0)

/-- GRANT: the answer to a reservation reaches its sender (R50, R124, R283, R325, R338): a grant starts the `snd.tile`; a refusal
raises SEND_SHAPE; a destination queue or rank that is not there raises SEND_DEST; an EPOCH_NACK is asked once more, and a second
raises SEND_DEST. For a destination of this device the answer is the one its RECV station has given; `st` and `ok` are a partner's. -/
def execGrant (n r : Nat) (st : MemStatus) (ok : Bool) (s : State) : Out :=
  checked (coreOk n r)
    (let x := s.core n r
     match x.asking with
     | none => s
     | some i =>
       if x.status != .running then s
       else if destRemote (i.val 0) then
         (match st with
          | .ok => if ok then s.startGranted n r i else s.refusedSend n r i fSendShape
          | _ => s.refusedSend n r i fSendDest)
       else
         match x.answer with
         | none => s
         | some 0 => s.startGranted n r i
         | some 9 => if x.askedTwice then s.refusedSend n r i fSendDest else s.setCore n r { x with askedTwice := true, answer := none }
         | some 16 => s.refusedSend n r i fSendShape
         | some _ => s.refusedSend n r i fSendDest)

/-! ## The bytes of a tile (R124 to R126) -/

/-- Complete every RECV whose work is done, in dispatch order; `fuel` counts started ones. -/
def State.settleRecvs (s : State) (fuel n r : Nat) : State :=
  match fuel with
  | 0 => s
  | k + 1 =>
    match (s.core n r).oldest 8 with
    | some t =>
      if t.done then
        (((s.onCore n r fun x => x.finish t).watchTile n r t.ins (t.hs.getD 0 none)).afterDone n r).settleRecvs k n r
      else s
    | none => s

/-- Mark the started RECV on handle `h` done. -/
def Res.recvDone (x : Res) (h : Nat) : Res :=
  { x with started := x.started.map fun t => if t.ins.u = 8 ∧ t.hs.getD 0 none = some h then { t with done := true } else t }

/-- A granted reservation is abandoned: the handle returns to EMPTY, the `rcv.tile` waits again at the front of its queue, the reservation is counted
(R126). -/
def State.abandonGrant (s : State) (n r : Nat) (g : Granted) : State :=
  let x := s.core n r
  match x.started.find? fun t => t.ins.u == 8 && t.hs.getD 0 none == some g.h with
  | none => s
  | some t =>
    let x := (x.setTok g.req.tq g.h .empty).unstart t
    (s.setCore n r { x with granted := x.granted.erase g, abandoned := x.abandoned + 1, sq := t.ins :: x.sq }).tryGrant 65 n r

/-- The tag that names the transfer of a request: a partner's, or that of the sending instruction of this device. -/
def reqTag (q : Reservation) : Nat := if q.port.isSome then q.src else sendTag q.src q.srcR q.ins

/-- The started `snd.tile` of this device whose bytes a reservation takes. -/
def State.senderOf (s : State) (q : Reservation) : Option Started :=
  if q.port.isSome then none else (s.core q.src q.srcR).started.find? fun t => t.ins.u == 7 && t.ins.seq == q.ins && !t.done

/-- The bytes of a transfer from offset `off`: what the partner sent, or as many of the source tile of the sender on this device (R122), whose bytes
arrive in order. None where it has not started. -/
def State.tileBytes (s : State) (g : Granted) (off : Nat) (data : List Byte) : Option (List Byte) :=
  if g.req.port.isSome then some data
  else
    match (s.senderOf g.req).bind fun t => (s.core g.req.src g.req.srcR).tile (t.hs.getD 1 none) with
    | none => none
    | some h => if off = g.got then some (((s.linearBytes g.req.src g.req.srcR h).1.drop off).take data.length) else none

/-- A started SEND ends with SEND_FAILED; its source tokens change (R126, R262). -/
def State.sendLost (s : State) (n r : Nat) (t : Started) : State := (s.sendDone n r t.ins.seq).progFault n r (t.ins.fault fSendFailed 0)

/-- A poisoned segment: the `snd.tile` of a sender of this device ends with SEND_FAILED, and the receiving handle returns to EMPTY (R262). -/
def State.poisonedTile (s : State) (n r : Nat) (g : Granted) : State :=
  let t := s.abandonGrant n r g
  match s.senderOf g.req with
  | some v => t.sendLost g.req.src g.req.srcR v
  | none => t

/-- The bytes of a transfer reach their handle; the last one makes it FULL, ends the `rcv.tile` and, for a sender of this device, the `snd.tile`. -/
def State.tileArrives (s : State) (n r : Nat) (g : Granted) (h : Handle) (off : Nat) (data : List Byte) : State :=
  let data := data.take (h.linear - off)
  let s := s.putLinear (h.rows + 2) n r h off data
  let got := g.got + data.length
  if got < h.linear then
    s.onCore n r fun x => { x with granted := x.granted.map fun v => if v = g then { v with got := got } else v }
  else
    let s := s.onCore n r fun x => { x with granted := x.granted.erase g }.recvDone g.h
    let s := (s.settleRecvs 9 n r).tryGrant 65 n r
    if g.req.port.isNone then s.sendDone g.req.src g.req.srcR g.req.ins else s

/-- TILE: bytes of a reserved tile's transfer arrive at their receiver (R124 to R126, R262); bytes of an abandoned reservation are dropped
and counted. -/
def execTile (n r tq : Nat) (m : TileSeg) (data : List Byte) (s : State) : Out :=
  checked (coreOk n r)
    (let x := s.core n r
     match x.granted.find? fun g => g.req.tq == tq && reqTag g.req == m.tag with
     | none => s.setCore n r { x with droppedBytes := x.droppedBytes + data.length }
     | some g =>
       if m.poison then s.poisonedTile n r g
       else
         match x.handles.find g.h, s.tileBytes g m.off data with
         | some h, some d => s.tileArrives n r g h m.off d
         | _, _ => s)

/-- Whether the partner of port `k` is lost to a transfer that began at a DT: the port is not UP, or has been down since (R126). -/
def State.partnerLost (s : State) (k since : Nat) : Bool := !s.portUp k || (s.ports.find k).any fun p => decide (since < p.downAt)

/-- SEND_FAILED: 50 µs after it started, a `snd.tile` whose partner is lost completes with SEND_FAILED and its source tokens change; one still waiting for
its grant 50 µs after it asked completes with SEND_FAILED and changes none (R126). -/
def execSendFailed (n r : Nat) (s : State) : Out :=
  checked (coreOk n r)
    (let x := s.core n r
     let late (k since : Nat) : Bool := decide (since + us 50 ≤ s.dtOf (n / 8)) && s.partnerLost k since
     match x.started.find? fun t => t.ins.u == 7 && t.ins.op == 0 && !t.done && destRemote (t.ins.val 0) && late (destPort (t.ins.val 0)) t.at_ with
     | some t => s.sendLost n r t
     | none =>
       match x.asking with
       | some i =>
         if destRemote (i.val 0) && late (destPort (i.val 0)) x.askedAt then s.refusedSend n r i fSendFailed else s
       | none => s)

/-- RECV_RESERVATION_TIMEOUT: no last byte within 50 µs of a remote sender's grant: the handle returns to EMPTY, the `rcv.tile` waits
again at the front of its queue, and the abandoned reservation is counted (R126). -/
def execRecvReservationTimeout (n r tq : Nat) (s : State) : Out :=
  checked (coreOk n r)
    (match (s.core n r).granted.find? fun g => g.req.tq == tq && g.req.port.isSome with
     | none => s
     | some g => if s.dtOf (n / 8) < g.at_ + us 50 then s else s.abandonGrant n r g)

/-- A sender that reaches its tile boundary takes back its request: pending at its receiver on this device, or granted there with no byte sent (R65;
DESIGN CHOICE, log 130). -/
def State.withdraw (s : State) (n r : Nat) : State :=
  match (s.core n r).asking, s.launchOf n r with
  | some i, some l =>
    match if destRemote (i.val 0) then none else l.destCore (i.val 0) with
    | none => s
    | some m =>
      let mine (g : Reservation) : Bool := g.port == none && g.src == n && g.srcR % 2 == r % 2 && g.ins == i.seq
      let s := s.onCore m r fun x => { x with reqs := x.reqs.filter fun g => !mine g }
      match (s.core m r).granted.find? fun g => mine g.req with
      | some g => (s.abandonGrant m r g).onCore m r fun x => { x with abandoned := (s.core m r).abandoned }
      | none => s
  | _, _ => s

/-! ## Reduce-on-route (R130) -/

/-- The FP32 patterns of a tile's bytes. -/
def f32List (data : List Byte) : List Nat := unpack 32 data

/-- Add a contribution to the bytes already held: each sum rounded to FP32. -/
def addF32 (a b : List Byte) : List Byte :=
  pack 32 a.length ((f32List a).zipWith (fun p q => f32Word ((f32 p).add (f32 q))) (f32List b))

/-- Take one contribution of `count` senders into the head handle of a started `rcv.radd.f32`. -/
def State.takeRadd (s : State) (n r : Nat) (t : Started) (count : Nat) (data : List Byte) : State :=
  match (s.core n r).tile (t.hs.getD 0 none) with
  | none => s
  | some h =>
    let old := s.linearBytes n r h
    let bytes := if t.got = 0 then data else addF32 old.1 data
    let s := old.2.putLinear (h.rows + 2) n r h 0 bytes
    let got := t.got + count
    s.onCore n r fun x =>
      { x with started := x.started.map fun v => if v.ins.seq = t.ins.seq then { v with got := got, done := decide (t.k ≤ got) } else v }

/-- Take waiting contributions into started `rcv.radd.f32` instructions, oldest first; `fuel` counts contributions. -/
def State.feedRadd (s : State) (fuel n r : Nat) : State :=
  match fuel with
  | 0 => s
  | k + 1 =>
    let x := s.core n r
    match x.started.find? fun t => t.ins.u == 8 && t.ins.op == 8 && !t.done &&
        x.contribs.any fun c => queueCode (dstOf t.ins.ops) == some (c.1, false) with
    | none => s
    | some t =>
      match x.contribs.find? fun c => queueCode (dstOf t.ins.ops) == some (c.1, false) with
      | none => s
      | some c => ((s.setCore n r { x with contribs := x.contribs.erase c }).takeRadd n r t c.2.1 c.2.2).feedRadd k n r

/-- A contributor to a reduce-on-route: the core whose started `snd.radd.f32` it is, the instruction, its source tile. -/
structure Contributor where
  n : Nat
  t : Started
  h : Handle
  deriving DecidableEq, Repr

/-- The contributions on their way to queue `tq` of resident `r` of core `n`, in rank order of their senders (R130). -/
def State.contributors (s : State) (n r tq : Nat) : List Contributor :=
  match s.launchOf n r with
  | none => []
  | some l => l.cores.flatMap fun m =>
      (s.core m r).started.filterMap fun t =>
        if t.ins.u = 7 ∧ t.ins.op = 8 ∧ !t.done ∧ l.destCore (t.ins.val 0) = some n ∧ destQueue (t.ins.val 0) = tq then
          ((s.core m r).tile (t.hs.getD 1 none)).map fun h => ⟨m, t, h⟩
        else none

/-- The `count` contributions that meet: of one half, since none add across the seam (R130). -/
def pickContributors (cs : List Contributor) (count : Nat) : List Contributor :=
  let west := cs.filter fun c => !islEast (c.n / 8)
  let east := cs.filter fun c => islEast (c.n / 8)
  if count ≤ west.length then west.take count else if count ≤ east.length then east.take count else []

/-- The order in which contributions meet, a permutation that the spec leaves open (R130). -/
def meeting (ctr k : Nat) : List Nat :=
  let p := Config.meetOrder ctr k
  if p.length = k ∧ (List.range k).all fun i => p.contains i then p else List.range k

/-- The shape that a reduce-on-route into a queue takes: that of the handle at work, else of the queue's head (R130). -/
def Res.raddHandle (x : Res) (tq : Nat) : Option Handle :=
  match x.started.find? fun t => t.ins.u == 8 && t.ins.op == 8 && !t.done && queueCode (dstOf t.ins.ops) == some (tq, false) with
  | some t => x.tile (t.hs.getD 0 none)
  | none => (x.tq tq).bind fun t => x.handles.find t.head

/-- How many contributions the `rcv.radd.f32` at work on a queue still lacks, those that wait counted (R130). -/
def Res.raddRoom (x : Res) (tq : Nat) : Nat :=
  match x.started.find? fun t => t.ins.u == 8 && t.ins.op == 8 && !t.done && queueCode (dstOf t.ins.ops) == some (tq, false) with
  | some t => t.k - t.got - ((x.contribs.filter fun c => c.1 == tq).map (·.2.1)).sum
  | none => 0

/-- Contributions reach a RECV station: as one sum where the `rcv.radd.f32` at work takes them all, else each on its own; their senders have been
accepted whole, but one of another shape is refused with SEND_SHAPE (R48, R130; DESIGN CHOICE, log 121). -/
def State.contribute (s : State) (n r tq : Nat) (cs : List Contributor) : State :=
  let x := s.core n r
  let fits (c : Contributor) : Bool := (x.raddHandle tq).any fun h => h.rows == c.h.rows && h.rowBytes == c.h.rowBytes
  let good := cs.filter fits
  let data := good.map fun c => (s.linearBytes c.n r c.h).1
  let order := (meeting s.freeCtr good.length).filterMap fun i => data[i]?
  let merged : List (Nat × Nat × List Byte) :=
    if good.length ≤ x.raddRoom tq then
      match order with
      | [] => []
      | d :: rest => [(tq, good.length, rest.foldl addF32 d)]
    else order.map fun d => (tq, 1, d)
  let s := { s.setCore n r { x with contribs := x.contribs ++ merged } with freeCtr := s.freeCtr + 1 }
  let s := cs.foldl (fun s c =>
    if fits c then s.sendDone c.n r c.t.ins.seq
    else (s.onCore c.n r fun y => y.unstart c.t).progFault c.n r (c.t.ins.fault fSendShape 0)) s
  (s.feedRadd 65 n r).settleRecvs 9 n r

/-- RADD_CONTRIBUTION: `count` contributions, which the routers of one half have added on their way, reach a RECV station before the first `behind`
of those under way (R130). -/
def execRaddContribution (n r tq count behind : Nat) (s : State) : Out :=
  checked (coreOk n r) (s.contribute n r tq (pickContributors ((s.contributors n r tq).drop behind) count))

/-- START at RECV (R63, R122, R124, R130): a `rcv.tile` starts only with a grant; a `rcv.radd.f32` starts on an EMPTY head. -/
def State.startRecv (s : State) (n r : Nat) (i : StIns) : State :=
  let x := s.core n r
  let role := x.roleFault i
  let bad (c : Nat) : State := s.queuedFault n r i (i.fault c 0)
  if !s.fixedLaunch n r then bad fElastic
  else if role ≠ 0 then bad role
  else if i.op = 0 then s.tryGrant 65 n r
  else if i.val 1 < 1 ∨ 64 < i.val 1 then bad fSendDest
  else if !x.dstReady i then s
  else
    let hs := x.handlesFor i none
    match x.tile (hs.getD 0 none) with
    | none => bad fTileUnset
    | some h =>
      if h.format ≠ 0 then bad fFormat
      else
        let x := x.begin i hs none (s.dtOf (n / 8))
        let x := { x with started := x.started.map fun t => if t.ins.seq = i.seq then { t with k := i.val 1 } else t }
        ((s.setCore n r x).feedRadd 65 n r).settleRecvs 9 n r

end Sys2Proof.Machine
end

