-- ==== Sys2Proof/Machine/Sync.lean ====
section
/-! DEFINITION. Machine/Sync.lean: SYNC (R72, R73, R127 to R129, R250, R251): barriers, flags, memory fences and waits for host
fences. A SYNC operation that waits has not started (R65): it stands at the head of its queue, and `syncOn` notes that it has
begun to wait; it starts and completes in one step once its condition holds. -/
namespace Sys2Proof.Machine

/-- Whether the completion of a SYNC operation orders later reads of memory behind it: `bar.sync`, `bar.wait`, `flag.wait`, `fence.mem` (R72, R73). -/
def StIns.ordersReads (i : StIns) : Bool := i.op == 0 || i.op == 2 || i.op == 0x0A || i.op == 0x10

/-- The head of SYNC's queue leaves it, complete. Where it orders later reads, what was read ahead before it is discarded, so that no LOAD dispatched
after it takes data from before (R72, R73; DEDUCED, log 131). -/
def State.syncPass (s : State) (n r : Nat) (i : StIns) : State :=
  let s := s.when i.ordersReads fun s => s.dropAhead n r fun _ => true
  (s.onCore n r fun x => { x.unqueue i with syncOn := none }).afterDone n r

/-- The head of SYNC's queue begins to wait. -/
def State.syncWait (s : State) (n r : Nat) (i : StIns) : State := s.onCore n r fun x => { x with syncOn := some i.seq }

/-- The head of SYNC's queue raises a fault. -/
def State.syncFault (s : State) (n r : Nat) (i : StIns) (code : Nat) : State :=
  (s.onCore n r fun x => { x with syncOn := none }).queuedFault n r i (i.fault code 0)

/-- Whether the writes of a resident that R72 and R73 name are visible: its earlier STOREs have completed and its remote groups
have closed. -/
def State.writesVisible (s : State) (n r : Nat) (i : StIns) : Bool := (s.core n r).storesDone i && s.groupsClosed (ownerCore n)

/-! ## Barriers (R128, R250) -/

/-- A barrier at the start of a launch. -/
def Barrier.init : Barrier := { gen := 0, arrivals := 0, clusters := [] }

/-- The cores of a launch that lie in cluster `cl`. -/
def Launch.inCluster (l : Launch) (cl : Nat) : List Nat := l.cores.filter fun n => n / 8 == cl

/-- The clusters that hold cores of a launch. -/
def Launch.clusters (l : Launch) : List Nat := (l.cores.map (· / 8)).eraseDups

/-- The launch's root barrier, and the barrier of a cluster's router: key cl for scope 1, key 84 + cl for the arrivals that the
router combines for scope 0. -/
def Launch.root (l : Launch) : Barrier := l.bars.headD Barrier.init
/-- A cluster router's barrier. -/
def Launch.router (l : Launch) (k : Nat) : Barrier := l.clBars.get k Barrier.init

/-- The current generation of a scope's barrier for a core. -/
def Launch.generation (l : Launch) (scope n : Nat) : Nat := if scope = 0 then l.root.gen else (l.router (n / 8)).gen

/-- A core arrives at a barrier: at its cluster's router, which completes a scope-1 barrier itself (R250). -/
def Launch.arrive (l : Launch) (scope n : Nat) : Launch :=
  let cl := n / 8
  if scope = 0 then
    let b := l.router (84 + cl)
    { l with clBars := l.clBars.put (84 + cl) { b with arrivals := b.arrivals + 1 } }
  else
    let b := l.router cl
    let full := b.arrivals + 1 == (l.inCluster cl).length
    { l with clBars := l.clBars.put cl (if full then { b with gen := b.gen + 1, arrivals := 0 } else { b with arrivals := b.arrivals + 1 }) }

/-- A resident arrives at the barrier of a scope and notes the generation it arrived at. -/
def State.coreArrive (s : State) (n r scope : Nat) (l : Launch) : State :=
  let x := s.core n r
  (s.setLaunch x.comp x.lane (l.arrive scope n)).onCore n r fun x => { x with arrived := x.arrived.set scope (some (l.generation scope n)) }

/-- Whether the release of the generation that a resident arrived at has reached it (R128). A `bar.wait` of a core that has made no arrive in the scope
passes at once (DESIGN CHOICE, log 132). -/
def Res.passed (x : Res) (scope : Nat) : Bool :=
  match x.arrived.getD scope none with
  | some g => decide (g < x.released.getD scope 0)
  | none => true

/-- The barrier operations (R127, R128). -/
def State.barrierOp (s : State) (n r : Nat) (i : StIns) : State :=
  let x := s.core n r
  let scope := bits (modOf i.ops) 1 0
  match s.launchOf n r with
  | none => s
  | some l =>
    if !l.fixed then s.syncFault n r i fElastic
    else if l.broken then s.syncFault n r i fBarrierBroken
    else
      let begun := x.syncOn == some i.seq
      let leave (s : State) : State :=
        (s.onCore n r fun x => { x with arrived := x.arrived.set scope none }).syncPass n r i
      if i.op = 2 then (if x.passed scope then leave s else s.syncWait n r i)
      else if begun then (if x.passed scope then leave s else s)
      else if (x.arrived.getD scope none).isSome then s.syncFault n r i fBarrierOrder
      else
        let s := s.when (x.storesDone i) fun s => s.publish n r
        if !s.writesVisible n r i then s
        else if s.groupsPoisoned (ownerCore n) then
          (s.freeClosed (ownerCore n)).queuedFault n r i { code := fMem, unit := 9, pc := i.pc, pos := 0, cause := 3, addr := 0 }
        else
          let s := (s.freeClosed (ownerCore n)).coreArrive n r scope l
          if i.op = 1 then s.syncPass n r i
          else s.syncWait n r i

/-- An uncorrectable word in a SYNC flit on fabric segment `seg`: the router drops the flit, counts and records the error (R262, R403). -/
def State.syncLost (s : State) (seg : Nat) : State := s.fabUnc seg 2

/-- BARRIER_ARRIVAL: a cluster router whose cores have all arrived has sent its arrival to the root, which counts clusters and
completes the generation when the count is complete (R250); a flit that the fabric loses does nothing more (R262). -/
def execBarrierArrival (c lane : Nat) (m : SyncMsg) (s : State) : Out :=
  let cl := m.what
  checked (decide (c < 64) && decide (lane < 2) && decide (cl < 84))
    (match m.lost, s.launches.find (laneKey c lane) with
     | some seg, _ => s.syncLost seg
     | none, none => s
     | none, some l =>
       let b := l.router (84 + cl)
       if b.arrivals = 0 ∨ b.arrivals ≠ (l.inCluster cl).length ∨ l.root.clusters.contains cl then s
       else
         let l := { l with clBars := l.clBars.put (84 + cl) { b with arrivals := 0 } }
         let cs := cl :: l.root.clusters
         let root := if cs.length = l.clusters.length then { l.root with gen := l.root.gen + 1, clusters := [] }
                     else { l.root with clusters := cs }
         s.setLaunch c lane { l with bars := [root] })

/-! ## Flags (R127, R166, R251) -/

/-- Where a flag lies: its physical address and leaf; or the fault that naming it raises, with its cause; or that its translation is waited for. -/
inductive FlagAt where
  | here (s : State) (pa leaf : Nat)
  | later (s : State)
  | bad (code cause : Nat)
  deriving DecidableEq, Repr

/-- Find the flag of an instruction (R127): SYNC_ADDR where it is misaligned or outside near memory, SCALAR_FAULT where it does not
translate. -/
def State.flagAt (s : State) (n r : Nat) (va : Nat) (store : Bool) : FlagAt :=
  let x := s.core n r
  if va % 8 ≠ 0 then .bad fSyncAddr 0
  else
    let t := s.translate (if store then .store n else .load n) (.scalar r) (s.ctxTag x.ctx) va (if store then needRW else needR)
    match t.2 with
    | .ok pa leaf => (match region pa with
      | .near _ _ => .here t.1 pa leaf
      | _ => .bad fSyncAddr 0)
    | .waits => .later t.1
    | .transFault => .bad fScalarFault 0x10
    | .permFault => .bad fScalarFault 0x11

/-- SCALAR_FAULT of a flag access, with its cause and address. -/
def State.flagFail (s : State) (n r : Nat) (i : StIns) (m : MemFail) : State :=
  (s.onCore n r fun x => { x with syncOn := none }).queuedFault n r i
    { code := fScalarFault, unit := 9, pc := i.pc, pos := 0, cause := m.cause, addr := m.addr }

/-- The fault of naming a flag. -/
def State.flagBad (s : State) (n r : Nat) (i : StIns) (code cause : Nat) : State :=
  if code = fScalarFault then s.flagFail n r i ⟨cause, i.val 0⟩ else s.syncFault n r i code

/-- The change that `flag.set` or `flag.add` makes at its controller, as a SYNC message (R166, R251, R257). -/
def State.flagChange (s : State) (n r : Nat) (i : StIns) : State :=
  let x := s.core n r
  let q := s.atomicAt (s.scalarWho n r) true (.store n) (.scalar r) (s.ctxTag x.ctx) (i.val 0) 8
    fun v => if i.op = 8 then i.val 1 else (v + i.val 1) % 2 ^ 64
  if q.wait then q.s
  else
    match q.fail with
    | some m => q.s.flagFail n r i m
    | none => q.s.syncPass n r i

/-- `flag.set` and `flag.add`: after the writes of R73 are visible, the flag changes at its controller. -/
def State.flagWrite (s : State) (n r : Nat) (i : StIns) : State :=
  let x := s.core n r
  match s.flagAt n r (i.val 0) true with
  | .bad c m => s.flagBad n r i c m
  | .later t => t
  | .here s _ _ =>
    if i.op ≠ 8 then s.flagChange n r i
    else if !x.storesDone i then s
    else
      let s := s.publish n r
      if !s.groupsClosed (ownerCore n) then s
      else if s.groupsPoisoned (ownerCore n) then
        (s.freeClosed (ownerCore n)).queuedFault n r i { code := fMem, unit := 9, pc := i.pc, pos := 0, cause := 3, addr := 0 }
      else (s.freeClosed (ownerCore n)).flagChange n r i

/-- The key of a resident's watch entry. -/
def watchKey (n r : Nat) : Nat := 2 * n + r % 2

/-- The entries of the watch table of a near-memory controller. -/
def State.watchCount (s : State) (stack : Nat) : Nat := (s.flagWatch.filter fun e => e.2 == stack).length

/-- Place a watch entry for a resident at a controller that has room (R251). -/
def State.placeWatch (s : State) (n r stack : Nat) : State :=
  if (s.flagWatch.find (watchKey n r)).isSome || s.watchCount stack ≥ 1024 then s
  else { s with flagWatch := s.flagWatch.put (watchKey n r) stack }

/-- Free a resident's watch entry. -/
def State.dropWatch (s : State) (n r : Nat) : State := { s with flagWatch := s.flagWatch.del (watchKey n r) }

/-- `flag.wait`: places its watch entry and checks the flag; passes where the condition holds (R127, R251). -/
def State.flagCheck (s : State) (n r : Nat) (i : StIns) : State :=
  match s.flagAt n r (i.val 0) false with
  | .bad c m => (s.dropWatch n r).flagBad n r i c m
  | .later t => t.syncWait n r i
  | .here t pa leaf =>
    let w := s.scalarWho n r
    match t.sleepWait w (leafSel leaf) pa with
    | some u => u.syncWait n r i
    | none =>
      let s := ((t.unhold w.own pa).placeWatch n r (memIsl pa - 84)).syncWait n r i
      let q := s.readPhys w (leafSel leaf) pa 8
      if q.st ≠ .ok then (q.s.dropWatch n r).flagFail n r i ⟨memCode q.st, i.val 0⟩
      else if flagCond (bits (modOf i.ops) 1 0) (leNat q.data) (i.val 1) then (q.s.dropWatch n r).syncPass n r i
      else q.s

/-! ## Fences -/

/-- `fence.mem`: completes once every earlier STORE write of the resident is visible (R72, R179); a POISONED group raises
MEM_FAULT. -/
def State.fenceMemOp (s : State) (n r : Nat) (i : StIns) : State :=
  let x := s.core n r
  if !x.storesDone i then s
  else
    let s := s.publish n r
    if !s.groupsClosed (ownerCore n) then s
    else if s.groupsPoisoned (ownerCore n) then
      (s.freeClosed (ownerCore n)).queuedFault n r i { code := fMem, unit := 9, pc := i.pc, pos := 0, cause := 3, addr := 0 }
    else (s.freeClosed (ownerCore n)).syncPass n r i

/-- `fen.wait` (R127, R129). -/
def State.fenceCheck (s : State) (n r : Nat) (i : StIns) : State :=
  let x := s.core n r
  let own := (s.ctxs.find x.ctx).map (·.fn)
  match s.fence (i.val 0) with
  | none => s.syncFault n r i fFenceAccess
  | some f =>
    if some f.fn ≠ own ∨ i.val 0 ≥ 2 ^ 32 then s.syncFault n r i fFenceAccess
    else if f.abandoned then s.syncFault n r i fFenceAbandoned
    else if i.val 1 ≤ f.value then s.syncPass n r i
    else s.syncWait n r i

/-! ## The head of SYNC -/

/-- START at SYNC: the head does what it can now. -/
def State.startSync (s : State) (n r : Nat) (i : StIns) : State :=
  if i.op ≤ 2 then s.barrierOp n r i
  else if i.op = 8 ∨ i.op = 9 then s.flagWrite n r i
  else if i.op = 0x0A then s.flagCheck n r i
  else if i.op = 0x10 then s.fenceMemOp n r i
  else s.fenceCheck n r i

/-- Check again the waiting head of a resident's SYNC station, where `f` selects it. -/
def State.recheckSync (s : State) (n r : Nat) (f : StIns → Bool) : State :=
  let x := s.core n r
  match x.headOf 9 with
  | some i => if x.status == .running && x.syncOn == some i.seq && f i then s.startSync n r i else s
  | none => s

/-- Every resident whose `fen.wait` names fence `id` checks it again: its slot was freed or marked ABANDONED (R129). -/
def State.recheckFence (s : State) (id : Nat) : State :=
  s.res.foldl (fun s e => s.recheckSync (e.1 / 2) (e.1 % 2) fun i => i.op == 0x18 && i.val 0 == id) s

/-- BARRIER_RELEASE: the release of a barrier's generation reaches a participant (R250), unless the fabric loses its flit (R262). -/
def execBarrierRelease (n r : Nat) (m : SyncMsg) (s : State) : Out :=
  let scope := m.what
  checked (coreOk n r && decide (scope < 2))
    (match m.lost, s.launchOf n r with
     | some seg, _ => s.syncLost seg
     | none, none => s
     | none, some l =>
       let s := s.onCore n r fun x => { x with released := x.released.set scope (l.generation scope n) }
       s.recheckSync n r fun i => i.op == 0 || i.op == 2)

/-- FLAG_NOTIFY: the controller notifies a waiting station of a change of its flag (R251), unless the fabric loses the flit (R262). -/
def execFlagNotify (n : Nat) (m : SyncMsg) (s : State) : Out :=
  let r := m.what
  checked (coreOk n r)
    (match m.lost with
     | some seg => s.syncLost seg
     | none => if (s.flagWatch.find (watchKey n r)).isSome then s.recheckSync n r fun i => i.op == 0x0A else s)

/-- FLAG_REREAD: a `flag.wait` that found the watch table full reads its flag again after 1 µs (R251). -/
def execFlagReread (n r : Nat) (s : State) : Out :=
  checked (coreOk n r) (if (s.flagWatch.find (watchKey n r)).isSome then s else s.recheckSync n r fun i => i.op == 0x0A)

/-- SYNC_TIMEOUT: the DT deadline of a waiting `flag.wait` or `fen.wait` has come and its condition does not hold (R127). -/
def execSyncTimeout (n r : Nat) (s : State) : Out :=
  checked (coreOk n r)
    (let x := s.core n r
     match x.headOf 9 with
     | none => s
     | some i =>
       if x.status == .running && x.syncOn == some i.seq && (i.op == 0x0A || i.op == 0x18) && s2Of i.ops != 0xFF &&
           decide (i.val 2 ≤ s.dtOf (n / 8)) then
         let t := s.startSync n r i
         if (t.core n r).syncOn = some i.seq then (t.dropWatch n r).syncFault n r i fSyncTimeout else t
       else s)

end Sys2Proof.Machine
end

