-- ==== Sys2Proof/Machine/Issue.lean ====
section
/-! DEFINITION. Machine/Issue.lean: the dispatch of station instructions (R46, R71, R84 to R86, R95), their start and completion
(R102), read-ahead (R53, R54) and the deadlock detector (R47). -/
namespace Sys2Proof.Machine

/-! ## Start and completion -/

/-- Start the head of station `u`, where a resident runs and its island is ON (R65, R102). -/
def State.startHead (s : State) (n r u : Nat) : State :=
  let x := s.core n r
  if x.status != .running || (s.dom (n / 8)).state != .on then s
  else if u = 1 then s.startLoad n r
  else
    match x.headOf u with
    | none => s
    | some i =>
      if u = 7 then s.startSend n r i
      else if u = 8 then s.startRecv n r i
      else if u = 9 then s.startSync n r i
      else s.startWork n r i

/-- Complete the oldest started instruction of station `u` (R48, R49). RECV's complete with their last byte or contribution, SYNC's
when their condition holds. -/
def State.completeHead (s : State) (n r u : Nat) : State :=
  if (s.dom (n / 8)).state != .on then s
  else if 1 ≤ u ∧ u ≤ 6 then s.completeWork n r u
  else if u = 7 then s.completeSend n r
  else if u = 8 then s.settleRecvs 9 n r
  else s

/-- STATION_INSTRUCTION_START: the head of a station's queue takes its tokens and starts, or waits, or raises its fault (R43 to R45,
R80, R100, R102). -/
def execStationInstructionStart (n r u : Nat) (s : State) : Out :=
  checked (coreOk n r && decide (1 ≤ u) && decide (u ≤ 9)) (s.startHead n r u)

/-- STATION_INSTRUCTION_COMPLETE: the oldest started instruction of a station performs its effect and its tokens change; a watch
observes its tile; a `seq.wait` may end (R48, R49, R102, R152, R474). -/
def execStationInstructionComplete (n r u : Nat) (s : State) : Out :=
  checked (coreOk n r && decide (1 ≤ u) && decide (u ≤ 9)) (s.completeHead n r u)

/-! ## Dispatch -/

/-- Enter an instruction into its station's queue, its scalar operands read, where the queue has a free entry; else the sequencer holds it, with every
later one (R71, R84 to R86). With `now`, a station that has nothing else starts and completes it at once. -/
def State.enqueue (s : State) (n r u op : Nat) (o : Ops) (now : Bool) : State :=
  let x := s.core n r
  if (x.sq.filter fun i => i.u == u).length ≥ queueDepth (s.shared x.comp) u then s.holdSeq n r (insCode u op) o false
  else
    let i : StIns := { u := u, op := op, ops := o, sc := x.scalarsOf o, pc := x.file.pc, seq := x.seqNo }
    let idle := (x.headOf u).isNone && (x.oldest u).isNone
    let s := s.setCore n r { x with sq := x.sq ++ [i], seqNo := x.seqNo + 1, file := x.file.adv, wait := .none, actAt := s.aon.dt }
    if now && idle then (s.startHead n r u).completeHead n r u else s

/-- Dispatch a station instruction: the sequencer's faults first; a false predicate discards it, even while its queue is full (DESIGN CHOICE, log 125);
else it enters its queue, or goes on waiting for a free entry (R46, R71, R76, R84 to R86, R95). -/
def State.dispatch (s : State) (n r u op : Nat) (p : Pred) (o : Ops) (now : Bool) : State :=
  let x := s.core n r
  if s.goesOn n r (insCode u op) o then (if x.status == .running then s.enqueue n r u op o now else s)
  else if !s.canIssue n r then s
  else
    let e := x.stationFault (s.shared x.comp) u op o
    if e ≠ 0 then s.seqFault n r e
    else if !x.file.holds p then s.pass n r
    else s.enqueue n r u op o now

/-! ## The station instructions -/

/-- LD_TILE: `ld.tile` (R104 to R108). -/
def execLdTile (n r : Nat) (p : Pred) (ops : Ops) (now : Bool) (s : State) : Out :=
  checked (coreOk n r) (s.dispatch n r 1 (0x00) p ops now)

/-- ST_TILE: `st.tile` (R104 to R108). -/
def execStTile (n r : Nat) (p : Pred) (ops : Ops) (now : Bool) (s : State) : Out :=
  checked (coreOk n r) (s.dispatch n r 2 (0x00) p ops now)

/-- XF_TR: `xf.tr` with suffix f: .f32, .bf16, .f16, .e4m3, .e5m2, .i8 (R109, R110). -/
def execXfTr (n r f : Nat) (p : Pred) (ops : Ops) (now : Bool) (s : State) : Out :=
  checked (coreOk n r && decide (f < 6)) (s.dispatch n r 3 (f) p ops now)

/-- XF_CVT: `xf.cvt` with suffix f, in the order of R109 (R111, R140, R141, R150). -/
def execXfCvt (n r f : Nat) (p : Pred) (ops : Ops) (now : Bool) (s : State) : Out :=
  checked (coreOk n r && decide (f < 15)) (s.dispatch n r 3 (0x08 + f) p ops now)

/-- XF_SPX: `xf.spx` (R111, R154). -/
def execXfSpx (n r : Nat) (p : Pred) (ops : Ops) (now : Bool) (s : State) : Out :=
  checked (coreOk n r) (s.dispatch n r 3 (0x18) p ops now)

/-- XF_GTH: `xf.gth` (R111, R155). -/
def execXfGth (n r : Nat) (p : Pred) (ops : Ops) (now : Bool) (s : State) : Out :=
  checked (coreOk n r) (s.dispatch n r 3 (0x20) p ops now)

/-- MMA: `mma` with suffix f, in the order of R113: 0 to 8, then the four MX forms (R112, R113, R115, R144 to R148, R153). -/
def execMma (n r f : Nat) (p : Pred) (ops : Ops) (now : Bool) (s : State) : Out :=
  checked (coreOk n r && decide (f < 13)) (s.dispatch n r 4 (if f < 9 then f else f + 7) p ops now)

/-- MMA_OUT: `mma.out` with suffix f: .f32, .bf16, .f16, .e4m3, .e5m2 (R114, R149). -/
def execMmaOut (n r f : Nat) (p : Pred) (ops : Ops) (now : Bool) (s : State) : Out :=
  checked (coreOk n r && decide (f < 5)) (s.dispatch n r 4 (0x20 + f) p ops now)

/-- MMA_CLR: `mma.clr` (R114, R115, R144). -/
def execMmaClr (n r : Nat) (p : Pred) (ops : Ops) (now : Bool) (s : State) : Out :=
  checked (coreOk n r) (s.dispatch n r 4 (0x28) p ops now)

/-- MMA_ADD_F32: `mma.add.f32` (R114, R145, R146). -/
def execMmaAddF32 (n r : Nat) (p : Pred) (ops : Ops) (now : Bool) (s : State) : Out :=
  checked (coreOk n r) (s.dispatch n r 4 (0x29) p ops now)

/-- VADD: `vadd` with suffix f: .f32, .bf16, .f16 (R117, R118, R142, R143). -/
def execVadd (n r f : Nat) (p : Pred) (ops : Ops) (now : Bool) (s : State) : Out :=
  checked (coreOk n r && decide (f < 3)) (s.dispatch n r 5 (0x00 + 0x40 * f) p ops now)

/-- VSUB: `vsub` with suffix f: .f32, .bf16, .f16 (R117, R118, R142, R143). -/
def execVsub (n r f : Nat) (p : Pred) (ops : Ops) (now : Bool) (s : State) : Out :=
  checked (coreOk n r && decide (f < 3)) (s.dispatch n r 5 (0x01 + 0x40 * f) p ops now)

/-- VMUL: `vmul` with suffix f: .f32, .bf16, .f16 (R117, R118, R142, R143). -/
def execVmul (n r f : Nat) (p : Pred) (ops : Ops) (now : Bool) (s : State) : Out :=
  checked (coreOk n r && decide (f < 3)) (s.dispatch n r 5 (0x02 + 0x40 * f) p ops now)

/-- VMAX: `vmax` with suffix f: .f32, .bf16, .f16 (R117, R118, R142, R143). -/
def execVmax (n r f : Nat) (p : Pred) (ops : Ops) (now : Bool) (s : State) : Out :=
  checked (coreOk n r && decide (f < 3)) (s.dispatch n r 5 (0x03 + 0x40 * f) p ops now)

/-- VMIN: `vmin` with suffix f: .f32, .bf16, .f16 (R117, R118, R142, R143). -/
def execVmin (n r f : Nat) (p : Pred) (ops : Ops) (now : Bool) (s : State) : Out :=
  checked (coreOk n r && decide (f < 3)) (s.dispatch n r 5 (0x04 + 0x40 * f) p ops now)

/-- VFMA: `vfma` with suffix f: .f32, .bf16, .f16 (R117, R118, R142, R143). -/
def execVfma (n r f : Nat) (p : Pred) (ops : Ops) (now : Bool) (s : State) : Out :=
  checked (coreOk n r && decide (f < 3)) (s.dispatch n r 5 (0x05 + 0x40 * f) p ops now)

/-- VFMA_RESCALE: `vfma.f32` with no src3, d × α + s2 (R118). -/
def execVfmaRescale (n r : Nat) (p : Pred) (ops : Ops) (now : Bool) (s : State) : Out :=
  checked (coreOk n r) (s.dispatch n r 5 (0x05) p ops now)

/-- VEXP: `vexp.f32` (R117, R142). -/
def execVexp (n r : Nat) (p : Pred) (ops : Ops) (now : Bool) (s : State) : Out :=
  checked (coreOk n r) (s.dispatch n r 5 (0x08) p ops now)

/-- VRCP: `vrcp.f32` (R117, R142). -/
def execVrcp (n r : Nat) (p : Pred) (ops : Ops) (now : Bool) (s : State) : Out :=
  checked (coreOk n r) (s.dispatch n r 5 (0x09) p ops now)

/-- VRSQRT: `vrsqrt.f32` (R117, R142). -/
def execVrsqrt (n r : Nat) (p : Pred) (ops : Ops) (now : Bool) (s : State) : Out :=
  checked (coreOk n r) (s.dispatch n r 5 (0x0A) p ops now)

/-- VTANH: `vtanh.f32` (R117, R142). -/
def execVtanh (n r : Nat) (p : Pred) (ops : Ops) (now : Bool) (s : State) : Out :=
  checked (coreOk n r) (s.dispatch n r 5 (0x0B) p ops now)

/-- VONL: `vonl.f32`, the online normaliser (R119). -/
def execVonl (n r : Nat) (p : Pred) (ops : Ops) (now : Bool) (s : State) : Out :=
  checked (coreOk n r) (s.dispatch n r 5 (0x10) p ops now)

/-- VNORM: `vnorm` with suffix f: .f32, .bf16, .f16, .e4m3, .e5m2 (R117, R142). -/
def execVnorm (n r f : Nat) (p : Pred) (ops : Ops) (now : Bool) (s : State) : Out :=
  checked (coreOk n r && decide (f < 5)) (s.dispatch n r 5 (0x11 + f) p ops now)

/-- VRSI: `vrsi.f32`, the row state's start (R119). -/
def execVrsi (n r : Nat) (p : Pred) (ops : Ops) (now : Bool) (s : State) : Out :=
  checked (coreOk n r) (s.dispatch n r 5 (0x18) p ops now)

/-- RED_ADD: `red.add` with suffix f: .f32, .bf16, .f16 (R120, R121, R143). -/
def execRedAdd (n r f : Nat) (p : Pred) (ops : Ops) (now : Bool) (s : State) : Out :=
  checked (coreOk n r && decide (f < 3)) (s.dispatch n r 6 (0x00 + 0x40 * f) p ops now)

/-- RED_MAX: `red.max` with suffix f: .f32, .bf16, .f16 (R120, R121, R143). -/
def execRedMax (n r f : Nat) (p : Pred) (ops : Ops) (now : Bool) (s : State) : Out :=
  checked (coreOk n r && decide (f < 3)) (s.dispatch n r 6 (0x01 + 0x40 * f) p ops now)

/-- RED_MIN: `red.min` with suffix f: .f32, .bf16, .f16 (R120, R121, R143). -/
def execRedMin (n r f : Nat) (p : Pred) (ops : Ops) (now : Bool) (s : State) : Out :=
  checked (coreOk n r && decide (f < 3)) (s.dispatch n r 6 (0x02 + 0x40 * f) p ops now)

/-- RED_AMAX: `red.amax` with suffix f: .f32, .bf16, .f16 (R120, R121, R143). -/
def execRedAmax (n r f : Nat) (p : Pred) (ops : Ops) (now : Bool) (s : State) : Out :=
  checked (coreOk n r && decide (f < 3)) (s.dispatch n r 6 (0x03 + 0x40 * f) p ops now)

/-- SND_TILE: `snd.tile` (R122 to R125). -/
def execSndTile (n r : Nat) (p : Pred) (ops : Ops) (now : Bool) (s : State) : Out :=
  checked (coreOk n r) (s.dispatch n r 7 (0x00) p ops now)

/-- SND_RADD_F32: `snd.radd.f32` (R122, R130). -/
def execSndRaddF32 (n r : Nat) (p : Pred) (ops : Ops) (now : Bool) (s : State) : Out :=
  checked (coreOk n r) (s.dispatch n r 7 (0x08) p ops now)

/-- RCV_TILE: `rcv.tile` (R122, R124). -/
def execRcvTile (n r : Nat) (p : Pred) (ops : Ops) (now : Bool) (s : State) : Out :=
  checked (coreOk n r) (s.dispatch n r 8 (0x00) p ops now)

/-- RCV_RADD_F32: `rcv.radd.f32` (R122, R130). -/
def execRcvRaddF32 (n r : Nat) (p : Pred) (ops : Ops) (now : Bool) (s : State) : Out :=
  checked (coreOk n r) (s.dispatch n r 8 (0x08) p ops now)

/-- BAR_SYNC: `bar.sync` (R127, R128). -/
def execBarSync (n r : Nat) (p : Pred) (ops : Ops) (now : Bool) (s : State) : Out :=
  checked (coreOk n r) (s.dispatch n r 9 (0x00) p ops now)

/-- BAR_ARRIVE: `bar.arrive` (R127, R128). -/
def execBarArrive (n r : Nat) (p : Pred) (ops : Ops) (now : Bool) (s : State) : Out :=
  checked (coreOk n r) (s.dispatch n r 9 (0x01) p ops now)

/-- BAR_WAIT: `bar.wait` (R127, R128). -/
def execBarWait (n r : Nat) (p : Pred) (ops : Ops) (now : Bool) (s : State) : Out :=
  checked (coreOk n r) (s.dispatch n r 9 (0x02) p ops now)

/-- FLAG_SET: `flag.set` (R73, R127). -/
def execFlagSet (n r : Nat) (p : Pred) (ops : Ops) (now : Bool) (s : State) : Out :=
  checked (coreOk n r) (s.dispatch n r 9 (0x08) p ops now)

/-- FLAG_ADD: `flag.add` (R127). -/
def execFlagAdd (n r : Nat) (p : Pred) (ops : Ops) (now : Bool) (s : State) : Out :=
  checked (coreOk n r) (s.dispatch n r 9 (0x09) p ops now)

/-- FLAG_WAIT: `flag.wait` (R127, R251). -/
def execFlagWait (n r : Nat) (p : Pred) (ops : Ops) (now : Bool) (s : State) : Out :=
  checked (coreOk n r) (s.dispatch n r 9 (0x0A) p ops now)

/-- FENCE_MEM: `fence.mem` (R72, R127). -/
def execFenceMem (n r : Nat) (p : Pred) (ops : Ops) (now : Bool) (s : State) : Out :=
  checked (coreOk n r) (s.dispatch n r 9 (0x10) p ops now)

/-- FEN_WAIT: `fen.wait` (R127, R129). -/
def execFenWait (n r : Nat) (p : Pred) (ops : Ops) (now : Bool) (s : State) : Out :=
  checked (coreOk n r) (s.dispatch n r 9 (0x18) p ops now)

/-! ## Read-ahead (R53, R54) -/

/-- The first tile from the position of stream `k` that has not been read ahead. -/
def Res.aheadNext (x : Res) (k : Nat) (st : Stream) : Nat := st.p + (x.ahead.filter fun a => a.st == k).length

/-- Hold a fault that read-ahead has met for tile `j` of stream `k` (R54). -/
def State.holdFault (s : State) (n r k j : Nat) (m : MemFail) : State :=
  s.onCore n r fun x =>
    match x.streams.find k with
    | none => x
    | some st => { x with streams := x.streams.put k { st with held := st.held.put j m } }

/-- What the translation that a unit or its half has cached, or a pinned space gives, means for tile `j` of a stream fetched ahead: a fault is held
(R53, R54, R233). None where a walk is needed. -/
def State.knownAhead (s : State) (u : TlbUnit) (tag va : Nat) (need : Need) : Option Xlate :=
  if va ≥ 2 ^ 52 then some .transFault
  else if s.pinnedTag tag then some (((s.walk tag va).map fun e => e.grant false va need).getD .transFault)
  else ((s.cached u tag va).or (s.cached (.half (unitHalf u)) tag va)).map fun e => e.grant false va need

/-- Fetch the translation of one page of tile `j` of stream `k` ahead: its miss takes a slot of the unit where one is free (R53, R231). -/
def State.prefetchPage (s : State) (n r k : Nat) (write : Bool) (j va : Nat) : State :=
  let u : TlbUnit := if write then .store n else .load n
  let q : Requester := .stream r k
  let tag := s.ctxTag (s.core n r).ctx
  match s.knownAhead u tag va (if write then needW else needR) with
  | some .transFault => s.holdFault n r k j ⟨0x10, va⟩
  | some .permFault => s.holdFault n r k j ⟨0x11, va⟩
  | some _ => s
  | none => if s.misses.any fun m => m.unit == u && m.req == q && m.tag == tag && m.page == va / 65536 then s else s.addMiss u q tag va (some j)

/-- The pages of 64 KiB that tile `j` of a stream touches, each named once by its first address. -/
def Stream.pages (st : Stream) (j : Nat) : List Nat :=
  ((st.pieces j st.rows).flatMap fun p => (List.range (pagesOf p.va p.len)).map fun i => (p.va / 65536 + i) * 65536).eraseDups

/-- The translation units fetch the translations of tiles p to p + depth − 1 of a stream, stopping at T − 1 (R53). -/
def State.prefetch (s : State) (n r k : Nat) (st : Stream) : State :=
  let tiles := ((List.range st.depth).map fun i => st.p + i).filter fun j => decide (j < st.total) && (st.held.find j).isNone
  tiles.foldl (fun s j => (st.pages j).foldl (fun s va => s.prefetchPage n r k st.write j va) s) s

/-- A tile being read ahead takes what memory gives: placed when all of it has come; a failure is held until an instruction demands the tile (R53, R54). -/
def State.aheadArrived (s : State) (n r k j : Nat) : State :=
  let x := s.core n r
  match x.ahead.find? (fun a => a.st == k && a.k == j && !a.arrived), x.streams.find k with
  | some a, some st =>
    match x.handles.find a.h with
    | none => s
    | some h =>
      let q := s.loadTile (.ahead n r k j) n r k st j 0 h
      match q.fail with
      | some m => q.s.holdFault n r k j m
      | none =>
        if q.short then q.s
        else
          let mark (v : Ahead) : Ahead := if v = a then { v with arrived := true } else v
          q.s.onCore n r fun x => { x with ahead := x.ahead.map mark, actAt := s.aon.dt }
  | _, _ => s

/-- The target queue of stream `k`, where it has one that is configured. -/
def Res.aheadQueue (x : Res) (k : Nat) : Option (Nat × TQueue) :=
  ((x.streams.find k).bind fun st => st.target).bind fun q => (x.tq q).map fun t => (q, t)

/-- LOAD reads the next tile of a READ stream with a target ahead into the EMPTY, set head handle of the queue, which becomes FILLING (R53). -/
def State.aheadMore (s : State) (n r k : Nat) : State :=
  let x := s.core n r
  match x.streams.find k, x.aheadQueue k with
  | some st, some (q, t) =>
    let j := x.aheadNext k st
    if st.write || decide (st.total ≤ j) || decide (st.p + st.depth ≤ j) || (st.held.find j).isSome || t.tok t.head != .empty then s
    else
      match x.handles.find t.head with
      | none => s
      | some h =>
        if tileFits h st 0 ≠ 0 then s
        else
          let s := s.onCore n r fun x =>
            { x.setTq q { (t.setTok t.head .filling) with head := t.next t.head } with
              ahead := x.ahead ++ [{ st := k, k := j, tq := q, h := t.head, arrived := false }], actAt := s.aon.dt }
          s.aheadArrived n r k j
  | _, _ => s

/-- Prefetch for stream `k` (R53, R54): its translations; then the tile being read ahead whose data has not come, else the next one. -/
def State.readAhead (s : State) (n r k : Nat) : State :=
  let x := s.core n r
  match x.streams.find k with
  | none => s
  | some st =>
    if x.status != .running || (s.dom (n / 8)).state != .on then s
    else
      let s := s.prefetch n r k st
      match (s.core n r).ahead.find? fun a => a.st == k && !a.arrived with
      | some a => s.aheadArrived n r k a.k
      | none => s.aheadMore n r k

/-- READ_AHEAD_TILE: a stream with a target queue reads its next tile ahead (R53, R54). -/
def execReadAheadTile (n r k : Nat) (s : State) : Out := checked (coreOk n r && decide (k < 16)) (s.readAhead n r k)

/-! ## The deadlock detector (R47) -/

/-- Whether the head of station `u` waits on a token. -/
def Res.tokenWait (x : Res) (u : Nat) : Bool :=
  match x.headOf u with
  | some i => !x.tokensReady i
  | none => true

/-- Whether the sequencer has a scalar access, a pull or a `seq.done` in progress. -/
def Res.scalarOut (x : Res) : Bool :=
  match x.wait with
  | .busy c _ _ => decide (c < 0x1000)
  | _ => false

/-- Whether a resident has an operation of SEND, RECV or SYNC, or a memory request, outstanding. -/
def Res.outstanding (x : Res) : Bool :=
  x.scalarOut || x.sq.any (fun i => i.u == 9) || x.sq.any (fun i => i.u == 7 && x.asked == some i.seq) ||
  x.sq.any (fun i => i.u == 8 && i.op == 0 && (x.tokensReady i)) || !x.started.isEmpty || x.ahead.any fun a => !a.arrived

/-- Whether both conditions of R47 hold: every station with an instruction queued waits on a token that nothing in the core will provide, and nothing is
outstanding. -/
def Res.stuck (x : Res) : Bool :=
  x.status == .running && !x.sq.isEmpty && x.replay.isEmpty && !x.outstanding && (List.range 10).all x.tokenWait

/-- QUEUE_DEADLOCK: both conditions of R47 have held for 1 µs since the core last dispatched, started or completed an instruction, changed a queue or
ended a memory request. The record carries the sequencer's unit 0 and the address of the oldest queued instruction (DESIGN CHOICE, log 133). -/
def execQueueDeadlock (n r : Nat) (s : State) : Out :=
  checked (coreOk n r)
    (let x := s.core n r
     if x.stuck && decide (x.actAt + us 1 ≤ s.aon.dt) then
       match x.sq.head? with
       | some i => s.progFault n r { code := fQueueDeadlock, unit := 0, pc := i.pc, pos := 0, cause := 0, addr := 0 }
       | none => s
     else s)

end Sys2Proof.Machine
end

