-- ==== Sys2Proof/Machine/Preempt.lean ====
section
/-! DEFINITION. Machine/Preempt.lean: pre-emption of a resident (R65, R66, R90), what is saved at its tile boundary and how it resumes
(R67 to R70, R322, R380, R388, R391, R396), and the instruction cache (R83). -/
namespace Sys2Proof.Machine

/-! ## The request (R65, R90) -/

/-- A pre-emption request is on its way to a resident: it names what becomes of the core at its boundary. -/
def State.askStop (s : State) (n r : Nat) (toward : StopTo) : State := s.onCore n r fun x => { x with stopReq := some toward }

/-- What still holds the sequencer after a pre-emption request: a scalar access, a `seq.done` or a pull that has claimed its item, which end normally; a
`seq.wait`, a `seq.until`, a held setup, any other pull and a stalled station instruction are abandoned and executed again on resume (R90). -/
def Res.stillBusy (x : Res) : SeqWait :=
  match x.wait with
  | .busy c o b => if c < 0x1000 ∧ (c ≠ 0x70 ∨ x.item.isSome) then .busy c o b else .none
  | _ => .none

/-- The resident after a pre-emption request: dispatch stops (R65, R90). -/
def Res.preempted (x : Res) (toward : StopTo) (dt : Nat) : Res :=
  { x with status := .stopping toward, wait := x.stillBusy, stopReq := none, stopAt := dt, overrun := false }

/-- Whether an instruction of the sequencer has to end before the tile boundary. A `seq.done` that waits for instructions that have not started, and
cannot start any more, does not: it is executed again on resume (R90; DESIGN CHOICE, log 120). -/
def Res.holdsBoundary (x : Res) : Bool :=
  match x.wait with
  | .busy c _ _ => decide (c ≠ 0x71) || x.sq.isEmpty
  | _ => false

/-- PREEMPTION_REQUEST: a request that something of the device has sent reaches the core; read-ahead not yet demanded returns to EMPTY (R65). -/
def execPreemptionRequest (n r : Nat) (s : State) : Out :=
  checked (coreOk n r)
    (let x := s.core n r
     match x.stopReq with
     | none => s
     | some toward =>
       if x.status = .running then (s.dropAhead n r fun _ => true).onCore n r fun x => x.preempted toward (s.dtOf (n / 8)) else s)

/-- The tile budget of a resident's composition, in ticks (R66). -/
def State.tileBudget (s : State) (c : Nat) : Nat := us (s.fld F.SCH_COMP_CFG_tile_budget_us c)

/-- TILE_BUDGET_EXPIRE: a core that has not reached its boundary when its budget expires is reported as overrunning (R66, R391). -/
def execTileBudgetExpire (n r : Nat) (s : State) : Out :=
  checked (coreOk n r)
    (let x := s.core n r
     match x.status with
     | .stopping _ =>
       if !x.started.isEmpty && decide (x.stopAt + s.tileBudget x.comp ≤ s.dtOf (n / 8)) then s.setCore n r { x with overrun := true } else s
     | _ => s)

/-! ## What is saved (R67, R68) -/

/-- Whether a FULL handle of a LOAD queue may be returned instead of saved: its fill is recorded and its stream not stale. -/
def Res.returnable (x : Res) (q h : Nat) : Option FillRec := x.fills.find? fun f => f.tq == q && f.h == h && !f.stale

/-- The returned handles of a LOAD queue: its newest FULL handles in one run that ends at the head; `h` is the handle looked at,
`fuel` the handles left (R68). Newest first. -/
def Res.returnRun (x : Res) (q : Nat) (t : TQueue) (fuel h : Nat) : List FillRec :=
  match fuel with
  | 0 => []
  | k + 1 =>
    if t.tok h = .full then
      match x.returnable q h with
      | some f => f :: x.returnRun q t k (t.prev h)
      | none => []
    else []

/-- Every record of a returned handle, in the order of filling. -/
def Res.returned (x : Res) : List FillRec :=
  let rs := x.queues.flatMap fun e => if e.2.producer = 1 then x.returnRun e.1 e.2 e.2.depth (e.2.prev e.2.head) else []
  x.fills.filter fun f => rs.contains f

/-- The resident with its returned handles EMPTY, the heads and stream positions moved back, and the records kept for replay
(R68, R69). -/
def Res.giveBack (x : Res) : Res :=
  let rs := x.returned
  let x := rs.reverse.foldl (fun x f =>
    match x.tq f.tq with
    | none => x
    | some t => x.setTq f.tq { (t.setTok f.h .empty) with head := f.h }) x
  let x := rs.foldl (fun x f =>
    match x.streams.find f.st with
    | none => x
    | some st => { x with streams := x.streams.put f.st { st with p := st.p - 1 } }) x
  { x with replay := rs ++ x.replay, fills := x.fills.filter fun f => !rs.contains f }

/-- The handles saved exactly: FILLING or DRAINING, or FULL and not returned (R68). -/
def Res.savedHandles (x : Res) : List Nat :=
  x.queues.flatMap fun e => (List.range e.2.depth).filterMap fun j =>
    if e.2.tok (e.2.first + j) = .empty then none else some (e.2.first + j)

/-- The scratchpad spans saved: the live regions of R67 and the exact tiles, as offset and length. -/
def Res.savedSpans (x : Res) (limit : Nat) : List (Nat × Nat) :=
  ((List.range 40).filterMap fun i => if bits x.live i i = 1 ∧ (i + 1) * 32768 ≤ limit then some (i * 32768, 32768) else none) ++
  x.savedHandles.filterMap fun t => (x.handles.find t).map fun h => (h.base, h.span)

/-- The accumulators saved: those whose bit of the live mask is set, bit 40 for a0 (R67). -/
def Res.liveAccs (x : Res) : List Nat := (List.range 4).filter fun a => bits x.live (40 + a) (40 + a) == 1

/-- The key of a saved resident: composition, slot and half. -/
def savedKey (c k half : Nat) : Nat := c * 65536 + 2 * k + half % 2

/-- The physical address of a half of save slot `k` of a composition, 0 where it has no bound partition: slot `k` stands in its partition k mod P,
counted from the partition's end (R322, R387). -/
def State.slotPlace (s : State) (c k half : Nat) : Nat :=
  let ps := s.partOwner.filterMap fun e => if e.2.comp = c ∧ (e.2.phase = .staying ∨ e.2.phase = .leaving) then some e.1 else none
  match ps.drop (k % ps.length) with
  | [] => 0
  | p :: _ => partBase (p / 6) (p % 6) + 0x10000000 - (k / ps.length + 1) * 0x180000 + half % 2 * 0xC0000

/-- The bytes that a saved resident takes of its slot: all 1.5 MiB, or the half that a resident with half a core takes (R322, R387). -/
def slotSize (limit : Nat) : Nat := if limit ≤ 0xA0000 then 0xC0000 else 0x180000

/-- The bytes that the device writes into a slot (R322; DESIGN CHOICE, log 17). -/
def slotImage (ctr n : Nat) : List Byte := (List.range n).map fun i => Config.slotByte ctr i

/-- A resident's state is written to its slot in near memory, under its context's key tag (R68, R322). -/
def State.saveSlot (s : State) (place sel n : Nat) : State :=
  if place = 0 then s else ({ s with freeCtr := s.freeCtr + 1 }.writePhys .fw sel place (slotImage s.freeCtr n)).s

/-- Save a resident at its tile boundary into a half of a slot (R68, R322). -/
def State.saveCore (s : State) (n r k half : Nat) : State :=
  let x := (s.core n r).giveBack
  let s := s.setCore n r x
  let q := (x.savedSpans (s.spLimit x.comp)).foldl (fun (acc : List (Nat × List Byte) × State) p =>
    let b := acc.2.spRead n r p.1 p.2
    (acc.1 ++ [(p.1, b.1)], b.2)) ([], s)
  let accs := x.liveAccs.filterMap fun a => (s.accIds n r a false).head?.map fun id => (a, s.acc id)
  let place := s.slotPlace x.comp k half
  let sv : Saved := { res := x, accs := accs, bytes := q.1, place := place, ctr := s.freeCtr }
  { q.2 with saved := q.2.saved.put (savedKey x.comp k half) sv }.saveSlot place (s.ctxSel x.ctx) (slotSize (s.spLimit x.comp))

/-! ## Overrun (R391) -/

/-- floor(2^32 ÷ w), and 0 for the weight 0 whose pass is not advanced (R383). -/
def strideOf (w : Nat) : Nat := if w = 0 then 0 else 2 ^ 32 / w

/-- Charge engine ticks to a context: to its pass and to its time (R383). -/
def State.charge (s : State) (ctx ticks : Nat) : State :=
  match s.ctxs.find ctx with
  | none => s
  | some c => { s with ctxs := s.ctxs.put ctx { c with pass := c.pass + ticks * strideOf c.weight, time := c.time + ticks } }

/-- Charge overrun as debt: to the pass and to SCH_CTX_OVR (R391). -/
def State.chargeDebt (s : State) (ctx ticks : Nat) : State :=
  match s.ctxs.find ctx with
  | none => s
  | some c => { s with ctxs := s.ctxs.put ctx { c with pass := c.pass + ticks * strideOf c.weight, overrun := c.overrun + ticks } }

/-- Whether composition `c` has a cyclic window open (R395). -/
def State.windowOpen (s : State) (c : Nat) : Bool := s.openWindows.any fun i => s.fld F.SCH_CYC_ENT_composition i == c

/-- The overrun of a resident at its boundary; a boundary after its window has closed counts in SCH_CYC_CFG too (R391, R396). -/
def State.boundaryDebt (s : State) (n r : Nat) (toward : StopTo) : State :=
  let x := s.core n r
  let late := s.dtOf (n / 8) - (x.stopAt + s.tileBudget x.comp)
  let s := s.when (decide (0 < late)) fun s => s.chargeDebt x.ctx late
  s.when (toward == .inPlace && !s.windowOpen x.comp && decide (0 < late)) fun s => s.bump F.SCH_CYC_CFG_overruns 0 1

/-! ## The boundary -/

/-- A resident that has saved or kept its state: its waits for flags are given up, its reservation request forgotten; a barrier it
has arrived at stays arrived. -/
def Res.halted (x : Res) (toward : StopTo) : Res :=
  { x with status := .stopped toward, asked := none, answer := none, wait := .none,
           syncOn := match x.headOf 9 with
             | some i => if i.atBarrier then x.syncOn else none
             | none => none }

/-- Whether the state of a resident has been spilled: it stands stopped with a save slot. -/
def Res.spilled (x : Res) : Option (Nat × Nat) :=
  match x.status with
  | .stopped (.slot k half) => some (k, half)
  | _ => none

/-- Where every core of a launch that spills into a spill set has saved or left, the launch is suspended and its lane free (R387 to R389); a
launch that has recorded its completion meanwhile saves nothing. A set's slots stand above the cores' own (R322). -/
def State.settleSpill (s : State) (c lane : Nat) : State :=
  match s.launches.find (laneKey c lane) with
  | none => s
  | some l =>
    let mine := l.cores.filter fun n => (s.core n lane).inLaunch && (s.core n lane).comp == c
    let slots := mine.filterMap fun n => (s.core n lane).spilled
    match slots with
    | [] => s
    | p :: rest =>
      if mine.length = slots.length ∧ slots.all fun p => decide (l.cores.length ≤ p.1) then
        let s := mine.foldl (fun s n => s.onCore n lane fun x => x.leave) s
        let first := rest.foldl (fun m p => min m p.1) p.1
        if l.recorded then
          { s with saved := slots.foldl (fun m p => m.del (savedKey c p.1 p.2)) s.saved, launches := s.launches.del (laneKey c lane) }
        else
          { s with suspended := s.suspended ++ [{ l with state := .suspended first }], launches := s.launches.del (laneKey c lane) }
      else s

/-- Reach the tile boundary: what R68 names is saved to the slot that the request names, or all stays in place, or the core leaves
its launch (R61, R65, R68, R396). -/
def State.reachBoundary (s : State) (n r : Nat) (toward : StopTo) : State :=
  let s := (((s.boundaryDebt n r toward).dropWatch n r).withdraw n r).makeVisible n r
  match toward with
  | .slot k half =>
    let x := s.core n r
    ((s.saveCore n r k half).onCore n r fun x => x.halted toward).settleSpill x.comp x.lane
  | .inPlace => s.onCore n r fun x => x.halted toward
  | .leave => s.leaveLaunch n r

/-- TILE_BOUNDARY_REACHED: a stopping resident has no started instruction left, and none in its sequencer that ends first (R65, R68, R90, R396). -/
def execTileBoundaryReached (n r : Nat) (s : State) : Out :=
  checked (coreOk n r)
    (let x := s.core n r
     match x.status with
     | .stopping toward => if x.started.isEmpty && !x.holdsBoundary then s.reachBoundary n r toward else s
     | _ => s)

/-! ## Resume (R69, R79, R83, R380, R388) -/

/-- The whole scratchpad of a resident as zeros under its context's selector, and its accumulators fresh (R380). -/
def State.clearResident (s : State) (n r : Nat) : State :=
  let x := s.core n r
  let s := s.spWrite n r 0 (zeros (s.spLimit x.comp))
  (List.range (if s.shared x.comp then 2 else 4)).foldl (fun s a =>
    (s.accIds n r a false).foldl (fun s id => s.setAcc id Acc.fresh) s) s

/-- R380's fill where the resident's last launch was of another context. -/
def State.zeroForContext (s : State) (n r ctx : Nat) : State :=
  let x := s.core n r
  if x.lastCtx = some ctx then s else (s.clearResident n r).onCore n r fun x => { x with lastCtx := some ctx }

/-- A list of free bytes. -/
def State.freeBytes (s : State) (k : Nat) : List Byte × State :=
  ((List.range k).map fun i => Config.freeValue 8 (s.freeCtr + i), { s with freeCtr := s.freeCtr + k })

/-- An accumulator element that a free value of 96 bits makes. -/
def freeElem (w : BitVec 96) : AccElem :=
  { v := signed w.toNat 80, reach := some (signed (bits w.toNat 91 80) 12), sat := bits w.toNat 92 92 == 1, nan := bits w.toNat 93 93 == 1,
    pinf := bits w.toNat 94 94 == 1, ninf := bits w.toNat 95 95 == 1 }

/-- An accumulator whose every element is free: what is undefined after a resume (R68). -/
def freeAcc (ctr : Nat) : Acc :=
  { elems := (List.range 4096).map fun i => (i, freeElem (Config.freeValue 96 (ctr + i))),
    phi := some (Config.freeValue 64 (ctr + 4096)).toInt }

/-- The bytes that no saved span covers are undefined after a resume: free values (R68). -/
def State.undefineRest (s : State) (n r : Nat) (spans : List (Nat × Nat)) : State :=
  let lim := s.spLimit (s.core n r).comp
  let covered (o : Nat) : Bool := spans.any fun p => decide (p.1 ≤ o) && decide (o < p.1 + p.2)
  let q := s.freeBytes lim
  (q.1.zip (List.range lim)).foldl (fun s p => if covered p.2 then s else s.spWrite n r p.2 [p.1]) q.2

/-- Whether a saved resident's slot still holds the bytes that the device wrote there (R322). -/
def State.slotIntact (s : State) (sv : Saved) (n : Nat) : Bool := sv.place == 0 || s.bytes sv.place n == slotImage sv.ctr n

/-- What is filled from a slot whose bytes are no longer the device's: registers, saved bytes and accumulators are free values (R322; DESIGN CHOICE,
log 17). -/
def State.corrupt (s : State) (sv : Saved) : Saved × State :=
  let g := (List.range 32).map fun i => if i = 0 then (0 : Word) else Config.freeValue 64 (s.freeCtr + i)
  let p := (List.range 8).map fun i => i == 0 || Config.freeValue 1 (s.freeCtr + 64 + i) == 1
  let q := sv.bytes.foldl (fun (acc : List (Nat × List Byte) × State) e =>
    let b := acc.2.freeBytes e.2.length
    (acc.1 ++ [(e.1, b.1)], b.2)) ([], { s with freeCtr := s.freeCtr + 72 })
  let accs := sv.accs.map fun e => (e.1, freeAcc (q.2.freeCtr + 8192 * e.1))
  ({ sv with res := { sv.res with file := { sv.res.file with g := g, p := p } }, bytes := q.1, accs := accs },
   { q.2 with freeCtr := q.2.freeCtr + 4 * 8192 })

/-- The saved state as its slot gives it. -/
def State.fromSlot (s : State) (sv : Saved) : Saved × State :=
  if s.slotIntact sv (slotSize (s.spLimit sv.res.comp)) then (sv, s) else s.corrupt sv

/-- Fill a resident from a saved state: its registers and queues as saved, dispatch running, the saved bytes and accumulators in
place, the rest undefined, the instruction cache invalidated (R69, R79, R83). Its recorded loads are replayed first. -/
def State.fillCore (s : State) (n r c : Nat) (sv : Saved) : State :=
  let q := s.fromSlot sv
  let sv := q.1
  let s := q.2.onCore n r fun x => { x with comp := c, ctx := sv.res.ctx, lane := r }
  let s := s.zeroForContext n r sv.res.ctx
  let x : Res := { sv.res with status := .running, comp := c, lane := r, lastCtx := some sv.res.ctx, stopReq := none, overrun := false }
  let s := s.setCore n r x
  let s := s.undefineRest n r (sv.bytes.map fun p => (p.1, p.2.length))
  let s := sv.bytes.foldl (fun s p => s.spWrite n r p.1 p.2) s
  let s := (List.range (if s.shared c then 2 else 4)).foldl (fun s a =>
    (s.accIds n r a false).foldl (fun s id =>
      match sv.accs.find a with
      | some v => s.setAcc id v
      | none => { s.setAcc id (freeAcc s.freeCtr) with freeCtr := s.freeCtr + 8192 }) s) s
  { s with icache := s.icache.del n }

/-! ## The instruction cache (R83, R95) -/

/-- The cached lines of core `n`, newest first. -/
def State.lines (s : State) (n : Nat) : List ICacheLine := s.icache.get n []

/-- Install a line: four ways of 128 sets; the oldest line of a full set goes (DESIGN CHOICE, log 23). -/
def installLine (ls : List ICacheLine) (l : ICacheLine) : List ICacheLine :=
  let ls := ls.filter fun k => !(k.tag == l.tag && k.va == l.va)
  let same (k : ICacheLine) : Bool := k.va / 64 % 128 == l.va / 64 % 128
  let set := (ls.filter same).take 3
  l :: (ls.filter fun k => !same k || set.contains k)

/-- Whether the line of an address stands in a core's cache under its context's tag. -/
def State.lineIn (s : State) (n tag va : Nat) : Bool := (s.lines n).any fun l => l.tag == tag && l.va == va / 64 * 64

/-- A resident's fetch of the line of its pc: it waits for its translation; a fault or failure raises FETCH_FAULT (R83, R95). -/
def State.fetchLine (s : State) (n r : Nat) : State :=
  let x := s.core n r
  let tag := s.ctxTag x.ctx
  let a := x.file.pc / 64 * 64
  let q := s.vread (s.scalarWho n r) (.virt (.load n) (.fetch r) tag) a 64 needX
  if q.wait then q.s
  else
    match q.fail with
    | some _ => q.s.seqFault n r fFetchFault
    | none => { q.s with icache := q.s.icache.put n (installLine (q.s.lines n) ⟨tag, a, q.data⟩) }

/-- ICACHE_LINE_FILL: the line that holds `va`, which the pc stands in and the cache does not hold, arrives and dispatch resumes; a pc that is no
multiple of 8 raises FETCH_ALIGN; a translation or permission fault, an integrity failure or a bus error (`ok` false) raises FETCH_FAULT (R83, R95). -/
def execIcacheLineFill (n r va : Nat) (ok : Bool) (s : State) : Out :=
  checked (coreOk n r)
    (let x := s.core n r
     if !s.canIssue n r then s
     else if x.file.pc % 8 ≠ 0 then s.seqFault n r fFetchAlign
     else if va / 64 ≠ x.file.pc / 64 || s.lineIn n (s.ctxTag x.ctx) va then s
     else if !ok then s.seqFault n r fFetchFault
     else s.fetchLine n r)

end Sys2Proof.Machine
end

