-- ==== Sys2Proof/Machine/Regulation.lean ====
section
/-! DEFINITION. Machine/Regulation.lean: pressure (R188, R190), reservations, their admission, grants and precedence (R192 to R197), the
guarantee monitor (R198, R199). -/
namespace Sys2Proof.Machine

/-! ## Pressure (R188, R190) -/

/-- The resource codes whose level a publisher feeds: a stack, far memory, or both directions of a port (R188, R193). -/
def pubCodes (pub : Nat) : List Nat := if pub < 24 then [pub] else if pub < 48 then [24] else [32 + (pub - 48) / 2, 40 + (pub - 48) / 2]

/-- A publisher's level takes effect everywhere. -/
def State.setLevel (s : State) (pub level : Nat) : State :=
  let s := { s with pressure := s.pressure.put pub (level, s.aon.dt) }
  (pubCodes pub).foldl (fun s c => s.setFld F.MEM_RES_STATUS_level c level) s

/-- PRESSURE_PUBLISH: a publisher sends min(7, floor(8 × occupied ÷ entries)) (R188). -/
def execPressurePublish (pub occ cap : Nat) (s : State) : Out :=
  checked (decide (pub < 64) && decide (0 < cap)) (s.setLevel pub (min 7 (8 * occ / cap)))

/-- PUBLISHER_STALE: a publisher whose level has not arrived for 256 ns counts as level 7 (R190). -/
def execPublisherStale (pub : Nat) (s : State) : Out :=
  checked (decide (pub < 64))
    (match s.pressure.find pub with
     | some p => if p.2 + 512 ≤ s.aon.dt then s.setLevel pub 7 else s
     | none => s.setLevel pub 7)

/-! ## Reservations (R192 to R196) -/

/-- Whether reservation entry `i` is admitted: ACTIVE or CUT. -/
def State.rsvLive (s : State) (i : Nat) : Bool := s.fld F.MEM_RSV_CFG_state i == 1 || s.fld F.MEM_RSV_CFG_state i == 2

/-- The admitted entries of a resource, in index order. -/
def State.rsvOf (s : State) (code : Nat) : List Nat :=
  (List.range 256).filter fun i => s.rsvLive i && s.fld F.MEM_RSV_CFG_resource i == code

/-- The reserved bandwidth of a resource. -/
def State.rsvSum (s : State) (code : Nat) : Nat := ((s.rsvOf code).map fun i => s.fld F.MEM_RSV_CFG_rate i).foldl (· + ·) 0

/-- Whether the cyclic table keeps composition `c`'s RT entries at 0 now: the table is in force, names the composition, and no
window of it is open (R395). -/
def State.outsideWindows (s : State) (c : Nat) : Bool :=
  s.fld F.SCH_CYC_CFG_enable 0 == 1 && !(s.openWindows.any fun i => s.fld F.SCH_CYC_ENT_composition i == c) &&
    (List.range 1024).any fun j =>
      let i := s.fld F.SCH_CYC_CFG_active 0 * 1024 + j
      s.fld F.SCH_CYC_ENT_valid i == 1 && s.fld F.SCH_CYC_ENT_composition i == c

/-- The guarantee-missed interrupt of entry `i` with a cause: an event for the owning function and a notice for management firmware
(R197). -/
def State.guarantee (s : State) (i cause : Nat) : State :=
  let c := s.fld F.MEM_RSV_CFG_composition i
  let s := s.noticeAll 4 (i + 256 * cause)
  match s.attached c with
  | some f => if s.fld F.MEM_RSV_CFG_transit i = 1 then s
              else s.raise f { kind := 4, status := cause, payload := i, dt := s.aon.dt, vector := 0 }
  | none => s

/-- Give entry `i` a grant: its state follows, and a change of state or of a cut grant is reported (R196, R197). -/
def State.grant (s : State) (i g : Nat) : State :=
  let old := s.fld F.MEM_RSV_CFG_granted i
  let was := s.fld F.MEM_RSV_CFG_state i
  let now := if g < s.fld F.MEM_RSV_CFG_rate i then 2 else 1
  let s := (s.setFld F.MEM_RSV_CFG_granted i g).setFld F.MEM_RSV_CFG_state i now
  if was ≠ now ∨ (now = 2 ∧ old ≠ g) then
    let s := s.guarantee i (if now = 2 then 0 else 1)
    let c := s.fld F.MEM_RSV_CFG_composition i
    (s.report 255 9 (if s.fld F.MEM_RSV_CFG_transit i = 1 then 0xFF else c) (engineCode 7 255) noCtx 0 0 i [] .none).1
  else s

/-- The GUAR entries of a list in order of precedence: ascending rank, then ascending index (R196). -/
def State.byRank (s : State) (is : List Nat) : List Nat :=
  (List.range 256).flatMap fun k => is.filter fun i => s.fld F.MEM_RSV_CFG_rank i == k

/-- Recompute the grants of a resource from a budget of floor(0.9 × derated) (R196). -/
def State.regrant (s : State) (code : Nat) : State :=
  let es := s.rsvOf code
  let rt := es.filter fun i => s.fld F.MEM_RSV_CFG_class i == 0
  let gu := s.byRank (es.filter fun i => s.fld F.MEM_RSV_CFG_class i == 1)
  let rtGrant (i : Nat) : Nat :=
    if s.fld F.MEM_RSV_CFG_transit i = 0 ∧ s.outsideWindows (s.fld F.MEM_RSV_CFG_composition i) then 0 else s.fld F.MEM_RSV_CFG_rate i
  let plan := rt.map fun i => (i, rtGrant i)
  let used := (plan.map (·.2)).foldl (· + ·) 0
  let budget := s.fld F.MEM_RES_STATUS_derated code * 9 / 10 - used
  let full := gu.foldl (fun (acc : List (Nat × Nat) × Nat) i =>
    let g := min (s.fld F.MEM_RSV_CFG_rate i) acc.2
    (acc.1 ++ [(i, g)], acc.2 - g)) (plan, budget)
  let total := (full.1.map (·.2)).foldl (· + ·) 0
  let s := full.1.foldl (fun s p => s.grant p.1 p.2) s
  (s.setFld F.MEM_RES_STATUS_granted code total).setFld F.MEM_RES_STATUS_reserved code (s.rsvSum code)

/-- Whether the code names a resource of R192. -/
def resourceOk (code : Nat) : Bool := decide (code ≤ 24) || (decide (32 ≤ code) && decide (code ≤ 47))

/-- Whether composition `c` holds a resource: a partition of the stack, far memory, or a share of the port (R195). -/
def State.holds (s : State) (c code : Nat) : Bool :=
  if code < 24 then s.partOwner.any fun e => e.1 / 6 == code && e.2.comp == c
  else if code = 24 then s.farOwner.any fun e => e.2.comp == c
  else (s.portShares c).any fun p => p.1 == code % 8

/-- Whether the request that entry `i` holds is admitted (R194, R195). -/
def State.admitOk (s : State) (i : Nat) : Bool :=
  let code := s.fld F.MEM_RSV_CFG_resource i
  decide (s.fld F.MEM_RSV_CFG_class i < 2) && resourceOk code &&
    decide (s.rsvSum code + s.fld F.MEM_RSV_CFG_rate i ≤ s.fld F.MEM_RES_STATUS_derated code * 9 / 10) &&
    (s.fld F.MEM_RSV_CFG_transit i == 1 || s.holds (s.fld F.MEM_RSV_CFG_composition i) code)

/-- Judge the request that entry `i`, neither ACTIVE nor CUT, holds: ACTIVE with its full rate, or REFUSED (R195). -/
def State.admitRsv (s : State) (i : Nat) : State :=
  if s.admitOk i then
    let s := ((s.setFld F.MEM_RSV_CFG_valid i 1).setFld F.MEM_RSV_CFG_state i 1).setFld F.MEM_RSV_CFG_granted i (s.fld F.MEM_RSV_CFG_rate i)
    s.regrant (s.fld F.MEM_RSV_CFG_resource i)
  else s.setFld F.MEM_RSV_CFG_state i 3

/-- The entries whose requests came at this DT, in order (R200). -/
def State.rsvNow (s : State) : List Nat := if s.rsvNew.1 = s.aon.dt then s.rsvNew.2 else []

/-- Entry `i` is not admitted, its request standing as written. -/
def State.unAdmit (s : State) (i : Nat) : State :=
  let s := (s.setFld F.MEM_RSV_CFG_state i 0).setFld F.MEM_RSV_CFG_granted i 0
  if resourceOk (s.fld F.MEM_RSV_CFG_resource i) then s.regrant (s.fld F.MEM_RSV_CFG_resource i) else s

/-- A release or a derate change comes before the admissions of the same DT: those already made are taken back, and judged again after it (R200). -/
def State.beforeAdmissions (s : State) (f : State → State) : State :=
  let is := s.rsvNow
  is.foldl (fun s i => s.admitRsv i) (f (is.foldl (fun s i => s.unAdmit i) s))

/-- RESERVATION_ADMISSION: a write of MEM_RSV_CFG with valid = 1 (R194, R195): ignored in ACTIVE or CUT; else admitted with its full
rate, or REFUSED. -/
def execReservationAdmission (i : Nat) (v : Word) (s : State) : Out :=
  checked (decide (i < 256))
    (if s.rsvLive i || F.MEM_RSV_CFG_valid.of v == 0 then s
     else
       let keep := v.toNat &&& 0x1CFFFFFCFFFF0000
       let s := { s with rsvNew := (s.aon.dt, (s.rsvNow.filter fun j => j != i) ++ [i]) }
       (s.setReg .MEM_RSV_CFG i (BitVec.ofNat 64 keep)).admitRsv i)

/-- Release entry `i` (R194, R196). -/
def State.releaseRsv (s : State) (i : Nat) : State :=
  let code := s.fld F.MEM_RSV_CFG_resource i
  let s := ((s.setFld F.MEM_RSV_CFG_valid i 0).setFld F.MEM_RSV_CFG_state i 0).setFld F.MEM_RSV_CFG_granted i 0
  if resourceOk code then s.regrant code else s

/-- RESERVATION_RELEASE: a write of MEM_RSV_CFG with valid = 0 releases the entry, and the regulator recomputes (R194, R196, R200). -/
def execReservationRelease (i : Nat) (s : State) : Out :=
  checked (decide (i < 256))
    ({ s with rsvNew := (s.rsvNew.1, s.rsvNew.2.filter fun j => j != i) }.beforeAdmissions fun s => s.releaseRsv i)

/-- The nominal bandwidth of a resource, in GB/s; the 819.2 of far memory as 819 (R192, R193). -/
def nominal (code : Nat) (degraded : Bool) : Nat := if code < 24 then 1500 else if code = 24 then 819 else if degraded then 392 else 448

/-- Device protection sets a resource's derate factor, in hundredths: the derated bandwidth and the grants follow (R192, R196, R200). -/
def State.setDerate (s : State) (code factor : Nat) (degraded : Bool) : State :=
  let d := if code = 24 then 8192 * factor / 1000 else nominal code degraded * factor / 100
  s.beforeAdmissions fun s => (s.setFld F.MEM_RES_STATUS_derated code d).regrant code

/-! ## The guarantee monitor (R198, R199) -/

/-- Judge one entry's window. -/
def State.judgeWindow (s : State) (w : WindowSample) : State :=
  let i := w.entry
  if !s.rsvLive i then s
  else
    let cap := s.fld F.MEM_RSV_CFG_rate i * 10000
    let s := s.setFld F.MEM_RSV_STAT_delivered i (min (w.delivered / 1024) (2 ^ 32 - 1))
    if s.fld F.MEM_RSV_CFG_class i = 1 then
      if w.delivered * 100 < 95 * min cap w.offered ∧ 1 ≤ w.offered then (s.bump F.MEM_RSV_STAT_misses i 1).guarantee i 2 else s
    else if cap < w.delivered then s.noticeAll 4 (i + 256 * 3)
    else s

/-- GUARANTEE_WINDOW: a window of 20,000 ticks, which starts at a multiple of 20,000, has ended and is judged once; entries not measured delivered
nothing, and of several measures of one entry the first counts (R198, R199). -/
def execGuaranteeWindow (samples : List WindowSample) (s : State) : Out :=
  checked (samples.all fun w => decide (w.entry < 256))
    (let now := s.aon.dt / 20000
     if now ≤ s.windowsJudged then s
     else
       (List.range 256).foldl (fun s i =>
         match samples.find? fun w => w.entry == i with
         | some w => s.judgeWindow w
         | none => if s.rsvLive i then s.setFld F.MEM_RSV_STAT_delivered i 0 else s) { s with windowsJudged := now })

end Sys2Proof.Machine
end

