-- ==== Sys2Proof/Machine/Dma.lean ====
section
/-! DEFINITION. Machine/Dma.lean: DMA channels (R201 to R219): chains and descriptors, pieces, index tables, watches, pulses, halts and the
actions that end them. -/
namespace Sys2Proof.Machine

/-! ## Channels -/

/-- A channel with no chain. -/
def DmaCh.init : DmaCh :=
  { descr := none, ctx := none, own := false, starter := none, fetching := false, slotWait := false, waitRecord := none, carried := [],
    movedAt := 0, headPhys := false, ahead := none, issued := 0, groups := [], ending := none }

/-- Channel `x` beside its registers. -/
def State.chan (s : State) (x : Nat) : DmaCh := s.chans.get x DmaCh.init

/-- The state with channel `x` replaced. -/
def State.setChan (s : State) (x : Nat) (c : DmaCh) : State := { s with chans := s.chans.set DmaCh.init x c }

/-- Channel states of DMA_CH_STATUS (R217). -/
def chUnbound : Nat := 0
/-- IDLE. -/
def chIdle : Nat := 1
/-- RUNNING. -/
def chRunning : Nat := 2
/-- WAITING. -/
def chWaiting : Nat := 3
/-- HALTED. -/
def chHalted : Nat := 4
/-- ENGINE_HALT. -/
def chEngineHalt : Nat := 5
/-- DRAINING. -/
def chDraining : Nat := 6

/-- Halt causes of DMA_CH_STATUS beyond the statuses of R160 (R217). -/
def haltFormat : Nat := 0x20
/-- DESC_FETCH. -/
def haltFetch : Nat := 0x21
/-- WAIT_SRC. -/
def haltWaitSrc : Nat := 0x22
/-- WAIT_BROKEN. -/
def haltWaitBroken : Nat := 0x23
/-- INDEX_PREFETCH. -/
def haltIndex : Nat := 0x30
/-- SQUASHED. -/
def haltSquashed : Nat := 0x31

/-- The state of channel `x`. -/
def State.chState (s : State) (x : Nat) : Nat := s.fld F.DMA_CH_STATUS_state x

/-- The state with channel `x` in a state. -/
def State.setChState (s : State) (x st : Nat) : State := s.setFld F.DMA_CH_STATUS_state x st

/-- The composition that channel `x` is bound to. -/
def State.chComp (s : State) (x : Nat) : Nat := s.fld F.DMA_CH_STATUS_composition x

/-- Whether a channel has stopped issuing requests: its work ends once those outstanding have completed, or its record waits (R214, R406). -/
def DmaCh.stopped (c : DmaCh) : Bool := c.ending.isSome || c.waitRecord.isSome

/-- The number of a channel's fault records' context. -/
def DmaCh.ctxNo (c : DmaCh) : Nat := c.ctx.getD noCtx

/-! ## Pulses and watches (R210 to R212) -/

/-- Whether a pulse of an engine goes into the half of a command processor that is asleep (R257). -/
def State.pulseHeld (s : State) (e p : Nat) : Bool := islEast e != islEast (cpIsl p) && s.asleep (islEast (cpIsl p))

/-- Emit a pulse of channel `x` to the command processor that started its chain, stamped by the engine's island (R210, R307); one into a half
asleep raises its wake and waits in the SYNC hold buffer (R257). -/
def State.pulse (s : State) (x status cause head pos : Nat) : State :=
  let (st, s) := s.stamp (x / 16)
  match (s.chan x).starter with
  | none => s
  | some p =>
    let s := s.when (s.pulseHeld (x / 16) p) fun s => s.seamWake (cpIsl p)
    { s with pulses := s.pulses ++ [{ x := x, cp := p, status := status, cause := cause, done := (s.reg .DMA_CH_DONE x).toNat,
                                      dt := st.1, head := head, pos := pos }] }

/-- A descriptor's sillage record, where its layer is nonzero (R210, R310). -/
def State.dmaTrace (s : State) (x kind layer operator : Nat) : State :=
  if layer = 0 then s
  else s.trace (x / 16) kind (s.chComp x) 0 layer operator (engineCode 1 x) (s.chan x).ctxNo 0

/-! ## Descriptors (R204 to R206) -/

/-- An unsigned field of a descriptor. -/
def Descr.u (d : Descr) (off n : Nat) : Nat := leNat ((d.bytes.drop off).take n)

/-- A signed 8-byte field of a descriptor. -/
def Descr.i (d : Descr) (off : Nat) : Int := signed (d.u off 8) 64

/-- The type of a descriptor. -/
def Descr.type (d : Descr) : Nat := d.u 0 1
/-- The flags byte. -/
def Descr.flags (d : Descr) : Nat := d.u 1 1
/-- Whether a flag bit is set. -/
def Descr.flag (d : Descr) (i : Nat) : Bool := bits d.flags i i == 1
/-- L of R205. -/
def Descr.len (d : Descr) : Nat := d.u 4 4

/-- The 8-byte and smaller fields that a type does not use: offset and length (R204, R205). -/
def Descr.unused (d : Descr) : List (Nat × Nat) :=
  let index := [(0x40, 8), (0x48, 4), (0x4C, 1)]
  let plane := [(0x1C, 4), (0x30, 8), (0x38, 8)]
  let row := [(0x18, 4), (0x20, 8), (0x28, 8)]
  match d.type with
  | 0 => [(4, 4), (8, 8), (0x10, 8)] ++ row ++ plane ++ index
  | 1 => row ++ plane ++ index
  | 2 => plane ++ index
  | 3 => index
  | _ => row ++ plane

/-- The fields that are zero in every descriptor. -/
def zeroFields : List (Nat × Nat) := [(2, 2), (0x4D, 3), (0x5A, 6), (0x66, 2), (0x70, 16)]

/-- Whether the fields of a descriptor lie in their ranges (R204, R205); addresses have 52 bits, or 48 with phys (R206). -/
def Descr.inRange (d : Descr) : Bool :=
  let top := if d.flag 5 then 2 ^ 48 else 2 ^ 52
  let small (off : Nat) : Bool := decide (d.u off 8 < top)
  let one (off : Nat) (m : Nat) : Bool := decide (1 ≤ d.u off 4) && decide (d.u off 4 ≤ m)
  let lenOk := match d.type with
    | 0 => true
    | 1 => decide (1 ≤ d.len)
    | 2 | 3 => decide (1 ≤ d.len) && decide (d.len ≤ 2 ^ 24)
    | _ => decide (1 ≤ d.len) && decide (d.len ≤ 65536)
  let rowsOk := match d.type with
    | 2 => one 0x18 (2 ^ 24)
    | 3 => one 0x18 (2 ^ 24) && one 0x1C (2 ^ 24)
    | 4 | 5 => one 0x48 (2 ^ 32 - 1) && decide (d.u 0x4C 1 ≤ 16) && d.u 0x40 8 % 64 == 0 && small 0x40
    | _ => true
  lenOk && rowsOk && small 8 && small 0x10 && decide (d.u 0x58 2 < 1344) && (d.flag 2 || small 0x68)

/-- Whether a descriptor passes R206, in a chain of this context and kind. -/
def State.descrOk (s : State) (c : DmaCh) (d : Descr) : Bool :=
  let rt := match c.ctx with
    | some k => ((s.ctxs.find k).map (·.rt)).getD false
    | none => true
  decide (d.type ≤ 5) && (zeroFields ++ d.unused).all (fun f => d.u f.1 f.2 == 0) && bits d.flags 7 6 == 0 && d.inRange &&
    (bits d.flags 4 3 != 0 || rt) && (!d.flag 5 || c.own)

/-- The number of pieces of a descriptor (R205). -/
def Descr.total (d : Descr) : Nat :=
  match d.type with
  | 0 => 0
  | 1 => (d.u 0x10 8 % 4096 + d.len + 4095) / 4096
  | 2 => d.u 0x18 4
  | 3 => d.u 0x18 4 * d.u 0x1C 4
  | _ => d.u 0x48 4

/-- A piece: its source, none where zeros are written, its destination, none where nothing is written, its length. -/
structure DmaPiece where
  src : Option Nat
  dst : Option Nat
  len : Nat
  deriving DecidableEq, Repr

/-- An address moved by a signed step, modulo 2^64. -/
def stepAddr (a : Nat) (d : Int) : Nat := (((a : Int) + d) % 2 ^ 64).toNat

/-- Piece `k` of a descriptor, with index entry `idx` where its type has one (R205, R207). -/
def Descr.piece (d : Descr) (k idx : Nat) : DmaPiece :=
  let src := d.u 8 8
  let dst := d.u 0x10 8
  let u := 2 ^ d.u 0x4C 1
  match d.type with
  | 1 =>
    let lo := if k = 0 then dst else (dst / 4096 + k) * 4096
    let hi := min ((dst / 4096 + k + 1) * 4096) (dst + d.len)
    ⟨some (src + (lo - dst)), some lo, hi - lo⟩
  | 2 => ⟨some (stepAddr src (k * d.i 0x20)), some (stepAddr dst (k * d.i 0x28)), d.len⟩
  | 3 =>
    let i1 : Int := k % d.u 0x18 4
    let i2 : Int := k / d.u 0x18 4
    ⟨some (stepAddr src (i1 * d.i 0x20 + i2 * d.i 0x30)), some (stepAddr dst (i1 * d.i 0x28 + i2 * d.i 0x38)), d.len⟩
  | 4 => ⟨if idx = 0xFFFFFFFF then none else some (src + idx * u), some (dst + k * d.len), d.len⟩
  | 5 => if idx = 0xFFFFFFFF then ⟨none, none, 0⟩ else ⟨some (src + k * d.len), some (dst + idx * u), d.len⟩
  | _ => ⟨none, none, 0⟩

/-! ## Accesses of a channel (R202, R205, R206, R218) -/

/-- The class of a descriptor's transfers (R204, R205). -/
def Descr.cls (d : Descr) : Nat := bits d.flags 4 3

/-- Whether a descriptor's addresses are physical (R206). -/
def Descr.phys (d : Descr) : Bool := d.flag 5

/-- The address-space tag of a channel's chain: its context's; management firmware's tag 0 for its own work (R203, R206, R221). -/
def State.chanTag (s : State) (x : Nat) : Nat :=
  match (s.chan x).ctx with
  | some c => s.ctxTag c
  | none => 0

/-- The space of the accesses of a requester of channel `x`: physical with selector 0, or the engine's micro-TLB (R202, R206). -/
def State.chanSpace (s : State) (x : Nat) (phys : Bool) (q : Requester) : Space :=
  if phys then .phys 0 else .virt (.eng (x / 16)) q (s.chanTag x)

/-- The requester of an access for channel `x`: it carries its composition and epoch (R162, R218). -/
def State.chanWho (s : State) (x : Nat) (own : Owner) (cls : Nat) : Who := ⟨own, some (s.chComp x), s.epochOf (s.chComp x), cls⟩

/-! ## Halts and ends (R214, R216, R406) -/

/-- A channel enters HALTED with its cause; one that drains stays DRAINING (R214, R218). -/
def State.enterHalted (s : State) (x cause : Nat) : State :=
  let s := s.when (s.chState x != chDraining) fun s => s.setChState x chHalted
  (s.setFld F.DMA_CH_STATUS_cause x cause).setChan x { s.chan x with waitRecord := none }

/-- Latch the first failing request: address, direction, whether physical (R214). -/
def State.latchFail (s : State) (x addr : Nat) (write phys : Bool) : State :=
  ((s.setFld F.DMA_CH_FAIL_addr x (addr % 2 ^ 52)).setFld F.DMA_CH_FAIL_dir x write.toNat).setFld F.DMA_CH_FAIL_phys x phys.toNat

/-- The first piece of the descriptor that is not complete: the first with a write in a commit group that is not DONE, else the first that has not
been issued (R210, R217). -/
def State.firstOpen (s : State) (x : Nat) : Nat :=
  ((s.chan x).groups.filter fun g => s.ledger.any fun e => e.2.seq == g.1 && e.2.state != 4).foldl (fun m g => min m g.2.1) (s.chan x).issued

/-- DMA_CH_POS shows the first piece that is not complete (R217). -/
def State.showPos (s : State) (x : Nat) : State := s.setReg .DMA_CH_POS x (BitVec.ofNat 64 (s.firstOpen x))

/-- Whether an outstanding request is one of channel `x`. -/
def ofChan (x : Nat) (o : Owner) : Bool := o == .dmaPiece x || o == .descFetch x

/-- Whether every outstanding request of channel `x` has completed, its remote writes' groups included (R214 step 2). -/
def State.chanQuiet (s : State) (x : Nat) : Bool := s.outst.all (fun e => !ofChan x e.2.req.owner) && s.groupsClosed (ownerDma x)

/-- Write the record of a halt, and enter HALTED once it needs to wait no longer (R214, R406). -/
def State.haltNow (s : State) (x cause addr : Nat) : State :=
  let q := s.report (x / 16) 2 (s.chComp x) (engineCode 1 x) (s.chan x).ctxNo addr (s.reg .DMA_CH_POS x).toNat cause [] (.chan x)
  if q.2 then q.1.enterHalted x cause else q.1.setChan x { q.1.chan x with waitRecord := some cause }

/-- What channel `x` has to do before its work ends: nothing more is issued, its open commit group closes, and what is outstanding counts for nothing
(R214 steps 1 and 2, R216). -/
def State.stopIssue (s : State) (x : Nat) (e : ChanEnd) : State :=
  let s := s.commitOwner (ownerDma x)
  let mark (o : Outstanding) : Outstanding := if ofChan x o.req.owner then { o with discarded := true } else o
  { s.setChan x { s.chan x with ending := some e } with outst := s.outst.map fun e => (e.1, mark e.2) }

/-- A stopped channel that halts does so once its outstanding requests have completed (R214). -/
def State.settleHalt (s : State) (x : Nat) : State :=
  match (s.chan x).ending with
  | some (.halt cause addr) =>
    if s.chanQuiet x then ((s.freeClosed (ownerDma x)).setChan x { s.chan x with ending := none, groups := [] }).haltNow x cause addr else s
  | _ => s

/-- Halt a channel: it stops issuing, its position is latched, and it halts once its outstanding requests have completed (R214). -/
def State.haltChan (s : State) (x cause addr pos : Nat) : State :=
  ((s.stopIssue x (.halt cause addr)).setReg .DMA_CH_POS x (BitVec.ofNat 64 pos)).settleHalt x

/-! ## The period of single service (R215) -/

/-- The channels of an engine that R215 step 5 still serves one at a time. -/
def State.serialOf (s : State) (e : Nat) : List (Nat × Nat) := s.indexSerial.get e []

/-- Channel `x` needs no separate service any more. -/
def State.serialDone (s : State) (x : Nat) : State :=
  let l := (s.serialOf (x / 16)).filter fun p => p.1 != x
  { s with indexSerial := if l.isEmpty then s.indexSerial.del (x / 16) else s.indexSerial.put (x / 16) l }

/-! ## Running a descriptor -/

/-- Begin to move a descriptor's data from DMA_CH_POS on: RUNNING, with its BEGIN record (R210, R216). -/
def State.beginMove (s : State) (x : Nat) (d : Descr) : State :=
  let s := s.setChState x chRunning
  (s.setChan x { s.chan x with movedAt := s.aon.dt, issued := (s.reg .DMA_CH_POS x).toNat, groups := [] }).dmaTrace x 1 (d.u 0x60 4) (d.u 0x64 2)

/-- The channel that a descriptor of channel `x` waits on: the one it names, or the one that now carries that one's chain (R212, R334). -/
def State.waitSrc (s : State) (x : Nat) (d : Descr) : Nat := (s.chan x).carried.get (d.u 0x58 2) (d.u 0x58 2)

/-- Whether the value that a descriptor awaits has been reached (R212). -/
def State.waitMet (s : State) (x : Nat) (d : Descr) : Bool := decide (d.u 0x50 8 ≤ (s.reg .DMA_CH_DONE (s.waitSrc x d)).toNat)

/-- A descriptor that waits arms its watch at the source's engine, or moves at once where the value is reached (R212). -/
def State.armWatch (s : State) (x : Nat) (d : Descr) : State :=
  let src := s.waitSrc x d
  if (s.chanOwner.find src).map (·.comp) ≠ some (s.chComp x) then s.haltChan x haltWaitSrc 0 (s.reg .DMA_CH_POS x).toNat
  else if s.waitMet x d then (s.setChan x { s.chan x with slotWait := false }).beginMove x d
  else if 32 ≤ (s.watches.filter fun w => w.src / 16 == src / 16).length then
    (s.setChState x chWaiting).setChan x { s.chan x with slotWait := true }
  else
    let s := (s.setChState x chWaiting).setChan x { s.chan x with slotWait := false }
    { s with watches := s.watches ++ [{ src := src, waiter := x, value := d.u 0x50 8 }] }

/-- Start the descriptor that a channel holds at its position: wait first where its flag says so (R212, R216). -/
def State.startDescr (s : State) (x : Nat) (d : Descr) : State := if d.flag 1 then s.armWatch x d else s.beginMove x d

/-- Release every waiter whose watch on channel `x` holds now (R212). -/
def State.releaseWatches (s : State) (x : Nat) : State :=
  let done := (s.reg .DMA_CH_DONE x).toNat
  let hit := s.watches.filter fun w => w.src == x && decide (w.value ≤ done)
  let s := { s with watches := s.watches.filter fun w => !(w.src == x && decide (w.value ≤ done)) }
  hit.foldl (fun s w =>
    match (s.chan w.waiter).descr with
    | some d => if s.chState w.waiter = chWaiting then s.beginMove w.waiter d else s
    | none => s) s

/-- Break the watches on channel `x`: their waiters halt with WAIT_BROKEN (R212, R216, R218). -/
def State.breakWatches (s : State) (x : Nat) : State :=
  let hit := s.watches.filter fun w => w.src == x
  let s := { s with watches := s.watches.filter fun w => w.src != x }
  hit.foldl (fun s w => if s.chState w.waiter = chWaiting then s.haltChan w.waiter haltWaitBroken 0 (s.reg .DMA_CH_POS w.waiter).toNat else s) s

/-- Take away the watch that channel `x` itself has armed. -/
def State.dropOwnWatch (s : State) (x : Nat) : State := { s with watches := s.watches.filter fun w => w.waiter != x }

/-- Increment DMA_CH_DONE and compare the watches (R210, R212). -/
def State.incrDone (s : State) (x : Nat) : State := (s.setReg .DMA_CH_DONE x (s.reg .DMA_CH_DONE x + 1#64)).releaseWatches x

/-- Return a channel to IDLE with no chain. -/
def State.chanIdle (s : State) (x : Nat) : State := (s.setChState x chIdle).setChan x DmaCh.init

/-- The channel stands before the descriptor at an address, physical or not, with no piece of it complete. -/
def State.aimAt (s : State) (x addr : Nat) (phys : Bool) : State :=
  let s := (s.setFld F.DMA_CH_HEAD_addr x (addr % 2 ^ 52)).setReg .DMA_CH_POS x 0#64
  s.setChan x { s.chan x with descr := none, fetching := true, slotWait := false, movedAt := s.aon.dt, headPhys := phys, ahead := none, issued := 0,
                              groups := [] }

/-- Ask for the descriptor at an address. -/
def State.fetchDescr (s : State) (x addr : Nat) (phys : Bool) : State := (s.setChState x chRunning).aimAt x addr phys

/-- The fetch of the current descriptor has failed: DESC_FETCH (R203, R214). -/
def State.fetchFailed (s : State) (x : Nat) : State :=
  let a := s.fld F.DMA_CH_HEAD_addr x
  ((s.setChan x { s.chan x with fetching := false }).latchFail x a false (s.chan x).headPhys).haltChan x haltFetch a 0

/-- The current descriptor has been read: DESC_FORMAT where R206 refuses it, else it waits or starts (R206, R212). -/
def State.takeDescr (s : State) (x : Nat) (b : List Byte) : State :=
  let a := s.fld F.DMA_CH_HEAD_addr x
  let d : Descr := ⟨a, b⟩
  let s := s.setChan x { s.chan x with descr := some d, fetching := false }
  if s.descrOk (s.chan x) d then s.startDescr x d else s.haltChan x haltFormat a (s.reg .DMA_CH_POS x).toNat

/-- Go on after the current descriptor: at next, which may have been fetched already, or IDLE where last is set or none was read; a channel that drains
starts nothing (R203, R210, R216, R218). -/
def State.nextDescr (s : State) (x : Nat) : State :=
  let draining := decide (s.chState x = chDraining)
  match (s.chan x).descr with
  | none => s.chanIdle x
  | some d =>
    if d.flag 2 then (if draining then s.setChan x DmaCh.init else s.chanIdle x)
    else if draining then s.aimAt x (d.u 0x68 8) d.phys
    else
      let got := (s.chan x).ahead
      let s := s.fetchDescr x (d.u 0x68 8) d.phys
      match got with
      | none => s
      | some none => s.fetchFailed x
      | some (some b) => s.takeDescr x b

/-- Whether a write to the channel's HEAD comes from one that may start a chain (R203). -/
def mayStart (who : Accessor) : Bool :=
  match who with
  | .fn _ => false
  | .fw | .cp _ => true

/-- The command processor that an accessor is. -/
def whoCp (who : Accessor) : Option Nat :=
  match who with
  | .cp p => some p
  | _ => none

/-- DMA_CHAIN_START: a command processor or management firmware writes DMA_CH_HEAD of an IDLE channel, for context `ctx` (2^32 − 1: its
own work); the channel asks for its first descriptor, of its own work by physical address (R203, R206; DEDUCED, log 18). A physical function's write
stores the address and starts no chain (R203, R217; DEDUCED, log 137). -/
def execDmaChainStart (who : Accessor) (x : Nat) (addr : Word) (ctx : Nat) (s : State) : Out :=
  checked (decide (x < 1344))
    (if s.chState x != chIdle || !s.domOn (x / 16) then s
     else if mayStart who then
       let s := s.setChan x { DmaCh.init with ctx := if ctx = noCtx then none else some ctx, own := ctx == noCtx, starter := whoCp who }
       s.fetchDescr x (F.DMA_CH_HEAD_addr.of addr) (ctx == noCtx)
     else if accPf who then s.setFld F.DMA_CH_HEAD_addr x (F.DMA_CH_HEAD_addr.of addr)
     else s)

/-- Whether an address holds a descriptor: near or far memory, 128-byte aligned (R203). -/
def descrAddrOk (a : Nat) : Bool :=
  a % 128 == 0 && match region a with
    | .near _ _ | .far _ => true
    | _ => false

/-- Read the descriptor at an address: 128 bytes in class BULK; `none` while it waits, else the bytes, or none in it where the fetch fails (R203). -/
def State.readDescr (s : State) (x a : Nat) (phys : Bool) : State × Option (Option (List Byte)) :=
  let w := s.chanWho x (.descFetch x) clsBulk
  let p := s.place (s.chanSpace x phys .desc) a needR
  match p.2 with
  | .waits => (p.1, none)
  | .transFault | .permFault => (p.1, some none)
  | .ok pa leaf =>
    if !descrAddrOk pa then (p.1, some none)
    else
      match p.1.pieceWait w (leafSel leaf) pa 128 false with
      | some t => (t, none)
      | none =>
        let r := p.1.readAny w (leafSel leaf) pa 128
        (r.s, some (if r.st = .ok then some r.data else none))

/-- Whether a channel may fetch the next descriptor while the current one runs (R203). -/
def State.mayFetchNext (s : State) (x : Nat) (d : Descr) : Bool :=
  !d.flag 2 && (s.chan x).ahead.isNone && (s.chState x == chRunning || s.chState x == chWaiting)

/-- DESCRIPTOR_FETCH_DONE: a descriptor fetch ends with a status. Of the current descriptor: DESC_FETCH where it fails, DESC_FORMAT where R206 refuses
it, else the descriptor waits or starts (R203, R206, R212). Of the next one, while the current one runs: it is held until the current one is complete
(R203). -/
def execDescriptorFetchDone (x : Nat) (st : MemStatus) (s : State) : Out :=
  checked (decide (x < 1344))
    (let c := s.chan x
     if c.stopped then s
     else if c.fetching then
       if s.chState x != chRunning then s
       else if st ≠ .ok then s.fetchFailed x
       else
         let q := s.readDescr x (s.fld F.DMA_CH_HEAD_addr x) c.headPhys
         match q.2 with
         | none => q.1
         | some none => q.1.fetchFailed x
         | some (some b) => q.1.takeDescr x b
     else
       match c.descr with
       | none => s
       | some d =>
         if !s.mayFetchNext x d then s
         else if st ≠ .ok then s.setChan x { c with ahead := some none }
         else
           let q := s.readDescr x (d.u 0x68 8) d.phys
           match q.2 with
           | none => q.1
           | some r => q.1.setChan x { q.1.chan x with ahead := some r })

/-! ## The index prefetcher (R207, R209, R215) -/

/-- The channels of engine `e`. -/
def chansOf (e : Nat) : List Nat := (List.range 16).map fun j => 16 * e + j

/-- Whether a channel runs a GATHER or SCATTER. -/
def State.usesIndex (s : State) (x : Nat) : Bool :=
  s.chState x == chRunning && !(s.chan x).stopped && (((s.chan x).descr.map fun d => d.type == 4 || d.type == 5).getD false)

/-- An index line of engine `e` has failed: index_halt, the line, and ENGINE_HALT for every channel neither UNBOUND nor IDLE nor already
HALTED; the positions of those that read an index table are kept for the service of one channel at a time (R215; DEDUCED, log 137). -/
def State.indexFail (s : State) (e line : Nat) : State :=
  let s := (s.setFld F.DMA_ENG_STATUS_index_halt e 1).setFld F.DMA_ENG_STATUS_line e (line % 2 ^ 52)
  let hit := (chansOf e).filter fun x => s.chState x == chRunning || s.chState x == chWaiting || s.chState x == chDraining
  let served := (hit.filter fun x => s.usesIndex x).map fun x => (x, (s.chan x).issued)
  let mark (o : Outstanding) : Outstanding := if hit.any fun x => ofChan x o.req.owner then { o with discarded := true } else o
  let s := hit.foldl (fun s x => ((s.commitOwner (ownerDma x)).showPos x).setChState x chEngineHalt) s
  { s with indexSerial := if served.isEmpty then s.indexSerial.del e else s.indexSerial.put e served, outst := s.outst.map fun e => (e.1, mark e.2),
           watches := s.watches.filter fun w => !hit.contains w.waiter }

/-- The address of a descriptor's index entry `k` (R207). -/
def Descr.entryAt (d : Descr) (k : Nat) : Nat := d.u 0x40 8 + 4 * k

/-- The address space of a channel's index table: none for physical. -/
def State.idxSpace (s : State) (x : Nat) (d : Descr) : Option Nat := if d.phys then none else some (s.chanTag x)

/-- The lines that an engine's prefetcher holds. -/
def State.idxBuf (s : State) (e : Nat) : List IdxLine := s.idxLines.get e []

/-- The held line that has an entry of channel `x`'s table; two channels of one address space share it (R209). -/
def State.idxLine (s : State) (x : Nat) (d : Descr) (line : Nat) : Option IdxLine :=
  (s.idxBuf (x / 16)).find? fun l => l.comp == s.chComp x && l.space == s.idxSpace x d && l.line == line

/-- The index entry of piece `k` where its line has arrived; 0 for the types that have none (R207, R209). -/
def State.idxEntry (s : State) (x : Nat) (d : Descr) (k : Nat) : Option Nat :=
  if d.type = 4 ∨ d.type = 5 then
    let a := d.entryAt k
    (s.idxLine x d (a / 256 * 256)).map fun l => leNat ((l.data.drop (a % 256)).take 4)
  else some 0

/-- A channel's share of the buffer of 2,048 entries, of which it reads at most 256 ahead (R209). -/
def State.idxShare (s : State) (e : Nat) : Nat := min 256 (2048 / max 1 ((chansOf e).filter fun x => s.usesIndex x).length)

/-- The channel that the prefetcher serves in the period of R215 step 5: the lowest that it still has to serve, else the lowest that runs a GATHER or
SCATTER. -/
def State.served (s : State) (e : Nat) : Option Nat :=
  ((chansOf e).find? fun x => s.usesIndex x && (s.serialOf e).any fun p => p.1 == x).or ((chansOf e).find? fun x => s.usesIndex x)

/-- The lines that the prefetcher reads for channel `x`: those of the entries from its current piece on, as far as it reads ahead (R209). -/
def State.idxWants (s : State) (x : Nat) : List Nat :=
  match (s.chan x).descr with
  | none => []
  | some d =>
    let k := (s.chan x).issued
    let n := min (d.u 0x48 4) (k + s.idxShare (x / 16))
    let mine := s.usesIndex x && ((s.serialOf (x / 16)).isEmpty || s.served (x / 16) == some x)
    if !mine || decide (n ≤ k) then [] else
    let lo := d.entryAt k / 256
    let hi := d.entryAt (n - 1) / 256
    (List.range (hi - lo + 1)).map fun i => (lo + i) * 256

/-- The channel for which the prefetcher of engine `e` reads a line: the lowest that wants it and does not hold it. -/
def State.idxFor (s : State) (e line : Nat) : Option Nat :=
  (chansOf e).find? fun x => (s.idxWants x).contains line && (((s.chan x).descr.map fun d => (s.idxLine x d line).isNone).getD false)

/-- A line that failed: alone in the period of R215 step 5, when only its requester halts, else for the whole engine. -/
def State.lineFailed (s : State) (e line x : Nat) : State :=
  if (s.serialOf e).isEmpty then s.indexFail e line
  else
    let phys := ((s.chan x).descr.map fun d => d.phys).getD false
    ((s.latchFail x line false phys).serialDone x).haltChan x haltIndex line (s.chan x).issued

/-- The prefetcher takes a line in; lines that no channel wants any more make room (R209). -/
def State.keepLine (s : State) (e : Nat) (l : IdxLine) : State :=
  let wanted (k : IdxLine) : Bool := (chansOf e).any fun x =>
    s.chComp x == k.comp && (((s.chan x).descr.map fun d => s.idxSpace x d == k.space).getD false) && (s.idxWants x).contains k.line
  let rest := (s.idxBuf e).filter wanted
  if 32 ≤ rest.length then s else { s with idxLines := s.idxLines.put e (rest ++ [l]) }

/-- INDEX_LINE_ARRIVE: a line that the index prefetcher of engine `e` reads ahead for a channel arrives, or fails (R209, R215); one that no channel wants
is nothing. -/
def execIndexLineArrive (e line : Nat) (st : MemStatus) (s : State) : Out :=
  checked (decide (e < 84))
    (match s.idxFor e line with
     | none => s
     | some x =>
       if s.fld F.DMA_ENG_STATUS_index_halt e = 1 then s
       else if st ≠ .ok then s.lineFailed e line x
       else
         let phys := ((s.chan x).descr.map fun d => d.phys).getD false
         let q := s.vread (s.chanWho x (.indexLine e line) clsBulk) (s.chanSpace x phys .index) line 256 needR
         if q.wait then q.s
         else if q.fail.isSome then q.s.lineFailed e line x
         else q.s.keepLine e ⟨s.chComp x, if phys then none else some (s.chanTag x), line, q.data⟩)

/-- INDEX_HALT_RECOVERY: management firmware writes a record for each composition with a channel in ENGINE_HALT and clears index_halt;
those channels enter HALTED (R215). -/
def execIndexHaltRecovery (e : Nat) (s : State) : Out :=
  checked (decide (e < 84))
    (let hit := (chansOf e).filter fun x => s.chState x == chEngineHalt
     if s.fld F.DMA_ENG_STATUS_index_halt e = 0 ∧ hit.isEmpty then s
     else
       let comps := (List.range 64).filter fun c => hit.any fun x => s.chComp x == c
       let line := s.fld F.DMA_ENG_STATUS_line e
       let s := comps.foldl (fun s c => (s.report e 3 c (engineCode 3 e) noCtx line 0 0 [] (.engine e)).1) s
       let s := hit.foldl (fun s x =>
         if (s.chanOwner.find x).map (·.phase) = some .leaving then s.setChState x chDraining else s.enterHalted x haltIndex) s
       s.setFld F.DMA_ENG_STATUS_index_halt e 0)

/-! ## Moving the pieces (R205, R208, R214) -/

/-- How moving pieces ended: all moved; waiting at a piece, for an index line (R209), a translation, remote data or a half that wakes; a failure at a
piece, with its address and direction. -/
inductive MoveEnd where
  | done
  | waits (k : Nat)
  | failed (k cause addr : Nat) (write : Bool)
  deriving DecidableEq, Repr

/-- The physical address of a byte that a descriptor names, as the mirror translates it now. -/
def State.physOf (s : State) (x : Nat) (d : Descr) (a : Nat) : Option Nat :=
  if d.phys then some a else (s.walk (s.chanTag x) a).map fun e => leafPage e.leaf + (a - e.va)

/-- The physical spans of `n` bytes from `a`, cut at 64 KiB; `fuel` counts them. -/
def State.physSpans (s : State) (x : Nat) (d : Descr) (fuel a n : Nat) : List (Nat × Nat) :=
  match fuel with
  | 0 => []
  | f + 1 =>
    if n = 0 then []
    else
      let m := min n (65536 - a % 65536)
      ((s.physOf x d a).map fun p => (p, m)).toList ++ s.physSpans x d f (a + m) (n - m)

/-- Index entry `k` as memory holds it now. -/
def State.idxNow (s : State) (x : Nat) (d : Descr) (k : Nat) : Nat :=
  if d.type = 4 ∨ d.type = 5 then ((s.physOf x d (d.entryAt k)).map fun p => leNat (s.bytes p 4)).getD 0 else 0

/-- The physical spans of every source of a descriptor (R208). -/
def State.sources (s : State) (x : Nat) (d : Descr) : List (Nat × Nat) :=
  (List.range d.total).flatMap fun k =>
    let p := d.piece k (s.idxNow x d k)
    match p.src with
    | some a => s.physSpans x d (pagesOf a p.len) a p.len
    | none => []

/-- The bytes of a write of at most 256 bytes as they are written: free where they overlap a source of the descriptor (R208). -/
def State.overlapBytes (s : State) (x : Nat) (d : Descr) (srcs : List (Nat × Nat)) (a : Nat) (data : List Byte) : List Byte × State :=
  match s.physOf x d a with
  | none => (data, s)
  | some p =>
    let hit (i : Nat) : Bool := srcs.any fun q => decide (q.1 ≤ p + i) && decide (p + i < q.1 + q.2)
    if (List.range data.length).any hit then
      (data.zipIdx.map fun b => if hit b.2 then Config.freeValue 8 (s.freeCtr + b.2) else b.1, { s with freeCtr := s.freeCtr + data.length })
    else (data, s)

/-- The commit group that a write of piece `k` has joined is noted with the first such write (R210, R214). -/
def State.noteGroup (s : State) (x k a : Nat) : State :=
  match s.openGroup (ownerDma x) with
  | none => s
  | some (_, g) =>
    if (s.chan x).groups.any fun e => e.1 == g.seq then s else s.setChan x { s.chan x with groups := (s.chan x).groups ++ [(g.seq, k, a)] }

/-- Write a piece in requests of at most 256 bytes that lie within 256 aligned bytes (R202); the first failure ends it. `fuel` counts requests. -/
def State.writePiece (s : State) (x : Nat) (d : Descr) (srcs : List (Nat × Nat)) (fuel k a : Nat) (data : List Byte) : State × Option MemFail :=
  match fuel with
  | 0 => (s, none)
  | f + 1 =>
    if data.isEmpty then (s, none)
    else
      let m := min data.length (256 - a % 256)
      let o := s.overlapBytes x d srcs a (data.take m)
      let w := o.2.vwrites (s.chanWho x (.dmaPiece x) d.cls) (s.chanSpace x d.phys (.chan x)) 1 a o.1 needW
      match w.fail with
      | some e => (w.s, some e)
      | none => (w.s.noteGroup x k a).writePiece x d srcs f k (a + m) (data.drop m)

/-- Move one piece: read it, then write it; nothing of it while a part of it waits (R202, R205). A piece's reads are issued before its writes (DESIGN
CHOICE, log 134). -/
def State.movePiece (s : State) (x : Nat) (d : Descr) (srcs : List (Nat × Nat)) (k : Nat) (p : DmaPiece) : State × MoveEnd :=
  match p.dst with
  | none => (s, .done)
  | some b =>
    let w := s.chanWho x (.dmaPiece x) d.cls
    let sp := s.chanSpace x d.phys (.chan x)
    match s.vwaits w sp (unitsOf b p.len) b p.len needW with
    | some t => (t, .waits k)
    | none =>
      let r : VResult := match p.src with
        | some a => s.vread w sp a p.len needR
        | none => ⟨s, none, zeros p.len, false⟩
      if r.wait then (r.s, .waits k)
      else
        match r.fail with
        | some m => (r.s, .failed k m.cause m.addr false)
        | none =>
          let q := r.s.writePiece x d srcs (unitsOf b p.len) k b r.data
          match q.2 with
          | some m => (q.1, .failed k m.cause m.addr true)
          | none => (q.1, .done)

/-- Move pieces in ascending k from `k` on (R208): one whose index entry has not arrived stalls the channel (R209); the first that fails ends it
(R214). `fuel` counts pieces. -/
def State.movePieces (s : State) (x : Nat) (d : Descr) (srcs : List (Nat × Nat)) (fuel k : Nat) : State × MoveEnd :=
  match fuel with
  | 0 => (s, .done)
  | f + 1 =>
    match s.idxEntry x d k with
    | none => (s, .waits k)
    | some i =>
      let q := s.movePiece x d srcs k (d.piece k i)
      match q.2 with
      | .done => q.1.movePieces x d srcs f (k + 1)
      | e => (q.1, e)

/-- The pieces before `k` have been issued: DMA_CH_POS, and the end of single service once a line beyond the channel's is consumed (R215, R217). -/
def State.issuedTo (s : State) (x : Nat) (d : Descr) (k : Nat) : State :=
  let s := (s.setChan x { s.chan x with issued := k }).showPos x
  let beyond := (s.serialOf (x / 16)).any fun p => p.1 == x && decide (0 < k) && decide (d.entryAt p.2 / 256 < d.entryAt (k - 1) / 256)
  s.when beyond fun s => s.serialDone x

/-- The work of a completed descriptor: DONE, its pulse, its END record, and what follows it (R210). -/
def State.descrDone (s : State) (x : Nat) (d : Descr) : State :=
  let s := (s.incrDone x).serialDone x
  let s := s.when (d.flag 0) fun s => s.pulse x 0 0 0 0
  (s.dmaTrace x 2 (d.u 0x60 4) (d.u 0x64 2)).nextDescr x

/-- The first write of a descriptor in a group that has closed POISONED: its piece and address (R183, R214). -/
def State.poisonedAt (s : State) (x : Nat) : Option (Nat × Nat) :=
  match (s.chan x).groups.filter fun g => s.ledger.any fun e => e.2.seq == g.1 && e.2.state == 5 with
  | [] => none
  | g :: l => some ((l.foldl (fun (m : Nat × Nat × Nat) h => if h.2.1 < m.2.1 then h else m) g).2)

/-- A group of the descriptor has closed POISONED: its first write is the failing request (R183, R214). -/
def State.groupFailed (s : State) (x : Nat) (d : Descr) (k a : Nat) : State := (s.latchFail x a true d.phys).haltChan x 3 a k

/-- Every piece has been issued: the open group of remote writes closes, and the descriptor completes once every group is DONE (R179, R183, R210). -/
def State.settleDescr (s : State) (x : Nat) (d : Descr) : State :=
  let s := (s.issuedTo x d d.total).commitOwner (ownerDma x)
  if !s.groupsClosed (ownerDma x) then s.showPos x
  else
    match s.poisonedAt x with
    | some p => s.groupFailed x d p.1 p.2
    | none => (s.freeClosed (ownerDma x)).descrDone x d

/-- Move the pieces that are still to be issued, as far as they go (R205, R208, R209, R214). -/
def State.runDescr (s : State) (x : Nat) (d : Descr) : State :=
  let k := (s.chan x).issued
  let m := s.movePieces x d (s.sources x d) (d.total - k) k
  match m.2 with
  | .done => m.1.settleDescr x d
  | .waits k => m.1.issuedTo x d k
  | .failed k cause addr write => ((m.1.issuedTo x d k).latchFail x addr write d.phys).haltChan x cause addr k

/-- DESCRIPTOR_COMPLETE: the running descriptor's pieces are moved in order and are visible, and it completes; a piece that has to wait leaves it
running, a failing piece halts the channel; a channel that drains completes a descriptor whose pieces had all been issued
(R205, R208, R210, R214, R218). -/
def execDescriptorComplete (x : Nat) (s : State) : Out :=
  checked (decide (x < 1344))
    (match (s.chan x).descr with
     | none => s
     | some d =>
       let c := s.chan x
       let st := s.chState x
       if (st ≠ chRunning ∧ st ≠ chDraining) ∨ c.fetching ∨ c.stopped then s
       else
         match s.poisonedAt x with
         | some p => s.groupFailed x d p.1 p.2
         | none =>
           if st = chRunning then s.runDescr x d
           else if c.issued = d.total then s.settleDescr x d
           else s)

/-- EVENT_PULSE: the oldest pulse on its way to a command processor joins its wakes, where its domain is ON and fewer than 1,024 events are
held (R98, R211, R257); a flit that the fabric loses carries its pulse away (R262). -/
def execEventPulse (m : SyncMsg) (s : State) : Out :=
  let p := m.what
  checked (decide (p < 16))
    (match m.lost, s.pulses.find? fun u => u.cp == p with
     | _, none => s
     | some seg, some u => { s with pulses := s.pulses.erase u }.syncLost seg
     | none, some u =>
       let c := s.cp p
       let events := c.wakes.filter fun w => match w with
         | .event _ _ _ _ _ _ _ => true
         | _ => false
       if !s.domOn (cpIsl p) || c.reload || 1024 ≤ events.length then s
       else
         let s := { s with pulses := s.pulses.erase u }
         s.giveWake p (.event u.x u.status u.cause u.done u.dt u.head u.pos))

/-- WATCH_SLOT_RETRY: a waiter that found every watch slot in use tries again (R212). -/
def execWatchSlotRetry (x : Nat) (s : State) : Out :=
  checked (decide (x < 1344))
    (match (s.chan x).descr with
     | none => s
     | some d => if s.chState x = chWaiting ∧ (s.chan x).slotWait then s.armWatch x d else s)

/-! ## Ending a halt (R216) -/

/-- Whether an accessor may act on channel `x`: a command processor, management firmware, a physical function, or the function that
the channel's composition is attached to (R216, R217). -/
def State.mayAct (s : State) (who : Accessor) (x : Nat) : Bool :=
  match who with
  | .fw | .cp _ => true
  | .fn f => f % 64 == 0 || (s.chState x != chUnbound && s.attached (s.chComp x) == some f)

/-- Whether a channel halted with KEY_REFUSED halts again when it is resumed: as long as the context that owns its chain is there (R219). -/
def State.keyStands (s : State) (x : Nat) : Bool :=
  s.fld F.DMA_CH_STATUS_cause x == 7 && (((s.chan x).ctx.map fun k => (s.ctxs.find k).isSome).getD false)

/-- DMA_RESUME: the current descriptor starts again at its position (R216). -/
def execDmaResume (who : Accessor) (x : Nat) (s : State) : Out :=
  checked (decide (x < 1344))
    (if s.chState x = chHalted ∧ s.mayAct who x then
       match (s.chan x).descr with
       | some d =>
         if s.keyStands x then s.haltChan x 7 (s.fld F.DMA_CH_FAIL_addr x) (s.reg .DMA_CH_POS x).toNat
         else if s.descrOk (s.chan x) d then s.startDescr x d
         else s.haltChan x haltFormat d.addr (s.reg .DMA_CH_POS x).toNat
       | none => s.fetchDescr x (s.fld F.DMA_CH_HEAD_addr x) (s.chan x).headPhys
     else s)

/-- DMA_SKIP: the current descriptor is abandoned; DONE increments, a pulse with status FAILED leaves, the channel goes on (R216). -/
def execDmaSkip (who : Accessor) (x : Nat) (s : State) : Out :=
  checked (decide (x < 1344))
    (if s.chState x = chHalted ∧ s.mayAct who x then
       (((s.incrDone x).serialDone x).pulse x 1 (s.fld F.DMA_CH_STATUS_cause x) 0 0).nextDescr x
     else s)

/-- Discard the rest of a channel's chain: its outstanding requests have completed (R216). -/
def State.abortNow (s : State) (x : Nat) : State :=
  let s := (s.freeClosed (ownerDma x)).pulse x 2 (s.fld F.DMA_CH_STATUS_cause x) (s.fld F.DMA_CH_HEAD_addr x) (s.reg .DMA_CH_POS x).toNat
  (((s.breakWatches x).dropOwnWatch x).serialDone x).chanIdle x

/-- Record the chain of a channel whose outstanding requests have completed: it reports its descriptor with status ABORTED and cause 0x00 at its first
piece not complete, and goes IDLE (R333). -/
def State.recordNow (s : State) (x : Nat) (toward : Option Nat) : State :=
  let s := (s.showPos x).freeClosed (ownerDma x)
  let head := s.fld F.DMA_CH_HEAD_addr x
  let pos := (s.reg .DMA_CH_POS x).toNat
  let c := s.chComp x
  let k : Chain := { x := x, head := head, pos := pos, done := (s.reg .DMA_CH_DONE x).toNat, held := s.chan x, toward := toward }
  let s := ((((s.pulse x 2 0 head pos).dropOwnWatch x).serialDone x).chanIdle x)
  s.setComp c { s.comp c with chains := (s.comp c).chains ++ [k] }

/-- A stopped channel halts, goes IDLE, or has its chain recorded, once its outstanding requests have completed (R214, R216, R333). -/
def State.settleEnd (s : State) (x : Nat) : State :=
  match (s.chan x).ending with
  | some .abort => if s.chanQuiet x then s.abortNow x else s
  | some (.record toward) => if s.chanQuiet x then s.recordNow x toward else s
  | _ => s.settleHalt x

/-- Abort a channel's chain: it stops issuing at once and goes IDLE once its outstanding requests have completed; a record that waits passes on
without it (R216, R406). -/
def State.abortChan (s : State) (x : Nat) : State :=
  ((s.setChan x { s.chan x with waitRecord := none }).stopIssue x .abort).settleEnd x

/-- DMA_ABORT: the rest of the chain is discarded, from HALTED, RUNNING or WAITING (R216). -/
def execDmaAbort (who : Accessor) (x : Nat) (s : State) : Out :=
  checked (decide (x < 1344))
    (let st := s.chState x
     if (st = chHalted ∨ st = chRunning ∨ st = chWaiting) ∧ s.mayAct who x then s.abortChan x else s)

/-! ## Binding (R201, R217, R218) -/

/-- Bind channel `x` to composition `c`: IDLE, DONE 0. -/
def State.bindChan (s : State) (x c : Nat) (ph : Phase) : State :=
  let s := chanRegs.foldl (fun s r => s.resetReg r x) s
  let s := (s.setFld F.DMA_CH_STATUS_composition x c).chanIdle x
  { s with chanOwner := s.chanOwner.put x ⟨c, ph⟩ }

/-- A leaving channel enters DRAINING and issues no new piece; its open commit group closes (R218 step 1). One in ENGINE_HALT does so once that ends. -/
def State.drainChan (s : State) (x : Nat) : State :=
  if s.chState x = chUnbound ∨ s.chState x = chEngineHalt then s else (s.commitOwner (ownerDma x)).setChState x chDraining

/-- Unbind a channel: a descriptor not complete is reported in a pulse with status ABORTED and cause SQUASHED; its watches break (R218). -/
def State.unbindChan (s : State) (x : Nat) : State :=
  let busy := (s.chan x).descr.isSome || (s.chan x).fetching
  let s := s.when busy fun s => s.pulse x 2 haltSquashed (s.fld F.DMA_CH_HEAD_addr x) (s.reg .DMA_CH_POS x).toNat
  let s := (((s.breakWatches x).dropOwnWatch x).serialDone x).setChan x DmaCh.init
  { s.setReg .DMA_CH_STATUS x 0#64 with chanOwner := s.chanOwner.del x }

end Sys2Proof.Machine
end

