-- ==== Sys2Proof/Machine/Requests.lean ====
section
/-! DEFINITION. Machine/Requests.lean: a memory request from its injection to its reply (R31, R158 to R175, R255, R256, R262, R324 to
R326, R412). -/
namespace Sys2Proof.Machine

/-! ## Entries (R412) -/

/-- The key of entry `e` of an island. -/
def entryKey (isl e : Nat) : Nat := isl * 65536 + e % 65536

/-- Put the reply to an entry in flight (R160, R412). -/
def State.putReply (s : State) (key : Nat) (st : MemStatus) (data : List Byte) : State :=
  match s.outst.find key with
  | none => s
  | some o => { s with replies := s.replies ++ [{ src := memIsl o.req.addr, isl := key / 65536, entry := key % 65536, gen := o.gen, st := st, data := data }] }

/-! ## Errors in memory and on the fabric (R165, R172, R262, R264, R472) -/

/-- The number of a memory island in an engine code of class 5. -/
def ctrlCode (isl : Nat) : Nat := engineCode 5 (isl - 84)

/-- Mark a line poisoned, count it and record it (R165, R403). -/
def State.poisonLine (s : State) (a : Nat) : State :=
  let isl := memIsl a
  let s := { s with poison := s.poison.put (a / 64) true }
  let s := s.countErr F.MON_ERR_A_unc F.MON_ERR_STK_unc_sat isl
  s.reportDev isl 0x13 (ctrlCode isl) (a / 64 * 64) isl []

/-- Mark every line that `n` bytes from `a` touch. `fuel` counts lines. -/
def State.poisonLines (s : State) (fuel a n : Nat) : State :=
  match fuel with
  | 0 => s
  | k + 1 => if n = 0 then s else (s.poisonLine a).poisonLines k (a / 64 * 64 + 64) (n - min n (64 - a % 64))

/-- The error that memory meets at an access: counted; an uncorrectable one poisons a near line (R165) and fails a far one (R172). The
Bool says that the access fails with INTEGRITY. -/
def State.cellError (s : State) (a sel : Nat) (e : CellErr) : State × Bool :=
  let isl := memIsl a
  match region a, e with
  | .near _ _, .corrected | .far _, .corrected | .dump, .corrected => (s.countErr F.MON_ERR_A_cor F.MON_ERR_STK_cor_sat isl, false)
  | .near _ _, .uncorrectable => (s.poisonLine a, false)
  | .far _, .uncorrectable | .dump, .uncorrectable =>
    let s := s.countErr F.MON_ERR_A_unc F.MON_ERR_STK_unc_sat isl
    if s.tagOf (a / 64) ≠ sel ∨ s.poison.get (a / 64) false then (s, false)
    else (s.countErr F.MON_ERR_B_integ F.MON_ERR_STK_integ_sat isl, true)
  | _, _ => (s, false)

/-! ## Performing (R160) -/

/-- Whether a request reads what its memory holds: a write of whole lines never does (R165, R173). -/
def reqReads (q : MemReq) : Bool :=
  match q.op with
  | .write data => q.addr % 64 != 0 || data.length % 64 != 0
  | _ => true

/-- An atomic add by a near-memory controller (R158, R166). -/
def State.addPhys (s : State) (q : MemReq) (v : Word) : LineResult :=
  match region q.addr with
  | .near _ _ =>
    let r := s.readPhys (reqWho q) q.sel q.addr 8
    if r.st ≠ .ok then r
    else
      let w := r.s.writePhys (reqWho q) q.sel q.addr (leBytes 8 ((leNat r.data + v.toNat) % 2 ^ 64))
      if w.st ≠ .ok then w else ⟨w.s, .ok, r.data⟩
  | _ => ⟨s, .decode, []⟩

/-- The memory has performed a write of a request: the dirty log (R241). -/
def loggedWrite (q : MemReq) (r : LineResult) : LineResult :=
  match q.op, q.comp with
  | .read, _ | _, none => r
  | _, some c => if r.st = .ok then { r with s := r.s.logWrite c q.log q.addr } else r

/-- Perform a local request that the memory accepts: the state, the status and the data (R165 to R173, R241). -/
def State.performLocal (s : State) (q : MemReq) : LineResult :=
  let j := s.judge (reqWho q) q.sel q.addr
  if j ≠ .ok then ⟨s, j, []⟩
  else
    let e := if reqReads q then s.cellError q.addr q.sel q.cellErr else (s, false)
    if e.2 then ⟨e.1, .integrity, []⟩
    else
      match q.op with
      | .read => e.1.readPhys (reqWho q) q.sel q.addr q.len
      | .write data => loggedWrite q (e.1.writePhys (reqWho q) q.sel q.addr data)
      | .add v => loggedWrite q (e.1.addPhys q v)

/-- Send a remote request: what its port answers at once (R31, R175); a read asks the partner, and its reply is the partner's; a write joins its
owner's commit group, or is held at its injection point while the ledger has no room (R180, R186). -/
def State.sendRemote (s : State) (key : Nat) (q : MemReq) (k off : Nat) : State :=
  let j := s.portReach (reqWho q) k
  if j ≠ .ok then s.putReply key j []
  else
    match q.op with
    | .read => s.sendIn k q.cls { PortMsg.of 1 with sealedReq := q.sel ≠ 0, tag := key, offset := off, length := q.len } []
    | .write data =>
      if s.groupRoom (ownerLedger q.owner) k off data.length then (s.remoteWrite (reqWho q) q.sel q.addr k off data).putReply key .ok []
      else { s with nacked := s.nacked.put key s.aon.dt }
    | .add _ => s.putReply key .decode []

/-- Perform a remote request with the errors that its flits met on the way to the port: poisoned data is not sent on (R175, R262; DESIGN CHOICE,
log 134). -/
def State.performRemote (s : State) (key : Nat) (q : MemReq) (k off : Nat) : State :=
  match q.fabErr with
  | .headerLost => s.fabUnc q.seg 1
  | .headerCopied => (s.fabUnc q.seg 1).putReply key .poison []
  | .payload => (s.fabUnc q.seg 0).putReply key .poison []
  | .corrected => (s.fabCount q.seg false).sendRemote key q k off
  | .none => s.sendRemote key q k off

/-- Perform a request whose flits the fabric has carried so far, with the errors met, and put its reply in flight (R262). -/
def State.perform (s : State) (key : Nat) (q : MemReq) : State :=
  match region q.addr with
  | .remote k off => s.performRemote key q k off
  | _ =>
    match q.fabErr with
    | .headerLost => s.fabUnc q.seg 1
    | .headerCopied => (s.fabUnc q.seg 1).putReply key .poison []
    | .payload =>
      let s := s.fabUnc q.seg 0
      match q.op with
      | .read => s.putReply key .poison []
      | _ =>
        let r := s.performLocal q
        let n := match q.op with
          | .write data => data.length
          | _ => 8
        if r.st = .ok then (r.s.poisonLines (linesOf q.addr n) q.addr n).putReply key .ok r.data else r.s.putReply key r.st []
    | .corrected =>
      let r := (s.fabCount q.seg false).performLocal q
      r.s.putReply key r.st r.data
    | .none =>
      let r := s.performLocal q
      r.s.putReply key r.st r.data

/-- Whether a packet between two islands waits at a seam segment whose receiving mesh segment is under a reported credit stall (R254). -/
def State.seamHeld (s : State) (a d : Nat) : Bool :=
  match crossesSeam a d with
  | some g => s.stalls.contains (g, meshOfIsl d)
  | none => false

/-- Bring a request to its target: a stalled seam segment holds it; the half asleep answers for it; or it is performed (R254, R255). -/
def State.inject (s : State) (key : Nat) (q : MemReq) : State :=
  let a := ownerIsl q.owner
  let d := memIsl q.addr
  if s.seamHeld a d then s
  else if s.intoSleep a q.addr && s.judge (reqWho q) q.sel q.addr == .islandOff then
    if s.wakeRefused (meshOfIsl d) then s.putReply key .islandOff [] else s.sleepNack key d
  else s.perform key q

/-- Whether the requests that an owner holds outstanding leave room for one more: 64 of a channel, 512 of its engine (R202). -/
def State.ownerRoom (s : State) (o : Owner) : Bool :=
  let count (f : Owner → Bool) : Nat := (s.outst.filter fun e => f e.2.req.owner).length
  match o with
  | .dmaPiece x | .descFetch x =>
    decide (count (ofChan x) < 64) && decide (count (fun w => match w with
      | .dmaPiece y | .descFetch y => y / 16 == x / 16
      | _ => false) < 512)
  | _ => true

/-- Whether a request has a shape that its target takes: a remote one moves 64 to 256 bytes, aligned to 64 (R175). -/
def reqShapeOk (q : MemReq) : Bool :=
  let n := match q.op with
    | .write data => data.length
    | _ => q.len
  match region q.addr, q.op with
  | .remote _ _, .add _ => true
  | .remote _ _, _ => q.addr % 64 == 0 && n % 64 == 0 && decide (64 ≤ n) && decide (n ≤ 256)
  | _, _ => true

/-- REQUEST_AT_BOUNDARY: a request takes an outstanding entry of its island, with the island's generation tag, and reaches its target
(R31, R158 to R173, R202, R241, R255, R262, R324, R412, R441). A remote one of a shape that no unit issues takes none (R175; DESIGN
CHOICE, log 134). -/
def execRequestAtBoundary (q : MemReq) (s : State) : Out :=
  checked (ownerOk q.owner)
    (let isl := ownerIsl q.owner
     let key := entryKey isl q.entry
     if !s.domOn isl || (s.outst.find key).isSome || !s.ownerRoom q.owner || !reqShapeOk q then s
     else
       let o : Outstanding := { req := q, gen := s.fld F.FLT_ISL_STAT_gen isl, resent := false, at_ := s.aon.dt, remote := isRemote q.addr, old := false,
                                discarded := false }
       { s with outst := s.outst.put key o }.inject key q)

/-- INJECTION_RETRY: at the retry DT the injection point sends the held request once more; a half still asleep, or a target not ON,
ends it with ISLAND_OFF (R255). -/
def execInjectionRetry (entry : Nat) (s : State) : Out :=
  checked (decide (entry < 2 ^ 24))
    (match s.nacked.find entry, s.outst.find entry with
     | some t, some o =>
       if s.aon.dt < t then s
       else
         let s := { s with nacked := s.nacked.del entry }
         if s.intoSleep (ownerIsl o.req.owner) o.req.addr then s.putReply entry .islandOff [] else s.perform entry o.req
     | _, _ => s)

/-! ## Replies (R160, R325, R326, R412) -/

/-- The data of a remote read, kept until its requester takes it (R175). -/
def remotePut (m : SMap Byte) (a : Nat) (data : List Byte) : SMap Byte :=
  match data with
  | [] => m
  | b :: bs => remotePut (m.put a b) (a + 1) bs

/-- Keep a remote read's data for its requester. -/
def State.keepRemote (s : State) (q : MemReq) (data : List Byte) : State :=
  if isRemote q.addr then { s with remoteBuf := remotePut s.remoteBuf (remKey q.owner q.addr) data } else s

/-- The oldest started instruction of a station with no failure yet takes one (R108). -/
def Res.failStarted (x : Res) (us : List Nat) (m : MemFail) : Res :=
  match x.started.find? fun t => us.contains t.ins.u && t.fail.isNone with
  | none => x
  | some t =>
    let mark (v : Started) : Started := if v.ins.seq = t.ins.seq then { v with fail := some (v.ins.memFault v.k m) } else v
    { x with started := x.started.map mark }

/-- A tile read ahead, or the started LOAD that demands it, takes a failure (R54, R108). -/
def State.aheadFails (s : State) (n r k j : Nat) (m : MemFail) : State :=
  let x := s.core n r
  let mine (t : Started) : Bool := t.ahead && t.k == j && t.ins.stream == some k && t.fail.isNone
  if x.ahead.any fun a => a.st == k && a.k == j then s.holdFault n r k j m
  else
    match x.started.find? mine with
    | none => s
    | some t =>
      let mark (v : Started) : Started := if v.ins.seq = t.ins.seq then { v with fail := some (v.ins.memFault v.k m) } else v
      s.setCore n r { x with started := x.started.map mark }

/-- Whether a scalar access of a resident takes a failure: one is in progress, or its instruction may leave (R89). -/
def State.scalarAwaits (s : State) (n r : Nat) : Bool := s.canIssue n r || (s.core n r).scalarOut

/-- A request of a channel's pieces fails: the first piece still to be issued is its piece (R214). -/
def State.pieceFailed (s : State) (x : Nat) (q : MemReq) (st : MemStatus) : State :=
  if s.chState x != chRunning || (s.chan x).stopped then s
  else
    let write := match q.op with
      | .read => false
      | _ => true
    (s.latchFail x q.addr write true).haltChan x (memCode st) q.addr (s.chan x).issued

/-- What a completed request does to its requester, with its final status (R108, R160, R214, R215). -/
def State.completeReq (s : State) (q : MemReq) (st : MemStatus) (data : List Byte) : State :=
  let s := if st = .ok then s.keepRemote q data else s
  let bad := decide (st ≠ .ok)
  let m : MemFail := ⟨memCode st, q.addr⟩
  let s := match q.owner with
    | .dmaPiece x | .descFetch x => s.setChan x { s.chan x with movedAt := s.aon.dt }
    | .loadIns n r | .storeIns n r | .scalar n r | .ahead n r _ _ => s.onCore n r fun x => { x with actAt := s.aon.dt }
    | _ => s
  match q.owner with
  | .loadIns n r => s.when bad fun s => s.onCore n r fun x => x.failStarted [1, 3] m
  | .storeIns n r => s.when bad fun s => s.onCore n r fun x => x.failStarted [2] m
  | .ahead n r k j => if bad then s.aheadFails n r k j m else s.aheadArrived n r k j
  | .scalar n r => s.when (bad && s.scalarAwaits n r) fun s => s.scalarFault n r m
  | .dmaPiece x => s.when bad fun s => s.pieceFailed x q st
  | .indexLine e line =>
    s.when (bad && s.fld F.DMA_ENG_STATUS_index_halt e == 0) fun s =>
      match s.idxFor e line with
      | some x => s.lineFailed e line x
      | none => s
  | .descFetch x => s.when (bad && (s.chan x).fetching && !(s.chan x).stopped) fun s => s.fetchFailed x
  | .cpAccess p => s.when (bad && (s.cpCanIssue p || (s.cp p).busy.isSome)) fun s => s.cpFault p fScalarFault
  | .fw | .agent _ | .host _ => s

/-- What follows the end of an outstanding request: a stopped channel may halt or go IDLE (R214, R216). -/
def State.afterEntry (s : State) (o : Owner) : State :=
  match o with
  | .dmaPiece x | .descFetch x => s.settleEnd x
  | _ => s

/-- Take an entry away with its request completed; what a discarded request answers counts for nothing (R55, R214). -/
def State.finishEntry (s : State) (key : Nat) (st : MemStatus) (data : List Byte) : State :=
  match s.outst.find key with
  | none => s
  | some o =>
    let s := { s with outst := s.outst.del key, nacked := s.nacked.del key }
    (s.when (!o.discarded) fun s => s.completeReq o.req st data).afterEntry o.req.owner

/-- Take the requests that `f` selects, by key, out of the tables: their replies find no entry and their requesters see no status; a stopped channel may
halt or go IDLE then (R214, R216, R326, R412). -/
def State.squashEntries (s : State) (f : Nat → MemReq → Bool) : State :=
  let gone := s.outst.filter fun e => f e.1 e.2.req
  let keys := gone.map (·.1)
  gone.foldl (fun s e => s.afterEntry e.2.req.owner) { s with outst := keys.foldl SMap.del s.outst, nacked := keys.foldl SMap.del s.nacked }

/-- The oldest reply on its way from an island to another: replies between two islands arrive in the order they were sent (R245). -/
def State.nextReply (s : State) (src isl : Nat) : Option Reply := s.replies.find? fun r => r.src == src && r.isl == isl

/-- A reply that island `isl` takes: dropped and counted where its tag or entry is stale; the first EPOCH_NACK sends the request once more under
the composition's epoch (R325, R412); else the request completes. -/
def State.acceptReply (s : State) (isl entry gen : Nat) (st : MemStatus) (data : List Byte) : State :=
  let key := entryKey isl entry
  let fresh := decide ((s.fld F.FLT_ISL_STAT_gen isl + 256 - gen % 256) % 256 < 128)
  match s.outst.find key with
  | none => s.bumpEvent F.FLT_ISL_STAT_late (some F.FLT_ISL_STAT_late_sat) isl isl
  | some o =>
    if !fresh || o.gen != gen then s.bumpEvent F.FLT_ISL_STAT_late (some F.FLT_ISL_STAT_late_sat) isl isl
    else if st = .epochNack ∧ !o.resent ∧ o.req.comp.isSome then
      let q := { o.req with epoch := s.epochOf (o.req.comp.getD 0) }
      { s with outst := s.outst.put key { o with req := q, resent := true } }.inject key q
    else s.finishEntry key st data

/-- A reply reaches its island, unless an older one of the same pair of islands is still on its way, or a stalled seam segment holds it (R245, R254). One
that no memory has sent finds no request: it is dropped and counted (R326, R412). -/
def State.takeReply (s : State) (isl entry gen : Nat) (st : MemStatus) (data : List Byte) : State :=
  match s.replies.find? fun r => r.isl == isl && r.entry == entry % 65536 && r.gen == gen && r.st == st && r.data == data with
  | none => s.bumpEvent F.FLT_ISL_STAT_late (some F.FLT_ISL_STAT_late_sat) isl isl
  | some r =>
    if s.nextReply r.src isl ≠ some r ∨ s.seamHeld r.src isl then s
    else { s with replies := s.replies.erase r }.acceptReply isl entry gen st data

/-- MEMORY_REPLY: a reply reaches island `isl` (R160, R325, R326, R412). -/
def execMemoryReply (isl entry gen : Nat) (st : MemStatus) (data : List Byte) (s : State) : Out :=
  checked (decide (isl < 148) || isl == 255) (s.takeReply isl entry gen st data)

end Sys2Proof.Machine
end

