-- ==== Sys2Proof/Machine/Ledger.lean ====
section
/-! DEFINITION. Machine/Ledger.lean: how commit groups end (R183 to R186) and how remote requests complete (R175, R176, R283). -/
namespace Sys2Proof.Machine

/-! ## Statuses of messages (R282, R283) -/

/-- The R160 status of the same name as a message's status; UNKNOWN_GROUP, which answers no READ, reads as DECODE. -/
def msgStatus (n : Nat) : MemStatus :=
  match n with
  | 0 => .ok
  | 2 => .islandOff
  | 3 => .poison
  | 4 => .exportRefused
  | 5 => .keyRefused
  | 6 => .absent
  | 8 => .integrity
  | 9 => .epochNack
  | _ => .decode

/-- The message status of a local access (R283). -/
def statusMsg (st : MemStatus) : Nat :=
  match st with
  | .ok => 0
  | .decode => 1
  | .islandOff => 2
  | .poison => 3
  | .exportRefused => 4
  | .keyRefused => 5
  | .absent => 6
  | .integrity => 8
  | .epochNack => 9

/-- A reply that no request waits for is dropped and counted at its port (R175, R184, R292). -/
def State.lateAtPort (s : State) (k : Nat) : State := s.bumpEvent F.PRT_DROP_CNT_late (some F.PRT_ERR_STK_late_sat) k (120 + k)

/-! ## Closing a group (R183, R184) -/

/-- Close group `i` with DONE or POISONED; a DMA channel that has stopped may halt or go IDLE then (R214, R216). -/
def State.closeGroup (s : State) (i : Nat) (poisoned : Bool) : State :=
  match s.ledger.find i with
  | none => s
  | some g =>
    let s := s.setGroup i { g with state := if poisoned then 5 else 4 }
    s.when (g.owner / 2 ^ 30 == 1) fun s => s.settleEnd (g.owner % 2 ^ 30)

/-- The offset in the alternate's window of an offset in the primary's (R183 step 1). -/
def State.altOffset (s : State) (g : Group) (off : Nat) : Nat :=
  g.altBase * 0x200000 + (off - s.fld F.MEM_RRD_base (16 * g.port + g.range) * 0x200000)

/-- The primary partner counts as lost for group `i`: reissued to the alternate, or poisoned (R183). -/
def State.primaryLost (s : State) (i : Nat) : State :=
  match s.ledger.find i with
  | none => s
  | some g =>
    if g.state ≠ 1 ∧ g.state ≠ 2 then s
    else if g.mode = 0 ∨ !s.portUp g.alt then s.closeGroup i true
    else
      let s := s.setGroup i { g with state := 3, dtCommit := s.aon.dt, unacked := [] }
      s.sendIn g.alt g.cls { PortMsg.of 3 with offset := s.altOffset g g.lo, group := g.seq, aux := g.mode } []

/-- The alternate partner of a reissued group is lost (R183 step 3). -/
def State.alternateLost (s : State) (i : Nat) : State :=
  match s.ledger.find i with
  | none => s
  | some g => if g.state = 3 then s.closeGroup i true else s

/-- Every group whose primary or alternate is a port that goes down (R183, R281). -/
def State.groupsOnPort (s : State) (k : Nat) : State :=
  s.ledger.foldl (fun s e =>
    if e.2.state = 3 then (if e.2.alt = k then s.alternateLost e.1 else s)
    else if e.2.port = k then s.primaryLost e.1 else s) s

/-- The ledger entry of a group number. -/
def State.groupOf (s : State) (seq : Nat) : Option (Nat × Group) := s.ledger.find? fun e => e.2.seq == seq && e.2.state != 4 && e.2.state != 5

/-- A refused PREPARE reaches its owner as the status of the access (R283): a DMA channel halts, a STORE fails, a command processor
faults. -/
def State.prepareRefused (s : State) (g : Group) (st : MemStatus) : State :=
  let m : MemFail := ⟨memCode st, g.lo⟩
  if g.owner / 2 ^ 30 = 0 then
    [0, 1].foldl (fun s r => s.onCore g.owner r fun x => x.failStarted [2] m) s
  else if g.owner / 2 ^ 30 = 1 then
    let x := g.owner % 2 ^ 30
    match (s.chan x).groups.find? fun e => e.1 == g.seq, (s.chan x).descr with
    | some e, some d => if s.chState x = chRunning ∧ !(s.chan x).stopped then (s.latchFail x e.2.2 true d.phys).haltChan x m.cause e.2.2 e.2.1 else s
    | _, _ => s
  else if s.cpCanIssue (g.owner % 2 ^ 30) || (s.cp (g.owner % 2 ^ 30)).busy.isSome then s.cpFault (g.owner % 2 ^ 30) fScalarFault
  else s

/-- PREP_ACK: a PREPARE of a group has been staged, or refused (R183, R283, R285). -/
def execPrepAck (k : Nat) (m : PortMsg) (s : State) : Out :=
  checked (decide (k < 8))
    (match s.groupOf m.group with
     | none => s.lateAtPort k
     | some (i, g) =>
       if g.port ≠ k ∨ g.state = 3 then s.lateAtPort k
       else if m.status = 0 then s.setGroup i { g with acked := g.acked + 1, unacked := g.unacked.drop 1 }
       else if m.status = 6 then s.primaryLost i
       else (s.setGroup i { g with unacked := g.unacked.drop 1 }).prepareRefused g (msgStatus m.status))

/-- COMMIT_ACK: a group has been published, or its partner does not know it (R183, R184). -/
def execCommitAck (k : Nat) (m : PortMsg) (s : State) : Out :=
  checked (decide (k < 8))
    (match s.groupOf m.group with
     | none => s.lateAtPort k
     | some (i, g) =>
       if g.state = 2 ∧ g.port = k then (if m.status = 0 then s.closeGroup i false else s.primaryLost i)
       else if g.state = 3 ∧ g.alt = k then s.closeGroup i (m.status != 0)
       else s.lateAtPort k)

/-! ## READ_RESP (R175, R176, R283) -/

/-- One sealed line as its requester takes it back (R172, R176): zeros under another tag, the decrypted line, none where the MAC fails. -/
def State.unsealOne (s : State) (sel a : Nat) (cipher : List Byte) (mw : Nat) : Option (List Byte) :=
  if mw / 2 ^ 56 % 256 ≠ sel then some (zeros cipher.length)
  else if mw % 2 ^ 56 = (Config.lineMac (s.lineKey sel) sel a cipher).toNat then
    some (Config.unsealLine (s.lineKey sel) sel (s.installCount sel) a cipher)
  else none

/-- The lines of a sealed reply; none where one fails its check. -/
def State.unsealData (s : State) (sel k off : Nat) (data : List Byte) (metas : List Nat) : Option (List Byte) :=
  let a := s.sealAddr k off
  let ls := (linesOfData 4 data).zipIdx.map fun p => s.unsealOne sel (a + 64 * p.2) p.1 (metas.getD p.2 0)
  if ls.all (·.isSome) then some (ls.filterMap id).flatten else none

/-- READ_RESP: the partner's answer to a READ reaches the request that its tag names (R175, R176, R283). -/
def execReadResp (k : Nat) (m : PortMsg) (data : List Byte) (s : State) : Out :=
  checked (decide (k < 8))
    (match s.outst.find m.tag with
     | none => s.lateAtPort k
     | some o =>
       match region o.req.addr with
       | .remote j off =>
         if j ≠ k then s.lateAtPort k
         else
           let st := msgStatus m.status
           if st ≠ .ok then s.finishEntry m.tag st []
           else if o.req.sel = 0 then s.finishEntry m.tag .ok data
           else
             match s.unsealData o.req.sel k off data m.metaWords with
             | some d => s.finishEntry m.tag .ok d
             | none => s.finishEntry m.tag .integrity []
       | _ => s.lateAtPort k)

/-- Every remote request outstanding on a port completes with ABSENT (R175, R281 step 1). -/
def State.absentOnPort (s : State) (k : Nat) : State :=
  s.outst.foldl (fun s e =>
    match region e.2.req.addr with
    | .remote j _ => if j = k then s.finishEntry e.1 .absent [] else s
    | _ => s) s

/-- Whether a PREPARE or the COMMIT of a group has had no answer for 50 µs (R175, R183). -/
def State.groupTimedOut (s : State) (g : Group) : Bool :=
  (g.unacked.head?.any fun t => decide (t + us 50 ≤ s.aon.dt)) || ((g.state == 2 || g.state == 3) && decide (g.dtCommit + us 50 ≤ s.aon.dt))

/-- REMOTE_REQUEST_TIMEOUT: 50 µs without a reply. Below 2^24 `entry` is an outstanding entry, which completes with ABSENT (R175); from
2^24 on it is a ledger entry whose PREPARE or COMMIT has had no answer (R183). -/
def execRemoteRequestTimeout (entry : Nat) (s : State) : Out :=
  checked (decide (entry < 2 ^ 24 + 65536))
    (if entry < 2 ^ 24 then
       match s.outst.find entry with
       | some o => if o.remote && decide (o.at_ + us 50 ≤ s.aon.dt) then s.finishEntry entry .absent [] else s
       | none => s
     else
       let i := entry - 2 ^ 24
       match s.ledger.find i with
       | some g =>
         if !s.groupTimedOut g then s
         else if g.state = 3 then s.alternateLost i else s.primaryLost i
       | none => s)

/-! ## The ledger's copies (R186) -/

/-- The state code of MEM_LEDGER_CFG for the copies lost: bit 0 A, bit 1 B. -/
def ledgerState (lost : Nat) : Nat := if lost = 0 then 0 else if lost = 1 then 2 else if lost = 2 then 1 else 3

/-- LEDGER_COPY_FAIL: the stack of copy A (false) or B (true) fails; with none left, every group not DONE closes POISONED (R186). -/
def execLedgerCopyFail (b : Bool) (s : State) : Out :=
  checked true
    (let lost := s.ledgerLost ||| (if b then 2 else 1)
     if lost = s.ledgerLost then s
     else
       let s := ({ s with ledgerLost := lost }.setFld F.MEM_LEDGER_CFG_state 0 (ledgerState lost)).reportDev 255 0xA (engineCode 7 255) 0
         (ledgerState lost) []
       if lost = 3 then s.ledger.foldl (fun s e => if e.2.state = 4 then s else s.closeGroup e.1 true) s else s)

/-- Whether a partition is free for management firmware: bound to none and no copy's place. -/
def State.partFree (s : State) (stack part : Nat) : Bool :=
  (s.partOwner.find (6 * stack + part)).isNone &&
    !(s.fld F.MEM_LEDGER_CFG_stack_a 0 == stack && s.fld F.MEM_LEDGER_CFG_part_a 0 == part) &&
    !(s.fld F.MEM_LEDGER_CFG_stack_b 0 == stack && s.fld F.MEM_LEDGER_CFG_part_b 0 == part)

/-- Whether a stack lies in the half that the ledger copy still held does not lie in; any does where both copies are lost (R164). -/
def State.otherHalf (s : State) (stack : Nat) : Bool :=
  let g := if s.ledgerLost % 2 = 1 then F.MEM_LEDGER_CFG_stack_b else F.MEM_LEDGER_CFG_stack_a
  s.ledgerLost == 3 || decide (stack < 12) != decide (s.fld g 0 < 12)

/-- LEDGER_REBUILD_DONE: management firmware has built a new copy in a free partition, in the half the other copy is not in: the lost copy, A first
where both are (R186). -/
def execLedgerRebuildDone (stack part : Nat) (s : State) : Out :=
  checked (decide (stack < 24) && decide (part < 6))
    (if s.ledgerLost = 0 ∨ !s.partFree stack part ∨ !s.otherHalf stack then s
     else
       let a := decide (s.ledgerLost % 2 = 1)
       let s := if a then (s.setFld F.MEM_LEDGER_CFG_stack_a 0 stack).setFld F.MEM_LEDGER_CFG_part_a 0 part
                else (s.setFld F.MEM_LEDGER_CFG_stack_b 0 stack).setFld F.MEM_LEDGER_CFG_part_b 0 part
       let lost := if a then s.ledgerLost - 1 else 0
       let s := ({ s with ledgerLost := lost }.setFld F.MEM_LEDGER_CFG_state 0 (ledgerState lost))
       let s := s.wipe (partBase stack part) (partBase stack part + 0x400000)
       s.ledger.foldl (fun s e => s.ledgerCopies e.1 e.2.bytes) s)

end Sys2Proof.Machine
end

