-- ==== Sys2Proof/Machine/Ports.lean ====
section
/-! DEFINITION. Machine/Ports.lean: the link of an optical port (R265 to R281, R287 to R292): bring-up, lanes, frames, replay, heartbeats,
rekeying, the loss of a partner, transit, the going-away sequence. -/
namespace Sys2Proof.Machine

/-- A port after reset: nothing of a link (R279: the first wait is 100 µs). -/
def Port.init : Port :=
  { step := 0, startAt := 0, sigAt := 0, backoff := 200000, retryAt := none, txBad := 0, rxBad := 0, expect := 0, phase := 0,
    old := none, txKey := none, rxKey := none, rxOld := none, replay := [], asked := none, credits := [0, 0, 0, 0], heardAt := 0, sentAt := 0, fails := [], rekey := none,
    staged := [], published := [], waiting := [], delays := [], away := 0, awayAt := 0, reason := 0, transit := [], downAt := 0 }

/-- Port `k` beside its registers. -/
def State.port (s : State) (k : Nat) : Port := s.ports.get k Port.init

/-- The state with port `k` replaced. -/
def State.setPort (s : State) (k : Nat) (p : Port) : State := { s with ports := s.ports.put k p }

/-- The state with port `k` changed by `f`. -/
def State.onPort (s : State) (k : Nat) (f : Port → Port) : State := s.setPort k (f (s.port k))

/-! States of PRT_STATUS (R291). -/
def ptOff : Nat := 0
/-- DARK. -/
def ptDark : Nat := 1
/-- SEARCH. -/
def ptSearch : Nat := 2
/-- TRAIN. -/
def ptTrain : Nat := 3
/-- AUTH. -/
def ptAuth : Nat := 4
/-- UP. -/
def ptUp : Nat := 5
/-- DOWN. -/
def ptDown : Nat := 6
/-- GONE. -/
def ptGone : Nat := 7
/-- REFUSED. -/
def ptRefused : Nat := 8

/-! Causes of PRT_STATUS (R291). -/
def pcLos : Nat := 1
/-- HEARTBEAT. -/
def pcHeartbeat : Nat := 2
/-- AUTH. -/
def pcAuth : Nat := 3
/-- REPLAY. -/
def pcReplay : Nat := 4
/-- LANES. -/
def pcLanes : Nat := 5
/-- PARTNER_RESET. -/
def pcPartnerReset : Nat := 6
/-- REKEY. -/
def pcRekey : Nat := 7
/-- ROLE. -/
def pcRole : Nat := 8
/-- CERT. -/
def pcCert : Nat := 9
/-- GOING_AWAY. -/
def pcGoingAway : Nat := 10
/-- OPERATOR. -/
def pcOperator : Nat := 11
/-- STEP_TIMEOUT. -/
def pcStep : Nat := 12

/-- The state of port `k`. -/
def State.ptState (s : State) (k : Nat) : Nat := s.fld F.PRT_STATUS_state k

/-- The state with port `k` in a state. -/
def State.setPtState (s : State) (k st : Nat) : State := s.setFld F.PRT_STATUS_state k st

/-- Whether port `k` holds session keys and exchanges frames: UP, or AUTH waiting for the first heartbeat (R277). -/
def State.sessionOn (s : State) (k : Nat) : Bool := s.ptState k == ptUp || (s.ptState k == ptAuth && (s.port k).step == 7)

/-- Whether port `k` serves its partner: UP, in a PRT domain that is ON and lets its agents inject (R29, R34, R286). -/
def State.portServes (s : State) (k : Nat) : Bool := s.ptState k == ptUp && s.domOn (120 + k)

/-! ## Messages as bytes (R282) -/

/-- The 64 bytes of a message. -/
def msgBytes (m : PortMsg) : List Byte :=
  leBytes 1 m.op ++ leBytes 1 m.status ++ leBytes 1 m.sealedReq.toNat ++ leBytes 1 m.ndata ++ leBytes 4 m.tag ++ leBytes 8 m.offset ++
  leBytes 8 m.group ++ leBytes 2 m.length ++ leBytes 6 m.aux ++
  ((List.range 4).map fun i => leBytes 8 (m.metaWords.getD i 0)).flatten

/-- The message of 64 bytes. -/
def msgOf (b : List Byte) : PortMsg :=
  let u (off n : Nat) : Nat := leNat ((b.drop off).take n)
  { op := u 0 1, status := u 1 1, sealedReq := u 2 1 == 1, ndata := u 3 1, tag := u 4 4, offset := u 8 8, group := u 0x10 8,
    length := u 0x18 2, aux := u 0x1A 6, metaWords := (List.range 4).map fun i => u (0x20 + 8 * i) 8 }

/-- The four messages of a MSG segment. -/
def segMsgs (g : Segment) : List PortMsg := (List.range 4).map fun i => msgOf ((g.data.drop (64 * i)).take 64)

/-- Whether the data segments of a frame belong to messages of the MSG segments before them, each with all of its data (R284); `owed` data
segments are still to come. -/
def segsFit (owed : Nat) : List Segment → Bool
  | [] => owed == 0
  | g :: rest =>
    if g.kind = 1 then owed == 0 && segsFit ((segMsgs g).foldl (fun n m => if m.op = 0 then n else n + m.ndata) 0) rest
    else decide (0 < owed) && segsFit (owed - 1) rest

/-! ## The segments of a frame (R269, R284) -/

/-- The traffic class' credits of a port. -/
def Port.credit (p : Port) (c : Nat) : Nat := p.credits.getD c 0

/-- The data segments of a message: its bytes in pieces of 256, zero to the end (R284). -/
def dataSegs (fuel : Nat) (kind dest cls : Nat) (data : List Byte) : List Segment :=
  match fuel with
  | 0 => []
  | f + 1 =>
    if data.isEmpty then []
    else { kind := kind, hops := 15, dest := dest, cls := cls, zero := 0, data := (data ++ zeros 256).take 256 } ::
           dataSegs f kind dest cls (data.drop 256)

/-- The most messages that one frame takes from the front of a queue: four, with seven data segments at most. -/
def takeMsgs (fuel room : Nat) (q : List Outgoing) : List Outgoing :=
  match fuel, q with
  | f + 1, o :: rest => if o.msg.ndata ≤ room then o :: takeMsgs f (room - o.msg.ndata) rest else []
  | _, _ => []

/-- The segments of a frame that carries these messages. -/
def msgSegs (dest : Nat) (ms : List Outgoing) : List Segment :=
  let body := (ms.map fun o => msgBytes o.msg).flatten
  { kind := 1, hops := 15, dest := dest, cls := (ms.head?.map (·.cls)).getD 2, zero := 0, data := (body ++ zeros 256).take 256 } ::
    (ms.map fun o => dataSegs 4 (if o.msg.op = 0x20 then 3 else 2) dest o.cls o.data).flatten

/-! ## Frames as bytes (R268 to R270) -/

/-- The 32-bit descriptor of a segment (R269). -/
def segDesc (g : Segment) : Nat := g.kind % 16 + 16 * (g.hops % 16) + 256 * (g.dest % 65536) + 2 ^ 24 * (g.cls % 4) + 2 ^ 26 * g.zero

/-- The 64 bytes of a frame that travel in clear, the additional authenticated data of its tag (R268). -/
def frameHeader (f : Frame) : List Byte :=
  leBytes 1 f.ftype ++ leBytes 1 f.segs.length ++ leBytes 1 (f.phase % 2) ++ leBytes 1 f.island ++ leBytes 4 f.ack ++ leBytes 8 f.ctr ++
    leBytes 8 f.dt ++ ((List.range 8).flatMap fun i => leBytes 4 ((f.segs[i]?).elim 0 segDesc)) ++ zeros 8

/-- The segments of a frame in clear. -/
def frameBody (f : Frame) : List Byte := f.segs.flatMap fun g => (g.data ++ zeros 256).take 256

/-- The nonce of a frame: the salt of its direction and key phase, then its counter (R270), least significant byte first (DESIGN CHOICE, log 41). -/
def frameNonce (key : LinkKey) (ctr : Nat) : List Byte := leBytes 4 key.salt ++ leBytes 8 ctr

/-- The 80 + 256n bytes of a frame of n segments: its header, the ciphertext of its segments, its tag (R268). -/
def frameWire (key : LinkKey) (f : Frame) : List Byte :=
  let nonce := frameNonce key f.ctr
  let cipher := (frameBody f).zipIdx.map fun p => p.1 ^^^ Config.gcmStream key.key nonce p.2
  frameHeader f ++ cipher ++ leBytes 16 (Config.gcmTag key.key nonce (frameHeader f) cipher).toNat

/-- The bytes of a frame in clear: a TRAIN frame, which no key seals (R277); zero stands where the tag does (DESIGN CHOICE, log 41). -/
def clearWire (f : Frame) : List Byte := frameHeader f ++ frameBody f ++ zeros 16

/-- The counter that the receiver of port `k` expects now: of the old key phase while it is held (R276). -/
def Port.wanted (p : Port) : Nat × Nat :=
  match p.old with
  | some c => (1 - p.phase, c)
  | none => (p.phase, p.expect)

/-- Send a new frame under the session's key: the next counter, a place in the replay buffer, the activity counter (R268, R270, R273, R471). -/
def State.sendFrame (s : State) (k ftype : Nat) (segs : List Segment) : State :=
  let p := s.port k
  match p.txKey with
  | none => s
  | some key =>
    let c := (s.reg .PRT_TX_CTR k).toNat
    let f : Frame :=
      { ftype := ftype, phase := s.fld F.PRT_STATUS_key_phase k, island := 120 + k, ack := p.wanted.2 % 2 ^ 32, ctr := c, dt := s.dtOf (120 + k),
        zero := 0, segs := segs, corrected := 0, uncorrected := 0, tagOk := true }
    let keep := p.replay ++ [⟨f, frameWire key f⟩]
    let s := s.setPort k { p with replay := keep.drop (keep.length - 512) }
    ((s.setReg .PRT_TX_CTR k (BitVec.ofNat 64 (c + 1))).bump F.MON_ACT_count (120 + k) 1).emit (.frame k f (frameWire key f))

/-- Send a message of the link itself, REPLAY, REKEY or REKEY_ACK, at once in a frame of its own: R271 holds bandwidth for it, outside the credits
(DEDUCED, log 138). -/
def State.sendCtl (s : State) (k : Nat) (m : PortMsg) (data : List Byte) : State :=
  if s.sessionOn k && s.domOn (120 + k) then
    s.sendFrame k 1 (msgSegs (s.fld F.PRT_STATUS_peer_node k) [{ msg := m, data := data, cls := clsBulk }])
  else s

/-! ## What a port sends next (R187, R191, R275, R284, R288) -/

/-- The messages of class `c` that one frame takes from the front of a port's queue: no more data segments than seven and the class' credits. -/
def State.batch (s : State) (k c : Nat) : List Outgoing :=
  takeMsgs 4 (min 7 ((s.port k).credit c)) ((s.tx.get k []).filter fun o => o.cls == c)

/-- A queue without its first `n` messages of class `c`. -/
def dropClass (n c : Nat) (q : List Outgoing) : List Outgoing :=
  match n, q with
  | m + 1, o :: rest => if o.cls = c then dropClass m c rest else o :: dropClass (m + 1) c rest
  | _, q => q

/-- The class of a message in transit, that of its MSG segment. -/
def groupClass (g : List Segment) : Nat := (g.head?.map (·.cls)).getD clsBulk

/-- The oldest message in transit of each ingress port (R288). -/
def transitHeads (seen : List Nat) (q : List (Nat × List Segment)) : List (Nat × List Segment) :=
  match q with
  | [] => []
  | t :: rest => if seen.contains t.1 then transitHeads seen rest else t :: transitHeads (t.1 :: seen) rest

/-- What one frame of a port may carry: messages of its own of one class, or a message in transit. -/
inductive Load where
  | own (cls : Nat)
  | transit (t : Nat × List Segment)
  deriving DecidableEq, Repr

/-- The class of a load. -/
def Load.cls (l : Load) : Nat :=
  match l with
  | .own c => c
  | .transit t => groupClass t.2

/-- The loads that wait on port `k` with credits for their data segments: its own in the order of their first messages, then those in transit
(R275, R288). -/
def State.loads (s : State) (k : Nat) : List Load :=
  let p := s.port k
  let own := (((s.tx.get k []).map (·.cls)).eraseDups.filter fun c => !(s.batch k c).isEmpty).map Load.own
  own ++ ((transitHeads [] p.transit).filter fun t => decide (t.2.length ≤ p.credit (groupClass t.2) + 1)).map Load.transit

/-- The load that a port serves next: of class RT, else GUAR, else the first (R187, R191; the rotation of R189 is timing, DEDUCED, log 108). -/
def nextLoad (ls : List Load) : Option Load :=
  ((ls.find? fun l => l.cls == clsRt).orElse fun _ => ls.find? fun l => l.cls == clsGuar).orElse fun _ => ls.head?

/-- The state with `n` credits of class `c` taken. -/
def State.payCredits (s : State) (k c n : Nat) : State :=
  s.onPort k fun p => { p with credits := (List.range 4).map fun d => if d = c then p.credit d - n else p.credit d }

/-- Send one DATA frame of what waits on port `k`: messages of one class, or a message in transit with its data segments, re-encrypted (R275, R284,
R288). -/
def State.sendData (s : State) (k : Nat) : State :=
  if !s.portServes k then s
  else
    match nextLoad (s.loads k) with
    | none => s
    | some (.own c) =>
      let ms := s.batch k c
      let s := { s with tx := s.tx.put k (dropClass ms.length c (s.tx.get k [])) }
      (s.payCredits k c (ms.foldl (fun n o => n + o.msg.ndata) 0)).sendFrame k 1 (msgSegs (s.fld F.PRT_STATUS_peer_node k) ms)
    | some (.transit t) =>
      let s := s.onPort k fun p => { p with transit := p.transit.erase t }
      (s.payCredits k (groupClass t.2) (t.2.length - 1)).sendFrame k 1 t.2

/-- The STATUS message of a heartbeat: DT, credits, node identity; where they stand in the message is the model's choice, and the
credits a free value (DESIGN CHOICE, log 41). -/
def State.statusMessage (s : State) (k : Nat) : PortMsg × State :=
  let q := s.free 48
  ({ PortMsg.of 0x30 with group := s.dtOf (120 + k), aux := q.1.toNat, tag := s.fld F.PRT_NODE_ID_node 0 }, q.2)

/-- Send a heartbeat (R275). -/
def State.heartbeat (s : State) (k : Nat) : State :=
  let q := s.statusMessage k
  let s := q.2.sendFrame k 2 (msgSegs (s.fld F.PRT_STATUS_peer_node k) [{ msg := q.1, data := [], cls := 0 }])
  s.onPort k fun p => { p with sentAt := s.aon.dt }

/-- HEARTBEAT_SEND: 2,000 ticks after the last one, a heartbeat leaves (R275). -/
def execHeartbeatSend (k : Nat) (s : State) : Out :=
  checked (decide (k < 8)) (if s.sessionOn k && s.domOn (120 + k) && decide ((s.port k).sentAt + 2000 ≤ s.aon.dt) then s.heartbeat k else s)

/-- The credits that a STATUS message carries (R275, DESIGN CHOICE, log 41). -/
def creditsOf (aux : Nat) : List Nat := (List.range 4).map fun i => aux / 2 ^ (12 * i) % 4096

/-- STATUS: the partner's heartbeat content: the receive credits of each class (R275). -/
def execStatus (k : Nat) (m : PortMsg) (s : State) : Out :=
  checked (decide (k < 8)) (if s.sessionOn k then s.onPort k fun p => { p with credits := creditsOf m.aux } else s)

/-! ## Losing a partner (R183, R280, R281) -/

/-- Count segments dropped in transit at port `k` (R287, R292). -/
def State.transitDrop (s : State) (k n : Nat) : State :=
  (List.range n).foldl (fun s _ => s.bumpEvent F.PRT_DROP_CNT_transit_drop (some F.PRT_ERR_STK_transit_sat) k (120 + k)) s

/-- R281: remote requests end ABSENT, groups are resolved, staged groups and the replay buffer are discarded, transit segments are dropped,
the session's keys are gone. SENDs end by SEND_FAILED (R126). -/
def State.lossSteps (s : State) (k : Nat) : State :=
  let s := (s.absentOnPort k).groupsOnPort k
  let n := ((s.port k).transit.map (·.2.length)).sum
  let s := s.onPort k fun p =>
    { p with staged := [], waiting := [], replay := [], transit := [], old := none, txKey := none, rxKey := none, rxOld := none, expect := 0,
             phase := 0, rekey := none, asked := none, fails := [],
             credits := [0, 0, 0, 0], away := 0, downAt := s.aon.dt }
  { s.transitDrop k n with tx := s.tx.del k, heldAcc := s.heldAcc.filter fun h => h.own != Owner.agent k }

/-- The port-down event: to management firmware and to every function whose composition holds a share of the port (R280, R364). -/
def State.portEvent (s : State) (k cause : Nat) : State :=
  let s := s.noticeAll 5 (k + 256 * cause)
  (List.range 64).foldl (fun s c =>
    if (s.portShares c).any fun p => p.1 == k then
      match s.attached c with
      | some f => s.raise f { kind := 5, status := cause, payload := k, dt := s.aon.dt, vector := 0 }
      | none => s
    else s) s

/-- The wait before the next attempt at bring-up, where auto_retrain is set (R279). -/
def State.armRetrain (s : State) (k : Nat) : State :=
  if s.fld F.PRT_CFG_auto_retrain k = 1 then
    s.onPort k fun p => { p with retryAt := some (s.aon.dt + p.backoff), backoff := min (2 * p.backoff) (us 100000) }
  else s.onPort k fun p => { p with retryAt := none }

/-- A port enters DOWN with a cause: R281's steps, the event, the fault record, the wait before retraining (R279 to R281). -/
def State.portDown (s : State) (k cause : Nat) : State :=
  let st := s.ptState k
  if st = ptOff ∨ st = ptDown then s
  else
    let s := ((s.setPtState k ptDown).setFld F.PRT_STATUS_cause k cause).bump F.PRT_STATUS_downs k 1
    let s := (s.lossSteps k).onPort k fun p => { p with step := 0 }
    let s := (s.portEvent k cause).reportDev (120 + k) 8 (engineCode 4 k) 0 cause []
    s.armRetrain k

/-- A port enters GONE (R280, R281, R289): no fault record and no attempt of its own. -/
def State.portGone (s : State) (k : Nat) : State :=
  let s := (s.setPtState k ptGone).setFld F.PRT_STATUS_cause k pcGoingAway
  let s := (s.lossSteps k).onPort k fun p => { p with step := 0, retryAt := none }
  s.portEvent k pcGoingAway

/-! ## Lanes (R265 to R267) -/

/-- The wavelength indices on which a set of lanes lies. -/
def wavesOf (lanes : Nat) : List Nat := (List.range 8).filter fun w => [0, 1, 2, 3].any fun f => bits lanes (8 * f + w) (8 * f + w) == 1

/-- The four lanes of a wavelength. -/
def lanesOf (w : Nat) : Nat := 2 ^ w + 2 ^ (8 + w) + 2 ^ (16 + w) + 2 ^ (24 + w)

/-- The failed transmit lanes: those found bad and those of the wavelengths whose feed has failed (R266). -/
def State.txFailed (s : State) (k : Nat) : Nat :=
  (List.range 8).foldl (fun m w => if bits (s.fld F.PRT_LOS_STATUS_feed_wl k) w w = 1 then m ||| lanesOf w else m) (s.port k).txBad

/-- The failed receive lanes: those found bad and those without signal. -/
def State.rxFailed (s : State) (k : Nat) : Nat := (s.port k).rxBad ||| s.fld F.PRT_LOS_STATUS_rx_lane k

/-- Set how a direction runs: at 32 lanes, or degraded without one wavelength; the resource's nominal bandwidth follows (R192, R267). -/
def State.setLanes (s : State) (k : Nat) (tx : Bool) (w : Option Nat) : State :=
  let d := if w.isSome then 1 else 0
  let s := if tx then (s.setFld F.PRT_STATUS_deg_tx k d).setFld F.PRT_STATUS_wl_tx k (w.getD 0)
           else (s.setFld F.PRT_STATUS_deg_rx k d).setFld F.PRT_STATUS_wl_rx k (w.getD 0)
  s.setDerate ((if tx then 32 else 40) + k) 100 w.isSome

/-- Judge a direction by R267: it runs, degraded where allowed, or fails. -/
def State.judgeLanes (s : State) (k : Nat) (tx : Bool) : State × Bool :=
  match wavesOf (if tx then s.txFailed k else s.rxFailed k) with
  | [] => (s.setLanes k tx none, true)
  | [w] => if s.fld F.PRT_CFG_allow_degraded k = 1 then (s.setLanes k tx (some w), true) else (s, false)
  | _ => (s, false)

/-- Whether port `k` has applied R267 to its lanes: from the end of step 4 of bring-up on (R277). -/
def State.lanesLive (s : State) (k : Nat) : Bool :=
  s.ptState k == ptUp || s.ptState k == ptAuth || (s.ptState k == ptTrain && decide (5 ≤ (s.port k).step))

/-- Judge a direction of a port that has applied R267; a failed one takes it DOWN with a cause. -/
def State.lanesChanged (s : State) (k : Nat) (tx : Bool) (cause : Nat) : State :=
  if !s.lanesLive k then s
  else
    let q := s.judgeLanes k tx
    if q.2 then q.1 else q.1.portDown k cause

/-! ## Bring-up (R277 to R279) -/

/-- Whether port `k`'s atomiser is fitted (R17). -/
def Flacon.hasPort (f : Flacon) (k : Nat) : Bool := bits f.fitted k k == 1

/-- Bring-up from step 1: PRT.Pn ON, the feed checked (R277). -/
def State.startBringUp (s : State) (k : Nat) : State :=
  let s := s.requestDom (120 + k) .on false
  let s := s.onPort k fun p => { p with step := 1, startAt := s.aon.dt, retryAt := none }
  if s.fld F.PRT_LOS_STATUS_feed_los k = 1 then s.setPtState k ptDark else s.setPtState k ptSearch

/-- Bring-up from step 2: the training pattern on every lane (R277). -/
def State.searchAgain (s : State) (k : Nat) : State :=
  if s.fld F.PRT_LOS_STATUS_feed_los k = 1 then (s.setPtState k ptDark).onPort k fun p => { p with step := 1, startAt := s.aon.dt, retryAt := none }
  else (s.setPtState k ptSearch).onPort k fun p => { p with step := 2, startAt := s.aon.dt, retryAt := none, txBad := 0, rxBad := 0 }

/-- Write the fields of PRT_CFG but enable: role and peer_id only in OFF, DOWN or REFUSED; without auto_retrain no attempt follows, and without
allow_degraded a degraded port goes DOWN (R267, R279, R291). -/
def State.writePrtCfg (s : State) (k : Nat) (v : Word) : State :=
  let st := s.ptState k
  let s := ((s.setFld F.PRT_CFG_auto_retrain k (F.PRT_CFG_auto_retrain.of v)).setFld F.PRT_CFG_allow_degraded k
    (F.PRT_CFG_allow_degraded.of v)).setFld F.PRT_CFG_transit k (F.PRT_CFG_transit.of v)
  let s := s.when (s.fld F.PRT_CFG_auto_retrain k == 0) fun s => s.onPort k fun p => { p with retryAt := none }
  let s := (s.lanesChanged k true pcLanes).lanesChanged k false pcLanes
  if st = ptOff ∨ st = ptDown ∨ st = ptRefused then
    (s.setFld F.PRT_CFG_role k (F.PRT_CFG_role.of v)).setFld F.PRT_CFG_peer_id k (F.PRT_CFG_peer_id.of v)
  else s

/-- PORT_ENABLE: PRT_CFG is written with enable = 1: bring-up starts from OFF, and again from REFUSED (R277, R278, R291). -/
def execPortEnable (k : Nat) (v : Word) (s : State) : Out :=
  checked (decide (k < 8))
    (if F.PRT_CFG_enable.of v = 0 then s
     else
       let st := s.ptState k
       let s := (s.writePrtCfg k v).setFld F.PRT_CFG_enable k 1
       if st = ptOff ∨ st = ptRefused then s.startBringUp k else s)

/-- Begin the going-away sequence of an UP port with a reason: the agent accepts nothing new (R289 step 1). -/
def State.startAway (s : State) (k reason : Nat) : State :=
  if s.ptState k = ptUp ∧ (s.port k).away = 0 then s.onPort k fun p => { p with away := 1, awayAt := s.aon.dt, reason := reason } else s

/-- A port goes OFF: the session of one that is not UP yet ends under R281 (R291). -/
def State.portOff (s : State) (k : Nat) : State :=
  let s := if s.sessionOn k then s.lossSteps k else s
  (s.setPtState k ptOff).onPort k fun p => { p with step := 0, retryAt := none }

/-- PORT_DISABLE: PRT_CFG is written with enable = 0: OFF, after R289 where the port is UP (R289, R291). -/
def execPortDisable (k : Nat) (v : Word) (s : State) : Out :=
  checked (decide (k < 8))
    (if F.PRT_CFG_enable.of v = 1 then s
     else
       let s := (s.writePrtCfg k v).setFld F.PRT_CFG_enable k 0
       if s.ptState k = ptUp then s.startAway k 2 else s.portOff k)

/-- The feed of a port as its atomiser finds it: bit w of `wl` set where wavelength w is below threshold (R266, R291). -/
def State.setFeed (s : State) (k wl : Nat) : State :=
  let s := (s.setFld F.PRT_LOS_STATUS_feed_wl k wl).setFld F.PRT_LOS_STATUS_feed_los k (if wl % 256 = 255 then 1 else 0)
  if wl % 256 = 0 then s else s.setFld F.PRT_LOS_STATUS_feed_stk k 1

/-- FEED_RECHECK: a DARK port checks its feed, at step 1 and each 1 ms from then on; with a wavelength above threshold it searches (R277). -/
def execFeedRecheck (k wl : Nat) (s : State) : Out :=
  checked (decide (k < 8))
    (let p := s.port k
     if s.ptState k ≠ ptDark ∨ s.fld F.PRT_CFG_enable k = 0 ∨ (s.aon.dt ≠ p.startAt ∧ s.aon.dt < p.startAt + us 1000) then s
     else
       let s := (s.setFld F.PRT_LOS_STATUS_feed_wl k wl).setFld F.PRT_LOS_STATUS_feed_los k (if wl % 256 = 255 then 1 else 0)
       let s := s.onPort k fun p => { p with step := 1, startAt := s.aon.dt }
       if wl % 256 = 255 then s else s.setPtState k ptSearch)

/-- LINK_SIGNAL_DETECT: signal on the receive lanes: a searching port, or a GONE one that listens with its domain ON and its feed there, starts at
step 3 (R277, R279). -/
def execLinkSignalDetect (k : Nat) (s : State) : Out :=
  checked (decide (k < 8))
    (if (s.ptState k = ptSearch ∧ (s.port k).step = 2) ∨
         (s.ptState k = ptGone ∧ s.domOn (120 + k) ∧ s.fld F.PRT_LOS_STATUS_feed_los k = 0) then
       let s := (s.setFld F.PRT_LOS_STATUS_los k 0).setFld F.PRT_LOS_STATUS_rx_lane k 0
       (s.setPtState k ptTrain).onPort k fun p => { p with step := 3, sigAt := s.aon.dt }
     else s)

/-- The refusal of a partner at step 6, 0 for none: its chain must verify to an operator trust anchor that the flacon holds (R278). -/
def State.refusal (s : State) (k : Nat) (b : BringUp) : Nat :=
  let role := s.fld F.PRT_CFG_role k
  let peer := s.fld F.PRT_CFG_peer_id k
  if !b.chainOk || !s.flacon.anchors.contains b.anchor then pcCert
  else if b.role ≠ role ∨ (peer ≠ 0 ∧ peer ≠ b.node) ∨ (role = 2 ∧ !b.namesUs) ∨ s.fld F.PRT_NODE_ID_node 0 = 0 then pcRole
  else 0

/-- The cause of a bring-up step that fails: AUTH for authentication, STEP_TIMEOUT for the others (DEDUCED, log 42). -/
def stepCause (step : Nat) : Nat := if step = 6 then pcAuth else pcStep

/-- Step 4 has its lane maps: both directions are judged (R267, R277). -/
def State.lanesTrained (s : State) (k : Nat) (b : BringUp) : State :=
  let s := s.onPort k fun p => { p with txBad := b.badTx % 2 ^ 32, rxBad := b.badRx % 2 ^ 32 }
  let t := s.judgeLanes k true
  let r := t.1.judgeLanes k false
  if t.2 && r.2 then r.1.onPort k fun p => { p with step := 5 } else r.1.portDown k pcLanes

/-- The key and the salt that a secret gives the direction in which a node sends (R276). -/
def linkKey (secret node : Nat) : LinkKey := ⟨Config.hkdfKey secret node, (Config.hkdfSalt secret node).toNat⟩

/-- The frame in clear of step 4: this side's good-lane map, node identity and role, in a message whose layout is the model's (R277; DESIGN CHOICE,
log 41). -/
def State.trainFrame (s : State) (k : Nat) : Frame :=
  let m : PortMsg := { PortMsg.of 0x30 with status := s.fld F.PRT_CFG_role k, tag := s.fld F.PRT_NODE_ID_node 0, aux := 2 ^ 32 - 1 - s.rxFailed k % 2 ^ 32 }
  { ftype := 4, phase := 0, island := 120 + k, ack := 0, ctr := 0, dt := s.dtOf (120 + k), zero := 0,
    segs := msgSegs 0 [{ msg := m, data := [], cls := clsBulk }], corrected := 0, uncorrected := 0, tagOk := true }

/-- Step 4 begins: a TRAIN frame leaves (R277). -/
def State.startTraining (s : State) (k : Nat) : State :=
  let f := s.trainFrame k
  (s.onPort k fun p => { p with step := 4 }).emit (.frame k f (clearWire f))

/-- Step 6: the partner's role and identity are kept; it is refused, or the first key phase is installed, under a fresh secret (R276 to R278). -/
def State.authenticated (s : State) (k : Nat) (b : BringUp) : State :=
  let s := (s.setFld F.PRT_STATUS_peer_role k b.role).setFld F.PRT_STATUS_peer_node k b.node
  let c := s.refusal k b
  if c ≠ 0 then ((s.setPtState k ptRefused).setFld F.PRT_STATUS_cause k c).onPort k fun p => { p with step := 0 }
  else
    let q := s.free 64
    let s := (q.2.setFld F.PRT_STATUS_key_phase k 0).setReg .PRT_TX_CTR k 0#64
    s.onPort k fun p =>
      { p with step := 7, expect := 0, phase := 0, old := none, replay := [], sentAt := s.aon.dt, rxOld := none,
               txKey := some (linkKey q.1.toNat (s.fld F.PRT_NODE_ID_node 0)), rxKey := some (linkKey q.1.toNat b.node) }

/-- A port enters UP (R277, R279, R304). -/
def State.portUpNow (s : State) (k : Nat) : State :=
  let s := ((s.setPtState k ptUp).setReg .TIM_OWD k 0#64).setReg .TIM_OWD_AUX k 0#64
  s.onPort k fun p => { p with step := 0, backoff := 200000, retryAt := none, heardAt := s.aon.dt, delays := [], away := 0 }

/-- BRINGUP_STEP_DONE: the running step of bring-up ends with what it found; it advances, refuses the partner, or takes the port DOWN
(R267, R277, R278). -/
def execBringupStepDone (k : Nat) (b : BringUp) (s : State) : Out :=
  checked (decide (k < 8))
    (let p := s.port k
     let next (n : Nat) : State := s.onPort k fun p => { p with step := n }
     if p.step = 0 ∨ p.step = 2 ∨ s.ptState k = ptDark then s
     else if p.step = 1 ∧ (!s.domOn (120 + k) ∧ b.ok) then s
     else if !b.ok then s.portDown k (stepCause p.step)
     else
       match p.step with
       | 1 => next 2
       | 3 => s.startTraining k
       | 4 => s.lanesTrained k b
       | 5 => (next 6).setPtState k ptAuth
       | 6 => s.authenticated k b
       | _ => s.portUpNow k)

/-- The bound of a bring-up step in ticks from the signal (R277). -/
def stepBound (step : Nat) : Nat := [0, 0, 0, 4000000, 5000000, 6000000, 16000000, 16200000].getD step 0

/-- BRINGUP_STEP_TIMEOUT: a step passes its bound; without signal a port searches without limit (R277). -/
def execBringupStepTimeout (k : Nat) (s : State) : Out :=
  checked (decide (k < 8))
    (let p := s.port k
     if 3 ≤ p.step ∧ p.sigAt + stepBound p.step ≤ s.aon.dt then s.portDown k pcStep else s)

/-- RETRAIN_BACKOFF: the wait of a DOWN port ends and bring-up starts again at step 2 (R279). -/
def execRetrainBackoff (k : Nat) (s : State) : Out :=
  checked (decide (k < 8))
    (match (s.port k).retryAt with
     | some t => if s.ptState k = ptDown ∧ s.fld F.PRT_CFG_auto_retrain k = 1 ∧ t ≤ s.aon.dt then s.searchAgain k else s
     | none => s)

/-! ## Feed and lane failures (R266, R267, R280) -/

/-- FEED_WAVELENGTH_FAIL: a wavelength of the feed fails, and with it four transmit lanes; with every wavelength failed the port is DARK
(R266, R267, R280). -/
def execFeedWavelengthFail (k w : Nat) (s : State) : Out :=
  checked (decide (k < 8) && decide (w < 8))
    (let s := s.setFeed k (s.fld F.PRT_LOS_STATUS_feed_wl k ||| 2 ^ w)
     let st := s.ptState k
     if s.fld F.PRT_LOS_STATUS_feed_los k = 1 then
       if st = ptOff ∨ st = ptRefused then s
       else
         let s := s.when (st == ptUp) fun s => s.onPort k fun p => { p with downAt := s.aon.dt }
         (s.setPtState k ptDark).onPort k fun p => { p with step := 1, startAt := s.aon.dt, retryAt := none }
     else s.lanesChanged k true pcLanes)

/-- LANE_FAIL: lanes of a direction fail (R267). -/
def execLaneFail (k : Nat) (tx : Bool) (lanes : Nat) (s : State) : Out :=
  checked (decide (k < 8))
    ((s.onPort k fun p => if tx then { p with txBad := (p.txBad ||| lanes) % 2 ^ 32 } else { p with rxBad := (p.rxBad ||| lanes) % 2 ^ 32 })
      |>.lanesChanged k tx pcLanes)

/-- LOSS_OF_SIGNAL: receive lanes lose their signal; where R267 fails with them the port is DOWN with cause LOS (R280). -/
def execLossOfSignal (k lanes : Nat) (s : State) : Out :=
  checked (decide (k < 8))
    (let s := s.setFld F.PRT_LOS_STATUS_rx_lane k (s.fld F.PRT_LOS_STATUS_rx_lane k ||| lanes)
     let q := s.judgeLanes k false
     if q.2 then (if s.lanesLive k then q.1 else s)
     else
       let live := s.lanesLive k
       let up := s.ptState k == ptUp
       let s := (s.setFld F.PRT_LOS_STATUS_los k 1).when up fun s => s.setFld F.PRT_LOS_STATUS_los_stk k 1
       if live then s.portDown k pcLos else s)

/-! ## Receiving frames (R272 to R274, R280, R287, R304) -/

/-- The REPLAY message that names an expected counter; its key phase stands in aux (R273, R285; DESIGN CHOICE, log 41). -/
def replayMessage (w : Nat × Nat) : PortMsg := { PortMsg.of 0x31 with offset := w.2, aux := w.1 }

/-- Ask the partner to send again from the counter that is expected (R273). -/
def State.askReplay (s : State) (k : Nat) : State :=
  let p := s.port k
  if p.asked.isSome then s
  else (s.setPort k { p with asked := some (p.wanted.1, p.wanted.2, s.aon.dt) }).sendCtl k (replayMessage p.wanted) []

/-- The counter that the receiver expects for a key phase, none for a phase it does not hold (R272, R276). -/
def Port.expected (p : Port) (phase : Nat) : Option Nat := if phase = p.phase then some p.expect else p.old

/-- Whether a frame is well formed: defined types and kinds, zero fields zero, data with its messages (R269, R272, R284). -/
def frameFormed (f : Frame) : Bool :=
  decide (1 ≤ f.ftype) && decide (f.ftype ≤ 4) && f.zero == 0 && decide (f.segs.length ≤ 8) &&
    (f.segs.all fun g => decide (1 ≤ g.kind) && decide (g.kind ≤ 3) && g.zero == 0) && segsFit 0 f.segs

/-- Count codewords (R291, R292). -/
def State.fecCount (s : State) (k : Nat) (f : Frame) : State :=
  let s := (List.range f.corrected).foldl (fun s _ => s.bumpEvent F.PRT_FEC_CNT_cor (some F.PRT_ERR_STK_cor_sat) k (120 + k)) s
  (List.range f.uncorrected).foldl (fun s _ => s.bumpEvent F.PRT_FEC_CNT_unc (some F.PRT_ERR_STK_unc_sat) k (120 + k)) s

/-- A tag fails to verify: counted; 64 within 2,000,000 ticks take the port DOWN with cause AUTH (R272). -/
def State.tagFailed (s : State) (k : Nat) : State :=
  let s := s.bumpEvent F.PRT_AUTH_FAIL_fails (some F.PRT_ERR_STK_auth_sat) k (120 + k)
  let now := s.aon.dt
  let fs := ((s.port k).fails.filter fun t => decide (now < t + 2000000)) ++ [now]
  let s := s.onPort k fun p => { p with fails := fs }
  if 64 ≤ fs.length then s.portDown k pcAuth else s.askReplay k

/-- Take a one-way delay sample (R304): the mean of the last 64, floor and sixteenths. -/
def State.delaySample (s : State) (k : Nat) (d : Int) : State :=
  let ds := ((s.port k).delays ++ [d])
  let ds := ds.drop (ds.length - 64)
  let n := ds.length
  let sum : Int := ds.foldl (· + ·) 0
  let mean : Int := sum / (n : Int)
  let frac : Int := sum * 16 / (n : Int) - mean * 16
  let s := (s.onPort k fun p => { p with delays := ds }).setReg .TIM_OWD k (BitVec.ofInt 64 mean)
  ((s.setFld F.TIM_OWD_AUX_samples k n).setFld F.TIM_OWD_AUX_valid k (if n = 64 then 1 else 0)).setFld F.TIM_OWD_AUX_frac k frac.toNat

/-- Whether a transit segment may leave by port `e` having come by port `k` (R287). -/
def State.transitOk (s : State) (k e : Nat) (g : Segment) : Bool :=
  s.fld F.PRT_CFG_transit k == 1 && decide (e < 8) && s.fld F.PRT_CFG_transit e == 1 && e != k && decide (0 < g.hops) && s.ptState e == ptUp &&
    (s.port k).away == 0

/-- Whether the way from port `k` to port `e` is open: the ring of their edge segment where it is one, else mesh segments, and the seam between
halves (R249); where it is not, the model drops and counts (DESIGN CHOICE, log 134). -/
def State.transitWay (s : State) (k e : Nat) : Bool :=
  if edgeOf k = edgeOf e then s.domOn (edgeOf k) else s.pathOn (120 + k) (120 + e)

/-- A message of an accepted frame, a MSG segment with its data segments, that is not for this device: forwarded with one hop less, or dropped and
counted, each segment (R287, R288). -/
def State.forward (s : State) (k : Nat) (gs : List Segment) : State :=
  match gs with
  | [] => s
  | g :: _ =>
    if g.dest = s.fld F.PRT_NODE_ID_node 0 then s
    else
      let e := s.route.get g.dest 15
      if (gs.all fun h => s.transitOk k e h) && s.transitWay k e then
        s.onPort e fun p => { p with transit := p.transit ++ [(k, gs.map fun h => { h with hops := h.hops - 1 })] }
      else s.transitDrop k gs.length

/-- The segments of a frame cut before each MSG segment (R284). -/
def frameGroups (gs : List Segment) : List (List Segment) :=
  gs.foldr (fun g acc =>
    match acc with
    | (h :: t) :: rest => if h.kind = 1 then [g] :: (h :: t) :: rest else (g :: h :: t) :: rest
    | _ => [[g]]) []

/-- The frames of a replay buffer that an ack leaves (R274): those not below the counter it names. While frames of the key phase before are held, an ack
of one of them, or of the counter after it, is theirs (DEDUCED, log 139). -/
def ackLeaves (phase ack : Nat) (fs : List Sent) : List Sent :=
  let kept (f : Sent) : Bool := decide ((f.frame.ctr + 2 ^ 32 - ack % 2 ^ 32) % 2 ^ 32 < 2 ^ 31)
  let theirs (f : Sent) : Bool := f.frame.phase != phase && (f.frame.ctr % 2 ^ 32 == ack % 2 ^ 32 || (f.frame.ctr + 1) % 2 ^ 32 == ack % 2 ^ 32)
  if fs.any theirs then fs.filter fun f => f.frame.phase == phase || kept f else fs.filter fun f => f.frame.phase == phase && kept f

/-- Accept a frame: the expected counter advances, the old phase ends with the first frame of the new, the ack releases, heartbeats and
going-away frames act, segments for others pass on (R272 to R276, R280, R287, R304). -/
def State.acceptFrame (s : State) (k : Nat) (f : Frame) : State :=
  let replayed := (s.port k).asked.isSome
  let s := s.onPort k fun p =>
    let p := if f.phase = p.phase then { p with expect := p.expect + 1, old := none, rxOld := none } else { p with old := p.old.map (· + 1) }
    { p with replay := ackLeaves (s.fld F.PRT_STATUS_key_phase k) f.ack p.replay, asked := none }
  let s := s.bump F.MON_ACT_count (120 + k) 1
  let s := (frameGroups f.segs).foldl (fun s g => s.forward k g) s
  if f.ftype = 2 then
    let s := s.onPort k fun p => { p with heardAt := s.aon.dt }
    let s := ((f.segs.flatMap segMsgs).find? fun m => m.op == 0x30).elim s fun m => s.onPort k fun p => { p with credits := creditsOf m.aux }
    if replayed || s.ptState k != ptUp then s else s.delaySample k ((s.dtOf (120 + k) : Int) - f.dt)
  else if f.ftype = 3 then s.portGone k
  else s

/-- FRAME_RECEIVE: a frame reaches port `k`: accepted, dropped as a duplicate, or dropped with a replay asked for; a TRAIN frame while UP
says that the partner has reset (R268 to R274, R280, R284, R287, R304). -/
def execFrameReceive (k : Nat) (f : Frame) (s : State) : Out :=
  checked (decide (k < 8))
    (if !s.sessionOn k || !s.domOn (120 + k) then s
     else
       let s := s.fecCount k f
       if 0 < f.uncorrected ∨ !frameFormed f then s.askReplay k
       else if f.ftype = 4 then
         if s.ptState k = ptUp then (s.portDown k pcPartnerReset).searchAgain k else s
       else
         match (s.port k).expected f.phase with
         | none => s.askReplay k
         | some e =>
           if f.ctr < e then s
           else if !f.tagOk then s.tagFailed k
           else if f.ctr ≠ e then s.askReplay k
           else s.acceptFrame k f)

/-- The frames of the replay buffer that a REPLAY asks for: from the counter of a key phase on, in order; where it names the end of the phase before,
those of the phase that follows; none where the buffer no longer holds that counter (R273, R276). -/
def Port.resend (p : Port) (txPhase ctr phase : Nat) : Option (List Sent) :=
  let at_ (f : Sent) : Bool := f.frame.phase == phase && f.frame.ctr == ctr
  if p.replay.any at_ then some (p.replay.dropWhile fun f => !at_ f)
  else if phase = txPhase then none
  else
    let old := p.replay.filter fun f => f.frame.phase == phase
    let new := p.replay.filter fun f => f.frame.phase == txPhase
    if (old.all fun f => decide (f.frame.ctr < ctr)) && (new.head?.all fun f => f.frame.ctr == 0) then some new else none

/-- REPLAY: the partner asks again for the frames from a counter of a key phase; they are sent byte for byte, or the port goes DOWN where the buffer no
longer holds that counter (R270, R273). -/
def execReplay (k : Nat) (q : FramePoint) (s : State) : Out :=
  checked (decide (k < 8))
    (let tx := s.fld F.PRT_STATUS_key_phase k
     if !s.sessionOn k || !s.domOn (120 + k) then s
     else if q.phase = tx ∧ q.ctr = (s.reg .PRT_TX_CTR k).toNat then s
     else
       match (s.port k).resend tx q.ctr q.phase with
       | some fs => fs.foldl (fun s f => s.emit (.frame k f.frame f.wire)) s
       | none => s.portDown k pcReplay)

/-- REPLAY_REPEAT: 2 µs after the last request, the receiver asks again for the counter it still misses (R273). -/
def execReplayRepeat (k : Nat) (s : State) : Out :=
  checked (decide (k < 8))
    (match (s.port k).asked with
     | some (phase, c, t) =>
       if s.sessionOn k && decide (t + us 2 ≤ s.aon.dt) then
         (s.onPort k fun p => { p with asked := some (phase, c, s.aon.dt) }).sendCtl k (replayMessage (phase, c)) []
       else s
     | none => s)

/-- HEARTBEAT_TIMEOUT: no heartbeat for 16 µs, with signal present: DOWN with cause HEARTBEAT (R280, R281). -/
def execHeartbeatTimeout (k : Nat) (s : State) : Out :=
  checked (decide (k < 8))
    (if s.ptState k = ptUp ∧ s.fld F.PRT_LOS_STATUS_los k = 0 ∧ (s.port k).heardAt + us 16 ≤ s.aon.dt then s.portDown k pcHeartbeat else s)

/-! ## Rekeying (R276) -/

/-- The data of REKEY and REKEY_ACK: this side's ephemeral public key and its signature by the device identity key (R276, R285). -/
def rekeyData (priv : Nat) : List Byte :=
  let key := (Config.publicKey priv ++ zeros 64).take 64
  key ++ (Config.sign 0 key ++ zeros 64).take 64

/-- Start a rekey where none runs: a fresh ephemeral key, and this side's REKEY (R276 steps 1 and 2). -/
def State.startRekey (s : State) (k : Nat) : State :=
  if s.ptState k = ptUp ∧ (s.port k).rekey.isNone then
    let q := s.free 64
    (q.2.onPort k fun p => { p with rekey := some { priv := q.1.toNat, txNext := none, acked := false } }).sendCtl k
      { PortMsg.of 0x32 with ndata := 1, length := 128 } (rekeyData q.1.toNat)
  else s

/-- REKEY_START: the transmit counter reaches 2^39 (R276). -/
def execRekeyStart (k : Nat) (s : State) : Out :=
  checked (decide (k < 8)) (if 2 ^ 39 ≤ (s.reg .PRT_TX_CTR k).toNat then s.startRekey k else s)

/-- Once this side has derived the new phase and has REKEY_ACK, it sends under the new key from counter 0, with key_phase inverted (R276 step 5). -/
def State.settleRekey (s : State) (k : Nat) : State :=
  match (s.port k).rekey with
  | some ⟨_, some key, true⟩ =>
    let s := (s.setFld F.PRT_STATUS_key_phase k (1 - s.fld F.PRT_STATUS_key_phase k)).setReg .PRT_TX_CTR k 0#64
    s.onPort k fun p => { p with rekey := none, txKey := some key }
  | _ => s

/-- The partner's public key is verified: the secret gives both directions of the new phase their keys; the receive phase before stays held beside it
(R276 steps 3 and 6). -/
def State.newPhase (s : State) (k priv : Nat) (peer : List Byte) : State :=
  let secret := Config.ecdh priv peer
  let tx := linkKey secret (s.fld F.PRT_NODE_ID_node 0)
  let rx := linkKey secret (s.fld F.PRT_STATUS_peer_node k)
  s.onPort k fun p =>
    { p with rekey := p.rekey.map fun r => { r with txNext := some tx }, old := some p.expect, phase := 1 - p.phase, expect := 0, rxOld := p.rxKey,
             rxKey := some rx }

/-- REKEY: the partner's key: this side sends its own where it has not, verifies the signature, holds the new phase beside the old and
answers REKEY_ACK; a signature that fails takes the port DOWN with cause REKEY (R276, DEDUCED, log 43). -/
def execRekey (k : Nat) (m : PortMsg) (data : List Byte) (s : State) : Out :=
  checked (decide (k < 8))
    (if s.ptState k ≠ ptUp then s
     else if !Config.verifySig (leBytes 2 (s.fld F.PRT_STATUS_peer_node k)) (data.take 64) ((data.drop 64).take 64) then s.portDown k pcRekey
     else
       let s := s.startRekey k
       match (s.port k).rekey with
       | some ⟨priv, none, _⟩ =>
         let s := s.newPhase k priv (data.take 64)
         (s.sendCtl k { PortMsg.of 0x33 with tag := m.tag, ndata := 1, length := 128 } (rekeyData priv)).settleRekey k
       | _ => s)

/-- REKEY_ACK: the partner holds the new phase; this side may send under it (R276 step 5). -/
def execRekeyAck (k : Nat) (m : PortMsg) (s : State) : Out :=
  checked (decide (k < 8))
    (if s.ptState k ≠ ptUp ∨ m.status ≠ 0 then s
     else (s.onPort k fun p => { p with rekey := p.rekey.map fun r => { r with acked := true } }).settleRekey k)

/-- REKEY_DEADLINE: a counter reaches 2^40 − 2^20 with the rekey not complete: DOWN with cause REKEY (R276). -/
def execRekeyDeadline (k : Nat) (s : State) : Out :=
  checked (decide (k < 8))
    (if s.ptState k = ptUp ∧ (2 ^ 40 - 2 ^ 20 ≤ (s.reg .PRT_TX_CTR k).toNat ∨ 2 ^ 40 - 2 ^ 20 ≤ (s.port k).expect) then s.portDown k pcRekey else s)

/-! ## The going-away sequence (R289) -/

/-- Whether a request of this device is outstanding on port `k`. -/
def State.remoteBusy (s : State) (k : Nat) : Bool :=
  s.outst.any fun e => match region e.2.req.addr with
    | .remote j _ => j == k
    | _ => false

/-- The DT at which the device expects to return: that of the first pending or held target of 240 W or more, 0 for none (R289, R456). -/
def State.returnDt (s : State) : Nat :=
  ((s.power.held ++ s.power.targets).filter fun t => decide (240 ≤ t.watts)).foldl (fun m t => if m = 0 ∨ t.dt < m then t.dt else m) 0

/-- The GOING_AWAY message: DT, reason in status, the expected return in group (R289 step 3); its op and the place of DT are the model's
choice (DESIGN CHOICE, log 41). -/
def State.awayMessage (s : State) (k : Nat) : PortMsg :=
  { PortMsg.of 0x30 with status := (s.port k).reason, offset := s.dtOf (120 + k), group := s.returnDt }

/-- GOING_AWAY_SEND: the next step of an UP port's going away: once its remote requests have ended and the replies that it owes have left, by ABSENT
after 50 µs at the latest, the GOING_AWAY frame leaves; then heartbeats, and the port enters GONE, or OFF where it has been disabled (R289, R291). -/
def execGoingAwaySend (k : Nat) (s : State) : Out :=
  checked (decide (k < 8))
    (let p := s.port k
     if s.ptState k ≠ ptUp then s
     else
       match p.away with
       | 1 =>
         if (s.remoteBusy k || !p.waiting.isEmpty || !(s.tx.get k []).isEmpty) && decide (s.aon.dt < p.awayAt + us 50) then s
         else
           let s := s.absentOnPort k
           let s := s.sendFrame k 3 (msgSegs (s.fld F.PRT_STATUS_peer_node k) [{ msg := s.awayMessage k, data := [], cls := 0 }])
           s.onPort k fun p => { p with away := 2, awayAt := s.aon.dt }
       | 2 =>
         let s := (s.heartbeat k).portGone k
         if s.fld F.PRT_CFG_enable k = 0 then s.portOff k else s
       | _ => s)

/-! ## PRT_CTL and the route table (R291, R292) -/

/-- PRT_RETRAIN: bring-up again at step 2 from any state but OFF; a session that ran ends under R281 (R291, R458). -/
def execPrtRetrain (k : Nat) (s : State) : Out :=
  checked (decide (k < 8))
    (if s.ptState k = ptOff then s
     else (if s.sessionOn k then s.lossSteps k else s).searchAgain k)

/-- PRT_DOWN: DOWN with cause OPERATOR (R280, R291). -/
def execPrtDown (k : Nat) (s : State) : Out := checked (decide (k < 8)) (s.portDown k pcOperator)

/-- PRT_REKEY: R276 now, while UP (R291). -/
def execPrtRekey (k : Nat) (s : State) : Out := checked (decide (k < 8)) (s.startRekey k)

/-- PRT_RT_DATA_ACCESS: the route entry that PRT_RT_ADDR names is read, or written where `w` is given (8 to 14 are stored as 0xF); with
autoinc the index advances (R291). -/
def execPrtRtDataAccess (w : Option Word) (s : State) : Out :=
  checked true
    (let i := s.fld F.PRT_RT_ADDR_index 0
     let s := match w with
       | some v =>
         let e := F.PRT_RT_DATA_egress.of v
         { s with route := s.route.set 15 i (if 8 ≤ e then 15 else e), lastAccess := some { unsupported := false, value := 0#64 } }
       | none => { s with lastAccess := some { unsupported := false, value := BitVec.ofNat 64 (s.route.get i 15) } }
     if s.fld F.PRT_RT_ADDR_autoinc 0 = 1 then s.setFld F.PRT_RT_ADDR_index 0 ((i + 1) % 65536) else s)

end Sys2Proof.Machine
end

