-- ==== Sys2Proof/Machine/Gating.lean ====
section
/-! DEFINITION. Machine/Gating.lean: the ends of gating and waking (R24, R29, R30, R34): what a domain loses, and its reset. -/
namespace Sys2Proof.Machine

/-! ## What a domain loses (R24) -/

/-- A PRT domain loses link state and session keys: its port is lost under R281 and shows OFF, with the counters of R292 kept (DEDUCED, log 116). -/
def State.losePort (s : State) (k : Nat) : State :=
  let s := ((s.lossSteps k).resetReg .PRT_STATUS k).setFld F.PRT_STATUS_downs k (s.fld F.PRT_STATUS_downs k)
  { s with ports := s.ports.del k, tx := s.tx.del k }

/-- The contents that a domain loses when its power is removed (R24). -/
def State.loseContents (s : State) (i : Nat) : State :=
  match domKind i with
  | .cl => s.loseCluster i
  | .nm => s.wipe ((i - 84) * 0x60000000) ((i - 84) * 0x60000000 + 0x60000000)
  | .fmp => s.losePair i
  | .prt => s.losePort (i - 120)
  | .atm => s.setDom i { s.dom i with lock := false }
  | .seam | .fab => s
  | .hst =>
    let h := i - 138
    { s with hosts := s.hosts.put h { s.hosts.get h HostPort.init with up := false } }

/-- Domain `i` without power: OFF, its replica of DT lost (R294) and its contents too, or in RETAIN. -/
def State.powerOff (s : State) (i : Nat) (toward : DomState) : State :=
  let d := s.dom i
  let s := s.setDom i { d with state := toward, trans := .none, floor := 0, skew := 0 }
  if toward = .off then s.loseContents i else s

/-! ## The reset of a domain that wakes (R20, R29, R96) -/

/-- A command processor restarts at its firmware entry; what firmware has set in its CSRs stays (R96, R411). -/
def State.restartCp (s : State) (p : Nat) : State :=
  let c := s.cp p
  s.setCp p { Cp.init with file := { SeqFile.init with pc := c.fwEntry }, fwData := c.fwData, fwEntry := c.fwEntry, aliveAt := s.aon.dt }

/-- The command processors of domain `i` take its reset (R20). -/
def State.restartCps (s : State) (i : Nat) : State := (List.range 16).foldl (fun s p => if cpIsl p = i then s.restartCp p else s) s

/-- No wake raised by a seam segment for domain `i` is in progress any more (R263). -/
def State.seamWakeOver (s : State) (i : Nat) : State := { s with seamWakes := s.seamWakes.filter fun w => w.2 != i }

/-! ## The rows -/

/-- GATE_DRAIN_END: the drain of a gating domain has completed: it is isolated, retained or powered off, and reports OFF or RETAIN; its
micro-TLBs and its replica of DT are lost, and what R24 names; the next queued request is served (R24, R29, R32, R230, R294). -/
def execGateDrainEnd (i : Nat) (s : State) : Out :=
  checked (decide (i < 148))
    (match (s.dom i).trans with
     | .gating toward _ =>
       if s.islBusy i then s
       else
         let s := (s.powerOff i toward).dropTlbs i
         let s := s.when (!((s.dom i).queue.any fun q => q.byCtl)) fun s => s.domResult i domOk
         (s.serveDom i).serveWaiting
     | _ => s)

/-- GATING_FAILED: 10 µs after step 1 the drain is not complete; the domain returns to ON, and a fault record names the island and the
FIFOs still occupied; what waited for it goes on (R30, R258, R403). -/
def execGatingFailed (i fifos : Nat) (s : State) : Out :=
  checked (decide (i < 148))
    (match (s.dom i).trans with
     | .gating _ t =>
       if s.aon.dt < t + us 10 || !((depsOf i).all fun j => s.domOn j) then s
       else
         let s := (s.setDom i { s.dom i with trans := .none, state := .on }).seamWakeOver i
         let s := s.reportDev 255 4 (engineCode 7 i) 0 0 (leBytes 8 fifos)
         (s.when (!((s.dom i).queue.any fun q => q.byCtl)) fun s => s.domResult i domFailed).serveDom i |>.serveWaiting
     | _ => s)

/-- Domain `i` reports ON with its replica of DT loaded (R294), after its reset: its command processors restart (R20, R29, R96), an ATM domain's
resonators are in lock (R24); a wake that a seam segment raised for it has ended (R263). -/
def State.comeOn (s : State) (i : Nat) : State :=
  let s := s.setDom i { s.dom i with state := .on, trans := .none, floor := 0, skew := 0, lock := domKind i == .atm }
  (s.restartCps i).seamWakeOver i

/-- WAKE_CREDITS_COMPLETE: every credit of a waking domain has arrived; isolation is released, it reports ON with its replica loaded, and
what waited for it goes on; one whose dependence is gone waits for that (R27, R29, R34, R257, R294). -/
def execWakeCreditsComplete (i : Nat) (s : State) : Out :=
  checked (decide (i < 148))
    (match (s.dom i).trans with
     | .waking _ _ =>
       if !((depsOf i).all fun j => s.domOn j) then s.wakeDeps i
       else
         let s := s.comeOn i
         let s := s.when (!((s.dom i).queue.any fun q => q.byCtl)) fun s => s.domResult i domOk
         (s.serveDom i).serveWaiting
     | _ => s)

/-- WAKE_CREDIT_TIMEOUT: 1 µs after step 1 of the wake credits are missing; isolation stays, the domain returns to the state it was woken
from with its contents, and a fault record names the island and the crossings (R34, R403). -/
def execWakeCreditTimeout (i missing : Nat) (s : State) : Out :=
  checked (decide (i < 148))
    (match (s.dom i).trans with
     | .waking origin t =>
       if s.aon.dt < t + us 1 then s
       else
         let s := (s.setDom i { s.dom i with state := origin, trans := .none }).seamWakeOver i
         let s := s.reportDev 255 4 (engineCode 7 i) 0 1 (leBytes 8 missing)
         let s := if (s.dom i).queue.any fun q => q.byCtl then s.failWakes .retain i else s.domResult i domFailed
         ((List.range 148).foldl (fun s j => if (depsOf j).contains i then s.failWakes .on j else s) s).serveDom i
     | _ => s)

end Sys2Proof.Machine
end

