-- ==== Sys2Proof/Machine/PortMsgs.lean ====
section
/-! DEFINITION. Machine/PortMsgs.lean: the port memory agent (R176 to R178, R185, R283 to R286): export windows, READ, PREPARE, COMMIT;
and MIRROR at a twin (R340, R344). -/
namespace Sys2Proof.Machine

/-! ## Export windows (R177, R178) -/

/-- Whether `n` bytes from `a` lie wholly in near memory, or wholly in the bindable part of far memory. -/
def inPlainMemory (a n : Nat) : Bool :=
  decide (a + n ≤ 0x000900000000) || (decide (0x010000000000 ≤ a) && decide (a + n ≤ 0x01A7E0000000))

/-- Whether a span meets a system partition, where a copy of the ledger lies (R164). -/
def State.meetsLedger (s : State) (a n : Nat) : Bool :=
  let hit (b : Nat) : Bool := decide (a < b + 0x10000000) && decide (b < a + n)
  hit (partBase (s.fld F.MEM_LEDGER_CFG_stack_a 0) (s.fld F.MEM_LEDGER_CFG_part_a 0)) ||
    hit (partBase (s.fld F.MEM_LEDGER_CFG_stack_b 0) (s.fld F.MEM_LEDGER_CFG_part_b 0))

/-- Whether a span meets memory bound to a composition. -/
def State.meetsBound (s : State) (a n : Nat) : Bool :=
  (s.partOwner.any fun e => let b := partBase (e.1 / 6) (e.1 % 6); decide (a < b + 0x10000000) && decide (b < a + n)) ||
    (s.farOwner.any fun e => let b := 0x010000000000 + e.1 * 0x20000000; decide (a < b + 0x20000000) && decide (b < a + n))

/-- The local address, size and remote offset of export window `i` (port × 16 + w). -/
def State.pxwBase (s : State) (i : Nat) : Nat := s.fld F.MEM_PXW_BASE_base i * 0x200000
/-- Its size. -/
def State.pxwSize (s : State) (i : Nat) : Nat := s.fld F.MEM_PXW_CFG_size i * 0x200000
/-- Its offset within the partner's remote window. -/
def State.pxwRoff (s : State) (i : Nat) : Nat := s.fld F.MEM_PXW_CFG_roff i * 0x200000

/-- Whether two spans meet. -/
def spansMeet (a n b m : Nat) : Bool := decide (a < b + m) && decide (b < a + n)

/-- Whether another enabled window of the port overlaps window `w`, in local memory or in the partner's window. -/
def State.pxwOverlap (s : State) (k w : Nat) : Bool :=
  let i := 16 * k + w
  (List.range 16).any fun v =>
    let j := 16 * k + v
    v != w && s.fld F.MEM_PXW_CFG_enable j == 1 &&
      (spansMeet (s.pxwBase i) (s.pxwSize i) (s.pxwBase j) (s.pxwSize j) || spansMeet (s.pxwRoff i) (s.pxwSize i) (s.pxwRoff j) (s.pxwSize j))

/-- The owner code of a key slot of the port memory agents (R433). -/
def ownerAgent : Nat := 0x40

/-- Whether the export that window `w` describes is allowed (R177), with a key of the agents' where it names one (R434). -/
def State.exportOk (s : State) (k w : Nat) : Bool :=
  let i := 16 * k + w
  let a := s.pxwBase i
  let n := s.pxwSize i
  let isSealed := s.fld F.MEM_PXW_CFG_mode i == 1
  let sel := s.fld F.MEM_PXW_CFG_key_sel i
  decide (0 < n) && inPlainMemory a n && !s.meetsLedger a n && !(isSealed && decide (a < 0x000900000000)) && !s.meetsBound a n &&
    !s.pxwOverlap k w && (if isSealed then sel == 0 else sel == 0 || (s.slots.get sel Slot.free).owner == ownerAgent)

/-- EXPORT_WINDOW_WRITE: MEM_PXW_CFG of window `w` of port `k` is written: an export that is not allowed, or one whose roff or size is written while
it is enabled, leaves enable 0 (R177). -/
def execExportWindowWrite (k w : Nat) (v : Word) (s : State) : Out :=
  checked (decide (k < 8) && decide (w < 16))
    (let i := 16 * k + w
     let was := s.fld F.MEM_PXW_CFG_enable i == 1
     let moved := was && (F.MEM_PXW_CFG_roff.of v != s.fld F.MEM_PXW_CFG_roff i || F.MEM_PXW_CFG_size.of v != s.fld F.MEM_PXW_CFG_size i)
     let s := s.setReg .MEM_PXW_CFG i (BitVec.ofNat 64 (v.toNat / 64 * 64))
     if F.MEM_PXW_CFG_enable.of v = 0 then s
     else if moved || !s.exportOk k w then s.setFld F.MEM_PXW_CFG_enable i 0
     else s)

/-- The enabled window of port `k` that holds `n` bytes from an offset (R178). -/
def State.windowFor (s : State) (k off n : Nat) : Option Nat :=
  ((List.range 16).map fun w => 16 * k + w).find? fun i =>
    s.fld F.MEM_PXW_CFG_enable i == 1 && decide (s.pxwRoff i ≤ off) && decide (off + n ≤ s.pxwRoff i + s.pxwSize i)

/-- The local address of an offset in window `i`. -/
def State.pxwAddr (s : State) (i off : Nat) : Nat := s.pxwBase i + (off - s.pxwRoff i)

/-- Whether a request's length and offset are those of R175. -/
def shapeOk (m : PortMsg) : Bool := decide (64 ≤ m.length) && decide (m.length ≤ 256) && m.length % 64 == 0 && m.offset % 64 == 0

/-- The window that serves a request, or the status of its refusal: 1 DECODE, 4 EXPORT, 6 ABSENT (R176, R178, R289). -/
def State.exportCheck (s : State) (k : Nat) (m : PortMsg) (write : Bool) : Nat × Nat :=
  if (s.port k).away ≠ 0 then (6, 0)
  else if !shapeOk m then (1, 0)
  else
    match s.windowFor k m.offset m.length with
    | none => (4, 0)
    | some i =>
      let may := if write then s.fld F.MEM_PXW_CFG_wr i == 1 else s.fld F.MEM_PXW_CFG_rd i == 1
      if !may || m.sealedReq != (s.fld F.MEM_PXW_CFG_mode i == 1) then (4, 0) else (0, i)

/-! ## Sealed lines as they are stored (R170, R171, R176) -/

/-- The stored bytes and the metadata word of a far-memory line: a partner's verbatim, or this device's own ciphertext and MAC. -/
def State.rawLine (s : State) (a : Nat) : List Byte × Nat :=
  let b := s.bytes a 64
  match s.metas.find (a / 64) with
  | some w => (b, w)
  | none =>
    let t := s.tagOf (a / 64)
    let cipher := if t = 0 then b else Config.sealLine (s.lineKey t) t (s.installCount t) a b
    (cipher, (Config.lineMac (s.lineKey t) t a cipher).toNat + t * 2 ^ 56)

/-- Store a partner's line verbatim with its metadata word; no key of this device verifies it. -/
def State.storeRaw (s : State) (a : Nat) (line : List Byte) (w : Nat) : State :=
  let l := a / 64
  let s := s.store a line
  { s with tags := s.tags.set 0 l (w / 2 ^ 56 % 256), poison := s.poison.del l, seals := s.seals.put l (2 ^ 32), metas := s.metas.put l w }

/-! ## READ, PREPARE, COMMIT (R178, R185, R255, R283, R286) -/

/-- The accesses of the agent of port `k`: without composition, in the class that the requester gave (R178). -/
def agentWho (k cls : Nat) : Who := ⟨.agent k, none, 0, cls⟩

/-- The selector of the agent's local accesses in window `i` (R177). -/
def State.pxwSel (s : State) (i : Nat) : Nat := if s.fld F.MEM_PXW_CFG_mode i = 1 then 0 else s.fld F.MEM_PXW_CFG_key_sel i

/-- Answer a READ in its class. -/
def State.readResp (s : State) (k cls : Nat) (m : PortMsg) (status : Nat) (data : List Byte) (metas : List Nat) : State :=
  s.sendIn k cls { PortMsg.of 4 with status := status, sealedReq := m.sealedReq, ndata := if status = 0 then 1 else 0, tag := m.tag,
                                     offset := m.offset, length := m.length, metaWords := metas } data

/-- Serve a READ: its window, its permission, the access, the answer (R176, R178, R283). -/
def State.serveRead (s : State) (k : Nat) (q : Incoming) : State :=
  let m := q.msg
  let c := s.exportCheck k m false
  if c.1 ≠ 0 then s.readResp k q.cls m c.1 [] []
  else
    let a := s.pxwAddr c.2 m.offset
    let w := agentWho k q.cls
    if m.sealedReq then
      let j := s.judge w 0 a
      if j ≠ .ok then s.readResp k q.cls m (statusMsg j) [] []
      else
        let ls := (List.range (m.length / 64)).map fun i => s.rawLine (a + 64 * i)
        s.readResp k q.cls m 0 (ls.map (·.1)).flatten (ls.map (·.2))
    else
      let r := s.readPhys w (s.pxwSel c.2) a m.length
      r.s.readResp k q.cls m (statusMsg r.st) r.data []

/-- Answer a PREPARE in its class. -/
def State.prepAck (s : State) (k cls : Nat) (m : PortMsg) (status : Nat) : State :=
  s.sendIn k cls { PortMsg.of 5 with status := status, tag := m.tag, group := m.group } []

/-- Serve a PREPARE: the write is staged, or refused (R178, R179). -/
def State.servePrepare (s : State) (k : Nat) (q : Incoming) : State :=
  let m := q.msg
  let c := s.exportCheck k m true
  if c.1 ≠ 0 then s.prepAck k q.cls m c.1
  else
    let w : Staged := { group := m.group, offset := m.offset, sealedReq := m.sealedReq, metaWords := m.metaWords, data := q.data.take m.length }
    (s.onPort k fun p => { p with staged := p.staged ++ [w] }).prepAck k q.cls m 0

/-- Perform one staged write under the agent's export window. -/
def State.publishStaged (s : State) (k cls : Nat) (w : Staged) : State :=
  match s.windowFor k w.offset w.data.length with
  | none => s
  | some i =>
    let a := s.pxwAddr i w.offset
    if w.sealedReq then
      if s.judge (agentWho k cls) 0 a = .ok then
        ((linesOfData 4 w.data).zipIdx).foldl (fun s p => s.storeRaw (a + 64 * p.2) p.1 (w.metaWords.getD p.2 0)) s
      else s
    else (s.writePhys (agentWho k cls) (s.pxwSel i) a w.data).s

/-- The writes that the agent of a port has staged for a group. -/
def Port.stagedFor (p : Port) (group : Nat) : List Staged := p.staged.filter fun w => w.group == group

/-- Serve a COMMIT: every staged write of its group becomes visible at once, and COMMIT_ACK follows; a group already published is acknowledged again,
an unknown one answered UNKNOWN_GROUP (R179, R185). -/
def State.serveCommit (s : State) (k : Nat) (q : Incoming) : State :=
  let m := q.msg
  let ack (s : State) (status : Nat) : State := s.sendIn k q.cls { PortMsg.of 6 with status := status, tag := m.tag, group := m.group } []
  let ws := (s.port k).stagedFor m.group
  if ws.isEmpty then ack s (if (s.port k).published.contains m.group then 0 else 7)
  else
    let s := ws.foldl (fun s w => s.publishStaged k q.cls w) s
    ack (s.onPort k fun p => { p with staged := p.staged.filter fun w => w.group != m.group, published := p.published ++ [m.group] }) 0

/-! ## MIRROR at a twin (R285, R340, R344, R345) -/

/-- Whether a selector is 0 or names an INSTALLED slot that composition `c` owns (R434). -/
def State.selOwned (s : State) (k c : Nat) : Bool := k == 0 || ((s.slots.get k Slot.free).state == 1 && (s.slots.get k Slot.free).owner == c)

/-- The role TWIN of PRT_CFG (R291). -/
def roleTwin : Nat := 2

/-- Answer a MIRROR. -/
def State.mirrorAck (s : State) (k : Nat) (m : PortMsg) (status : Nat) : State :=
  s.sendMsg k { PortMsg.of 0x21 with status := status, tag := m.tag, group := m.group } []

/-- A MIRROR message that is dropped and counted, and answered with a status (R340). -/
def State.mirrorDrop (s : State) (k : Nat) (m : PortMsg) (status : Nat) : State := ({ s with mirrorDrops := s.mirrorDrops + 1 }).mirrorAck k m status

/-- What the twin keeps of an object once a message about it has come: a context comes in pieces of 248 bytes behind their number (DESIGN CHOICE,
log 47). -/
def shadowBytes (old : List Byte) (kind : Nat) (data : List Byte) : List Byte :=
  if kind = 2 then old.take (248 * leNat (data.take 8)) ++ data.drop 8 else data

/-- Keep a mirrored object for a standby composition. -/
def State.keepShadow (s : State) (c kind i : Nat) (data : List Byte) : State :=
  let old := ((s.shadows.find? fun x => x.comp == c && x.kind == kind && x.index == i).map (·.data)).getD []
  let data := shadowBytes old kind data
  { s with shadows := (s.shadows.filter fun x => !(x.comp == c && x.kind == kind && x.index == i)) ++ [⟨c, kind, i, data⟩] }

/-- The 32 bytes of a record of the twin's log (R344). -/
def twinRecord (m : PortMsg) : List Byte :=
  let w1 := m.metaWords.getD 1 0
  leBytes 8 (m.metaWords.getD 0 0) ++ leBytes 8 m.group ++ leBytes 8 m.offset ++ leBytes 4 (bits w1 39 8) ++ leBytes 1 (bits w1 7 0) ++
    leBytes 1 (bits m.aux 7 0) ++ leBytes 1 (bits m.aux 21 16) ++ leBytes 1 0

/-- Write a record to the log ring where it is in use: it overwrites its oldest (R344). -/
def State.twinLog (s : State) (m : PortMsg) : State :=
  if s.fld F.CMP_TWIN_LOG_enable 0 = 0 then s
  else
    let w := (s.reg .CMP_TWIN_LOGWR 0).toNat
    let a := s.fld F.CMP_TWIN_LOG_base 0 * 4096 + w % (4096 * 2 ^ s.fld F.CMP_TWIN_LOG_size 0) * 32
    (s.writePhys Who.fw 0 a (twinRecord m)).s.setReg .CMP_TWIN_LOGWR 0 (BitVec.ofNat 64 (w + 1))

/-- The composition that a MIRROR names, its key selector, its kind (R340). -/
def mirrorComp (m : PortMsg) : Nat := bits m.aux 21 16
/-- The key selector. -/
def mirrorSel (m : PortMsg) : Nat := bits m.aux 15 8
/-- The kind. -/
def mirrorKind (m : PortMsg) : Nat := bits m.aux 7 0

/-- The status that refuses a MIRROR, 0 for none: ABSENT after promotion, EXPORT where its composition is not STANDBY, KEY_REFUSED where the standby
does not hold its key slot (R340, R345). -/
def State.mirrorRefusal (s : State) (m : PortMsg) : Nat :=
  let c := mirrorComp m
  if s.fld F.CMP_STATUS_state c ≠ 9 then (if (s.comp c).promoted then 6 else 4) else if s.selOwned (mirrorSel m) c then 0 else 5

/-- The accesses that apply a MIRROR: those of the standby composition, made by the agent. -/
def State.mirrorWho (s : State) (k c : Nat) : Who := { agentWho k clsBulk with comp := some c, epoch := s.epochOf c }

/-- Serve a MIRROR: DECODE on a port whose role is not TWIN; ABSENT once the device has sent GOING_AWAY there (R289); refused, dropped and counted by
R340; else applied, logged and acknowledged. -/
def State.serveMirror (s : State) (k : Nat) (q : Incoming) : State :=
  let m := q.msg
  let data := q.data.take m.length
  let c := mirrorComp m
  if s.fld F.PRT_CFG_role k ≠ roleTwin then s.mirrorAck k m 1
  else if 2 ≤ (s.port k).away then s.mirrorAck k m 6
  else if s.mirrorRefusal m ≠ 0 then s.mirrorDrop k m (s.mirrorRefusal m)
  else
    match mirrorKind m with
    | 1 =>
      let r := s.writePhys (s.mirrorWho k c) (mirrorSel m) m.offset data
      if r.st ≠ .ok then r.s.mirrorDrop k m (statusMsg r.st) else (r.s.twinLog m).mirrorAck k m 0
    | 2 | 3 | 4 => ((s.keepShadow c (mirrorKind m) m.offset data).twinLog m).mirrorAck k m 0
    | _ => s.mirrorDrop k m 1

/-- Serve a request by its op. -/
def State.agentServe (s : State) (k : Nat) (q : Incoming) : State :=
  let s := { s with heldAcc := s.heldAcc.filter fun h => h.own != Owner.agent k }
  match q.msg.op with
  | 1 => s.serveRead k q
  | 2 => s.servePrepare k q
  | 0x20 => s.serveMirror k q
  | _ => s.serveCommit k q

/-- The memory that serving a request accesses: selector, address, bytes. -/
def State.agentSpans (s : State) (k : Nat) (q : Incoming) : List (Nat × Nat × Nat) :=
  let span (off n : Nat) : Option (Nat × Nat × Nat) := (s.windowFor k off n).map fun i => (s.pxwSel i, s.pxwAddr i off, n)
  match q.msg.op with
  | 1 => if (s.exportCheck k q.msg false).1 = 0 then (span q.msg.offset q.msg.length).toList else []
  | 3 => ((s.port k).stagedFor q.msg.group).filterMap fun w => span w.offset w.data.length
  | 0x20 =>
    if mirrorKind q.msg = 1 ∧ s.fld F.PRT_CFG_role k = roleTwin ∧ s.mirrorRefusal q.msg = 0 then
      [(mirrorSel q.msg, q.msg.offset, (q.data.take q.msg.length).length)]
    else []
  | _ => []

/-- The groups that a port's agent has open. -/
def Port.openGroups (p : Port) : List Nat := (p.staged.map (·.group)).eraseDups

/-- Whether a request has to wait, with the state that it waits in: a PREPARE that would open a 513th group, until one closes; an access into a half
that is asleep, held until its retry DT (R255, R286). -/
def State.agentBlocked (s : State) (k : Nat) (q : Incoming) : Option State :=
  let gs := (s.port k).openGroups
  if q.msg.op = 2 ∧ (s.exportCheck k q.msg true).1 = 0 ∧ !gs.contains q.msg.group ∧ 512 ≤ gs.length then some s
  else
    let w := if q.msg.op = 0x20 then s.mirrorWho k (mirrorComp q.msg) else agentWho k q.cls
    (s.agentSpans k q).findSome? fun p => s.vwaits w (.phys p.1) (unitsOf p.2.1 p.2.2) p.2.1 p.2.2 needR

/-- Serve the requests that wait at the agent of port `k`, in order, up to one that has to wait on (R286). `fuel` counts them. -/
def State.serveWaits (s : State) (fuel k : Nat) : State :=
  match fuel with
  | 0 => s
  | f + 1 =>
    match (s.port k).waiting with
    | [] => s
    | q :: rest =>
      match s.agentBlocked k q with
      | some t => t
      | none => ((s.onPort k fun p => { p with waiting := rest }).agentServe k q).serveWaits f k

/-- The agent of port `k` goes on with the requests that wait. -/
def State.serveAgent (s : State) (k : Nat) : State := if s.portServes k then s.serveWaits (s.port k).waiting.length k else s

/-- A request of the partner arrives: it is served after those before it; a COMMIT waits for those of its own group alone, since a waiting PREPARE may
need the group that it closes (R286; DESIGN CHOICE, log 135). -/
def State.takeRequest (s : State) (k : Nat) (q : Incoming) : State :=
  if !s.portServes k then s
  else if q.msg.op = 3 ∧ !((s.port k).waiting.any fun w => w.msg.group == q.msg.group) ∧ (s.agentBlocked k q).isNone then
    (s.agentServe k q).serveAgent k
  else (s.onPort k fun p => { p with waiting := p.waiting ++ [q] }).serveAgent k

/-- READ: the agent of port `k` serves a read of the partner (R176, R178, R255, R283, R286). -/
def execRead (k : Nat) (m : ClassMsg) (s : State) : Out := checked (decide (k < 8)) (s.takeRequest k ⟨{ m.msg with op := 1 }, [], m.cls, s.aon.dt⟩)

/-- PREPARE: a write of a group is staged, or refused; a 513th open group is held back (R178, R286). -/
def execPrepare (k : Nat) (m : ClassMsg) (data : List Byte) (s : State) : Out :=
  checked (decide (k < 8)) (s.takeRequest k ⟨{ m.msg with op := 2 }, data, m.cls, s.aon.dt⟩)

/-- COMMIT: every staged write of a group becomes visible at once, and COMMIT_ACK follows (R179, R185, R255, R286). -/
def execCommit (k : Nat) (m : ClassMsg) (s : State) : Out := checked (decide (k < 8)) (s.takeRequest k ⟨{ m.msg with op := 3 }, [], m.cls, s.aon.dt⟩)

end Sys2Proof.Machine
end

