-- ==== Sys2Proof/Machine/Security.lean ====
section
/-! DEFINITION. Machine/Security.lean: images and boot (R424 to R428), key slots (R433 to R437), confidential mode (R438), retirement and
scrubbing (R441, R442). -/
namespace Sys2Proof.Machine

/-! ## Images (R424) -/

/-- An unsigned field of an image's header; where the fields stand is the model's layout (DESIGN CHOICE, log 44). -/
def imgField (img : List Byte) (off n : Nat) : Nat := leNat ((img.drop off).take n)

/-- The security version of an image, 0 for an erased one. -/
def imgSvn (img : List Byte) : Nat := imgField img 8 1

/-- The length of an image's header and body, without its signature. -/
def imgLen (img : List Byte) : Nat := imgField img 4 4

/-- Whether an image verifies (R424): its header, its svn against the floor, its signature by the Thrumric firmware key. -/
def imageOk (img : List Byte) (minSvn : Nat) : Bool :=
  img.take 4 == asciiBytes "ULKI" && decide (4096 ≤ imgLen img) && decide (imgLen img ≤ 24 * 2 ^ 20) && decide (imgLen img + 64 = img.length) &&
    decide (minSvn ≤ imgSvn img) && Config.verifySig (Config.romData 0) (Config.sha256 (img.take (imgLen img))) (img.drop (imgLen img))

/-- Image A or B of the flash. -/
def Flacon.image (f : Flacon) (i : Nat) : List Byte := if i = 0 then f.imageA else f.imageB

/-- The flash with image A or B replaced. -/
def Flacon.setImage (f : Flacon) (i : Nat) (img : List Byte) : Flacon := if i = 0 then { f with imageA := img } else { f with imageB := img }

/-- The state with the flacon changed: one atomic write (R422). -/
def State.onFlacon (s : State) (f : Flacon → Flacon) : State := { s with flacon := f s.flacon }

/-- Show the flacon's images and rollback state in SEC_BOOT. -/
def State.showBoot (s : State) : State :=
  let f := s.flacon
  ((((s.setFld F.SEC_BOOT_next 0 f.next).setFld F.SEC_BOOT_attempts 0 f.attempts).setFld F.SEC_BOOT_svn_a 0 (imgSvn f.imageA)).setFld
    F.SEC_BOOT_svn_b 0 (imgSvn f.imageB)).setFld F.SEC_BOOT_min_svn 0 f.minSvn

/-! ## Boot (R425, R426) -/

/-- Load the digests of the device's public keys (R423, R443). -/
def State.loadDigests (s : State) : State :=
  let ids := Config.sha256 (Config.publicKey 0)
  let idb := Config.sha256 (Config.publicKey 1)
  (List.range 4).foldl (fun s i =>
    (s.setReg .SEC_IDS_DIGEST i (BitVec.ofNat 64 (leNat ((ids.drop (8 * i)).take 8)))).setReg .SEC_IDB_DIGEST i
      (BitVec.ofNat 64 (leNat ((idb.drop (8 * i)).take 8)))) s

/-- Start image `i`: attempts where it is not confirmed, measurements 1 to 3, SEC_BOOT, the firmware stage (R425 step 4). -/
def State.startImage (s : State) (i : Nat) (fallback : Bool) : State :=
  let img := s.flacon.image i
  let s := s.onFlacon fun f => if f.confirmed then f else { f with attempts := min 3 (f.attempts + 1) }
  let s := { s with measures := ((s.measures.put 1 (Config.sha256 (Config.romData 1))).put 2 ((img.drop 16).take 32)).put 3 ((img.drop 48).take 32) }
  let s := ((s.setFld F.SEC_BOOT_booted 0 i).setFld F.SEC_BOOT_fallback 0 fallback.toNat).setFld F.SEC_BOOT_confirmed 0 s.flacon.confirmed.toNat
  { s.showBoot.loadDigests with aon := { s.aon with stage := .firmware } }

/-- BOOT_ROM: the mask ROM takes image next, or the other one where next has failed three starts, verifies it, falls back to the other, or
enters ROM recovery (R425, R426). -/
def execBootRom (s : State) : Out :=
  checked true
    (if s.aon.stage ≠ .rom ∨ s.aon.resetPin then s
     else
       let f := s.flacon
       let tired := !f.confirmed && f.attempts == 3
       let first := if tired then 1 - f.next else f.next
       if imageOk (f.image first) f.minSvn then s.startImage first tired
       else if imageOk (f.image (1 - first)) f.minSvn then (s.onFlacon fun f => { f with next := 1 - first }).startImage (1 - first) true
       else { s with aon := { s.aon with stage := .recovery } })

/-- RECOVERY_IMAGE_LOAD: in ROM recovery the loader verifies an image, writes it into image next and starts again at step 1 (R426). -/
def execRecoveryImageLoad (img : List Byte) (s : State) : Out :=
  checked true
    (if s.aon.stage = .recovery ∧ imageOk img s.flacon.minSvn then
       { s.onFlacon fun f => f.setImage f.next img with aon := { s.aon with stage := .rom } }
     else s)

/-! ## SEC_FW_CTL and SEC_FW_LOAD (R427, R428) -/

/-- FW_SWITCH: next becomes the other image where that verifies; attempts 0; it is not confirmed yet (R427; DEDUCED, log 115). -/
def execFwSwitch (s : State) : Out :=
  checked true
    (let f := s.flacon
     if imageOk (f.image (1 - f.next)) f.minSvn then
       (s.onFlacon fun f => { f with next := 1 - f.next, attempts := 0, confirmed := false }).showBoot
     else s)

/-- FW_COMMIT: min_svn becomes the svn of the booted image, where it is confirmed and above min_svn (R427). -/
def execFwCommit (s : State) : Out :=
  checked true
    (let v := imgSvn (s.flacon.image (s.fld F.SEC_BOOT_booted 0))
     if s.fld F.SEC_BOOT_confirmed 0 = 1 ∧ s.flacon.minSvn < v then (s.onFlacon fun f => { f with minSvn := v }).showBoot else s)

/-- FW_LOAD: a write to SEC_FW_LOAD starts a load into the image not booted; ignored while BUSY (R428). -/
def execFwLoad (v : Word) (s : State) : Out :=
  checked true
    (if s.fld F.SEC_BOOT_load_state 0 = 1 then s
     else
       let target := 1 - s.fld F.SEC_BOOT_booted 0
       let s := (s.setFld F.SEC_FW_LOAD_addr 0 (F.SEC_FW_LOAD_addr.of v)).setFld F.SEC_BOOT_load_state 0 1
       let s := { s with fwTarget := some target }
       (if s.flacon.next = target then s.onFlacon fun f => { f with next := 1 - target, confirmed := s.fld F.SEC_BOOT_confirmed 0 == 1 } else s).showBoot)

/-- Read staged bytes with selector 0, none where a line fails. -/
def State.readStaged (s : State) (a n : Nat) : State × Option (List Byte) :=
  let r := s.readPhys .fw 0 a n
  (r.s, if r.st = .ok then some r.data else none)

/-- FW_LOAD_DONE: the staged image is verified and programmed, or the target is left erased and the load REFUSED (R428). -/
def execFwLoadDone (s : State) : Out :=
  checked true
    (match s.fwTarget with
     | none => s
     | some t =>
       let a := s.fld F.SEC_FW_LOAD_addr 0 * 4096
       let h := s.readStaged a 4096
       let n := (h.2.map imgLen).getD 0
       let q := if 4096 ≤ n ∧ n ≤ 24 * 2 ^ 20 then h.1.readStaged a (n + 64) else (h.1, none)
       let s := { q.1 with fwTarget := none }
       match q.2 with
       | some img =>
         if imageOk img s.flacon.minSvn then ((s.onFlacon fun f => f.setImage t img).setFld F.SEC_BOOT_load_state 0 2).showBoot
         else ((s.onFlacon fun f => f.setImage t []).setFld F.SEC_BOOT_load_state 0 3).showBoot
       | none => ((s.onFlacon fun f => f.setImage t []).setFld F.SEC_BOOT_load_state 0 3).showBoot)

/-! ## Key slots (R433 to R437) -/

/-- The results of SEC_SLOT_STATUS. -/
def slotState : Nat := 1
/-- OWNER. -/
def slotOwner : Nat := 2
/-- IN_USE. -/
def slotInUse : Nat := 3
/-- BUNDLE_FORMAT. -/
def slotFormat : Nat := 4
/-- BUNDLE_SIG. -/
def slotSig : Nat := 5
/-- NOT_IN_SET. -/
def slotNotInSet : Nat := 6
/-- BUNDLE_WRAP. -/
def slotWrap : Nat := 7
/-- COUNT_EXHAUSTED. -/
def slotExhausted : Nat := 8

/-- Slot `k`. -/
def State.slot (s : State) (k : Nat) : Slot := s.slots.get k Slot.free

/-- The state with slot `k` replaced. -/
def State.setSlot (s : State) (k : Nat) (x : Slot) : State := { s with slots := s.slots.put k x }

/-- The result of a slot operation. -/
def State.slotResult (s : State) (r : Nat) : State := s.setFld F.SEC_SLOT_STATUS_last_result 0 r

/-- The slot that a write of SEC_SLOT_CTL acts on. -/
def State.slotSel (s : State) : Nat := s.fld F.SEC_SLOT_SEL_slot 0

/-- Whether an installation of an owner is refused, and with which result (R433, R443). -/
def State.installRefused (s : State) (owner : Nat) : Option Nat :=
  let x := s.slot s.slotSel
  if 64 < owner then some slotOwner
  else if x.state ≠ 0 then some slotState
  else if x.count = 0xFFFFFFFF then some slotExhausted
  else none

/-- Install a key into the selected slot. -/
def State.install (s : State) (owner keyId key : Nat) : State :=
  let x := s.slot s.slotSel
  (s.setSlot s.slotSel { state := 1, owner := owner, keyId := keyId, count := x.count + 1, key := key }).slotResult 0

/-- Whether a slot operation is in progress. -/
def State.slotBusy (s : State) : Bool := s.fld F.SEC_SLOT_STATUS_busy 0 == 1

/-- GENERATE: a key from the random source is installed; its key_id reads 0 (R433, R435). -/
def execGenerate (v : Word) (s : State) : Out :=
  checked true
    (if s.slotBusy then s
     else
       match s.installRefused (F.SEC_SLOT_CTL_owner.of v) with
       | some r => s.slotResult r
       | none =>
         let q := s.free 256
         q.2.install (F.SEC_SLOT_CTL_owner.of v) 0 q.1.toNat)

/-- Whether a bundle's head is well formed: magic, version, count, zero byte (R436, R437). -/
def bundleHead (b : List Byte) : Bool :=
  let u (off n : Nat) : Nat := leNat ((b.drop off).take n)
  b.take 4 == asciiBytes "ULKW" && u 4 2 == 1 && decide (1 ≤ u 6 1) && decide (u 6 1 ≤ 64) && u 7 1 == 0

/-- Whether a public key has a credential entry with a role bit (R432). -/
def State.holdsRole (s : State) (key : List Byte) (bit : Nat) : Bool :=
  s.flacon.credentials.any fun c => c.digest == Config.sha256 key && bits c.roles bit bit == 1

/-- The digest of the device's binding key as its registers show it. -/
def State.idbDigest (s : State) : List Byte := ((List.range 4).map fun i => leBytes 8 (s.reg .SEC_IDB_DIGEST i).toNat).flatten

/-- The result of UNWRAP over a bundle, or the key and its key_id (R437). -/
def State.unwrapBundle (s : State) (b : List Byte) : Nat ⊕ (Nat × Nat) :=
  let n := leNat ((b.drop 6).take 1)
  let signer := (b.drop 0x50).take 64
  let body := b.take (0x90 + 72 * n)
  let entries := (List.range n).map fun j => (b.drop (0x90 + 72 * j)).take 72
  if !s.holdsRole signer 1 || !Config.verifySig signer (Config.sha256 body) ((b.drop (0x90 + 72 * n)).take 64) then .inl slotSig
  else
    match entries.find? fun e => e.take 32 == s.idbDigest with
    | none => .inl slotNotInSet
    | some e =>
      match Config.unwrapKey ((b.drop 0x10).take 64 ++ (b.drop 8).take 8) (e.drop 32) (asciiBytes "ULK-WRAP-1" ++ e.take 32) with
      | none => .inl slotWrap
      | some k => .inr (leNat k, leNat ((b.drop 8).take 8))

/-- UNWRAP: the bundle at SEC_UNWRAP is read with selector 0, checked, and its key installed (R433, R436, R437). -/
def execUnwrap (v : Word) (s : State) : Out :=
  checked true
    (if s.slotBusy then s
     else
       match s.installRefused (F.SEC_SLOT_CTL_owner.of v) with
       | some r => s.slotResult r
       | none =>
         let a := s.fld F.SEC_UNWRAP_addr 0 * 64
         let h := s.readStaged a 0x90
         match h.2 with
         | none => h.1.slotResult slotFormat
         | some b0 =>
           if !bundleHead b0 then h.1.slotResult slotFormat
           else
             let q := h.1.readStaged a (0x90 + 72 * leNat ((b0.drop 6).take 1) + 64)
             match q.2 with
             | none => q.1.slotResult slotFormat
             | some b =>
               match q.1.unwrapBundle b with
               | .inl r => q.1.slotResult r
               | .inr k => q.1.install (F.SEC_SLOT_CTL_owner.of v) k.2 k.1)

/-! ## Retirement and scrubbing (R441, R442) -/

/-- Begin to retire an INSTALLED slot (R441 step 1). -/
def State.startRetire (s : State) (k : Nat) (scrub : Bool) : State :=
  if (s.slot k).state ≠ 1 then s
  else
    let s := (s.setSlot k { s.slot k with state := 2 }).setFld F.SEC_SLOT_STATUS_busy 0 1
    { s with retiring := s.retiring ++ [{ slot := k, at_ := s.aon.dt, scrub := scrub }] }

/-- Whether slot `k` is the ctx_sel slot of a composition that is not FREE (R441). -/
def State.selInUse (s : State) (k : Nat) : Bool := (List.range 64).any fun c => s.fld F.SEC_COMP_CFG_ctx_sel c == k && s.fld F.CMP_STATUS_state c != 0

/-- A write of SEC_SLOT_CTL that retires the selected slot. -/
def State.retireSel (s : State) (scrub : Bool) : State :=
  if s.slotBusy then s
  else if (s.slot s.slotSel).state ≠ 1 then s.slotResult slotState
  else if s.selInUse s.slotSel then s.slotResult slotInUse
  else s.startRetire s.slotSel scrub

/-- RETIRE (R441). -/
def execRetire (_v : Word) (s : State) : Out := checked true (s.retireSel false)

/-- RETIRE_SCRUB (R441, R442). -/
def execRetireScrub (_v : Word) (s : State) : Out := checked true (s.retireSel true)

/-- The granule that holds a far-memory address. -/
def granuleOf (a : Nat) : Nat := (a - 0x010000000000) / 0x20000000

/-- The base of a granule. -/
def granuleBase (g : Nat) : Nat := 0x010000000000 + g * 0x20000000

/-- The scrub entries of a far-memory span for a slot. -/
def scrubsOf (lo hi k : Nat) : List Scrub :=
  (List.range 1343).filterMap fun g =>
    let a := granuleBase g
    let b := a + 0x20000000
    if max lo a < min hi b then some { granule := g, lo := max lo a, hi := min hi b, slot := some k } else none

/-- The enabled PLAIN windows that name a slot. -/
def State.windowsOf (s : State) (k : Nat) : List Nat :=
  (List.range 128).filter fun i => s.fld F.MEM_PXW_CFG_enable i == 1 && s.fld F.MEM_PXW_CFG_mode i == 0 && s.fld F.MEM_PXW_CFG_key_sel i == k

/-- The far memory that RETIRE_SCRUB covers: the owner's granules, or the ranges of the windows that are disabled (R442). -/
def State.scrubList (s : State) (k : Nat) : List Scrub :=
  let o := (s.slot k).owner
  if o = ownerAgent then (s.windowsOf k).flatMap fun i => scrubsOf (s.pxwBase i) (s.pxwBase i + s.pxwSize i) k
  else s.farOwner.filterMap fun e =>
    if e.2.comp = o then some { granule := e.1, lo := granuleBase e.1, hi := granuleBase e.1 + 0x20000000, slot := some k } else none

/-- A slot without a key (R441 step 5). -/
def State.freeKeySlot (s : State) (k : Nat) : State :=
  s.setSlot k { Slot.free with count := (s.slot k).count }

/-- No slot operation is in progress any more where no slot is RETIRING or SCRUBBING. -/
def State.settleSlots (s : State) : State :=
  if s.retiring.isEmpty && !(s.slots.any fun e => e.2.state == 3) then (s.setFld F.SEC_SLOT_STATUS_busy 0 0).slotResult 0 else s

/-- Step 5 of a retirement: the key is gone, its windows are disabled, the slot is FREE, or SCRUBBING until its lines are rewritten. -/
def State.endRetire (s : State) (r : Retirement) : State :=
  let k := r.slot
  let list := s.scrubList k
  let s := ({ s with retiring := s.retiring.filter fun q => q.slot != k }).squashEntries fun _ q => q.sel == k
  let s := (s.windowsOf k).foldl (fun s i => s.setFld F.MEM_PXW_CFG_enable i 0) s
  if r.scrub ∧ !list.isEmpty then
    { s.setSlot k { s.slot k with state := 3, key := 0, keyId := 0 } with scrubs := s.scrubs ++ list }
  else (s.freeKeySlot k).settleSlots

/-- RETIRE_DRAIN_END: nothing injected under a RETIRING slot is outstanding any more, or 500 µs have passed and the rest is squashed
(R441 steps 3 to 5). -/
def execRetireDrainEnd (slot : Nat) (s : State) : Out :=
  checked (decide (slot < 256))
    (match s.retiring.find? fun r => r.slot == slot with
     | none => s
     | some r =>
       if (s.outst.any fun e => e.2.req.sel == slot) && decide (s.aon.dt < r.at_ + us 500) then s else s.endRetire r)

/-- Rewrite as zeros under selector 0 every line of a span whose tag names a slot (R442). -/
def State.scrubTagged (s : State) (lo hi k : Nat) : State :=
  let hit := s.tags.filter fun e => decide (lo ≤ 64 * e.1) && decide (64 * e.1 < hi) && e.2 == k
  hit.foldl (fun s e => s.wipe (64 * e.1) (64 * e.1 + 64)) s

/-- Perform one entry of the scrub list. -/
def State.scrubOne (s : State) (x : Scrub) : State :=
  match x.slot with
  | none => s.wipe x.lo x.hi
  | some k => s.scrubTagged x.lo x.hi k

/-- SCRUB_GRANULE_DONE: the scrub of a granule ends; a SCRUBBING slot with nothing left to rewrite is FREE (R442). -/
def execScrubGranuleDone (g : Nat) (s : State) : Out :=
  checked (decide (g < 1343))
    (let todo := s.scrubs.filter fun x => x.granule == g
     let s := todo.foldl (fun s x => s.scrubOne x) s
     let s := { s with scrubs := s.scrubs.filter fun x => x.granule != g }
     let past := (s.slots.filter fun e => e.2.state == 3 && !(s.scrubs.any fun x => x.slot == some e.1)).map (·.1)
     if past.isEmpty then s else (past.foldl (fun s k => s.freeKeySlot k) s).settleSlots)

/-! ## SEC_COMP_CFG (R434, R438) -/

/-- Whether composition `c` holds a context. -/
def State.hasCtx (s : State) (c : Nat) : Bool := s.ctxs.any fun e => e.2.comp == c

/-- SEC_COMP_CFG_WRITE: ctx_sel while the composition holds no context, and confidential while it is FREE with a ctx_sel of its own (R434,
R438). -/
def execSecCompCfgWrite (c : Nat) (v : Word) (s : State) : Out :=
  checked (decide (c < 64))
    (let k := F.SEC_COMP_CFG_ctx_sel.of v
     let s := if !s.hasCtx c && s.selOwned k c then s.setFld F.SEC_COMP_CFG_ctx_sel c k else s
     if F.SEC_COMP_CFG_confidential.of v = 0 then s.setFld F.SEC_COMP_CFG_confidential c 0
     else
       let sel := s.fld F.SEC_COMP_CFG_ctx_sel c
       if s.fld F.CMP_STATUS_state c = 0 ∧ sel ≠ 0 ∧ s.selOwned sel c then s.setFld F.SEC_COMP_CFG_confidential c 1 else s)

end Sys2Proof.Machine
end

