-- ==== Sys2Proof/Machine/Tables.lean ====
section
/-! DEFINITION. Machine/Tables.lean: the mirror of the page tables (R221 to R229), its pool (R225, R226), the filling of TLBs (R230),
invalidation (R235, R237), and dirty-page logging (R240 to R243). -/
namespace Sys2Proof.Machine

/-! ## The pool (R225, R226) -/

/-- Whether TLX_POOL entry `i` is enabled. -/
def State.poolOn (s : State) (i : Nat) : Bool := s.fld F.TLX_POOL_enable i == 1

/-- The partition that TLX_POOL entry `i` names. -/
def State.poolBase (s : State) (i : Nat) : Nat := partBase (s.fld F.TLX_POOL_stack i) (s.fld F.TLX_POOL_part i)

/-- The bytes of the table of a level (R220). -/
def tableSize (level : Nat) : Nat := if level = 0 then 0x10000 else if level = 3 then 256 else 4096

/-- The bytes of virtual address that a table of a level spans (R220). -/
def tableSpan (level : Nat) : Nat := if level = 0 then 2 ^ 52 else if level = 1 then 2 ^ 39 else if level = 2 then 2 ^ 30 else 2 ^ 21

/-- The entries of a table of a level (R220). -/
def tableEntries (level : Nat) : Nat := if level = 0 then 8192 else if level = 3 then 32 else 512

/-- Whether the 4 KiB block at `a` holds a table. -/
def State.blockUsed (s : State) (a : Nat) : Bool :=
  s.tables.any fun t => spansMeet a 4096 t.addr (tableSize t.level)

/-- Whether the block at `a` holds level-3 tables. -/
def State.blockOfLeaves (s : State) (a : Nat) : Bool := s.tables.any fun t => t.level == 3 && t.addr / 4096 * 4096 == a

/-- The free blocks of pool entry `i`: 65,536 less the root table's and those that hold tables (R226). -/
def State.poolFree (s : State) (i : Nat) : Nat :=
  let b := s.poolBase i
  let inside := s.tables.filter fun t => decide (b ≤ t.addr) && decide (t.addr < b + 0x10000000)
  let leaves := ((inside.filter fun t => t.level == 3).map fun t => t.addr / 4096).eraseDups.length
  let others := (inside.map fun t => if t.level = 0 then 16 else if t.level = 3 then 0 else 1).foldl (· + ·) 0
  65536 - (if i = 0 then 128 else 0) - others - leaves

/-- Show the free counts of the enabled entries. -/
def State.showPools (s : State) : State :=
  (List.range 8).foldl (fun s i => if s.poolOn i then s.setFld F.TLX_POOL_free i (s.poolFree i) else s) s

/-- The lowest address from `a` in steps of `d` that `ok` accepts; `fuel` counts the places. -/
def firstFree (ok : Nat → Bool) (d : Nat) : Nat → Nat → Option Nat
  | 0, _ => none
  | k + 1, a => if ok a then some a else firstFree ok d k (a + d)

/-- Whether the aligned run of 16 blocks at `a` is free. -/
def State.runFree (s : State) (a : Nat) : Bool := (List.range 16).all fun j => !s.blockUsed (a + 4096 * j)

/-- The place of a new block, or of a level-0 run, in pool entry `i`: the lowest free one after the root table (R225). -/
def State.placeIn (s : State) (i : Nat) (level0 : Bool) : Option Nat :=
  if !s.poolOn i then none
  else
    let b := s.poolBase i
    let lo := if i = 0 then b + 0x80000 else b
    if level0 then firstFree s.runFree 0x10000 ((b + 0x10000000 - lo) / 0x10000) lo
    else firstFree (fun a => !s.blockUsed a) 4096 ((b + 0x10000000 - lo) / 4096) lo

/-- The first pool entry with room (R225 steps 1 and 2). -/
def State.placeBlock (s : State) (level0 : Bool) : Option Nat := (List.range 8).findSome? fun i => s.placeIn i level0

/-- The lowest free 256-byte place of the lowest block that already holds level-3 tables and has one (R225 step 3). -/
def State.placeLeafTable (s : State) : Option Nat :=
  let used (a : Nat) : Bool := s.tables.any fun t => t.level == 3 && t.addr == a
  let room (b : Nat) : Option Nat := firstFree (fun a => !used a) 256 16 b
  let blocks := ((s.tables.filter fun t => t.level == 3).map fun t => t.addr / 4096 * 4096).eraseDups.filter fun b => (room b).isSome
  match blocks with
  | [] => none
  | b :: bs => room (bs.foldl min b)

/-- Allocate a table of zeros of a level for a span of a tag; none where the pool cannot hold it (R225). -/
def State.newTable (s : State) (level tag va : Nat) : Option (Nat × State) :=
  let place :=
    if level = 3 then (match s.placeLeafTable with
      | some a => some a
      | none => s.placeBlock false)
    else s.placeBlock (level == 0)
  match place with
  | none => none
  | some a =>
    let s := { s with tables := { addr := a, level := level, tag := tag, va := va } :: s.tables }
    some (a, s.wipe a (a + tableSize level))

/-- Free the tables of a tag at levels from `level` down whose span lies in `n` bytes from `va`. -/
def State.freeTables (s : State) (tag level va n : Nat) : State :=
  { s with tables := s.tables.filter fun t => !(t.tag == tag && decide (level ≤ t.level) && decide (va ≤ t.va) && decide (t.va < va + n)) }

/-- Write an entry of the mirror: untranslated, selector 0 (R225). -/
def State.setEntry (s : State) (a v : Nat) : State := s.store a (leBytes 8 v)

/-- Whether a partition is bound to a composition. -/
def State.partBound (s : State) (st p : Nat) : Bool := (s.partOwner.find (6 * st + p)).isSome

/-- Whether an enabled export window meets `n` bytes from `a` (R177). -/
def State.meetsWindow (s : State) (a n : Nat) : Bool :=
  (List.range 128).any fun i => s.fld F.MEM_PXW_CFG_enable i == 1 && spansMeet a n (s.pxwBase i) (s.pxwSize i)

/-- Whether an enabled pool entry other than `i` names a partition that meets `n` bytes from `a`. -/
def State.meetsPool (s : State) (i a n : Nat) : Bool := (List.range 8).any fun j => j != i && s.poolOn j && spansMeet a n (s.poolBase j) 0x10000000

/-- Whether pool entry `i` may be enabled with the partition it names (R226). -/
def State.poolAllowed (s : State) (i : Nat) : Bool :=
  let st := s.fld F.TLX_POOL_stack i
  let p := s.fld F.TLX_POOL_part i
  let b := s.poolBase i
  decide (st ≤ 23) && decide (p ≤ 5) && !s.partBound st p && !s.meetsLedger b 0x10000000 && !s.meetsPool i b 0x10000000 &&
    !s.meetsWindow b 0x10000000

/-- A new root table: no tag but tag 0 has a valid entry. Management firmware's space is pinned and holds no leaf below its pinned ones, so its entry
names no level-0 table (R221, R225, R233; DESIGN CHOICE, log 136). -/
def State.newRoot (s : State) : State := (s.wipe (s.poolBase 0) (s.poolBase 0 + 0x80000)).store (s.poolBase 0) (leBytes 8 (2 ^ 63 + 2 ^ 62))

/-- TLX_POOL_WRITE: a write of TLX_POOL entry `i` (R225, R226). Enabling entry 0 makes its root table, with no tag assigned but firmware's. -/
def execTlxPoolWrite (i : Nat) (v : Word) (s : State) : Out :=
  checked (decide (i < 8))
    (let was := s.poolOn i
     let s := s.writeReg .TLX_POOL i v.toNat (2 ^ 64 - 1)
     if F.TLX_POOL_enable.of v = 1 then
       if was then s
       else if s.poolAllowed i then
         let s := s.setFld F.TLX_POOL_enable i 1
         let s := s.when (i == 0) fun s => s.newRoot
         s.showPools
       else s
     else if !was || i == 0 || (s.tables.any fun t => spansMeet t.addr 1 (s.poolBase i) 0x10000000) then s
     else (s.setFld F.TLX_POOL_enable i 0).setFld F.TLX_POOL_free i 0)

/-! ## Tags (R221) -/

/-- Assign a tag: a level-0 table of zeros, then the root entry that names it; none where the pool has no aligned run. -/
def State.assignTag (s : State) (tag comp : Nat) (pinned : Bool) : Option State :=
  match s.newTable 0 tag 0 with
  | none => none
  | some (a, s) =>
    some (s.setEntry (s.rootBase + 8 * tag) (2 ^ 63 + pinned.toNat * 2 ^ 62 + comp % 64 * 2 ^ 56 + a / 65536 * 65536)).showPools

/-- Show how many entries of the pinned table are in use (R234). -/
def State.showPinned (s : State) : State := s.setFld F.TLX_PIN_STATUS_used 0 s.pinned.length

/-- Release a tag: its root entry is cleared, its tables freed, its pinned entries dropped (R221). -/
def State.releaseTag (s : State) (tag : Nat) : State :=
  let s := s.setEntry (s.rootBase + 8 * tag) 0
  let s := { s with tables := s.tables.filter (fun t => t.tag != tag), pinned := s.pinned.filter (fun e => e.tag != tag) }
  s.showPools.showPinned

/-! ## Table-sync updates (R227, R228) -/

/-- Whether every byte of `n` bytes of memory from `a` is bound to composition `c`, and how a leaf may map it (R224). -/
def State.leafTarget (s : State) (c level e : Nat) : Bool :=
  let a := leafPage e
  let n := pageSize level
  let plain := bits e 6 6 == 0 && bits e 5 5 == 0
  let mine (m : SMap Bound) (k : Nat) : Bool := ((m.find k).map fun b => b.comp == c).getD false
  match region a with
  | .near _ _ =>
    decide (a + n ≤ 0x000900000000) && (List.range (n / 0x10000000 + 1)).all fun j => mine s.partOwner ((min (a + j * 0x10000000) (a + n - 1)) / 0x10000000)
  | .far _ =>
    decide (a + n ≤ 0x01A7E0000000) &&
      (List.range (n / 0x20000000 + 1)).all fun j => mine s.farOwner ((min (a + j * 0x20000000) (a + n - 1) - 0x010000000000) / 0x20000000)
  | .remote k _ => plain && (s.portShares c).any fun p => p.1 == k
  | .scratch m => level == 3 && decide ((a - 0x00F000000000) % 0x200000 + n ≤ 0x140000) && mine s.coreOwner m && plain && bits e 4 4 == 0
  | _ => false

/-- Whether a leaf may carry its key selector: 0, where the composition is not confidential, or a slot installed for the composition
(R228, R434, R439). -/
def State.leafKey (s : State) (c e : Nat) : Bool :=
  let k := s.slots.get (leafSel e) Slot.free
  (leafSel e == 0 && !s.confidential c) || (k.state == 1 && k.owner == c)

/-- The statuses of a refused update (R361). -/
def tsFormat : Nat := 21
/-- TS_TARGET. -/
def tsTarget : Nat := 22
/-- TS_KEY. -/
def tsKey : Nat := 23
/-- TS_POOL_FULL. -/
def tsPoolFull : Nat := 24
/-- TS_PINNED. -/
def tsPinned : Nat := 25

/-- Whether an update is well formed: zero fields, the alignment of its VA, the leaf's bits and its address's alignment (R222, R227). -/
def updateFormat (wh e : Nat) : Bool :=
  let level := bits wh 53 52
  let va := bits wh 51 0
  bits wh 63 54 == 0 && level != 0 && va % pageSize level == 0 &&
    (e == 0 || (entryValid e && entryLeaf e && bits e 63 48 == 0 && bits e 7 7 == 0 && leafPage e % pageSize level == 0))

/-- What an update did: the state; whether it removed or replaced a valid leaf or freed a subtree (R229); or its refusal. -/
inductive Updated where
  | ok (s : State) (invalidates : Bool)
  | refused (status : Nat)
  deriving DecidableEq, Repr

/-- Replace a larger leaf by a table of the next level down whose every entry maps its part with the leaf's fields (R227). -/
def State.splitLeaf (s : State) (a level e tag va : Nat) : Option (Nat × State) :=
  match s.newTable (level + 1) tag (va / pageSize level * pageSize level) with
  | none => none
  | some (t, s) =>
    let n := pageSize (level + 1)
    let s := (List.range (tableEntries (level + 1))).foldl (fun s j => s.setEntry (t + 8 * j) (e + j * n)) s
    some (t, s.setEntry a (t + 1))

/-- Free a table whose last valid entry has gone, and so upward, except the level-0 table (R227). `fuel` counts levels. -/
def State.pruneTables (s : State) (fuel tag level va : Nat) : State :=
  match fuel with
  | 0 => s
  | k + 1 =>
    match s.tables.find? fun t => t.tag == tag && t.level == level && t.level != 0 && decide (t.va ≤ va) && decide (va < t.va + tableSpan level) with
    | none => s
    | some t =>
      if (List.range (tableEntries level)).all fun j => !entryValid (s.word (t.addr + 8 * j)) then
        match s.tables.find? fun u => u.tag == tag && u.level + 1 == level && decide (u.va ≤ va) && decide (va < u.va + tableSpan u.level) with
        | none => s
        | some u =>
          let s := { s with tables := s.tables.filter fun w => w.addr != t.addr }
          (s.setEntry (entryAt u.addr u.level va) 0).pruneTables k tag (level - 1) va
      else s

/-- Apply a well-formed, allowed update from the table at `t` of level `lv`; `split` says whether a larger leaf has been split on the way.
`fuel` counts levels (R227). -/
def State.applyFrom (s : State) (fuel tag lv t level va e : Nat) (split : Bool) : Updated :=
  match fuel with
  | 0 => .refused tsFormat
  | k + 1 =>
    let a := entryAt t lv va
    let old := s.word a
    if lv = level then
      let isLeaf := entryValid old && entryLeaf old
      if e = 0 then
        if isLeaf then .ok ((s.setEntry a 0).pruneTables 3 tag lv va) true else .ok s split
      else
        let s := s.when (entryValid old && !entryLeaf old) fun s => s.freeTables tag (lv + 1) va (pageSize lv)
        .ok (s.setEntry a e) (split || entryValid old)
    else if !entryValid old then
      if e = 0 then .ok s split
      else
        match s.newTable (lv + 1) tag (va / (tableSpan (lv + 1)) * tableSpan (lv + 1)) with
        | none => .refused tsPoolFull
        | some (u, s) => (s.setEntry a (u + 1)).applyFrom k tag (lv + 1) u level va e split
    else if entryLeaf old then
      match s.splitLeaf a lv old tag va with
      | none => .refused tsPoolFull
      | some (u, s) => s.applyFrom k tag (lv + 1) u level va e true
    else s.applyFrom k tag (lv + 1) (nextTable old) level va e split

/-- The pinned table after an update of a pinned space (R233): 1 GiB leaves alone; 64 entries are firmware's, 960 real-time contexts'. -/
def State.pinUpdate (s : State) (tag va e : Nat) : Option State :=
  let others := s.pinned.filter fun p => !(p.tag == tag && p.va == va)
  if e = 0 then some ({ s with pinned := others }).showPinned
  else if (others.filter fun p => (p.tag == 0) == (tag == 0)).length ≥ (if tag = 0 then 64 else 960) then none
  else some ({ s with pinned := { tag := tag, va := va, size := pageSize 1, leaf := e } :: others }).showPinned

/-- One update of a table-sync list (R227, R228). -/
def State.tableUpdate (s : State) (tag wh e : Nat) : Updated :=
  let root := s.rootEntry tag
  let c := bits root 61 56
  let pinned := bits root 62 62 == 1
  let level := bits wh 53 52
  let va := bits wh 51 0
  if !updateFormat wh e then .refused tsFormat
  else if pinned && level != 1 then .refused tsPinned
  else if e ≠ 0 ∧ !s.leafTarget c level e then .refused tsTarget
  else if e ≠ 0 ∧ !s.leafKey c e then .refused tsKey
  else
    match (if pinned then s.pinUpdate tag va e else some s) with
    | none => .refused tsPinned
    | some s =>
      match s.applyFrom 4 tag 0 (bits root 47 16 * 65536) level va e false with
      | .ok s i => .ok s.showPools i
      | .refused st => .refused st

/-- Apply the updates of a list in order until the first refusal: the state, whether an invalidation is due, the status and the index of
the refused update (R228, R229). -/
def State.tableUpdates (s : State) (tag : Nat) (due : Bool) (i : Nat) : List (Nat × Nat) → State × Bool × Nat × Nat
  | [] => (s, due, 0, 0)
  | u :: us =>
    match s.tableUpdate tag u.1 u.2 with
    | .refused st => (s, due, st, i)
    | .ok s inv => s.tableUpdates tag (due || inv) (i + 1) us

/-! ## The end of a walk (R230, R231, R237, R239) -/

/-- The resident whose stream a miss fetches ahead for. -/
def Miss.core (m : Miss) : Nat :=
  match m.unit with
  | .load n | .store n => n
  | _ => 0

/-- A walk has found no valid leaf for a miss: its requester takes the fault when it makes its access again; one for a tile fetched ahead is held for
the tile (R54, R234, R239). -/
def State.missFails (s : State) (m : Miss) (va : Nat) : State :=
  let rest := s.misses.filter fun x => x != m
  match m.tile, m.req with
  | some j, .stream r k => ({ s with misses := rest }).holdFault m.core r k j ⟨0x10, va⟩
  | some _, _ => { s with misses := rest }
  | none, _ => { s with misses := rest ++ [{ m with walking := false, fault := true }] }

/-- TRANSLATION_WALK_DONE: the walk that misses of a unit wait for ends: a valid leaf is installed in the half's L2 TLB, and in the unit for an access
that demands it; the entries read on the way stand in the half's cache; a fault installs nothing. The walker serves the next miss (R230, R233, R234,
R237, R239). -/
def execTranslationWalkDone (u : TlbUnit) (tag va : Nat) (s : State) : Out :=
  checked (unitOk u && decide (tag < 65536))
    (let h := unitHalf u
     let hits := s.misses.filter fun m => m.unit == u && m.tag == tag && m.page == va / 65536 && m.walking
     if !s.domOn (unitIsl u) || hits.isEmpty then s
     else
       match s.walkIn h tag va with
       | none => (hits.foldl (fun s m => s.missFails m va) (s.cacheWalk h tag va)).startWalks
       | some e =>
         let s := (s.cacheWalk h tag va).fillTlb (.half h) e
         let s := s.when (hits.any fun m => m.tile.isNone) fun s => s.fillTlb u e
         ({ s with misses := s.misses.filter fun m => !hits.contains m }).startWalks)

/-! ## Invalidation (R235, R236) -/

/-- Every translation unit of the device. -/
def allUnits : List TlbUnit :=
  (List.range 672).map .load ++ (List.range 672).map .store ++ (List.range 84).map .eng ++ [.half 0, .half 1]

/-- The pinned copies of a tag are taken anew from the mirror, so that none outlives its leaf there (R233, R235; DEDUCED, log 140). -/
def State.refreshPins (s : State) (tag : Nat) : State :=
  let fresh (e : TlbEntry) : Option TlbEntry := if e.tag = tag ∧ tag ≠ 0 then s.walkFrom 4 tag 0 (bits (s.rootEntry tag) 47 16 * 65536) e.va else some e
  ({ s with pinned := s.pinned.filterMap fresh }).showPinned

/-- Drop a unit's entries of a tag; a LOAD unit's streams discard their read-ahead of it; the unit of a half drops its L2 entries and its cached
non-leaf entries of it, and the pinned copies (R55, R235 steps 2 and 3). Walks of it restart and read their entries from the new mirror (R237). -/
def State.dropTag (s : State) (u : TlbUnit) (tag : Nat) : State :=
  let again (m : Miss) : Miss := if m.unit = u ∧ m.tag = tag then { m with fault := false } else m
  let s := { s with tlbs := s.tlbs.filter (fun e => !(e.1 == u && e.2.tag == tag)), misses := s.misses.map again }.startWalks
  match u with
  | .load n => [0, 1].foldl (fun s r => if s.ctxTag (s.core n r).ctx = tag then s.dropAhead n r fun _ => true else s) s
  | .half h => ({ s with nonLeafs := s.nonLeafs.filter fun n => !(n.half == h && n.tag == tag) }).refreshPins tag
  | _ => s

/-- Whether a request is one that unit `u` translates: STORE's micro-TLB serves scalar stores and atomics too (R230). -/
def servedBy (q : MemReq) (u : TlbUnit) : Bool :=
  let isRead := match q.op with
    | .read => true
    | _ => false
  match q.owner, u with
  | .loadIns n _, .load m | .ahead n _ _ _, .load m | .storeIns n _, .store m => n == m
  | .scalar n _, .load m => isRead && n == m
  | .scalar n _, .store m => !isRead && n == m
  | .dmaPiece x, .eng e | .descFetch x, .eng e => x / 16 == e
  | .indexLine e _, .eng f => e == f
  | _, _ => false

/-- The tag under which an owner's requests are translated now, none where they are physical. -/
def State.ownerTag (s : State) (o : Owner) : Option Nat :=
  match o with
  | .loadIns n r | .ahead n r _ _ | .scalar n r | .storeIns n r => some (s.ctxTag (s.core n r).ctx)
  | .dmaPiece x | .descFetch x => some (s.chanTag x)
  | .indexLine e line => (s.idxFor e line).map fun x => s.chanTag x
  | _ => none

/-- Whether a request is translated by unit `u` under a tag. -/
def State.ownedBy (s : State) (q : MemReq) (u : TlbUnit) (tag : Nat) : Bool := servedBy q u && s.ownerTag q.owner == some tag

/-- Unit `u` hears invalidate(tag): its requests in flight have been translated under entries now dropped (R235 step 3). -/
def State.markOld (s : State) (u : TlbUnit) (tag : Nat) : State :=
  { s with outst := s.outst.map fun e => if s.ownedBy e.2.req u tag then (e.1, { e.2 with old := true }) else e }

/-- The ledger owners whose remote writes a unit translates. -/
def State.unitOwners (s : State) (u : TlbUnit) (tag : Nat) : List Nat :=
  match u with
  | .store n => if [0, 1].any fun r => s.ctxTag (s.core n r).ctx == tag then [ownerCore n] else []
  | .eng e => ((chansOf e).filter fun x => s.chanTag x == tag).map ownerDma
  | _ => []

/-- Whether unit `u` still has a request in flight that was translated under an entry dropped: a read not returned, a write not visible, a remote write
not committed (R235 step 4). Read-ahead that has been discarded counts for nothing (R55). -/
def State.oldInFlight (s : State) (u : TlbUnit) (tag at_ : Nat) : Bool :=
  (s.outst.any fun e => e.2.old && !e.2.discarded && s.ownedBy e.2.req u tag) ||
    (s.unitOwners u tag).any fun o => s.ledger.any fun g => g.2.owner == o && decide (g.2.state < 4) && decide (g.2.dtOpen ≤ at_)

/-- The writes that STORE's unit counts become visible before it acknowledges (R235 step 4). -/
def State.settleUnit (s : State) (u : TlbUnit) (tag : Nat) : State :=
  match u with
  | .store n => [0, 1].foldl (fun s r => if s.ctxTag (s.core n r).ctx = tag then s.makeVisible n r else s) s
  | _ => s

/-- Begin an invalidation (R235 step 1): a unit whose island is OFF acknowledges at once. -/
def State.beginInval (s : State) (tag : Nat) (goal : List InvalFor) : State :=
  let iv : Inval := { tag := tag, units := allUnits.filter fun u => (s.dom (unitIsl u)).state == .on, heard := [], at_ := s.aon.dt, goal := goal }
  { s with invals := s.invals ++ [iv] }

/-- Start an invalidation of a tag, or let it wait where 64 are in progress; those of one tag that wait together merge (R235). -/
def State.startInval (s : State) (tag : Nat) (goal : InvalFor) : State :=
  if s.invals.length < 64 then s.beginInval tag [goal]
  else if s.invalWait.any fun v => v.tag == tag then
    { s with invalWait := s.invalWait.map fun v => if v.tag = tag then { v with goal := v.goal ++ [goal] } else v }
  else { s with invalWait := s.invalWait ++ [{ tag := tag, units := [], heard := [], at_ := 0, goal := [goal] }] }

/-- INVALIDATE_BROADCAST: invalidate(tag) reaches a unit: it drops the tag's entries, and its walks of the tag restart (R55, R235, R237); a flit that
the fabric loses does nothing more (R262). -/
def execInvalidateBroadcast (u : TlbUnit) (m : SyncMsg) (s : State) : Out :=
  let tag := m.what
  checked (unitOk u && decide (tag < 65536))
    (if s.invals.any fun v => v.tag == tag && v.units.contains u && !v.heard.contains u then
       match m.lost with
       | some seg => s.syncLost seg
       | none =>
         let s := (s.dropTag u tag).markOld u tag
         { s with invals := s.invals.map fun v => if v.tag = tag ∧ v.units.contains u then { v with heard := u :: v.heard } else v }
     else s)

/-- The state after unit `u` has acknowledged the oldest invalidation of a tag that it has heard, with that invalidation where it was the
last to do so. -/
def State.ackInval (s : State) (u : TlbUnit) (tag : Nat) : State × Option Inval :=
  match s.invals.find? fun v => v.tag == tag && v.units.contains u with
  | none => (s, none)
  | some v =>
    let w := { v with units := v.units.filter fun x => x != u }
    if w.units.isEmpty then ({ s with invals := s.invals.filter fun x => x != v }, some w)
    else ({ s with invals := s.invals.map fun x => if x = v then w else x }, none)

/-- Start the invalidations that wait while fewer than 64 are in progress. `fuel` counts them. -/
def State.nextInvals (s : State) (fuel : Nat) : State :=
  match fuel with
  | 0 => s
  | k + 1 =>
    match s.invalWait with
    | [] => s
    | v :: rest => if s.invals.length < 64 then (({ s with invalWait := rest }).beginInval v.tag v.goal).nextInvals k else s

/-! ## Dirty-page logging (R242, R243) -/

/-- Whether the 4 MiB at the base lie in far memory bound to no composition (R242). -/
def State.dlogAllowed (s : State) (c : Nat) : Bool :=
  let a := s.fld F.TLX_DLOG_CFG_base c * 0x400000
  decide (0x010000000000 ≤ a) && decide (a + 0x400000 ≤ 0x01A7E0000000) && (s.farOwner.find ((a - 0x010000000000) / 0x20000000)).isNone

/-- Empty the controllers' filters of a composition (R241, R243). -/
def State.emptyFilter (s : State) (c : Nat) : State := { s with dlogFilter := s.dlogFilter.filter fun e => e.2.1 != c }

/-- DLOG_ENABLE: a write of TLX_DLOG_CFG of composition `c` with its enable bit (R242). -/
def execDlogEnable (c : Nat) (v : Word) (s : State) : Out :=
  checked (decide (c < 64))
    (let was := s.fld F.TLX_DLOG_CFG_enable c == 1
     let s := s.writeReg .TLX_DLOG_CFG c v.toNat (2 ^ 64 - 1)
     if F.TLX_DLOG_CFG_enable.of v = 1 then
       if was then s
       else if s.dlogAllowed c then (s.emptyFilter c).setFld F.TLX_DLOG_CFG_enable c 1
       else s
     else s.setFld F.TLX_DLOG_CFG_enable c 0)

/-- DLOG_FLIP: a write of 1 to flip: the controllers switch to the other buffer and empty their filters (R243 step 1). -/
def execDlogFlip (c : Nat) (s : State) : Out :=
  checked (decide (c < 64))
    (if s.fld F.TLX_DLOG_CFG_flip_busy c = 1 ∨ s.fld F.TLX_DLOG_CFG_enable c = 0 then s
     else (s.emptyFilter c).setFld F.TLX_DLOG_CFG_flip_busy c 1)

/-- DLOG_FLIP_DONE: every write before the switch has set its bit: gen toggles and flip_busy clears (R243 step 3). -/
def execDlogFlipDone (c : Nat) (s : State) : Out :=
  checked (decide (c < 64))
    (if s.fld F.TLX_DLOG_CFG_flip_busy c = 1 then
       (s.setFld F.TLX_DLOG_CFG_gen c (1 - s.fld F.TLX_DLOG_CFG_gen c)).setFld F.TLX_DLOG_CFG_flip_busy c 0
     else s)

end Sys2Proof.Machine
end

