-- ==== Sys2Proof/Machine/HostCmd.lean ====
section
/-! DEFINITION. Machine/HostCmd.lean: the commands of queues (R354 to R363): doorbells, records, waits, completion; NOP, the copies, FILL,
TABLE_SYNC, INVALIDATE; and the admin commands that make queues and fences (R352, R357). -/
namespace Sys2Proof.Machine

/-! ## Whose queue (R352, R382) -/

/-- The context of a queue; none of an admin queue. -/
def State.ringCtx (s : State) (q : QRef) : Option (Nat × Ctx) :=
  match q with
  | .queue _ => let i := (s.ring q).ctx; (s.ctxs.find i).map fun c => (i, c)
  | .admin _ => none

/-- The composition that a queue's commands belong to: its context's, or its function's. -/
def State.ringComp (s : State) (q : QRef) : Option Nat :=
  match q with
  | .queue _ => (s.ringCtx q).map fun p => p.2.comp
  | .admin f => s.compOf f

/-- The home command processor of a composition (R382). -/
def State.homeCp (s : State) (c : Nat) : Nat := s.fld F.SCH_COMP_CFG_home_cp c

/-- Whether the command of a queue is held, its context a suspect that is not being replayed (R414). -/
def State.heldBack (s : State) (q : QRef) : Bool := s.suspects.any fun p => p.q == q && p.replay.isNone

/-- Whether a queue's command belongs to a suspect: it writes no completion record (R414). -/
def State.suspected (s : State) (q : QRef) : Bool := s.suspects.any fun p => p.q == q

/-- Whether commands of a queue are taken: it exists and its context is LIVE and not held as a suspect (R372, R414). -/
def State.ringServed (s : State) (q : QRef) : Bool :=
  s.ringLive q && match q with
    | .admin _ => true
    | .queue _ => ((s.ringCtx q).map fun p => p.2.state == .live && !p.2.guilty).getD false && !s.heldBack q

/-- Every queue of a context. -/
def State.ctxQueues (s : State) (ctx : Nat) : List Nat := (s.queues.filter fun e => e.2.ctx == ctx).map (·.1)

/-- Whether a queue has a command that has not started. -/
def State.queueReady (s : State) (i : Nat) : Bool :=
  let x := s.ring (.queue i)
  match x.cur with
  | none => x.rd != x.prod
  | some c => !c.started && !c.waiting && c.ended.isNone

/-- Whether a context has a ready command (R384). -/
def State.ctxReady (s : State) (ctx : Nat) : Bool := (s.ctxQueues ctx).any s.queueReady

/-- The class of a context for selection (R382): 1 a real-time one, 2 high priority, 3 normal, 4 weight 0. -/
def Ctx.cls (c : Ctx) : Nat := if c.rt then 1 else if c.prio then 2 else if c.weight = 0 then 4 else 3

/-- Change a context. -/
def State.onCtx (s : State) (ctx : Nat) (f : Ctx → Ctx) : State :=
  match s.ctxs.find ctx with
  | some c => { s with ctxs := s.ctxs.put ctx (f c) }
  | none => s

/-- Keep the passes of a composition bounded: above 2^62 for the least, every one falls by 2^61 (R384). -/
def State.boundPasses (s : State) (comp : Nat) : State :=
  let ps := (s.ctxs.filter fun e => e.2.comp == comp).map fun e => e.2.pass
  match ps with
  | [] => s
  | p :: rest =>
    if 2 ^ 62 < rest.foldl min p then
      { s with ctxs := s.ctxs.map fun e => if e.2.comp = comp then (e.1, { e.2 with pass := e.2.pass - 2 ^ 61 }) else e }
    else s

/-- The pass of a context that becomes ready after it had no ready command (R384). -/
def State.becomeReady (s : State) (ctx : Nat) : State :=
  match s.ctxs.find ctx with
  | none => s
  | some c =>
    let others := (s.ctxs.filter fun e => e.1 != ctx && e.2.comp == c.comp && e.2.cls == c.cls && s.ctxReady e.1).map fun e => e.2.pass
    match others with
    | [] => s
    | p :: rest => (s.onCtx ctx fun c => { c with pass := max c.pass (rest.foldl min p) }).boundPasses c.comp

/-! ## Doorbells (R98, R355) -/

/-- The queue that doorbell `d` of function `f` names. -/
def State.doorbellRing (s : State) (f d : Nat) : Option QRef :=
  if d = 0 then (if s.ringLive (.admin f) then some (.admin f) else none)
  else (s.queues.find? fun e => e.2.fn == f && e.2.doorbell == d).map fun e => .queue e.1

/-- The number of a queue in a record: 0 for an admin queue. -/
def qNum (q : QRef) : Nat :=
  match q with
  | .queue i => i
  | .admin _ => 0

/-- Whether the producer index `v` is one that a doorbell may write: it advances, to at most 2^n past the oldest command not complete
(R355). -/
def Ring.accepts (x : Ring) (v : Nat) : Bool :=
  let d := (v + 2 ^ 32 - x.rd) % 2 ^ 32
  decide (d ≤ 2 ^ x.n) && decide ((x.prod + 2 ^ 32 - x.rd) % 2 ^ 32 < d)

/-- DOORBELL: a write to doorbell `d` of function `f` advances the producer index and wakes the home command processor, or is ignored with a
DOORBELL fault record (R98, R355, R372). -/
def execDoorbell (f d : Nat) (v : Word) (s : State) : Out :=
  checked (decide (f < 128) && decide (d < 4096))
    (if !s.hostUp (f / 64) then s
     else
       match s.doorbellRing f d with
       | none => s
       | some q =>
         let x := s.ring q
         let c := s.ringComp q
         if (s.ringCtx q).any fun p => p.2.state != .live then s
         else if v.toNat < 2 ^ 32 ∧ x.accepts v.toNat then
           let was := s.ctxReady x.ctx
           let s := s.setRing q { x with prod := v.toNat }
           let s := match q with
             | .queue _ => if was then s else s.becomeReady x.ctx
             | .admin _ => s
           match c with
           | some c => s.giveWake (s.homeCp c) (.doorbell q)
           | none => s
         else
           let p := (c.map s.homeCp).getD 0
           let ctx := match q with
             | .queue _ => x.ctx
             | .admin _ => noCtx
           (s.report (cpIsl p) 0x11 (c.getD 0xFF) (engineCode 0 p) ctx 0 0 (qNum q) [] .none).1)

/-! ## Command records (R356, R357) -/

/-- A command record from its 64 bytes. -/
def CmdRec.parse (b : List Byte) : CmdRec :=
  let u (off n : Nat) : Nat := leNat ((b.drop off).take n)
  { opcode := u 0 1, flags := u 1 1, operator := u 2 2, layer := u 4 4, sigFence := u 8 4, waitFence := u 12 4, sigValue := u 16 8,
    waitValue := u 24 8, launchDt := u 32 8, a0 := u 40 8, a1 := u 48 8, a2 := u 56 8, raw := b }

/-- A flag of a command record. -/
def CmdRec.flag (c : CmdRec) (i : Nat) : Bool := bits c.flags i i == 1

/-- The record of command index `i` of a queue, as host memory holds it (R354). -/
def State.recordAt (s : State) (q : QRef) (i : Nat) : CmdRec :=
  let x := s.ring q
  CmdRec.parse (s.hostBytes (s.ringFn q / 64) (x.base + 64 * (i % 2 ^ x.n)) 64)

/-- Whether the fields that an opcode does not use are zero, and those that it uses are in their ranges (R356, R357). -/
def CmdRec.format (c : CmdRec) (isAdmin : Bool) : Bool :=
  let copy := c.opcode == 2 || c.opcode == 3
  let args :=
    match c.opcode with
    | 0x00 => c.a0 == 0 && c.a1 == 0 && c.a2 == 0
    | 0x01 => c.a2 == 0
    | 0x02 | 0x03 => decide (1 ≤ c.a2) && decide (c.a2 < 2 ^ 32)
    | 0x04 => decide (1 ≤ c.a2) && decide (c.a2 < 2 ^ 32) && c.a2 % 8 == 0
    | 0x05 => decide (c.a0 < 65536) && decide (1 ≤ c.a2) && decide (c.a2 ≤ 4096)
    | 0x06 => decide (c.a0 < 65536) && c.a1 == 0 && c.a2 == 0
    | 0x40 => decide (c.a0 < 2) && c.a1 == 0 && c.a2 == 0
    | 0x41 | 0x43 | 0x45 => c.a1 == 0 && c.a2 == 0
    | 0x42 => bits c.a0 11 6 == 0 && decide (bits c.a0 5 4 < 3) && decide (bits c.a0 3 0 ≤ 12) && c.a1 % 4096 == 0
    | 0x44 => bits c.a1 63 59 == 0
    | 0x46 => bits c.a2 63 59 == 0
    | _ => false
  let place := if isAdmin then decide (0x40 ≤ c.opcode) && decide (c.opcode ≤ 0x46) else decide (c.opcode ≤ 6)
  place && args && bits c.flags 7 5 == 0 && (c.flag 0 || (!c.flag 1 && c.sigFence == 0 && c.sigValue == 0)) &&
    (c.flag 2 || (c.waitFence == 0 && c.waitValue == 0)) && (if c.flag 3 then c.opcode == 1 else c.launchDt == 0) &&
    (!c.flag 4 || copy || c.opcode == 4)

/-- The status with which a command taken ends before its work starts, none where it may start (R353, R356, R357, R361, R376). -/
def State.takenStatus (s : State) (q : QRef) (c : CmdRec) : Option Nat :=
  let isAdmin := match q with
    | .admin _ => true
    | .queue _ => false
  let f := s.ringFn q
  if s.fld F.PWR_TARGET_STATUS_dev_state 0 = 2 ∧ !(c.opcode == 0x45 || c.opcode == 0x43 || c.opcode == 0x41) then some 20
  else if !c.format isAdmin then some 3
  else if f % 64 ≠ 0 ∧ (c.flag 4 || (c.opcode == 0x40 && c.a0 == 1)) then some 18
  else if c.flag 0 && !s.maySignal q c.sigFence then some 4
  else if c.flag 2 && !s.fnFence f c.waitFence then some 4
  else none

/-- The condition of a wait flag: it holds, it waits, or its fence is ABANDONED (R358). -/
inductive WaitNow where
  | holds | waits | abandoned
  deriving DecidableEq, Repr

/-- The condition of a command's wait flag now. -/
def State.waitNow (s : State) (c : CmdRec) : WaitNow :=
  if !c.flag 2 then .holds
  else
    match s.fence c.waitFence with
    | none => .abandoned
    | some x => if x.abandoned then .abandoned else if c.waitValue ≤ x.value then .holds else .waits

/-- A command processor's trace record of a command: kind 1 BEGIN, 2 END with its status (R310). -/
def State.cmdTrace (s : State) (q : QRef) (c : CmdRec) (kind status : Nat) : State :=
  if c.layer = 0 then s
  else
    let comp := s.ringComp q
    let p := (comp.map s.homeCp).getD 0
    let ctx := match q with
      | .queue _ => (s.ring q).ctx
      | .admin _ => noCtx
    s.trace (cpIsl p) kind (comp.getD 0xFF) status c.layer c.operator (engineCode 0 p) ctx 0

/-- A command just read. -/
def Cur.of (c : CmdRec) (dt : Nat) : Cur :=
  { rec_ := c, started := false, waiting := false, at_ := dt, charged := dt, ended := none, written := false, late := false, pos := 0,
    unitAt := dt, chan := none }

/-! ## The lanes that a high-priority launch takes (R385 to R387) -/

/-- The lanes of a composition (R381). -/
def State.lanes (s : State) (c : Nat) : List Nat := if s.shared c then [0, 1] else [0]

/-- Whether a lane runs no launch. -/
def State.laneFree (s : State) (c lane : Nat) : Bool := (s.launches.find (laneKey c lane)).isNone

/-- The lane whose launch's context has the greater pass, among those that `ok` selects; lane 1 at equal pass (R385). -/
def State.greaterPass (s : State) (c : Nat) (ok : Launch → Bool) : Option Nat :=
  let pass (l : Launch) : Nat := ((s.ctxs.find l.ctx).map (·.pass)).getD 0
  match (s.launches.find (laneKey c 0)).filter ok, (s.launches.find (laneKey c 1)).filter ok with
  | some a, some b => some (if pass a > pass b then 0 else 1)
  | some _, none => some 0
  | none, some _ => some 1
  | none, none => none

/-- The save slots of a composition: its bound partitions times the slots in each (R322). -/
def State.slotCount (s : State) (c : Nat) : Nat :=
  match (s.comp c).record with
  | some m => m.savePerPart * m.parts.length
  | none => 0

/-- The cores bound to a composition and not leaving it, in ascending order. -/
def State.coresOf (s : State) (c : Nat) : List Nat := (s.coreOwner.filter fun e => e.2.comp == c && e.2.phase != .leaving && e.2.phase != .preparing).map (·.1)

/-- The slots of a spill set (R387). -/
def State.setSize (s : State) (c : Nat) : Nat := ((s.coresOf c).length + 1) / 2

/-- Whether slot `k` is taken by a spill set: that of a suspended launch, or one that a stopping lane spills into. -/
def State.slotTaken (s : State) (c k : Nat) : Bool :=
  (s.suspended.any fun l => ((s.ctxs.find l.ctx).map (·.comp)) == some c && match l.state with
    | .suspended j => decide (j ≤ k) && decide (k < j + (l.cores.length + 1) / 2)
    | _ => false) ||
  (s.res.any fun e => e.2.comp == c && e.2.inLaunch && match e.2.status with
    | .stopping (.slot j _) | .stopped (.slot j _) => j == k
    | _ => match e.2.stopReq with
      | some (.slot j _) => j == k
      | _ => false)

/-- The first slots of the free spill sets, in ascending slot number (R387). -/
def State.freeSets (s : State) (c : Nat) : List Nat :=
  let n := (s.coresOf c).length
  let z := s.setSize c
  if z = 0 then []
  else
    (List.range ((s.slotCount c - n) / z)).filterMap fun j =>
      let k := n + j * z
      if (List.range z).any fun i => s.slotTaken c (k + i) then none else some k

/-- Ask every core of a lane to stop and spill into the set that begins at slot `k` (R65, R387). -/
def State.askSpill (s : State) (c lane k : Nat) : State :=
  match s.launches.find (laneKey c lane) with
  | none => s
  | some l => (l.cores.zip (List.range l.cores.length)).foldl (fun s p => s.askStop p.1 lane (.slot (k + p.2 / 2) (p.2 % 2))) s

/-- Whether a lane has been asked to spill. -/
def State.laneStopping (s : State) (c lane : Nat) : Bool :=
  match s.launches.find (laneKey c lane) with
  | none => false
  | some l => l.cores.any fun n =>
    let x := s.core n lane
    x.inLaunch && (x.stopReq.isSome || match x.status with
      | .stopping _ | .stopped _ => true
      | _ => false)

/-- HIGH_PRIORITY_PREEMPTION: a launch of a high-priority context that is ready takes at once the lane of a class 3 or 4 launch where no lane
is free, given a free spill set (R386). -/
def State.preemptFor (s : State) (q : QRef) : State :=
  match s.ringCtx q with
  | none => s
  | some (_, x) =>
    let c := x.comp
    let low (l : Launch) : Bool := ((s.ctxs.find l.ctx).map fun y => decide (3 ≤ y.cls)).getD false
    if !(x.cls == 2 && s.shared c) || (s.lanes c).any (fun r => s.laneFree c r || s.laneStopping c r) then s
    else
      match s.greaterPass c low, (s.freeSets c).head? with
      | some lane, some k => s.askSpill c lane k
      | _, _ => s

/-! ## Taking and waiting (R358) -/

/-- A command that has been read goes on: it ends at once, waits, or is ready to start. -/
def State.settleTaken (s : State) (q : QRef) (c : CmdRec) : State :=
  match s.waitNow c with
  | .abandoned => s.endCommand q 2 0 0
  | .waits => s.onCur q fun k => { k with waiting := true }
  | .holds =>
    let s := s.onCur q fun k => { k with waiting := false, at_ := s.aon.dt, charged := s.aon.dt }
    if c.opcode = 1 then s.preemptFor q else s

/-- COMMAND_RECORD_ARRIVE: the record of the queue's oldest command arrives; one marked aborted, or that may not run, ends; else it waits for
its fence or is ready (R355 to R358, R370, R376). -/
def execCommandRecordArrive (q : QRef) (s : State) : Out :=
  checked true
    (let x := s.ring q
     if !s.ringServed q || x.cur.isSome || x.rd == x.prod || !s.hostUp (s.ringFn q / 64) then s
     else
       let c := s.recordAt q x.rd
       let s := s.setRing q { x with cur := some (Cur.of c s.aon.dt) }
       let s := s.cmdTrace q c 1 0
       if x.aborts.contains x.rd then s.endCommand q 1 0 0
       else
         match s.takenStatus q c with
         | some st => s.endCommand q st 0 0
         | none => s.settleTaken q c)

/-- COMMAND_WAIT_SATISFIED: the fence that a command waits for has reached its value, or is ABANDONED (R358). -/
def execCommandWaitSatisfied (q : QRef) (s : State) : Out :=
  checked true
    (match (s.ring q).cur with
     | none => s
     | some k => if k.waiting && k.ended.isNone && s.waitNow k.rec_ != .waits then s.settleTaken q k.rec_ else s)

/-! ## Completion (R359 to R363) -/

/-- Which of OK, POISONED and ABORTED a signal carries for a completion status: ABORTED and POISONED their own, OK OK; of the others the spec
does not say (DESIGN CHOICE, log 46). -/
def State.signalStatus (s : State) (st : Nat) : Nat × State :=
  if st = 0 then (0, s) else if st = 10 then (1, s) else if st = 1 then (2, s)
  else ((s.free 2).1.toNat % 3, (s.free 2).2)

/-- Raise the ABORT cookie of an abort (R364, R370). -/
def State.abortCookie (s : State) (f q index status : Nat) : State :=
  s.raise f { kind := 3, status := status, payload := q % 2 ^ 17 * 2 ^ 31 + index % 2 ^ 31, dt := s.aon.dt, vector := 0 }

/-- Answer the aborts of a command that wait for its end (R370). -/
def State.answerAborts (s : State) (q : QRef) (st : Nat) : State :=
  let x := s.ring q
  let f := s.ringFn q
  let hit := (s.fn f).aborts.filter fun a => a.1 == (qNum q) && a.2 == x.rd && q != .admin f
  let s := s.setFn f { s.fn f with aborts := (s.fn f).aborts.filter fun a => !hit.contains a }
  hit.foldl (fun s a => s.abortCookie f a.1 a.2 (if st = 1 then 0 else 1)) s

/-- The cores that a queue's command is charged for: those of its launch; else one channel or the command processor (R383). -/
def State.chargeUnits (s : State) (q : QRef) : Nat :=
  match s.launches.find? fun e => e.2.q == q && !e.2.step with
  | some e => e.2.cores.length
  | none => 1

/-- Charge the time that a running command has used since it was charged last (R383). -/
def State.chargeCur (s : State) (q : QRef) : State :=
  match q, (s.ring q).cur with
  | .queue _, some k =>
    if k.started then
      let x := s.ring q
      let s := (s.charge x.ctx ((s.aon.dt - k.charged) * s.chargeUnits q)).onCur q fun k => { k with charged := s.aon.dt }
      match s.ctxs.find x.ctx with
      | some c => s.boundPasses c.comp
      | none => s
    else s
  | _, _ => s

/-- Charge as debt what a command-processor command held beyond its slice (R391). -/
def State.cpDebt (s : State) (q : QRef) : State :=
  match s.ringCtx q, (s.ring q).cur with
  | some (i, c), some k =>
    let span := us (s.fld F.SCH_COMP_CFG_quantum_us c.comp)
    if k.started ∧ (k.rec_.opcode = 0 ∨ k.rec_.opcode = 5 ∨ k.rec_.opcode = 6) ∧ span < s.aon.dt - k.at_ then
      s.chargeDebt i (s.aon.dt - k.at_ - span)
    else s
  | _, _ => s

/-- Signal the fence of a completed command, where the command may signal it (R353, R359 step 3, R362). -/
def State.signalCmd (s : State) (q : QRef) (c : CmdRec) (st : Nat) : State :=
  if !(c.flag 0 && s.maySignal q c.sigFence) then s
  else
    let r := s.signalStatus st
    ((r.2.signal c.sigFence c.sigValue (c.flag 1) r.1 s.aon.dt).1).recheckFence c.sigFence

/-- Advance a queue's read pointer past its command, and tell the twin (R340, R359 step 4). -/
def State.retireCmd (s : State) (q : QRef) : State :=
  let x := s.ring q
  let rd := (x.rd + 1) % 2 ^ 32
  let s := s.setRing q { x with rd := rd, cur := none, aborts := x.aborts.filter fun i => i != x.rd }
  match q with
  | .queue i => s.mirrorMsg 4 0 ((s.ringComp q).getD 0) i (leBytes 8 rd)
  | .admin _ => s

/-- COMMAND_COMPLETION: a command whose work has ended: its record, its signal, then the read pointer; the cookies of its aborts follow the
record (R359 to R363, R370). A queue whose context is being destroyed gets no record and no signal (R372). -/
def execCommandCompletion (q : QRef) (s : State) : Out :=
  checked true
    (match (s.ring q).cur with
     | none => s
     | some k =>
       match k.ended with
       | none => s
       | some (st, det, res) =>
         if (s.ringCtx q).any fun p => p.2.state != .live then (s.answerAborts q 1).retireCmd q
         else if s.suspected q then s
         else
           let s := s.when (!k.written) fun s => s.writeCompletion q st (if k.late then 2 else 0) det res
           let s := (s.cpDebt q).chargeCur q
           let s := (s.answerAborts q st).signalCmd q k.rec_ st
           (s.cmdTrace q k.rec_ 2 st).retireCmd q)

/-! ## Running a command -/

/-- The command that a queue is ready to run, where its opcode is `op`: read, not waiting, not ended. -/
def State.runnable (s : State) (q : QRef) (op : Nat) : Option Cur :=
  match (s.ring q).cur with
  | some k => if k.rec_.opcode = op ∧ !k.waiting ∧ k.ended.isNone ∧ s.ringLive q ∧ !s.heldBack q then some k else none
  | none => none

/-- Mark the queue's command started. -/
def State.startCmd (s : State) (q : QRef) : State :=
  s.onCur q fun k => if k.started then k else { k with started := true, at_ := s.aon.dt, charged := s.aon.dt, unitAt := s.aon.dt }

/-- NOP (R357). -/
def execNop (q : QRef) (s : State) : Out :=
  checked true
    (match s.runnable q 0 with
     | none => s
     | some _ => (s.startCmd q).endCommand q 0 0 0)

/-! ## Copies and fills (R349, R357, R381) -/

/-- A free channel of a composition: bound, IDLE, and used by no copy (R381). -/
def State.freeChan (s : State) (c : Nat) : Option Nat :=
  (s.chanOwner.find? fun e => e.2.comp == c && e.2.phase != .leaving && e.2.phase != .preparing && s.chState e.1 == chIdle &&
    !(s.queues.any fun r => (r.2.cur.map fun k => k.chan == some e.1).getD false)).map (·.1)

/-- The space of a command's device addresses: physical with selector 0, or its context's through the channel's engine (R202, R356). -/
def State.cmdSpace (s : State) (q : QRef) (c : CmdRec) (x : Nat) : Space :=
  if c.flag 4 then .phys 0 else .virt (.eng (x / 16)) (.chan x) (s.ctxTag (s.ring q).ctx)

/-- Read device memory for a command on channel `x`, which gives its composition and epoch to the access (R162, R356); BULK, since the spec gives copies
no class (DESIGN CHOICE, log 40). -/
def State.cmdRead (s : State) (q : QRef) (c : CmdRec) (x a n : Nat) : VResult :=
  s.vread (s.chanWho x (.dmaPiece x) clsBulk) (s.cmdSpace q c x) (if c.flag 4 then a % 2 ^ 48 else a) n needR

/-- Write device memory for a command. -/
def State.cmdWrite (s : State) (q : QRef) (c : CmdRec) (x a : Nat) (data : List Byte) : VResult :=
  s.vwrite (s.chanWho x (.dmaPiece x) clsBulk) (s.cmdSpace q c x) (if c.flag 4 then a % 2 ^ 48 else a) data needW

/-- One 4 KiB unit of a copy or fill of length `len` has been moved, up to `pos`: at the end every remote group is committed, and the command
ends once they have closed (R183, R361). -/
def State.unitDone (s : State) (q : QRef) (x pos len : Nat) : State :=
  let s := s.onCur q fun k => { k with pos := pos, unitAt := s.aon.dt }
  if pos < len then s
  else
    let s := s.commitOwner (ownerDma x)
    if !s.groupsClosed (ownerDma x) then s
    else
      let bad := s.groupsPoisoned (ownerDma x)
      (s.freeClosed (ownerDma x)).endCommand q (if bad then 10 else 0) 0 0

/-- Move the next unit of a copy or fill on its channel: `src` gives the bytes of the unit at an offset, or a status, or nothing yet; `dst` takes
them, or waits. -/
def State.moveUnit (s : State) (q : QRef) (k : Cur) (src : State → Nat → Nat → Nat → State × Option (List Byte) × Option (Nat × Nat))
    (dst : State → Nat → Nat → List Byte → State × Bool × Option (Nat × Nat)) : State :=
  let len := k.rec_.a2
  match (match k.chan with
    | some x => some x
    | none => s.freeChan ((s.ringComp q).getD 64)) with
  | none => s
  | some x =>
    let s := (s.startCmd q).onCur q fun k => { k with chan := some x }
    if len ≤ k.pos then s.unitDone q x k.pos len
    else
      let n := min 4096 (len - k.pos)
      match src s x k.pos n with
      | (s, _, some (st, det)) => s.endCommand q st det 0
      | (s, none, none) => s
      | (s, some data, none) =>
        match dst s x k.pos data with
        | (s, _, some (st, det)) => s.endCommand q st det 0
        | (s, true, none) => s
        | (s, false, none) => s.unitDone q x (k.pos + n) len

/-- The device as a source of a copy. -/
def fromDevice (q : QRef) (c : CmdRec) (a : Nat) (s : State) (x pos n : Nat) : State × Option (List Byte) × Option (Nat × Nat) :=
  let r := s.cmdRead q c x (a + pos) n
  match r.fail with
  | some m => (r.s, none, some (12, m.cause))
  | none => (r.s, if r.wait then none else some r.data, none)

/-- The device as a destination. -/
def toDevice (q : QRef) (c : CmdRec) (a : Nat) (s : State) (x pos : Nat) (data : List Byte) : State × Bool × Option (Nat × Nat) :=
  let r := s.cmdWrite q c x (a + pos) data
  (r.s, r.wait, r.fail.map fun m => (12, m.cause))

/-- The host as a source: HOST_ABSENT where its port is down (R361). -/
def fromHost (h a : Nat) (s : State) (_x pos n : Nat) : State × Option (List Byte) × Option (Nat × Nat) :=
  if s.hostUp h then (s, some (s.hostBytes h (a + pos) n), none) else (s, none, some (11, 0))

/-- The host as a destination. -/
def toHost (h a : Nat) (s : State) (_x pos : Nat) (data : List Byte) : State × Bool × Option (Nat × Nat) :=
  if s.hostUp h then (s.hostStore h (a + pos) data, false, none) else (s, false, some (11, 0))

/-- COPY_H2D: the next 4 KiB unit of a copy from host memory to device memory (R349, R357, R390). -/
def execCopyH2d (q : QRef) (s : State) : Out :=
  checked true
    (match s.runnable q 2 with
     | none => s
     | some k => s.moveUnit q k (fromHost (s.ringFn q / 64) k.rec_.a0) (toDevice q k.rec_ k.rec_.a1))

/-- COPY_D2H: the next 4 KiB unit of a copy from device memory to host memory (R349, R357, R390). -/
def execCopyD2h (q : QRef) (s : State) : Out :=
  checked true
    (match s.runnable q 3 with
     | none => s
     | some k => s.moveUnit q k (fromDevice q k.rec_ k.rec_.a0) (toHost (s.ringFn q / 64) k.rec_.a1))

/-- FILL: the next 4 KiB unit of a fill of device memory with an 8-byte pattern (R357, R390). -/
def execFill (q : QRef) (s : State) : Out :=
  checked true
    (match s.runnable q 4 with
     | none => s
     | some k =>
       let pat := leBytes 8 k.rec_.a1
       let src (s : State) (_x _pos n : Nat) : State × Option (List Byte) × Option (Nat × Nat) :=
         (s, some ((List.range n).map fun i => pat.getD (i % 8) 0#8), none)
       s.moveUnit q k src (toDevice q k.rec_ k.rec_.a0))

/-! ## TABLE_SYNC and INVALIDATE (R227 to R229, R235, R357) -/

/-- Whether a queue's command may name a tag: an assigned one, of a context of its function where that is a virtual function (R357). -/
def State.mayName (s : State) (q : QRef) (tag : Nat) : Bool :=
  let f := s.ringFn q
  bits (s.rootEntry tag) 63 63 == 1 && (f % 64 == 0 || s.ctxs.any fun e => e.2.fn == f && e.2.tag == tag)

/-- TABLE_SYNC: apply the list of updates in host memory; where an applied one removed or replaced a leaf, the command ends with the
invalidation of the tag (R227 to R229). -/
def execTableSync (q : QRef) (s : State) : Out :=
  checked true
    (match s.runnable q 5 with
     | none => s
     | some k =>
       let tag := k.rec_.a0
       let h := s.ringFn q / 64
       if k.started then s
       else
         let s := s.startCmd q
         if !s.mayName q tag then s.endCommand q 4 0 0
         else if !s.hostUp h then s.endCommand q 11 0 0
         else
           let us := (List.range k.rec_.a2).map fun i =>
             (leNat (s.hostBytes h (k.rec_.a1 + 16 * i) 8), leNat (s.hostBytes h (k.rec_.a1 + 16 * i + 8) 8))
           let r := s.tableUpdates tag false 0 us
           if r.2.1 then r.1.startInval tag (.command q r.2.2.1 r.2.2.2) else r.1.endCommand q r.2.2.1 r.2.2.2 0)

/-- INVALIDATE: remove every translation of a tag; the command ends with the invalidation (R235). -/
def execInvalidate (q : QRef) (s : State) : Out :=
  checked true
    (match s.runnable q 6 with
     | none => s
     | some k =>
       if k.started then s
       else
         let s := s.startCmd q
         if s.mayName q k.rec_.a0 then s.startInval k.rec_.a0 (.command q 0 0) else s.endCommand q 4 0 0)

/-! ## Admin commands (R352, R357) -/

/-- Show the counts of a function's objects (R377). -/
def State.showFn (s : State) (f : Nat) : State :=
  ((s.setFld F.CTX_FN_STATUS_contexts f (s.ctxs.filter fun e => e.2.fn == f).length).setFld F.CTX_FN_STATUS_queues f
    (s.queues.filter fun e => e.2.fn == f).length).setFld F.CTX_FN_STATUS_fences f (s.fences.filter fun e => e.2.taken && e.2.fn == f).length

/-- The lowest key below `n` that a list of keys in rising order, from `i`, lacks. -/
def lowestFree (n : Nat) (i : Nat) : List Nat → Option Nat
  | [] => if i < n then some i else none
  | k :: ks => if i < k then (if i < n then some i else none) else lowestFree n (k + 1) ks

/-- The bytes that tell the twin of a context (R340; layout of the model, DESIGN CHOICE, log 47). -/
def Ctx.mirrorBytes (c : Ctx) : List Byte :=
  leBytes 1 c.fn ++ leBytes 1 (match c.state with | .live => 1 | _ => 0) ++ leBytes 1 c.rt.toNat ++ leBytes 1 c.prio.toNat ++ leBytes 4 c.weight ++
    leBytes 2 c.tag ++ leBytes 2 c.sel

/-- The bytes that tell the twin of a queue of a context (R340; layout of the model, DESIGN CHOICE, log 47). -/
def Ring.mirrorBytes (x : Ring) (k : Nat) : List Byte :=
  leBytes 4 k ++ leBytes 1 x.n ++ leBytes 1 x.kind ++ leBytes 2 x.doorbell ++ leBytes 8 x.base ++ leBytes 8 x.cplBase ++ leBytes 8 0

/-- Send the bytes that tell the twin of an object of a kind in pieces of 248, each behind its number. `fuel` counts pieces. -/
def State.mirrorPieces (s : State) (fuel kind sel comp i j : Nat) (data : List Byte) : State :=
  match fuel with
  | 0 => s
  | f + 1 =>
    if data.isEmpty then s
    else (s.mirrorMsg kind sel comp i (leBytes 8 j ++ data.take 248)).mirrorPieces f kind sel comp i (j + 1) (data.drop 248)

/-- Tell the twin of a context's entry, with its queues, their number first (R340; layout of the model, DESIGN CHOICE, log 47). -/
def State.mirrorCtx (s : State) (i : Nat) : State :=
  match s.ctxs.find i with
  | some c =>
    let qs := s.ctxQueues i
    let data := c.mirrorBytes ++ leBytes 4 qs.length ++ (qs.map fun k => (s.ring (.queue k)).mirrorBytes k).flatten
    s.mirrorPieces (data.length / 248 + 1) 2 c.sel c.comp i 0 data
  | none => s

/-- The status that refuses a new context, none where it may be made; the pool is tried after these (R225, R319, R357, R361, R393). -/
def State.ctxRefusal (s : State) (f : Nat) (rt : Bool) : Option Nat :=
  match s.compOf f with
  | none => some 15
  | some c =>
    if rt && s.shared c then some 3
    else if !s.shared c && (s.comp c).exclusiveUsed then some 17
    else if !s.poolOn 0 then some 16
    else if s.fld F.CTX_QUOTA_max_contexts f ≤ s.fld F.CTX_FN_STATUS_contexts f then some 14
    else if (lowestFree 40960 0 (s.ctxs.map (·.1))).isNone then some 13
    else none

/-- The lowest tag above 0 that no context has. -/
def State.freeTag (s : State) : Option Nat := (List.range (s.tagsUsed.length + 1)).map (· + 1) |>.find? fun t => decide (t < 65536) && !s.tagsUsed.contains t

/-- CTX_CREATE (R221, R319, R352, R383, R434): a context with its tag, the selector of its composition, weight 65,536, pass 0, and a seed from
the hardware random source. -/
def execCtxCreate (q : QRef) (s : State) : Out :=
  checked true
    (match s.runnable q 0x40 with
     | none => s
     | some k =>
       let f := s.ringFn q
       let rt := k.rec_.a0 == 1
       let s := s.startCmd q
       match s.ctxRefusal f rt with
       | some st => s.endCommand q st 0 0
       | none =>
         let c := (s.compOf f).getD 0
         match lowestFree 40960 0 (s.ctxs.map (·.1)), s.freeTag with
         | some i, some tag =>
           match s.assignTag tag c rt with
           | none => s.endCommand q 24 0 0
           | some s =>
             let r := s.free 64
             let x : Ctx := { fn := f, comp := c, tag := tag, state := .live, rt := rt, prio := false, weight := 65536, pass := 0, time := 0,
                              overrun := 0, ovf := 0, ovfSat := false, srseed := r.1.toNat, sel := s.fld F.SEC_COMP_CFG_ctx_sel c, lastQ := 0,
                              destroyBy := none, destroyAt := 0, invalidating := false, guilty := false }
             let s := { r.2 with ctxs := r.2.ctxs.put i x, tagsUsed := tag :: r.2.tagsUsed }
             let s := (s.setComp c { s.comp c with exclusiveUsed := true }).showFn f
             (s.mirrorCtx i).endCommand q 0 tag i
         | _, _ => s.endCommand q 13 0 0)

/-- Whether context `i` is a LIVE context of function `f` (R357). -/
def State.liveCtx (s : State) (f i : Nat) : Bool := ((s.ctxs.find i).map fun c => c.fn == f && c.state == .live).getD false

/-- Q_CREATE (R352, R354, R357): a queue of a LIVE context with a doorbell of the function. -/
def execQCreate (q : QRef) (s : State) : Out :=
  checked true
    (match s.runnable q 0x42 with
     | none => s
     | some k =>
       let f := s.ringFn q
       let c := k.rec_
       let s := s.startCmd q
       let bells := (s.queues.filter fun e => e.2.fn == f).map fun e => e.2.doorbell
       let bell := ((List.range (bells.length + 1)).map (· + 1)).find? fun d => decide (d < 4096) && !bells.contains d
       if !s.liveCtx f c.a2 then s.endCommand q 4 0 0
       else if s.fld F.CTX_QUOTA_max_queues f ≤ s.fld F.CTX_FN_STATUS_queues f then s.endCommand q 14 0 0
       else
         match lowestFree 81920 0 (s.queues.map (·.1)), bell with
         | some i, some d =>
           let x : Ring := { Ring.init with fn := f, base := bits c.a0 63 12 * 4096, n := bits c.a0 3 0 + 4, cplBase := c.a1, ctx := c.a2,
                                            kind := bits c.a0 5 4, doorbell := d }
           ((({ s with queues := s.queues.put i x }).showFn f).mirrorCtx c.a2).endCommand q 0 d i
         | _, _ => s.endCommand q 13 0 0)

/-- Q_DESTROY (R357, R361): IN_USE where it holds commands not complete. -/
def execQDestroy (q : QRef) (s : State) : Out :=
  checked true
    (match s.runnable q 0x43 with
     | none => s
     | some k =>
       let f := s.ringFn q
       let s := s.startCmd q
       match s.queues.find k.rec_.a0 with
       | none => s.endCommand q 4 0 0
       | some x =>
         if x.fn ≠ f then s.endCommand q 4 0 0
         else if x.rd ≠ x.prod then s.endCommand q 19 0 0
         else ((({ s with queues := s.queues.del k.rec_.a0 }).showFn f).mirrorCtx x.ctx).endCommand q 0 0 0)

/-- The generation that a fence slot's next allocation carries (R352). -/
def nextGen (slot gen : Nat) : Nat :=
  let g := (gen + 1) % 2 ^ 14
  if slot = 262143 ∧ g = 0x3FFF then 0 else g

/-- F_ALLOC (R352): a fence of a LIVE context with its initial value, report tag and vector. -/
def execFAlloc (q : QRef) (s : State) : Out :=
  checked true
    (match s.runnable q 0x44 with
     | none => s
     | some k =>
       let f := s.ringFn q
       let c := k.rec_
       let s := s.startCmd q
       if !s.liveCtx f c.a2 then s.endCommand q 4 0 0
       else if s.fld F.CTX_QUOTA_max_fences f ≤ s.fld F.CTX_FN_STATUS_fences f then s.endCommand q 14 0 0
       else
         match lowestFree 262144 0 ((s.fences.filter fun e => e.2.taken).map (·.1)) with
         | none => s.endCommand q 13 0 0
         | some i =>
           let g := nextGen i (s.fences.get i Fence.init).gen
           let x : Fence := { gen := g, taken := true, abandoned := false, value := c.a0, last := 0, fn := f, ctx := c.a2, tag := bits c.a1 47 0,
                              vector := bits c.a1 58 48 }
           let s := (({ s with fences := s.fences.put i x }).showFn f).mirrorFence i
           s.endCommand q 0 0 (i + g * 2 ^ 18))

/-- The indices of a ring's commands that are not complete. -/
def Ring.open (x : Ring) : List Nat := (List.range ((x.prod + 2 ^ 32 - x.rd) % 2 ^ 32)).map fun j => (x.rd + j) % 2 ^ 32

/-- Whether a command record names fence `id` to signal or to wait for. -/
def CmdRec.names (c : CmdRec) (id : Nat) : Bool := (c.flag 0 && c.sigFence == id) || (c.flag 2 && c.waitFence == id)

/-- Whether a command that is not complete, of a queue of function `f`, names fence `id` (R361). -/
def State.fenceNamed (s : State) (f id : Nat) (self : QRef) : Bool :=
  let ringNames (q : QRef) : Bool :=
    let x := s.ring q
    (x.open.filter fun i => !(q == self && i == x.rd)).any fun i =>
      let c := if i = x.rd then ((x.cur.map (·.rec_)).getD (s.recordAt q i)) else s.recordAt q i
      c.names id
  (s.queues.any fun e => e.2.fn == f && ringNames (.queue e.1)) || ringNames (.admin f)

/-- F_FREE (R129, R357, R361): a LIVE fence with waiters, or named by a command not complete, is IN_USE; a `fen.wait` on it is told. -/
def execFFree (q : QRef) (s : State) : Out :=
  checked true
    (match s.runnable q 0x45 with
     | none => s
     | some k =>
       let f := s.ringFn q
       let id := k.rec_.a0
       let s := s.startCmd q
       match (if s.fnFence f id then s.fence id else none) with
       | none => s.endCommand q 4 0 0
       | some x =>
         if !x.abandoned && ((s.fn f).waiters.any (fun w => w.fence == id) || s.fenceNamed f id q) then s.endCommand q 19 0 0
         else ((s.setFence id { Fence.init with gen := x.gen }).showFn f).recheckFence id |>.endCommand q 0 0 0)

/-- F_ARM (R363): a host waiter, which delivers at once where the fence is at its value or ABANDONED. -/
def execFArm (q : QRef) (s : State) : Out :=
  checked true
    (match s.runnable q 0x46 with
     | none => s
     | some k =>
       let f := s.ringFn q
       let c := k.rec_
       let s := s.startCmd q
       let total := (s.fns.map fun e => e.2.waiters.length).foldl (· + ·) 0
       match (if s.fnFence f c.a0 then s.fence c.a0 else none) with
       | none => s.endCommand q 4 0 0
       | some x =>
         if 524288 ≤ total then s.endCommand q 13 0 0
         else
           let w : Waiter := { fence := c.a0, value := c.a1, tag := bits c.a2 47 0, vector := bits c.a2 58 48 }
           let s := s.setFn f { s.fn f with waiters := (s.fn f).waiters ++ [w] }
           let s :=
             if x.abandoned then s.deliverWaiters f c.a0 3 s.aon.dt fun u => u == w
             else if c.a1 ≤ x.value then s.deliverWaiters f c.a0 x.last s.aon.dt fun u => u == w
             else s
           s.endCommand q 0 0 0)

/-! ## The event ring's registers (R365, R377) -/

/-- EVR_ENABLE: a write of CTX_EVR_BASE: base while disabled, dev_vector, enable; writing 1 sets both indices to 0; pending cookies follow. -/
def execEvrEnable (f : Nat) (v : Word) (s : State) : Out :=
  checked (decide (f < 128))
    (let s := s.writeReg .CTX_EVR_BASE f v.toNat (2 ^ 64 - 1)
     if F.CTX_EVR_BASE_enable.of v = 1 then
       let s := ((s.setFld F.CTX_EVR_BASE_enable f 1).setReg .CTX_EVR_RD f 0#64).setReg .CTX_EVR_WR f 0#64
       s.drainCookies (s.fn f).cookies.length f
     else s.setFld F.CTX_EVR_BASE_enable f 0)

/-- CTX_EVR_RD_WRITE: entries are consumed; pending cookies are written in order while the ring has space (R365, R377). -/
def execCtxEvrRdWrite (f : Nat) (v : Word) (s : State) : Out :=
  checked (decide (f < 128))
    (if rdOk 32 (s.fld F.CTX_EVR_WR_wr f) (s.evrCap f) (F.CTX_EVR_RD_rd.of v) then
       let s := s.setFld F.CTX_EVR_RD_rd f (F.CTX_EVR_RD_rd.of v)
       s.drainCookies (s.fn f).cookies.length f
     else s)

end Sys2Proof.Machine
end

