-- ==== Sys2Proof/Machine/Mailbox.lean ====
section
/-! DEFINITION. Machine/Mailbox.lean: the mailbox of a composition (R367 to R369, R461). -/
namespace Sys2Proof.Machine

/-- The key of the inbound area of composition `c`'s mailbox; the outbound area follows it. -/
def mbxIn (c : Nat) : Nat := 2 * c

/-- Write an outbound message: header with type, length and sequence, the payload; out_valid, then the MAILBOX event with status MESSAGE (R367,
R369). -/
def State.mbxPut (s : State) (c ty : Nat) (payload : List Byte) : State :=
  let n := min 4096 (8 + payload.length)
  let seq := s.mbxSeq.get c 0
  let body := (leBytes 2 ty ++ leBytes 2 n ++ leBytes 4 seq ++ payload).take 4096
  let s := { s with mailbox := s.mailbox.put (mbxIn c + 1) body, mbxSeq := s.mbxSeq.put c ((seq + 1) % 2 ^ 32) }
  let s := (s.setFld F.MBX_STATUS_out_valid c 1).setFld F.MBX_STATUS_out_length c n
  match s.attached c with
  | some f => s.raise f { kind := 7, status := 0, payload := n, dt := s.aon.dt, vector := 0 }
  | none => s

/-- Management firmware sends a message: at once while out_valid = 0, else after those that wait before it (R369). -/
def State.mbxSend (s : State) (c ty : Nat) (payload : List Byte) : State :=
  if s.fld F.MBX_STATUS_out_valid c = 0 then s.mbxPut c ty payload
  else { s with mbxOut := s.mbxOut.put c (s.mbxOut.get c [] ++ [(ty, payload)]) }

/-- The mailbox of a composition as after reset (R374). -/
def State.mbxReset (s : State) (c : Nat) : State :=
  let s := s.setReg .MBX_STATUS c 0#64
  { s with mailbox := (s.mailbox.del (mbxIn c)).del (mbxIn c + 1), mbxSeq := s.mbxSeq.del c, mbxOut := s.mbxOut.del c }

/-- MBX_DOORBELL: the attached function has written `body` into the inbound area and rings the doorbell (R367 to R369). -/
def execMbxDoorbell (f : Nat) (v : Word) (body : List Byte) (s : State) : Out :=
  checked (decide (f < 128))
    (match s.compOf f with
     | none => s
     | some c =>
       let old := s.mailbox.get (mbxIn c) []
       let s := { s with mailbox := s.mailbox.put (mbxIn c) ((splice old 0 body).take 4096) }
       let n := F.MBX_DOORBELL_length.of v
       if s.fld F.MBX_STATUS_in_busy c = 1 ∨ n < 8 ∨ 4096 < n then s else s.setFld F.MBX_STATUS_in_busy c 1)

/-- MBX_ACK: the attached function clears out_valid; the next message that waits follows (R368, R369). -/
def execMbxAck (f : Nat) (v : Word) (s : State) : Out :=
  checked (decide (f < 128))
    (match s.compOf f with
     | none => s
     | some c =>
       if F.MBX_ACK_ack.of v = 0 then s
       else
         let s := (s.setFld F.MBX_STATUS_out_valid c 0).setFld F.MBX_STATUS_out_length c 0
         let s := { s with mailbox := s.mailbox.del (mbxIn c + 1) }
         match s.mbxOut.get c [] with
         | [] => s
         | m :: rest => ({ s with mbxOut := s.mbxOut.put c rest }).mbxPut c m.1 m.2)

/-- MAILBOX_INBOUND_TAKEN: management firmware has copied the inbound message: in_busy clears and MAILBOX is raised with status INBOUND_FREE
(R369). -/
def execMailboxInboundTaken (c : Nat) (s : State) : Out :=
  checked (decide (c < 64))
    (if s.fld F.MBX_STATUS_in_busy c = 0 then s
     else
       let s := s.setFld F.MBX_STATUS_in_busy c 0
       match s.attached c with
       | some f => s.raise f { kind := 7, status := 1, payload := s.fld F.MBX_STATUS_out_length c, dt := s.aon.dt, vector := 0 }
       | none => s)

/-- MAILBOX_OUTBOUND_MESSAGE: management firmware writes an outbound message (R367, R369, R461). -/
def execMailboxOutboundMessage (c ty : Nat) (payload : List Byte) (s : State) : Out :=
  checked (decide (c < 64)) (s.mbxSend c ty payload)

end Sys2Proof.Machine
end

