-- ==== Sys2Proof/Machine/Launches.lean ====
section
/-! DEFINITION. Machine/Launches.lean: the launches of a composition: issue, start and timing (R57, R79, R299 to R303, R380, R381), aborts
(R370, R371), the destruction of a context (R372), suspension and resumption (R385 to R389). -/
namespace Sys2Proof.Machine

/-! ## The start of a core (R79, R83, R301, R380) -/

/-- The resident at a launch's entry (R79, R81, R151). -/
def Res.entry (x : Res) (n r : Nat) (shared : Bool) (live : Nat) (l : Launch) (srseed : Nat) : Res :=
  let g1 : Word := match x.rank with
    | some i => BitVec.ofNat 64 i
    | none => ones64
  let f := ((SeqFile.init.wg 1 g1).wg 2 (BitVec.ofNat 64 l.cores.length)).wg 3 (BitVec.ofNat 64 l.argsVa)
  let m := n + (if shared then 672 * r else 0)
  { Res.init with status := .running, file := { f with pc := l.entry % 2 ^ 52 }, live := live, srseed := srseed,
                  gens := [3, 4, 5, 6].map fun u => genSeed srseed u m, comp := x.comp, lane := x.lane, ctx := x.ctx, rank := x.rank,
                  leaveReq := x.leaveReq, lastCtx := some x.ctx }

/-- Start a launch's program on a core: R380's zeros where its last launch was of another context, fresh accumulators, the entry state; the
instruction cache is invalidated (R79, R83). -/
def State.enterLaunch (s : State) (n r : Nat) (l : Launch) : State :=
  let x := s.core n r
  let sh := s.shared x.comp
  let s := s.zeroForContext n r x.ctx
  let s := (List.range (if sh then 2 else 4)).foldl (fun s a =>
    (s.accIds n r a false).foldl (fun s id => s.setAcc id Acc.fresh) s) s
  let seed := ((s.ctxs.find x.ctx).map (·.srseed)).getD 0
  let s := s.onCore n r fun x => x.entry n r sh (s.liveMask x.comp) l seed
  { s with icache := s.icache.del n }.coreTrace n 1 l

/-- Whether a core can start: zero-filled, bound to its composition, its island ON (R169, R301). -/
def State.coreReadyNow (s : State) (n c : Nat) : Bool :=
  s.coreReady.get n false && ((s.coreOwner.find n).map fun b => b.comp == c).getD false && s.domOn (n / 8)

/-- The command of a launch. -/
def State.launchCmd (s : State) (l : Launch) : Option CmdRec := if l.step then none else ((s.ring l.q).cur).map (·.rec_)

/-- A timed launch has started on its latest core: late by more than 4 ticks, it is marked and its TIMED record written; a timely one writes its
record where its layer is not 0 (R300, R301). -/
def State.timedRecord (s : State) (c lane : Nat) (l : Launch) : State :=
  match s.launchCmd l with
  | none => s
  | some k =>
    if !k.flag 3 then s
    else
      let late := s.aon.dt - l.dt
      let p := s.homeCp c
      if 4 < late then
        let s := (s.setLaunch c lane { l with late := true }).onCur l.q fun u => { u with late := true }
        s.lateRecord (cpIsl p) c (engineCode 0 p) l.ctx late
      else if k.layer ≠ 0 then s.trace (cpIsl p) 3 c 0 k.layer k.operator (engineCode 0 p) l.ctx late
      else s

/-- Whether any core of a launch has yet to start. -/
def State.someArmed (s : State) (l : Launch) (lane : Nat) : Bool := l.cores.any fun n => (s.core n lane).status == .armed

/-- Start every core of a lane's launch that has yet to start and can (R301). -/
def State.startReady (s : State) (c lane : Nat) : State :=
  match s.launches.find (laneKey c lane) with
  | none => s
  | some l =>
    if !s.someArmed l lane then s
    else
      let s := l.cores.foldl (fun s n => if (s.core n lane).status = .armed ∧ s.coreReadyNow n c then s.enterLaunch n lane l else s) s
      if s.someArmed l lane then s else s.timedRecord c lane l

/-- The residents of a launch's cores take it on: each waits to start, with its rank where the launch is FIXED (R63). -/
def State.armCores (s : State) (c lane : Nat) (l : Launch) : State :=
  (l.cores.zip (List.range l.cores.length)).foldl (fun s p =>
    s.onCore p.1 lane fun x =>
      { x.leave with status := .armed, comp := c, lane := lane, ctx := l.ctx, rank := if l.fixed then some p.2 else none }) s

/-- Run a launch in a lane (R381). -/
def State.runLaunch (s : State) (c lane : Nat) (l : Launch) : State :=
  let l := { l with state := .running, since := s.aon.dt, cores := s.coresOf c }
  ((s.setLaunch c lane l).armCores c lane l).startReady c lane

/-- ZERO_FILL_END: the zero-fill of a partition or of a core's scratchpad ends; it holds zeros under tag 0 and is usable; a core that a launch
waits for starts (R169, R301). -/
def execZeroFillEnd (z : FillTarget) (s : State) : Out :=
  checked (match z with
    | .part st p => decide (st < 24) && decide (p < 6)
    | .core n => decide (n < 672))
    (if !s.zeroFills.contains z then s
     else
       let s := { s with zeroFills := s.zeroFills.erase z }
       match z with
       | .part st p => s.wipe (partBase st p) (partBase st p + 0x10000000)
       | .core n =>
         if !s.domOn (n / 8) then { s with zeroFills := z :: s.zeroFills } else
         let s := { s.wipe (scratchBase n) (scratchBase n + 0x140000) with coreReady := s.coreReady.put n true }
         match s.coreOwner.find n with
         | some b => (s.startReady b.comp 0).startReady b.comp 1
         | none => s)

/-! ## Issue (R57, R97, R358, R381, R395) -/

/-- The place of a work-list header: its physical address and key selector, where one leaf maps it to near memory with r and w (R57). -/
def State.headerPlace (s : State) (tag va : Nat) : Option (Nat × Nat) :=
  if va % 256 ≠ 0 ∨ 2 ^ 52 ≤ va then none
  else
    match s.walk tag va with
    | none => none
    | some e =>
      let pa := leafPage e.leaf + (va - e.va)
      let near := match region pa with
        | .near _ _ => true
        | _ => false
      if near && bits e.leaf 2 2 == 1 && bits e.leaf 3 3 == 1 && decide (va + 0x2040 ≤ e.va + e.size) then some (pa, leafSel e.leaf) else none

/-- What issuing a launch comes to: a launch; the status that refuses it, with its detail. -/
inductive Issued where
  | ok (l : Launch)
  | refused (status detail : Nat)
  deriving DecidableEq, Repr

/-- Check a launch's header as it is issued: the launch it describes, or WORKLIST_INVALID; a failed access to it is MEM (R57, R361). -/
def State.readHeader (s : State) (q : QRef) (ctx : Nat) (x : Ctx) (k : CmdRec) : Issued :=
  match s.headerPlace x.tag k.a0 with
  | none => .refused 6 0
  | some (pa, sel) =>
    let w : Who := { cpWho (s.homeCp x.comp) with comp := some x.comp, epoch := s.epochOf x.comp }
    let r := s.readPhys w sel pa 0x2040
    if r.st ≠ .ok then .refused 12 (memCode r.st)
    else
      let u (off n : Nat) : Nat := leNat ((r.data.drop off).take n)
      let ib := u 6 2
      let ok := u 0 4 == 1 && decide (u 4 2 < 4) && decide (8 ≤ ib) && decide (ib ≤ 128) && ib % 8 == 0 && decide (1 ≤ u 8 8) &&
        decide (u 8 8 ≤ 2 ^ 48) && (r.data.drop 0x20).all fun b => b == 0#8
      if !ok then .refused 6 0
      else
        .ok { ctx := ctx, q := q, index := (s.ring q).rd, state := .armed, entry := k.a1, headerVa := k.a0, headerPa := pa, headerSel := sel,
              fixed := bits (u 4 2) 0 0 == 1, noReissue := bits (u 4 2) 1 1 == 1, itemBytes := ib, count := u 8 8, itemsVa := u 0x10 8,
              argsVa := u 0x18 8, cores := [], dt := k.launchDt, since := 0, late := false, aborting := none, faulted := false, squashed := false,
              coreLost := false, step := false, bars := [], clBars := [], broken := false, recorded := false }

/-- Whether a composition's launches may start now: it is ACTIVE, the device is not in drydown, and a window is open where the cyclic table governs
it (R370, R395, R455). -/
def State.mayLaunch (s : State) (c : Nat) : Bool :=
  s.fld F.CMP_STATUS_state c == 2 && s.fld F.PWR_TARGET_STATUS_dev_state 0 != 2 && !s.outsideWindows c

/-- The lowest free lane of a composition. -/
def State.freeLane (s : State) (c : Nat) : Option Nat := (s.lanes c).find? fun r => s.laneFree c r

/-- Whether a queue is served by its composition's mixer: its kind is STEP or PREFILL, and its context is the mixer's (R397). -/
def State.mixerQueue (s : State) (q : QRef) : Bool :=
  match s.ringCtx q with
  | none => false
  | some (i, x) => (s.ring q).kind != 0 && s.fld F.SCH_MIX_CFG_enable x.comp == 1 && s.fld F.SCH_MIX_CFG_context x.comp == i

/-- What issuing the command of a queue did: issued; refused and ended with a status; held back, for its composition or a lane. -/
inductive IssueEnd where
  | issued | refused (status : Nat) | waits
  deriving DecidableEq, Repr

/-- Issue the launch that is a queue's command (R57, R97, R300, R358, R381, R397). -/
def State.issue (s : State) (q : QRef) : State × IssueEnd :=
  match s.runnable q 1, s.ringCtx q with
  | some k, some (ctx, x) =>
    if k.started then (s, .waits)
    else
      match s.readHeader q ctx x k.rec_ with
      | .refused st det => ((s.startCmd q).endCommand q st det 0, .refused st)
      | .ok l =>
        if s.mixerQueue q then
          if l.fixed || ((s.ring q).kind == 1 && decide (s.fld F.SCH_MIX_CFG_max_items x.comp < l.count)) then
            ((s.startCmd q).endCommand q 3 0 0, .refused 3)
          else (s, .waits)
        else if k.rec_.flag 3 && decide (s.aon.dt + 2 ^ 48 < k.rec_.launchDt) then ((s.startCmd q).endCommand q 5 0 0, .refused 5)
        else if k.rec_.flag 3 && decide (s.aon.dt < k.rec_.launchDt) then
          ({ s.startCmd q with armed := s.armed ++ [(x.comp, l)] }, .issued)
        else if !s.mayLaunch x.comp then (s, .waits)
        else
          match s.freeLane x.comp with
          | none => (s, .waits)
          | some r => ((s.startCmd q).runLaunch x.comp r l, .issued)
  | _, _ => (s, .waits)

/-- LAUNCH: the header is checked and the program issued to the composition's cores; a timed one is armed for its DT; without a free lane, or while
its composition is not ACTIVE, it waits (R57, R357, R358, R381). -/
def execLaunch (q : QRef) (s : State) : Out := checked true (s.issue q).1

/-- The armed launch of a composition with the earliest DT that has come, with the rest (R299). -/
def State.dueLaunch (s : State) (c : Nat) : Option (Nat × Launch) :=
  let due := s.armed.filter fun e => e.1 == c && decide (e.2.dt ≤ s.aon.dt)
  match due with
  | [] => none
  | e :: rest => some (rest.foldl (fun m e => if e.2.dt < m.2.dt then e else m) e)

/-! ## Ends that no core brings about (R370 to R372, R388) -/

/-- Squash the requests of owners that `f` selects: a late reply finds no entry (R326). -/
def State.squashReqs (s : State) (f : Owner → Bool) : State := s.squashEntries fun _ q => f q.owner

/-- Whether a request belongs to resident `r` of core `n`. -/
def ownerOfCore (n r : Nat) (o : Owner) : Bool :=
  match o with
  | .loadIns m q | .ahead m q _ _ | .scalar m q | .storeIns m q => m == n && q == r
  | _ => false

/-- Squash a resident out of its launch: its item is not finished; an ELASTIC launch's goes to the retry ring; where nothing is reissued the parked
cores leave, since the launch can no longer do all its items (R61, R65). -/
def State.squashCore (s : State) (n r : Nat) (reissue : Bool) : State :=
  let x := s.core n r
  let s := s.squashReqs (ownerOfCore n r)
  let s := match x.item, s.launchOf n r with
    | some i, some l =>
      if !reissue || l.fixed || l.closed && l.aborting.isSome then s
      else if l.noReissue then (s.setLaunch x.comp x.lane { l with squashed := true }).freeParked x.comp x.lane
      else (s.reissueItem l i).wakeParked x.comp x.lane
    | _, _ => s
  (s.dropWatch n r).leaveLaunch n r

/-- Whether a core of the launch has started it and runs it, or stands stopped in place. -/
def State.launchRuns (s : State) (c lane : Nat) (l : Launch) : Bool :=
  l.cores.any fun n =>
    let x := s.core n lane
    x.inLaunch && x.comp == c && x.spilled.isNone && x.status != .armed

/-- Discard the saved states that `f` selects by key. -/
def State.dropSaved (s : State) (f : Nat → Saved → Bool) : State := { s with saved := s.saved.filter fun e => !f e.1 e.2 }

/-- Whether a saved state stands in the spill set of a suspended launch. -/
def inSpillSet (c : Nat) (l : Launch) (key : Nat) : Bool :=
  match l.state with
  | .suspended j => decide (savedKey c j 0 ≤ key) && decide (key < savedKey c (j + (l.cores.length + 1) / 2) 0)
  | _ => false

/-- Take a queue's launch away where no core is running it: armed, suspended, or held in save slots; none where a core runs it (R370). -/
def State.discardLaunch (s : State) (q : QRef) : Option State :=
  match s.armed.find? fun e => e.2.q == q with
  | some e => some { s with armed := s.armed.filter fun x => x != e }
  | none =>
    match s.suspended.find? fun l => l.q == q with
    | some l =>
      let c := ((s.ctxs.find l.ctx).map (·.comp)).getD 0
      some { s.dropSaved (fun k _ => inSpillSet c l k) with suspended := s.suspended.filter fun x => x != l }
    | none =>
      match s.launches.find? fun e => e.2.q == q && !e.2.step with
      | some (key, l) =>
        let c := key / 2
        let lane := key % 2
        if s.launchRuns c lane l then none
        else
          let s := l.cores.foldl (fun s n => if (s.core n lane).comp = c then s.onCore n lane Res.leave else s) s
          some { s.dropSaved (fun k v => k / 65536 == c && v.res.lane == lane && decide (k % 65536 / 2 < l.cores.length)) with
                 launches := s.launches.del key }
      | none => some s

/-- Mark a launch aborting: no core claims a further item; parked cores and those that have yet to start leave (R371 step 2). -/
def State.markAborting (s : State) (key : Nat) : State :=
  match s.launches.find key with
  | none => s
  | some l =>
    let c := key / 2
    let lane := key % 2
    let s := s.setLaunch c lane { l with aborting := some s.aon.dt }
    let s := l.cores.foldl (fun s n => if (s.core n lane).status = .armed then s.leaveLaunch n lane else s) s
    s.wakeAllParked c lane

/-- The DT bound of R371 step 4: 200 µs after step 2. -/
def abortBound : Nat := us 200

/-- LAUNCH_ABORT_SQUASH: 200 µs after a launch was marked aborting, every core still in it is squashed; no item is reissued (R371). -/
def execLaunchAbortSquash (c lane : Nat) (s : State) : Out :=
  checked (decide (c < 64) && decide (lane < 2))
    (match s.launches.find (laneKey c lane) with
     | none => s
     | some l =>
       match l.aborting with
       | none => s
       | some t =>
         if t + abortBound ≤ s.aon.dt then
           l.cores.foldl (fun s n => if (s.core n lane).inLaunch && (s.core n lane).comp == c then s.squashCore n lane false else s) s
         else s)

/-- Whether a mixer's running step holds items of a queue's command (R400). -/
def State.inStep (s : State) (q : QRef) : Bool :=
  match q, s.ringCtx q with
  | .queue i, some (_, x) => ((s.mixers.find x.comp).map fun m => m.running && m.contrib.contains i).getD false
  | _, _ => false

/-- Forget the items of a queue's command that have been placed in steps. -/
def State.unplace (s : State) (q : QRef) : State :=
  match q, s.ringCtx q with
  | .queue i, some (_, x) =>
    match s.mixers.find x.comp with
    | some m => { s with mixers := s.mixers.put x.comp { m with placed := m.placed.del i } }
    | none => s
  | _, _ => s

/-- Decide the abort of the command that a queue runs now (R370): the state with the command ended where it ends at once, and the status of the
ABORT cookie; none where the cookie follows the command's end. -/
def State.abortCur (s : State) (q : QRef) (k : Cur) : State × Option Nat :=
  if k.written then (s, some 1)
  else if s.suspected q then (s, none)
  else
    match k.ended with
    | some (st, _, _) => (s, some (if st = 1 then 0 else 1))
    | none =>
      if !k.started then
        if s.inStep q then (s, none) else ((s.unplace q).endCommand q 1 0 0, some 0)
      else if k.rec_.opcode = 1 then
        match s.discardLaunch q with
        | some s => (s.endCommand q 1 0 0, some 0)
        | none =>
          match s.launches.find? fun e => e.2.q == q && !e.2.step with
          | some (key, l) => if l.recorded then (s, some 1) else (s.markAborting key, none)
          | none => (s, some 1)
      else if 2 ≤ k.rec_.opcode ∧ k.rec_.opcode ≤ 4 then (s.endCommand q 1 0 0, some 0)
      else (s, some 1)

/-- CTX_ABORT: a write of CTX_ABORT aborts command `index` of a queue; exactly one ABORT cookie answers it (R370, R371, R400). -/
def execCtxAbort (f : Nat) (v : Word) (s : State) : Out :=
  checked (decide (f < 128))
    (let qn := F.CTX_ABORT_queue.of v
     let i := F.CTX_ABORT_index.of v
     match s.queues.find qn with
     | none => s.abortCookie f qn i 2
     | some x =>
       let q := QRef.queue qn
       let d := (i + 2 ^ 32 - x.rd) % 2 ^ 32
       let pend := (x.prod + 2 ^ 32 - x.rd) % 2 ^ 32
       if x.fn ≠ f then s.abortCookie f qn i 2
       else if pend ≤ d ∧ d < 2 ^ 31 then s.abortCookie f qn i 2
       else if 64 ≤ (s.fn f).aborts.length then s.abortCookie f qn i 3
       else if pend ≤ d then s.abortCookie f qn i 1
       else
         match (if d = 0 then x.cur else none) with
         | none => (s.setRing q { x with aborts := i :: x.aborts }).abortCookie f qn i 0
         | some k =>
           let r := s.abortCur q k
           match r.2 with
           | some st => r.1.abortCookie f qn i st
           | none => r.1.setFn f { r.1.fn f with aborts := (r.1.fn f).aborts ++ [(qn, i)] })

/-! ## Records that wait, suspects (R406, R414, R415) -/

/-- A record has left the place where it waited: the engine completes its fault action (R74, R214, R406). -/
def State.recordGone (s : State) (who : Stalled) : State :=
  match who with
  | .core n r =>
    let x := s.core n r
    if x.status = .waitRecord then (s.leaveLaunch n r).breakBarriers x.comp x.lane else s
  | .chan x =>
    match (s.chan x).waitRecord with
    | some cause => s.enterHalted x cause
    | none => s
  | .engine _ | .none => s

/-- FLT_RING_STATUS.stalled of a function: whether a record waits. -/
def State.showStalled (s : State) (f : Nat) : State := s.setFld F.FLT_RING_STATUS_stalled f (if (s.fn f).stalled.isEmpty then 0 else 1)

/-- Discard the waiting records of a context that is destroyed (R406). -/
def State.discardRecords (s : State) (ctx : Nat) : State :=
  s.fns.foldl (fun s e =>
    let hit := (s.fn e.1).stalled.filter fun p => p.1.ctx == ctx
    if hit.isEmpty then s
    else
      let s := (s.setFn e.1 { s.fn e.1 with stalled := (s.fn e.1).stalled.filter fun p => p.1.ctx != ctx }).showStalled e.1
      hit.foldl (fun s p => s.recordGone p.2) s) s

/-- A quarantine composition gives back what it was built from (R415). -/
def State.releaseQuarantine (s : State) (c : Nat) : State :=
  if (s.comp c).quarantine.isNone then s
  else
    let cores := (s.coreOwner.filter fun e => e.2.comp == c).map (·.1)
    let chans := (s.chanOwner.filter fun e => e.2.comp == c).map (·.1)
    let s := chans.foldl (fun s x => s.unbindChan x) s
    let s := cores.foldl (fun s n => [0, 1].foldl (fun s r => s.setCore n r Res.init) s) s
    let s := { s with coreOwner := cores.foldl SMap.del s.coreOwner, coreReady := cores.foldl SMap.del s.coreReady,
                      launches := (s.launches.del (laneKey c 0)).del (laneKey c 1) }
    let s := (s.setComp c Comp.init).resetReg .CMP_STATUS c
    ((cores.map (· / 8) ++ chans.map (· / 16)).eraseDups).foldl (fun s cl => if s.clusterBound cl then s else s.requestDom cl .off false) s

/-- The suspects of a context that `f` selects are suspects no more; their replays end (R415). -/
def State.dropSuspects (s : State) (ctx : Nat) (f : Suspect → Bool) : State :=
  let hit := s.suspects.filter fun p => p.ctx == ctx && f p
  let s := { s with suspects := s.suspects.filter fun p => !(p.ctx == ctx && f p) }
  hit.foldl (fun s p => (p.replay.map fun c => s.releaseQuarantine c).getD s) s

/-! ## Destroying a context (R372) -/

/-- Steps 1 to 3 of a destruction: DESTROYING; commands not started are discarded; running launches lose their cores, copies and other commands
stop, DMA chains are aborted; its waiting records are discarded (R216, R303, R372, R406). -/
def State.startDestroy (s : State) (ctx : Nat) (by_ : Option QRef) : State :=
  let s := s.onCtx ctx fun c => { c with state := .destroying, destroyBy := by_, destroyAt := s.aon.dt, invalidating := false }
  let s := (s.discardRecords ctx).dropSuspects ctx fun p => p.replay.isNone
  let s := (s.ctxQueues ctx).foldl (fun s i =>
    let q := QRef.queue i
    let x := s.ring q
    let runs := (x.cur.map fun k => k.started && k.rec_.opcode == 1 && k.ended.isNone).getD false
    match (if runs then s.discardLaunch q else some s) with
    | some s => (s.answerAborts q 1).setRing q { s.ring q with prod := x.rd, cur := none, aborts := [] }
    | none =>
      let s := s.setRing q { s.ring q with prod := (x.rd + 1) % 2 ^ 32, aborts := [] }
      match s.launches.find? fun e => e.2.q == q && !e.2.step with
      | some (key, _) => s.markAborting key
      | none => s) s
  let s := s.launches.foldl (fun s e => if e.2.step && e.2.ctx == ctx then s.markAborting e.1 else s) s
  (s.chans.filter fun e => e.2.ctx == some ctx).foldl (fun s e =>
    if s.chState e.1 = chRunning ∨ s.chState e.1 = chWaiting ∨ s.chState e.1 = chHalted then s.abortChan e.1 else s) s

/-- CTX_DESTROY (R357, R372). -/
def execCtxDestroy (q : QRef) (s : State) : Out :=
  checked true
    (match s.runnable q 0x41 with
     | none => s
     | some k =>
       if k.started then s
       else
         let s := s.startCmd q
         if s.liveCtx (s.ringFn q) k.rec_.a0 then s.startDestroy k.rec_.a0 (some q) else s.endCommand q 4 0 0)

/-- What the channels of a context still have outstanding is squashed, and their chains end (R216, R372 step 4). -/
def State.squashChans (s : State) (ctx : Nat) : State :=
  ((s.chans.filter fun e => e.2.ctx == some ctx).map (·.1)).foldl (fun s x =>
    let s := s.squashReqs (ofChan x)
    if s.chState x = chIdle then s else s.abortNow x) s

/-- DESTROY_SQUASH: 500 µs into a destruction whatever of it is still in flight is squashed, without completion records, and the tag is
invalidated (R372 steps 4 and 5). -/
def execDestroySquash (ctx : Nat) (s : State) : Out :=
  checked (decide (ctx < 40960))
    (match s.ctxs.find ctx with
     | none => s
     | some c =>
       if c.state = .destroying ∧ !c.invalidating ∧ c.destroyAt + us 500 ≤ s.aon.dt then
         let s := s.launches.foldl (fun s e =>
           if e.2.ctx = ctx then
             let lane := e.1 % 2
             let s := e.2.cores.foldl (fun s n => if (s.core n lane).inLaunch && (s.core n lane).comp == e.1 / 2 then s.squashCore n lane false else s) s
             { s with launches := s.launches.del e.1 }
           else s) s
         let s := (s.ctxQueues ctx).foldl (fun s i => s.setRing (.queue i) { s.ring (.queue i) with prod := (s.ring (.queue i)).rd, cur := none }) s
         let s := s.squashChans ctx
         (s.onCtx ctx fun c => { c with invalidating := true }).startInval c.tag (.destroy ctx)
       else s)

/-- Steps 6 and 7: the context's fences become ABANDONED, its queues and tag are freed, and the command that destroyed it completes (R372). -/
def State.finishDestroy (s : State) (ctx : Nat) : State :=
  match s.ctxs.find ctx with
  | none => s
  | some c =>
    let s := s.dropSuspects ctx fun _ => true
    let ids := (s.fences.filter fun e => e.2.taken && e.2.ctx == ctx && e.2.fn == c.fn && !e.2.abandoned).map fun e => e.1 + e.2.gen * 2 ^ 18
    let s := ids.foldl (fun s id => (s.abandonFence id s.aon.dt).recheckFence id) s
    let s := s.mirrorCtx ctx
    let s := { s with queues := s.queues.filter fun e => e.2.ctx != ctx }
    let s := s.releaseTag c.tag
    let s := ({ s with ctxs := s.ctxs.del ctx, tagsUsed := s.tagsUsed.filter fun t => t != c.tag }).showFn c.fn
    match c.destroyBy with
    | some q => s.endCommand q 0 0 0
    | none => s

/-- What a complete invalidation ends (R229, R235, R372). -/
def State.invalGoal (s : State) (g : InvalFor) : State :=
  match g with
  | .command q st det => s.endCommand q st det 0
  | .destroy ctx => s.finishDestroy ctx

/-- A unit's acknowledgement; the last completes the invalidation, and one that waits begins (R235 step 5). -/
def State.unitAcks (s : State) (u : TlbUnit) (tag : Nat) : State :=
  let r := s.ackInval u tag
  match r.2 with
  | none => r.1
  | some v => (v.goal.foldl (fun s g => s.invalGoal g) r.1).nextInvals 64

/-- INVALIDATE_ACK: a unit acknowledges once no request translated under a dropped entry is in flight; one whose island is OFF at once (R235,
R238, R372). -/
def execInvalidateAck (u : TlbUnit) (tag : Nat) (s : State) : Out :=
  checked (unitOk u && decide (tag < 65536))
    (match s.invals.find? fun v => v.tag == tag && v.units.contains u with
     | none => s
     | some v =>
       if (s.dom (unitIsl u)).state != .on then s.unitAcks u tag
       else if v.heard.contains u && !s.oldInFlight u tag v.at_ then (s.settleUnit u tag).unitAcks u tag
       else s)

/-! ## Suspension and resumption (R385 to R389) -/

/-- Whether a queue's next command is a launch that is ready. -/
def State.launchReady (s : State) (i : Nat) : Bool :=
  let q := QRef.queue i
  let x := s.ring q
  match x.cur with
  | some k => k.rec_.opcode == 1 && !k.started && !k.waiting && k.ended.isNone
  | none => x.rd != x.prod && (s.recordAt q x.rd).opcode == 1

/-- Whether a context has a launch ready, or a suspended one to resume. -/
def State.wantsLane (s : State) (ctx : Nat) : Bool := (s.ctxQueues ctx).any s.launchReady || s.suspended.any fun l => l.ctx == ctx

/-- Whether the launch of a lane is to give way for a quantum: it has held the lane for one, and a context of its class with a launch ready has the
lesser pass (R385). -/
def State.quantumOver (s : State) (c : Nat) (l : Launch) : Bool :=
  match s.ctxs.find l.ctx with
  | none => false
  | some x =>
    decide (l.since + us (s.fld F.SCH_COMP_CFG_quantum_us c) ≤ s.aon.dt) && l.aborting.isNone &&
      s.ctxs.any fun e => e.1 != l.ctx && e.2.comp == c && e.2.cls == x.cls && decide (e.2.pass < x.pass) && s.wantsLane e.1

/-- QUANTUM_PREEMPTION: the launch of a lane is pre-empted for a quantum (R385, R387). -/
def execQuantumPreemption (c lane : Nat) (s : State) : Out :=
  checked (decide (c < 64) && decide (lane < 2))
    (if s.shared c && !s.laneFree c 0 && !s.laneFree c 1 && !s.laneStopping c 0 && !s.laneStopping c 1 &&
         s.greaterPass c (s.quantumOver c) == some lane then
       match s.freeSets c with
       | k :: _ :: _ => s.askSpill c lane k
       | _ => s
     else s)

/-- Put a suspended launch back into a lane: each core with a saved state is filled from it, another starts at the entry; the set is free again
(R380, R388). -/
def State.resumeLaunch (s : State) (c lane first : Nat) (l : Launch) : State :=
  let cores := s.coresOf c
  let l' := { l with state := .running, since := s.aon.dt, cores := if l.fixed then l.cores else cores }
  let s := s.setLaunch c lane l'
  let s := s.armCores c lane l'
  let s := (l.cores.zip (List.range l.cores.length)).foldl (fun s p =>
    match s.saved.find (savedKey c (first + p.2 / 2) (p.2 % 2)) with
    | some sv => if (s.core p.1 lane).status = .armed then s.fillCore p.1 lane c { sv with res := { sv.res with comp := c, lane := lane } } else s
    | none => s) s
  (s.dropSaved fun k _ => inSpillSet c l k).startReady c lane

/-- LAUNCH_RESUME: a suspended launch of a context resumes in a free lane (R380, R388). -/
def execLaunchResume (c ctx lane : Nat) (s : State) : Out :=
  checked (decide (c < 64) && decide (ctx < 40960) && decide (lane < 2))
    (match s.suspended.find? fun l => l.ctx == ctx with
     | none => s
     | some l =>
       match l.state with
       | .suspended first =>
         if s.mayLaunch c && ((s.ctxs.find ctx).map (·.comp)) == some c && (s.lanes c).contains lane && s.laneFree c lane then
           ({ s with suspended := s.suspended.filter fun x => x != l }).resumeLaunch c lane first l
         else s
       | _ => s)

end Sys2Proof.Machine
end

