-- ==== Sys2Proof/Machine/Sched.lean ====
section
/-! DEFINITION. Machine/Sched.lean: the operations of the command processors (R96, R97), selection and charging (R382 to R384), the cyclic table
(R393 to R396), and the serving mixer (R397 to R400). -/
namespace Sys2Proof.Machine

/-! ## Selection (R382, R384) -/

/-- Whether the resource that a command needs is free: a lane for a launch, a channel for a copy; the processor itself for another (R381). -/
def State.resourceFree (s : State) (c opcode : Nat) : Bool :=
  if opcode = 1 then s.mayLaunch c && (s.freeLane c).isSome
  else if 2 ≤ opcode ∧ opcode ≤ 4 then (s.freeChan c).isSome
  else true

/-- Whether a queue has a record that its home processor may take: not yet read, its context served, its resource free. -/
def State.takable (s : State) (q : QRef) : Bool :=
  let x := s.ring q
  s.ringServed q && x.cur.isNone && x.rd != x.prod && s.hostUp (s.ringFn q / 64) &&
    match q, s.ringCtx q with
    | .queue _, some (_, c) => s.mixerQueue q || s.resourceFree c.comp (s.recordAt q x.rd).opcode
    | .queue _, none => false
    | .admin _, _ => true

/-- The queue of a context to serve next: in rotation, starting after the queue last served (R384). -/
def State.nextQueue (s : State) (ctx : Nat) (c : Ctx) : Option Nat :=
  let qs := (s.ctxQueues ctx).filter fun i => s.takable (.queue i)
  match qs.find? fun i => decide (c.lastQ < i) with
  | some i => some i
  | none => qs.head?

/-- The class of a context now: a real-time one has class 1 while its window is open (R382). -/
def State.classNow (s : State) (c : Ctx) : Nat := if c.rt && s.outsideWindows c.comp then 5 else c.cls

/-- Whether context `a` is to be served before `b`: by class, then by pass, then by index (R382, R384). -/
def State.before (s : State) (a b : Nat × Ctx) : Bool :=
  let ca := s.classNow a.2
  let cb := s.classNow b.2
  decide (ca < cb) || (ca == cb && (decide (a.2.pass < b.2.pass) || (a.2.pass == b.2.pass && decide (a.1 < b.1))))

/-- The queue that processor `p` takes next by share selection over its compositions; the admin queue of an attached function comes first
(DEDUCED, log 48). -/
def State.choose (s : State) (p : Nat) : Option QRef :=
  match (List.range 128).find? fun f => ((s.compOf f).map fun c => s.homeCp c == p).getD false && s.takable (.admin f) with
  | some f => some (.admin f)
  | none =>
    let cs := s.ctxs.filter fun e => s.homeCp e.2.comp == p && (s.nextQueue e.1 e.2).isSome
    match cs with
    | [] => none
    | e :: rest =>
      let best := rest.foldl (fun m e => if s.before e m then e else m) e
      (s.nextQueue best.1 best.2).map .queue

/-! ## The operations of R97 -/

/-- Issue an operation of a command processor: on a core it is PRIVILEGED_INSTRUCTION, whatever its other bits (DEDUCED, log 111);
`f` gives the effect with its advance of pc; one of opcode `code` that has not ended goes on where it is commanded again (R95 to R97). -/
def State.cpOp (s : State) (q : Seqr) (code : Nat) (ops : Ops) (enc : Nat) (p : Pred) (f : Nat → State → State) : State :=
  match q with
  | .core n r => if s.canIssue n r then s.seqFault n r fPrivileged else s
  | .cp i =>
    if !(s.cpCanIssue i || s.cpGoesOn i code ops) then s
    else if enc ≠ 0 then s.cpFault i enc
    else if (s.cp i).file.holds p then f i s else s.cpPass i

/-- Write rd of a command processor and go past the instruction. -/
def State.cpResult (s : State) (i : Nat) (ops : Ops) (v : Word) : State :=
  let c := s.cp i
  s.setCp i { c with file := (c.file.wg (rdOf ops) v).adv, busy := none }

/-- Where the record that a processor takes is put: a place in its firmware data area that the spec does not fix (DESIGN CHOICE, log 49). -/
def recordPlace (fwData p : Nat) (q : QRef) : Nat := fwData + 64 * (Config.recordSlot p (qNum q) % 64)

/-- CP_NEXT: `cp.next`: the physical address of the next command record chosen by share selection, or 0 (R97, R382, R384). The record is read, as
R358 says of a chosen command. -/
def execCpNext (q : Seqr) (p : Pred) (ops : Ops) (s : State) : Out :=
  checked (seqrOk q)
    (s.cpOp q 0xC0 ops (encRRuse ops true false false) p fun i s =>
      let s := s.setCp i { s.cp i with aliveAt := s.aon.dt }
      match s.choose i with
      | none => s.cpResult i ops 0#64
      | some r =>
        let a := recordPlace (s.cp i).fwData i r
        let c := s.recordAt r (s.ring r).rd
        let s := (s.writePhys .fw 0 a c.raw).s
        let s := s.setCp i { s.cp i with taken := (a, r) :: ((s.cp i).taken.filter fun e => e.1 != a) }
        let s := match r with
          | .queue k => s.onCtx (s.ring r).ctx fun x => { x with lastQ := k }
          | .admin _ => s
        match execCommandRecordArrive r s with
        | .next s => s.cpResult i ops (BitVec.ofNat 64 a)
        | _ => s)

/-- CP_SLEEP: `cp.sleep`: at once with the kind of the oldest pending wake, or with 3 where DT ≥ ra ≠ 0; else the processor sleeps (R97, R98). -/
def execCpSleep (q : Seqr) (p : Pred) (ops : Ops) (s : State) : Out :=
  checked (seqrOk q)
    (s.cpOp q 0xC1 ops (encRRuse ops true true false) p fun i s =>
      let s := s.setCp i { s.cp i with aliveAt := s.aon.dt }
      let c := s.cp i
      let t := (c.file.rg (raOf ops)).toNat
      match c.wakes with
      | w :: _ => s.cpResult i ops (BitVec.ofNat 64 w.kind)
      | [] =>
        if t ≠ 0 ∧ t ≤ s.dtOf (cpIsl i) then s.cpResult i ops 3#64
        else s.setCp i { c with sleep := some (rdOf ops, t) })

/-- CP_SLEEP_DT_REACHED: the DT that a sleeping processor waits for has come (R97). -/
def execCpSleepDtReached (c : Nat) (s : State) : Out :=
  checked (cpOk c)
    (match (s.cp c).sleep with
     | none => s
     | some (_, t) => if t ≠ 0 ∧ t ≤ s.dtOf (cpIsl c) then s.endSleep c 3 else s)

/-- The queue whose command a record describes: the one taken at its address, else another that processor `i` serves, whose present command it is (R97). -/
def State.recordQueue (s : State) (i a raw : Nat) : Option QRef :=
  let same (q : QRef) : Bool := (s.ring q).cur.any fun k => leNat k.rec_.raw == raw
  let mine (e : Nat × Ring) : Bool := same (.queue e.1) && ((s.ringComp (.queue e.1)).map s.homeCp) == some i
  (((s.cp i).taken.find? fun e => e.1 == a && same e.2).map (·.2)).orElse fun _ => (s.queues.find? mine).map fun e => .queue e.1

/-- Issue the launch of a queue for `cp.issue`; with no lane free the processor is held (R97). -/
def State.issueFor (s : State) (i : Nat) (ops : Ops) (k : QRef) : State :=
  if (s.runnable k 1).isNone then s.cpResult i ops 3#64
  else
    match s.issue k with
    | (s, .issued) => s.cpResult i ops 0#64
    | (s, .refused st) => s.cpResult i ops (BitVec.ofNat 64 st)
    | (s, .waits) => if s.mixerQueue k then s.cpResult i ops 0#64 else s.holdCp i 0xC2 ops false

/-- CP_ISSUE: `cp.issue`: the launch described by the record at ra is issued; rd is 0 or the status that refuses it; it blocks while no lane is free. A
record that no queue of this processor's compositions runs names no composition, and the spec does not say what rd is then (R57, R97, R381; DESIGN
CHOICE, log 49). -/
def execCpIssue (q : Seqr) (p : Pred) (ops : Ops) (s : State) : Out :=
  checked (seqrOk q)
    (s.cpOp q 0xC2 ops (encRRuse ops true true false) p fun i s =>
      let a := ((s.cp i).file.rg (raOf ops)).toNat
      match s.cpRead i a 64 with
      | .fail => s.cpFault i fScalarFault
      | .wait t => t.holdCp i 0xC2 ops false
      | .done t raw =>
        match t.recordQueue i a raw with
        | some k => t.issueFor i ops k
        | none => let r := t.free 64; r.2.cpResult i ops r.1)

/-- CP_FSIG: `cp.fsig`: signal the fence named by ra with the value rb; rd is 0, or REGRESSION, LIMIT or ABANDONED (R97, R362). -/
def execCpFsig (q : Seqr) (p : Pred) (ops : Ops) (s : State) : Out :=
  checked (seqrOk q)
    (s.cpOp q 0xC3 ops (encRRuse ops true true true) p fun i s =>
      let f := (s.cp i).file
      let id := (f.rg (raOf ops)).toNat
      if 2 ^ 32 ≤ id then s.cpResult i ops 0#64
      else
        let r := s.signal id (f.rg (rbOf ops)).toNat false 0 (s.dtOf (cpIsl i))
        (r.1.recheckFence id).cpResult i ops (BitVec.ofNat 64 r.2))

/-- CP_ACCT: `cp.acct`: charge rb ticks to the context named by ra (R97, R383). -/
def execCpAcct (q : Seqr) (p : Pred) (ops : Ops) (s : State) : Out :=
  checked (seqrOk q)
    (s.cpOp q 0xC4 ops (encRRuse ops false true true) p fun i s =>
      let f := (s.cp i).file
      let ctx := (f.rg (raOf ops)).toNat
      let s := s.charge ctx (f.rg (rbOf ops)).toNat
      let s := match s.ctxs.find ctx with
        | some c => s.boundPasses c.comp
        | none => s
      s.cpPass i)

/-- ENGINE_CHARGE: the home processor charges the time that a running command has used, each 2,000,000 ticks (R383). -/
def execEngineCharge (q : QRef) (s : State) : Out :=
  checked true (if (s.ring q).cur.any fun k => decide (k.charged + 2000000 ≤ s.aon.dt) then s.chargeCur q else s)

/-! ## The cyclic table (R394 to R396) -/

/-- SCH_CYC_START_WRITE: the DT of the next cycle start arms a bank switch; ignored while one is armed; refused where R300 refuses the DT (R394,
R401). -/
def execSchCycStartWrite (v : Word) (s : State) : Out :=
  checked true
    (if s.fld F.SCH_CYC_CFG_pending 0 = 1 then s
     else
       let s := s.setReg .SCH_CYC_START 0 v
       if s.aon.dt + 2 ^ 48 < v.toNat then s else s.setFld F.SCH_CYC_CFG_pending 0 1)

/-- Close a window (R395): its composition's RT grants follow. -/
def State.closeWindow (s : State) (i : Nat) : State :=
  let s := { s with openWindows := s.openWindows.filter (fun j => j != i), windowEnds := s.windowEnds.del i }
  (List.range 48).foldl (fun s code => if resourceOk code then s.regrant code else s) s

/-- CYCLE_BANK_SWITCH: at the DT of SCH_CYC_START the written bank becomes active and cycles of next_period repeat from that DT; the windows of the
other bank close (R394). -/
def execCycleBankSwitch (s : State) : Out :=
  checked true
    (let t := (s.reg .SCH_CYC_START 0).toNat
     if s.fld F.SCH_CYC_CFG_pending 0 = 1 ∧ t ≤ s.aon.dt then
       let s := s.openWindows.foldl (fun s i => s.closeWindow i) s
       let s := (s.setFld F.SCH_CYC_CFG_active 0 (1 - s.fld F.SCH_CYC_CFG_active 0)).setFld F.SCH_CYC_CFG_period 0 (s.fld F.SCH_CYC_CFG_next_period 0)
       { s.setFld F.SCH_CYC_CFG_pending 0 0 with cycleStart := t }
     else s)

/-- The opening and closing DTs of window entry `i` in the present cycle; none where the entry is not used: not valid, of the other bank, of no length,
or beginning at or beyond the period (R394). -/
def State.windowTimes (s : State) (i : Nat) : Option (Nat × Nat) :=
  let p := s.fld F.SCH_CYC_CFG_period 0
  let st := s.fld F.SCH_CYC_ENT_start_us i
  let len := s.fld F.SCH_CYC_ENT_len_us i
  if s.fld F.SCH_CYC_CFG_enable 0 = 0 ∨ s.fld F.SCH_CYC_ENT_valid i = 0 ∨ i / 1024 ≠ s.fld F.SCH_CYC_CFG_active 0 ∨ len = 0 ∨ p ≤ st ∨
      s.aon.dt < s.cycleStart then none
  else
    let base := s.cycleStart + (s.aon.dt - s.cycleStart) / us p * us p
    some (base + us st, base + us (min p (st + len)))

/-- Whether an open window is due to close at or before `t` (R302). -/
def State.closesBefore (s : State) (t : Nat) : Bool := s.windowEnds.any fun e => decide (e.2 ≤ t)

/-- Whether a power target is due at or before `t` (R302). -/
def State.targetBefore (s : State) (t : Nat) : Bool := s.power.targets.any fun x => decide (x.dt ≤ t) && decide (x.dt ≤ s.aon.dt)

/-- Whether a composition has a live real-time context (R395). -/
def State.liveRt (s : State) (c : Nat) : Bool := s.ctxs.any fun x => x.2.comp == c && x.2.rt && x.2.state == .live

/-- Whether a window that can open is due to open at or before `t` and has not (R302). -/
def State.opensBefore (s : State) (t : Nat) : Bool :=
  (List.range 1024).any fun j =>
    let i := s.fld F.SCH_CYC_CFG_active 0 * 1024 + j
    match s.windowTimes i with
    | none => false
    | some (o, e) =>
      !s.openWindows.contains i && decide (o ≤ t) && decide (o ≤ s.aon.dt) && decide (s.aon.dt < e) && s.liveRt (s.fld F.SCH_CYC_ENT_composition i)

/-- TIMED_LAUNCH_FIRE: an armed launch fires at its DT in a free lane, and its ready cores begin; power targets and window boundaries of that DT come
first (R299 to R302). -/
def execTimedLaunchFire (c lane : Nat) (s : State) : Out :=
  checked (decide (c < 64) && decide (lane < 2))
    (match s.dueLaunch c with
     | none => s
     | some e =>
       if s.mayLaunch c && (s.lanes c).contains lane && s.laneFree c lane && !s.closesBefore e.2.dt && !s.opensBefore e.2.dt && !s.targetBefore e.2.dt then
         ({ s with armed := s.armed.filter fun x => x != e }).runLaunch c lane e.2
       else s)

/-- A window boundary that is reached more than 4 ticks late writes a TIMED record (R300). -/
def State.boundaryRecord (s : State) (c t : Nat) : State :=
  let p := s.homeCp c
  if 4 < s.aon.dt - t then s.lateRecord (cpIsl p) c (engineCode 0 p) noCtx (s.aon.dt - t) else s

/-- CYCLIC_WINDOW_OPEN: a window of the active bank opens at its DT, after every close of that DT: a composition with no live real-time context makes
it inert; else grants follow and cores stopped in place resume (R302, R395, R396); none opens in drydown (R455). -/
def execCyclicWindowOpen (i : Nat) (s : State) : Out :=
  checked (decide (i < 2048))
    (match s.windowTimes i with
     | none => s
     | some (o, e) =>
       let c := s.fld F.SCH_CYC_ENT_composition i
       if s.openWindows.contains i || decide (s.aon.dt < o) || decide (e ≤ s.aon.dt) || s.closesBefore o ||
           s.targetBefore o || s.fld F.PWR_TARGET_STATUS_dev_state 0 == 2 then s
       else if !s.liveRt c then s.setFld F.SCH_CYC_ENT_inert i 1
       else
         let s := s.setFld F.SCH_CYC_ENT_inert i 0
         let s := { s with openWindows := s.openWindows ++ [i], windowEnds := s.windowEnds.put i e }
         let s := (List.range 48).foldl (fun s code => if resourceOk code then s.regrant code else s) s
         (s.boundaryRecord c o).resumeInPlace (some c))

/-- CYCLIC_WINDOW_CLOSE: a window closes at its DT (R395). -/
def execCyclicWindowClose (i : Nat) (s : State) : Out :=
  checked (decide (i < 2048))
    (match s.windowEnds.find i with
     | none => s
     | some e => if e ≤ s.aon.dt ∧ !s.targetBefore e then (s.boundaryRecord (s.fld F.SCH_CYC_ENT_composition i) e).closeWindow i else s)

/-- WINDOW_PREEMPT: a tile budget before the last open window of a composition closes, its cores are asked to stop and keep their state in place
(R396). -/
def execWindowPreempt (i : Nat) (s : State) : Out :=
  checked (decide (i < 2048))
    (match s.windowEnds.find i with
     | none => s
     | some e =>
       let c := s.fld F.SCH_CYC_ENT_composition i
       let later := s.windowEnds.any fun w => s.fld F.SCH_CYC_ENT_composition w.1 == c && decide (e < w.2)
       if later || decide (s.aon.dt + s.tileBudget c < e) then s
       else
         s.res.foldl (fun s x =>
           if x.2.comp = c ∧ x.2.status = .running ∧ x.2.stopReq.isNone then s.askStop (x.1 / 2) (x.1 % 2) .inPlace else s) s)

/-! ## The mixer (R397 to R401) -/

/-- A mixer that has just been enabled. -/
def Mixer.init : Mixer := { seq := 0, running := false, ended := none, contrib := [], placed := [], lastQ := 0 }

/-- The mixer of a composition. -/
def State.mixer (s : State) (c : Nat) : Mixer := s.mixers.get c Mixer.init

/-- Whether a contributing command still holds items that have not run (R401). -/
def Mixer.busy (m : Mixer) : Bool := m.running || m.placed.any fun e => decide (e.2.1 < e.2.2)

/-- MIXER_ENABLE: a write of SCH_MIX_CFG: enabling needs a live context of the composition; disabling waits for no item to be left (R401). -/
def execMixerEnable (c : Nat) (v : Word) (s : State) : Out :=
  checked (decide (c < 64))
    (let was := s.fld F.SCH_MIX_CFG_enable c == 1
     let s := s.writeReg .SCH_MIX_CFG c v.toNat (2 ^ 64 - 1)
     if F.SCH_MIX_CFG_enable.of v = 1 then
       if was then s
       else
         let i := s.fld F.SCH_MIX_CFG_context c
         if ((s.ctxs.find i).map fun x => x.comp == c && x.state == .live).getD false then
           { s.setFld F.SCH_MIX_CFG_enable c 1 with mixers := s.mixers.put c Mixer.init }
         else s
     else if (s.mixer c).busy then s
     else { s.setFld F.SCH_MIX_CFG_enable c 0 with mixers := s.mixers.del c })

/-- A command that can join a step: its queue, its launch as its header describes it, the items of it already placed. -/
structure Joiner where
  q : Nat
  prefill : Bool
  l : Launch
  done : Nat
  deriving DecidableEq, Repr

/-- The mixer command that a queue has ready, none where it has none or its header is refused (R358, R397, R398). -/
def State.joiner (s : State) (ctx : Nat) (x : Ctx) (i : Nat) : Option Joiner :=
  let q := QRef.queue i
  match s.runnable q 1 with
  | none => none
  | some k =>
    if k.started || (k.rec_.flag 3 && decide (s.aon.dt < k.rec_.launchDt)) then none
    else
      match s.readHeader q ctx x k.rec_ with
      | .refused _ _ => none
      | .ok l =>
        if l.fixed || ((s.ring q).kind == 1 && decide (s.fld F.SCH_MIX_CFG_max_items x.comp < l.count)) then none
        else some { q := i, prefill := (s.ring q).kind == 2, l := l, done := ((s.mixer x.comp).placed.get i (0, 0)).1 }

/-- A step as it fills: the queues with how many items each gives, the item records, the sums of compute and memory cost. -/
structure Filling where
  taken : List (Nat × Nat)
  items : List (List Byte)
  compute : Nat
  memory : Nat
  deriving DecidableEq, Repr

/-- The home command processor's access for the mixer of a composition (R398). -/
def State.mixWho (s : State) (c : Nat) : Who := { cpWho (s.homeCp c) with comp := some c, epoch := s.epochOf c }

/-- The mixer context's address space, as its half's unit translates it for the command processor. -/
def mixSpace (h tag : Nat) : Space := .virt (.half h) (.scalar 0) tag

/-- Item `j` of a joiner's work list, read through its context's translation; none where the read fails or has to wait. -/
def State.itemRecord (s : State) (h tag comp : Nat) (j : Joiner) (k : Nat) : Option (List Byte) :=
  let r := s.vread (s.mixWho comp) (mixSpace h tag) (j.l.itemsVa + k * j.l.itemBytes) j.l.itemBytes needR
  if r.fail.isNone && !r.wait then some r.data else none

/-- The costs in word 0 of an item record: bits 31:0 compute, 63:32 memory (R397). -/
def itemCost (r : List Byte) : Nat × Nat := (leNat (r.take 4), leNat ((r.drop 4).take 4))

/-- Take item records into a step. -/
def Filling.add (f : Filling) (q : Nat) (rs : List (List Byte)) : Filling :=
  { taken := f.taken ++ [(q, rs.length)], items := f.items ++ rs,
    compute := rs.foldl (fun a r => a + (itemCost r).1) f.compute, memory := rs.foldl (fun a r => a + (itemCost r).2) f.memory }

/-- Take a STEP command whole where its items fit (R398 step 2). -/
def State.takeStep (s : State) (h tag c : Nat) (f : Filling) (j : Joiner) : Filling :=
  if f.items.length + j.l.count ≤ s.fld F.SCH_MIX_CFG_max_items c then
    match (List.range j.l.count).mapM fun k => s.itemRecord h tag c j k with
    | some rs => f.add j.q rs
    | none => f
  else f

/-- Take the items of a PREFILL command in order while they fit; the Bool says that one did not, which ends the intake; a step without items takes
one regardless (R398 step 3). `fuel` counts items. -/
def State.takePrefill (s : State) (h tag c : Nat) (j : Joiner) (fuel k : Nat) (f : Filling) (got : List (List Byte)) : Filling × Bool :=
  match fuel with
  | 0 => (if got.isEmpty then f else f.add j.q got, false)
  | m + 1 =>
    match s.itemRecord h tag c j k with
    | none => (if got.isEmpty then f else f.add j.q got, true)
    | some r =>
      let g := f.add j.q (got ++ [r])
      let fits := decide (g.compute ≤ s.fld F.SCH_MIX_BUDGET_compute c) && decide (g.memory ≤ s.fld F.SCH_MIX_BUDGET_memory c) &&
        decide (g.items.length ≤ s.fld F.SCH_MIX_CFG_max_items c)
      if fits || (f.items.isEmpty && got.isEmpty) then s.takePrefill h tag c j m (k + 1) f (got ++ [r])
      else (if got.isEmpty then f else f.add j.q got, true)

/-- The intake of PREFILL commands in rotation (R398 step 3). -/
def State.takePrefills (s : State) (h tag c : Nat) : List Joiner → Filling → Filling
  | [], f => f
  | j :: js, f =>
    let r := s.takePrefill h tag c j (min (j.l.count - j.done) 4096) j.done f []
    if r.2 then r.1 else s.takePrefills h tag c js r.1

/-- The queues in rotation, starting after queue `q`. -/
def rotated (q : Nat) (js : List Joiner) : List Joiner := js.filter (fun j => decide (q < j.q)) ++ js.filter fun j => decide (j.q ≤ q)

/-- The 1 MiB half of the mixer area for step `n`: its virtual address (R399, R401). -/
def State.mixHalf (s : State) (c n : Nat) : Nat := s.fld F.SCH_MIX_AREA_va c * 0x200000 + n % 2 * 0x100000

/-- The bytes of a step in its half, up to the items (R57, R399). -/
def stepBytes (n steps prefills dt ib area : Nat) : List Byte :=
  leBytes 8 n ++ leBytes 4 steps ++ leBytes 4 prefills ++ leBytes 8 dt ++ zeros 232 ++
  leBytes 4 1 ++ leBytes 2 0 ++ leBytes 2 ib ++ leBytes 8 (steps + prefills) ++ leBytes 8 (area + 0x2200) ++ leBytes 8 area ++ zeros 0x2020 ++ zeros 0xC0

/-- Form the mixer's next step in a lane: what it takes, the half written, the launch issued (R398, R399). -/
def State.formStep (s : State) (c lane ctx : Nat) (x : Ctx) : State :=
  let m := s.mixer c
  let h := if 8 ≤ s.homeCp c then 1 else 0
  let js := (s.ctxQueues ctx).filterMap fun i => if s.mixerQueue (.queue i) then s.joiner ctx x i else none
  let steps := js.filter fun j => !j.prefill
  let pre := rotated m.lastQ (js.filter fun j => j.prefill)
  match (steps ++ pre).head? with
  | none => s
  | some j0 =>
    let joins (j : Joiner) : Bool := j.l.entry == j0.l.entry && j.l.itemBytes == j0.l.itemBytes
    let f := (steps.filter joins).foldl (fun f j => s.takeStep h x.tag c f j) { taken := [], items := [], compute := 0, memory := 0 }
    let nStep := f.items.length
    let f := s.takePrefills h x.tag c (pre.filter joins) f
    let area := s.mixHalf c m.seq
    let bytes := stepBytes m.seq nStep (f.items.length - nStep) s.aon.dt j0.l.itemBytes area ++ f.items.foldr (fun r l => r ++ l) []
    if f.items.isEmpty then s
    else
      let w := s.vwrite (s.mixWho c) (mixSpace h x.tag) area bytes needW
      match w.wait, w.fail, s.headerPlace x.tag (area + 0x100) with
      | true, _, _ => w.s
      | false, none, some (pa, sel) =>
        let placed := f.taken.foldl (fun (p : SMap (Nat × Nat)) t =>
          let n := ((js.find? fun j => j.q == t.1).map fun j => j.l.count).getD 0
          p.put t.1 ((p.get t.1 (0, 0)).1 + t.2, n)) m.placed
        let fromPre := (f.taken.map fun (t : Nat × Nat) => t.1).filter fun i => pre.any fun j => j.q == i
        let last := fromPre.getLast?.getD m.lastQ
        let now : Mixer := { seq := m.seq + 1, running := true, ended := none, contrib := f.taken.map (fun (t : Nat × Nat) => t.1), placed := placed,
                             lastQ := last }
        let s := { w.s with mixers := w.s.mixers.put c now }
        s.runLaunch c lane { j0.l with headerVa := area + 0x100, headerPa := pa, headerSel := sel, noReissue := false, count := f.items.length,
                                       itemsVa := area + 0x2200, argsVa := area, dt := 0, step := true }
      | _, _, _ => s

/-- MIXER_STEP_FORM: with no step running and a mixer command ready, the mixer forms its next step and issues it in a free lane (R398, R399). -/
def execMixerStepForm (c : Nat) (s : State) : Out :=
  checked (decide (c < 64))
    (let ctx := s.fld F.SCH_MIX_CFG_context c
     match s.ctxs.find ctx, s.freeLane c with
     | some x, some lane =>
       if s.fld F.SCH_MIX_CFG_enable c = 1 ∧ !(s.mixer c).running ∧ x.state = .live ∧ s.mayLaunch c then s.formStep c lane ctx x else s
     | _, _ => s)

/-- The end of one contributing command at its step's end (R400): with the step's status where the step failed; OK where all its items have run;
ABORTED where an abort waits and it holds more. -/
def State.endContrib (s : State) (st q : Nat) (p : Nat × Nat) : State :=
  let r := QRef.queue q
  let x := s.ring r
  let wanted := (s.fn x.fn).aborts.any fun a => a.1 == q && a.2 == x.rd
  if st ≠ 0 then ((s.unplace r).startCmd r).endCommand r st 0 0
  else if p.2 ≤ p.1 then ((s.unplace r).startCmd r).endCommand r 0 0 0
  else if wanted then ((s.unplace r).startCmd r).endCommand r 1 0 0
  else s

/-- MIXER_STEP_END: the step has reached its commit point or its end: its contributing commands end in ascending queue number, and the mixer context
is charged (R383, R400). -/
def execMixerStepEnd (c : Nat) (s : State) : Out :=
  checked (decide (c < 64))
    (match s.mixers.find c with
     | none => s
     | some m =>
       match m.ended with
       | none => s
       | some st =>
         let s := match s.launches.find? fun e => e.1 / 2 == c && e.2.step with
           | some e => s.charge e.2.ctx ((s.aon.dt - e.2.since) * e.2.cores.length)
           | none => s
         let s := { s with mixers := s.mixers.put c { m with running := false, ended := none, contrib := [] } }
         m.placed.foldl (fun s e => if m.contrib.contains e.1 then s.endContrib st e.1 e.2 else s) s)

end Sys2Proof.Machine
end

