-- ==== Sys2Proof/Machine/Maps.lean ====
section
/-! DEFINITION. Machine/Maps.lean: the clusters and their spares (R18, R21, R22), the pool that compositions bind from (R316), and map records
(R320 to R322). -/
namespace Sys2Proof.Machine

/-! ## Clusters (R18, R21, R22) -/

/-- The state of cluster `cl` in the flacon: 0 IN_SERVICE, 1 SPARE, 2 RETIRED. -/
def Flacon.cluster (f : Flacon) (cl : Nat) : Nat := bits (f.clusters.getD (cl / 21) 0) (2 * (cl % 21) + 1) (2 * (cl % 21))

/-- The state of cluster `cl`. -/
def State.clState (s : State) (cl : Nat) : Nat := s.flacon.cluster cl

/-- How many clusters of field `f` are in a state. -/
def State.clCount (s : State) (f st : Nat) : Nat := ((List.range 21).filter fun c => s.clState (21 * f + c) == st).length

/-- Show the flacon's cluster states in the registers (R18, R21, R22). -/
def State.showClusters (s : State) : State :=
  let s := (List.range 4).foldl (fun s f =>
    (s.setFld F.DEV_CLUSTER_STATE_cl_state f (s.flacon.clusters.getD f 0)).setFld F.DEV_CLUSTER_STATE_in_service f (s.clCount f 0)) s
  let sum (st : Nat) : Nat := s.clCount 0 st + s.clCount 1 st + s.clCount 2 st + s.clCount 3 st
  (s.setFld F.DEV_ID_cores_in_service 0 (8 * sum 0)).setFld F.DEV_ID_spares_free 0 (sum 1)

/-- The flacon with a cluster's state changed. -/
def Flacon.setCluster (f : Flacon) (cl st : Nat) : Flacon :=
  let i := cl / 21
  { f with clusters := splice f.clusters i [putBits (f.clusters.getD i 0) (2 * (cl % 21) + 1) (2 * (cl % 21)) st] }

/-- The fields in the order in which a spare for field `f` is sought: the same, the other of the half, the other half's (R336). -/
def spareFields (f : Nat) : List Nat := if f = 0 then [0, 1, 2, 3] else if f = 1 then [1, 0, 2, 3] else if f = 2 then [2, 3, 0, 1] else [3, 2, 0, 1]

/-- Whether cluster `cl` is the spare of a repair that has not ended: it is for the cores that it replaces (R336). -/
def State.spareTaken (s : State) (cl : Nat) : Bool := s.failing.any fun e => e.2 == some cl

/-- The spare that replaces cluster `cl` (R336). -/
def State.spareFor (s : State) (cl : Nat) : Option Nat :=
  (spareFields (cl / 21)).findSome? fun f => ((List.range 21).map fun c => 21 * f + c).find? fun x => s.clState x == 1 && !s.spareTaken x

/-- Whether cluster `cl` may be bound from the pool: in service, not tripped, no repair of it or toward it under way (R22, R336, R454). -/
def State.clBindable (s : State) (cl : Nat) : Bool :=
  s.clState cl == 0 && !(s.dom cl).tripped && (s.failing.find cl).isNone && !s.spareTaken cl

/-! ## What a composition holds (R316) -/

/-- The resources of a map that composition `c` holds, in rising order. -/
def heldBy (m : SMap Bound) (c : Nat) : List Nat := (m.filter fun e => e.2.comp == c).map (·.1)

/-- The cores free in the pool, in rising order (R316, R334). -/
def State.freeCores (s : State) : List Nat := (List.range 672).filter fun n => s.clBindable (n / 8) && (s.coreOwner.find n).isNone

/-- The channels free in the pool. -/
def State.poolChans (s : State) : List Nat := (List.range 1344).filter fun x => s.clBindable (x / 16) && (s.chanOwner.find x).isNone

/-- Whether an enabled dirty-log buffer meets `n` bytes from `a` (R242). -/
def State.meetsDlog (s : State) (a n : Nat) : Bool :=
  (List.range 64).any fun c => s.fld F.TLX_DLOG_CFG_enable c == 1 && spansMeet a n (s.fld F.TLX_DLOG_CFG_base c * 0x400000) 0x400000

/-- Whether an enabled sillage ring meets `n` bytes from `a` (R315). -/
def State.meetsSillage (s : State) (a n : Nat) : Bool :=
  (List.range 16).any fun i =>
    s.fld F.TIM_SIL_CFG_enable i == 1 && spansMeet a n (s.fld F.TIM_SIL_CFG_base i * 4096) (0x20000 * 2 ^ s.fld F.TIM_SIL_CFG_size i)

/-- Whether partition `i` can be bound (R164, R226, R316). -/
def State.partBindable (s : State) (i : Nat) : Bool :=
  let a := partBase (i / 6) (i % 6)
  s.partFree (i / 6) (i % 6) && !s.meetsPool 8 a 0x10000000 && !s.meetsWindow a 0x10000000 && !s.meetsDlog a 0x10000000 &&
    !s.meetsSillage a 0x10000000

/-- Whether granule `g` can be bound: a granule that has left a composition only once it is scrubbed (R316, R330). -/
def State.farBindable (s : State) (g : Nat) : Bool :=
  let a := granuleBase g
  (s.farOwner.find g).isNone && !s.meetsWindow a 0x20000000 && !s.meetsDlog a 0x20000000 && !s.meetsSillage a 0x20000000 &&
    !(s.scrubs.any fun x => x.granule == g)

/-- Whether a function is attached to a composition other than `c`, or is about to be (R316). -/
def State.fnTaken (s : State) (c f : Nat) : Bool :=
  s.comps.any fun e => e.1 != c &&
    (((e.2.record.map fun m => m.fn == f).getD false && e.2.quarantine.isNone) || ((e.2.change.map fun h => h.cmd == 1 && h.record.fn == f).getD false))

/-! ## Map records (R320, R321) -/

/-- The indices below `n` whose bit is set in a bitmap. -/
def bitList (b : List Byte) (n : Nat) : List Nat := (List.range n).filter fun i => bits ((b.getD (i / 8) 0#8).toNat) (i % 8) (i % 8) == 1

/-- The record that 640 bytes describe, whatever they hold. -/
def MapRec.parse (b : List Byte) : MapRec :=
  let u (off n : Nat) : Nat := leNat ((b.drop off).take n)
  let port (k : Nat) : Option (Nat × Nat × Option Nat) :=
    let e := u (0x220 + 8 * k) 8
    if e % 256 = 0 then none else some (k, e % 256, if bits e 14 14 = 1 then some (bits e 13 8) else none)
  { shared := bits (u 4 1) 0 0 == 1, sliced := bits (u 4 1) 1 1 == 1, standby := bits (u 4 1) 2 2 == 1,
    fn := bits (u 6 2) 15 15 * 64 + bits (u 6 2) 5 0, drainUs := u 8 2, demand := u 0xA 2, savePerPart := u 0xC 1,
    cores := bitList (b.drop 0x40) 672, channels := bitList (b.drop 0xA0) 1344, parts := bitList (b.drop 0x150) 144,
    far := bitList (b.drop 0x170) 1343, ports := (List.range 8).filterMap port }

/-- Whether a record's own fields are as R320 and R321 ask: version, zero fields, ranges, what sliced and standby records name. -/
def mapFormat (b : List Byte) (r : MapRec) : Bool :=
  let u (off n : Nat) : Nat := leNat ((b.drop off).take n)
  let zero (off n : Nat) : Bool := ((b.drop off).take n).all fun x => x == 0#8
  decide (b.length = 640) && u 0 4 == 1 && decide (u 4 1 < 8) && zero 5 1 && bits (u 6 2) 14 6 == 0 && decide (r.drainUs ≤ 10000) &&
    decide (r.savePerPart ≤ 170) && zero 0xD 51 && zero 0x94 12 && zero 0x148 8 && zero 0x162 6 && zero 0x168 8 && bits (u 0x217 1) 7 7 == 0 &&
    zero 0x218 8 && (List.range 8).all (fun k => decide (u (0x220 + 8 * k) 8 < 2 ^ 15)) && zero 0x260 32 &&
    (if r.sliced || r.standby then decide (1 ≤ r.demand) && decide (r.demand ≤ 640) else r.demand == 0) &&
    (!r.sliced || r.cores.isEmpty) && (!r.standby || (!r.sliced && r.cores.isEmpty && r.channels.isEmpty))

/-- Whether a record may be written with its command: a standby record with CREATE alone; a REBIND keeps mode, sliced and function (R321). -/
def State.mapCommand (s : State) (c cmd : Nat) (r : MapRec) : Bool :=
  if cmd = 1 then true
  else
    match (s.comp c).record with
    | none => false
    | some o => !r.standby && r.shared == o.shared && r.sliced == o.sliced && r.fn == o.fn

/-- Whether every resource of a record is bindable or already `c`'s (R316, R321). -/
def State.mapFree (s : State) (c : Nat) (r : MapRec) : Bool :=
  let mine (m : SMap Bound) (i : Nat) : Bool := ((m.find i).map fun b => b.comp == c).getD false
  let pool (m : SMap Bound) (per i : Nat) : Bool := mine m i || ((m.find i).isNone && s.clState (i / per) == 0 && !s.spareTaken (i / per))
  r.cores.all (pool s.coreOwner 8) && r.channels.all (pool s.chanOwner 16) &&
    r.parts.all (fun i => mine s.partOwner i || s.partBindable i) && r.far.all (fun g => mine s.farOwner g || s.farBindable g) && !s.fnTaken c r.fn

/-- The cores that a record asks for. -/
def MapRec.wants (r : MapRec) : Nat := max r.cores.length r.demand

/-- The cores bound to compositions that are not sliced. -/
def State.unslicedCores (s : State) : Nat := (s.coreOwner.filter fun e => s.fld F.CMP_STATUS_sliced e.2.comp == 0).length

/-- The status that R321 gives a record, 0 where it is accepted. -/
def State.mapCheck (s : State) (c cmd : Nat) (b : List Byte) : Nat :=
  let r := MapRec.parse b
  if !mapFormat b r || !s.mapCommand c cmd r then 1
  else if !s.mapFree c r then 2
  else if r.savePerPart * r.parts.length < r.wants then 3
  else if r.sliced && decide (s.fld F.DEV_ID_cores_in_service 0 < r.demand + s.unslicedCores) then 4
  else if s.confidential c && decide (320 < (if r.standby then 0 else r.wants)) then 5
  else 0

/-- Read the record at CMP_MAP with selector 0; empty where it does not lie in near or far memory or cannot be read (R320; DEDUCED, log 51). -/
def State.readMap (s : State) (c : Nat) : State × List Byte :=
  let a := s.fld F.CMP_MAP_addr c * 64
  let ok (a : Nat) : Bool := match region a with
    | .near _ _ | .far _ => true
    | _ => false
  if !ok a || !ok (a + 639) then (s, [])
  else
    let r := s.readPhys .fw 0 a 640
    (r.s, if r.st = .ok then r.data else [])

end Sys2Proof.Machine
end

