-- ==== Sys2Proof/Machine/Comps.lean ====
section
/-! DEFINITION. Machine/Comps.lean: the changes of map of a composition (R323 to R338): create, re-bind, park, resume, release, slice, repair, and the
promotion of a standby composition (R345). -/
namespace Sys2Proof.Machine

/-! ## What the registers show (R346) -/

/-- Show what composition `c` holds in CMP_STATUS. -/
def State.showComp (s : State) (c : Nat) : State :=
  let n (m : SMap Bound) : Nat := (heldBy m c).length
  (((s.setFld F.CMP_STATUS_cores c (n s.coreOwner)).setFld F.CMP_STATUS_channels c (n s.chanOwner)).setFld F.CMP_STATUS_partitions c
    (n s.partOwner)).setFld F.CMP_STATUS_far c (n s.farOwner)

/-- The state of composition `c` in CMP_STATUS. -/
def State.cmpState (s : State) (c : Nat) : Nat := s.fld F.CMP_STATUS_state c

/-- The state with composition `c` in a state. -/
def State.setCmpState (s : State) (c st : Nat) : State := s.setFld F.CMP_STATUS_state c st

/-- The state that CMP_STATUS shows during a change (R327): by command; 0 a repair, 7 a slice park, 8 a slice resume. -/
def busyState (cmd : Nat) : Nat := [3, 1, 3, 4, 6, 7, 1, 4, 6].getD cmd 3

/-- The state that a change ends in (R332, R335, R339, R345). -/
def endState (cmd : Nat) (r : MapRec) : Nat :=
  match cmd with
  | 1 => if r.standby then 9 else if r.sliced && r.cores.isEmpty then 8 else 2
  | 3 => 5
  | 5 => 0
  | 7 => 8
  | _ => 2

/-! ## Residents and channels that must stop (R333, R406) -/

/-- Whether resident `r` of core `n` takes part in a launch of composition `c`. -/
def State.busyFor (s : State) (c n r : Nat) : Bool := (s.core n r).inLaunch && (s.core n r).comp == c

/-- The index of the slot that a core is saved to: its rank in a FIXED launch, else its place among the composition's cores (R322). -/
def State.slotIndex (s : State) (c n : Nat) (l : Launch) : Nat := if l.fixed then l.cores.idxOf n else (s.coresOf c).idxOf n

/-- A waiting record passes to the home command processor, which holds it in order (R406). -/
def State.passRecord (s : State) (f : Stalled → Bool) : State :=
  { s with fns := s.fns.map fun e => (e.1, { e.2 with stalled := e.2.stalled.map fun p => if f p.2 then (p.1, Stalled.none) else p }) }

/-- A resident whose record waits completes its fault action at once (R406). -/
def State.passCore (s : State) (n r : Nat) : State :=
  let x := s.core n r
  ((s.passRecord fun w => w == .core n r).leaveLaunch n r).breakBarriers x.comp x.lane

/-- A channel whose record waits enters HALTED (R406). -/
def State.passChan (s : State) (x : Nat) : State :=
  match (s.chan x).waitRecord with
  | none => s
  | some cause => (s.passRecord fun w => w == .chan x).enterHalted x cause

/-- Ask a resident to spill to its slot (R333): one that has yet to start keeps only its place; one stopped in place spills at once; one whose record
waits leaves. -/
def State.spillCore (s : State) (c n r : Nat) : State :=
  let x := s.core n r
  if !s.busyFor c n r then s
  else
    match s.launchOf n r with
    | none => s.setCore n r x.leave
    | some l =>
      let k := s.slotIndex c n l
      match x.status with
      | .armed =>
        { s.setCore n r x.leave with saved := s.saved.put (savedKey c k r) { res := x, accs := [], bytes := [], place := 0, ctr := 0 } }
      | .running => match x.stopReq with
        | some (.slot _ _) => s
        | _ => s.askStop n r (.slot k r)
      | .stopping .inPlace => s.setCore n r { x with status := .stopping (.slot k r) }
      | .stopped .inPlace => (s.saveCore n r k r).onCore n r fun x => x.halted (.slot k r)
      | .waitRecord => s.passCore n r
      | _ => s

/-- Whether a resident need not be waited for before the map changes: it takes no part, or it has spilled to a slot of its own. -/
def State.spillOver (s : State) (c n r : Nat) : Bool := !s.busyFor c n r || (s.core n r).spilled.isSome

/-- Stop a running or waiting channel: it issues nothing more, and its chain is recorded once its outstanding requests have completed (R333). -/
def State.stopChain (s : State) (x : Nat) (toward : Option Nat) : State :=
  let s := s.passChan x
  if (s.chState x = chRunning ∨ s.chState x = chWaiting) ∧ (s.chan x).ending.isNone then (s.stopIssue x (.record toward)).settleEnd x else s

/-- Stop the chains of several channels, each with the channel that is to carry it. -/
def State.stopChains (s : State) (xs : List (Nat × Option Nat)) : State := xs.foldl (fun s x => s.stopChain x.1 x.2) s

/-! ## Step 3: preparation (R327, R169, R336, R388) -/

/-- Resources of a map that are to join: bound to the composition, not yet usable. -/
def joinAll (m : SMap Bound) (c : Nat) (l : List Nat) : SMap Bound :=
  l.foldl (fun m i => if (m.find i).isNone then m.put i ⟨c, .preparing⟩ else m) m

/-- Prepare the joining resources: CL domains brought ON, scratchpads and partitions to be zero-filled (R24, R169). -/
def State.prepareJoin (s : State) (c : Nat) (r : MapRec) : State :=
  let cores := r.cores.filter fun n => (s.coreOwner.find n).isNone
  let parts := r.parts.filter fun i => (s.partOwner.find i).isNone
  let chans := r.channels.filter fun x => (s.chanOwner.find x).isNone
  let s := { s with coreOwner := joinAll s.coreOwner c r.cores, chanOwner := joinAll s.chanOwner c r.channels,
                    partOwner := joinAll s.partOwner c r.parts, farOwner := joinAll s.farOwner c r.far,
                    coreReady := cores.foldl (fun m n => m.put n false) s.coreReady,
                    zeroFills := s.zeroFills ++ cores.map FillTarget.core ++ parts.map fun i => FillTarget.part (i / 6) (i % 6) }
  ((cores.map (· / 8) ++ chans.map (· / 16)).eraseDups).foldl (fun s cl => if s.domOn cl then s else s.requestDom cl .on false) s

/-- The suspended ELASTIC launches of a composition whose cores change: the items that they hold go to the retry ring and their saved state is gone
(R388). -/
def State.dropSuspended (s : State) (c : Nat) : State :=
  s.suspended.foldl (fun s l =>
    if l.fixed || ((s.ctxs.find l.ctx).map (·.comp)) != some c then s
    else
      let items := (s.saved.filter fun e => inSpillSet c l e.1).filterMap fun (e : Nat × Saved) => e.2.res.item
      let s := if l.noReissue then s else items.foldl (fun s i => s.reissueItem l i) s
      let l' := if l.noReissue && !items.isEmpty then { l with squashed := true } else l
      { s.dropSaved (fun k _ => inSpillSet c l k) with suspended := s.suspended.map fun x => if x = l then l' else x }) s

/-- Whether a FIXED launch of composition `c` runs or is suspended (R328, R388). -/
def State.fixedHeld (s : State) (c : Nat) : Bool :=
  (s.launches.any fun e => e.1 / 2 == c && e.2.fixed) || s.suspended.any fun l => l.fixed && ((s.ctxs.find l.ctx).map (·.comp)) == some c

/-- The cores of the launches of a composition that has been PARKED become those that it resumes on, in slot order (R322, R334). -/
def State.rehomeLaunches (s : State) (c : Nat) (cores : List Nat) : State :=
  [0, 1].foldl (fun s lane => s.onLaunch c lane fun l => { l with cores := cores }) s

/-- The replacement of a core or channel of a failing cluster, `per` of them to a cluster (R336). -/
def movedTo (failing : Nat) (spare : Option Nat) (per i : Nat) : Option Nat :=
  if i / per = failing then spare.map fun sp => per * sp + i % per else some i

/-- Step 3 of a change, by its command (R327, R333, R334, R336). -/
def State.stepThree (s : State) (c : Nat) (h : MapChange) : State :=
  let cores := s.coresOf c
  let chans := heldBy s.chanOwner c
  let s := s.setComp c { s.comp c with change := some { h with step := 3 } }
  match h.cmd with
  | 3 | 7 =>
    let s := s.setComp c { s.comp c with heldCores := if cores.isEmpty then (s.comp c).heldCores else cores.length,
                                         heldChans := if cores.isEmpty then (s.comp c).heldChans else chans }
    let s := cores.foldl (fun s n => (s.spillCore c n 0).spillCore c n 1) s
    s.stopChains (chans.map fun x => (x, none))
  | 4 | 8 => (s.prepareJoin c h.record).rehomeLaunches c h.record.cores
  | 2 =>
    let s := if h.record.cores = cores then s else s.dropSuspended c
    s.prepareJoin c h.record
  | 0 =>
    let s := s.prepareJoin c h.record
    match h.spare with
    | none => s
    | some _ =>
      let s := (cores.filter fun n => n / 8 == h.failing).foldl (fun s n =>
        [0, 1].foldl (fun s r => if ((s.launchOf n r).map (·.fixed)).getD false then s.spillCore c n r else s) s) s
      s.stopChains ((chans.filter fun x => x / 16 == h.failing).map fun x => (x, movedTo h.failing h.spare 16 x))
  | _ => s.prepareJoin c h.record

/-- Begin a change of map: busy, the state of R327; a REBIND that changes the cores under a FIXED launch waits before step 3 (R328). -/
def State.beginChange (s : State) (c cmd : Nat) (r : MapRec) (failing : Nat) (spare : Option Nat) (status : Nat) : State :=
  let h : MapChange := { cmd := cmd, record := r, step := 2, drainAt := 0, status := status, failing := failing, spare := spare,
                         oldPorts := [] }
  let s := (s.setFld F.CMP_STATUS_busy c 1).setCmpState c (busyState cmd)
  let s := s.setComp c { s.comp c with change := some h }
  if cmd = 2 ∧ r.cores ≠ s.coresOf c ∧ s.fixedHeld c then s else s.stepThree c h

/-- A command that is refused: its status, and nothing else (R321, R328, R332). -/
def State.cmpRefuse (s : State) (c st : Nat) : State := s.setFld F.CMP_STATUS_last_status c st

/-- The record that a composition keeps without cores and channels. -/
def MapRec.bare (r : MapRec) : MapRec := { r with cores := [], channels := [] }

/-- The record of a composition that has one; an empty one otherwise. -/
def State.recordOf (s : State) (c : Nat) : MapRec :=
  (s.comp c).record.getD { shared := false, sliced := false, standby := false, fn := 0, drainUs := 0, demand := 0, savePerPart := 0, cores := [], channels := [],
                           parts := [], far := [], ports := [] }

/-! ## The commands (R332) -/

/-- Whether a command is refused with STATE: a change is in progress, or the composition's state does not suit it (R328, R332). -/
def State.cmpBlocked (s : State) (c : Nat) (ok : List Nat) : Bool := s.fld F.CMP_STATUS_busy c == 1 || !ok.contains (s.cmpState c)

/-- CREATE: the record at CMP_MAP is checked, and its resources are bound (R320 to R322, R327, R332, R335). -/
def execCreate (c : Nat) (s : State) : Out :=
  checked (decide (c < 64))
    (if s.cmpBlocked c [0] then s.cmpRefuse c 6
     else
       let q := s.readMap c
       let st := q.1.mapCheck c 1 q.2
       let r := MapRec.parse q.2
       if st ≠ 0 then q.1.cmpRefuse c st
       else
         let s := q.1.setComp c { Comp.init with heldCores := r.demand, heldChans := r.channels }
         let r := if !r.sliced then r else if r.demand ≤ s.freeCores.length then { r with cores := s.freeCores.take r.demand } else r.bare
         s.beginChange c 1 r 0 none 0)

/-- REBIND: an ACTIVE composition's new record is checked and installed (R327, R328, R332). -/
def execRebind (c : Nat) (s : State) : Out :=
  checked (decide (c < 64))
    (if s.cmpBlocked c [2] then s.cmpRefuse c 6
     else
       let q := s.readMap c
       let st := q.1.mapCheck c 2 q.2
       let r := MapRec.parse q.2
       if st ≠ 0 then q.1.cmpRefuse c st
       else
         let cores := q.1.coresOf c
         let r := if !r.sliced then r
           else if r.demand ≤ cores.length then { r with cores := cores.take r.demand }
           else { r with cores := cores ++ q.1.freeCores.take (r.demand - cores.length) }
         q.1.beginChange c 2 r 0 none 0)

/-- Begin to park a composition. -/
def State.parkNow (s : State) (c cmd : Nat) : State := s.beginChange c cmd (s.recordOf c).bare 0 none 0

/-- PARK (R332, R333). -/
def execPark (c : Nat) (s : State) : Out :=
  checked (decide (c < 64)) (if s.cmpBlocked c [2, 8] then s.cmpRefuse c 6 else s.parkNow c 3)

/-- The record that a composition resumes with: as many free cores and channels as it gave up, in rising order; none where too few are free (R334,
R335). -/
def State.resumeRecord (s : State) (c : Nat) : Option MapRec :=
  let r := s.recordOf c
  let n := if r.sliced then r.demand else (s.comp c).heldCores
  let k := (s.comp c).heldChans.length
  if n ≤ s.freeCores.length ∧ k ≤ s.poolChans.length then some { r with cores := s.freeCores.take n, channels := s.poolChans.take k } else none

/-- Resume a composition with a command of R332 or R335; the Bool says that enough was free. -/
def State.resumeNow (s : State) (c cmd : Nat) : State × Bool :=
  match s.resumeRecord c with
  | none => (s.cmpRefuse c 4, false)
  | some r => (s.beginChange c cmd r 0 none 0, true)

/-- RESUME: refused with STATE for a composition that the power controller has parked (R332, R334, R452). -/
def execResume (c : Nat) (s : State) : Out :=
  checked (decide (c < 64))
    (if s.cmpBlocked c [5] || s.fld F.PWR_COMP_CFG_power_parked c == 1 then s.cmpRefuse c 6 else (s.resumeNow c 4).1)

/-- RELEASE: IN_USE while the composition holds a context; the slots that it owns begin to retire (R332, R441). -/
def execRelease (c : Nat) (s : State) : Out :=
  checked (decide (c < 64))
    (if s.cmpBlocked c [2, 5, 8, 9] then s.cmpRefuse c 6
     else if s.hasCtx c then s.cmpRefuse c 7
     else
       let owned := (s.slots.filter fun e => e.2.owner == c && e.2.state == 1).map (·.1)
       let s := owned.foldl (fun s k => s.startRetire k false) s
       s.beginChange c 5 { (s.recordOf c).bare with parts := [], far := [], ports := [] } 0 none 0)

/-! ## Step 4: the epoch advance (R323, R324, R327) -/

/-- Whether everything that step 3 prepares is ready. -/
def State.joinReady (s : State) (c : Nat) : Bool :=
  let joining (m : SMap Bound) : List Nat := (m.filter fun e => e.2.comp == c && e.2.phase == .preparing).map (·.1)
  (joining s.coreOwner).all (fun n => s.coreReady.get n false && s.domOn (n / 8)) &&
    (joining s.partOwner).all (fun i => !s.zeroFills.contains (.part (i / 6) (i % 6))) && (joining s.chanOwner).all fun x => s.domOn (x / 16)

/-- Whether the slots that step 3 fills cores from are all consumed: those below the count of cores (R322, R334). -/
def State.slotsFilled (s : State) (c n : Nat) : Bool :=
  (List.range n).all fun k => (s.saved.find (savedKey c k 0)).isNone && (s.saved.find (savedKey c k 1)).isNone

/-- Whether no channel of composition `c` is still stopping (R333). -/
def State.chainsStopped (s : State) (c : Nat) : Bool := (heldBy s.chanOwner c).all fun x => (s.chan x).ending.isNone

/-- Whether step 3 of a change is over. -/
def State.stepThreeOver (s : State) (c : Nat) (h : MapChange) : Bool :=
  s.joinReady c &&
    match h.cmd with
    | 3 | 7 => s.chainsStopped c && (s.coresOf c).all fun n => s.spillOver c n 0 && s.spillOver c n 1
    | 4 | 8 => s.slotsFilled c h.record.cores.length
    | 0 =>
      h.spare.isNone || (s.chainsStopped c && [0, 1].all fun r =>
        match s.launches.find (laneKey c r) with
        | some l => !l.fixed || ((l.cores.filter fun n => n / 8 == h.failing).all fun n => s.spillOver c n r &&
            (s.saved.find (savedKey c (l.cores.idxOf n) r)).isNone)
        | none => true)
    | _ => true

/-- The phases of a map's resources as the new map is installed: those that it names join or stay, the others leave. -/
def installMap (m : SMap Bound) (c : Nat) (keep : List Nat) (first : Bool) : SMap Bound :=
  m.map fun e =>
    if e.2.comp ≠ c then e
    else if keep.contains e.1 then (e.1, ⟨c, if e.2.phase = .preparing ∧ !first then .joining else .staying⟩)
    else (e.1, ⟨c, .leaving⟩)

/-- A resident on a leaving core: it leaves at its next pull; one that has yet to start, or whose pull is parked, leaves at once (R61). -/
def State.askLeave (s : State) (c n r : Nat) : State :=
  if !s.busyFor c n r then s
  else
    let s := s.onCore n r fun x => { x with leaveReq := true }
    let x := s.core n r
    if x.status = .armed then s.leaveLaunch n r
    else if x.status = .waitRecord then s.passCore n r
    else if x.status = .running ∧ x.wait = .parked then s.corePull n r 0#48
    else s

/-- A core bound in joins the ELASTIC launches that run: it starts the program at its entry (R61). -/
def State.joinLaunches (s : State) (c n : Nat) : State :=
  [0, 1].foldl (fun s lane =>
    match s.launches.find (laneKey c lane) with
    | none => s
    | some l =>
      if l.fixed || l.closed || l.recorded || l.cores.contains n then s
      else
        let s := s.setLaunch c lane { l with cores := l.cores ++ [n] }
        s.onCore n lane fun x => { x.leave with status := .armed, comp := c, lane := lane, ctx := l.ctx, rank := none }) s

/-- Restart a recorded chain at its piece on a channel, its waits turned to the channels that now carry what they name (R334). -/
def State.restartChain (s : State) (k : Chain) (x : Nat) (moved : Nat → Nat) : State :=
  let names := (List.range 1344).filter fun w => k.held.carried.get w w != w || moved w != w
  let carried : SMap Nat := names.foldl (fun m w => m.put w (moved (k.held.carried.get w w))) []
  let s := s.setReg .DMA_CH_DONE x (BitVec.ofNat 64 k.done)
  let s := s.setChan x { DmaCh.init with ctx := k.held.ctx, own := k.held.own, starter := k.held.starter, carried := carried }
  (s.fetchDescr x k.head k.held.headPhys).setReg .DMA_CH_POS x (BitVec.ofNat 64 k.pos)

/-- Restart every recorded chain of a composition: on the channel settled for it, else on the one that stands where its own stood (R334, R336). -/
def State.restartChains (s : State) (c : Nat) (now : List Nat) : State :=
  let x := s.comp c
  let place (w : Nat) : Nat :=
    match x.chains.find? fun k => k.x == w with
    | some k => k.toward.getD (now.getD (x.heldChans.idxOf w) w)
    | none => if x.heldChans.contains w then now.getD (x.heldChans.idxOf w) w else w
  let s := x.chains.foldl (fun s k => s.restartChain k (place k.x) place) s
  s.setComp c { s.comp c with chains := [] }

/-- The watches and waits on a moved channel follow its chain to the channel that carries it (R333, R336). -/
def State.moveWatches (s : State) (c failing : Nat) (spare : Option Nat) : State :=
  match spare with
  | none => s
  | some _ =>
    let goes (w : Nat) : Nat := (movedTo failing spare 16 w).getD w
    let hit : List Nat := (List.range 16).map fun j => 16 * failing + j
    let turn (m : SMap Nat) : SMap Nat :=
      hit.foldl (fun (a : SMap Nat) (w : Nat) => if SMap.get m w w = w then SMap.put a w (goes w) else a) (m.map fun (e : Nat × Nat) => (e.1, goes e.2))
    let s := { s with watches := s.watches.map fun w => { w with src := goes w.src } }
    (heldBy s.chanOwner c).foldl (fun (s : State) (x : Nat) => s.setChan x { s.chan x with carried := turn (s.chan x).carried }) s

/-- A FIXED launch of a composition that has lost a core without replacement ends with CORE_LOST; an ELASTIC one goes on (R337). -/
def State.loseCores (s : State) (c failing : Nat) : State :=
  let hit (l : Launch) : Bool := l.cores.any fun n => n / 8 == failing
  let s := [0, 1].foldl (fun s lane =>
    match s.launches.find (laneKey c lane) with
    | none => s
    | some l =>
      if !hit l then s
      else if l.fixed then
        let s := s.setLaunch c lane { l with coreLost := true }
        (l.cores.foldl (fun s n => if s.busyFor c n lane then s.squashCore n lane false else s) s).settleLaunch c lane
      else (l.cores.filter fun n => n / 8 == failing).foldl (fun s n => if s.busyFor c n lane then s.squashCore n lane true else s) s) s
  s.suspended.foldl (fun s l =>
    if l.fixed && hit l && ((s.ctxs.find l.ctx).map (·.comp)) == some c then
      ({ s.dropSaved (fun k _ => inSpillSet c l k) with suspended := s.suspended.filter fun x => x != l }).endLaunch c l 9
    else s) s

/-- The residents of the leaving cores, as the new map is installed (R61, R333, R336). -/
def State.coresLeave (s : State) (c : Nat) (h : MapChange) : State :=
  let out := (s.coreOwner.filter fun e => e.2.comp == c && e.2.phase == .leaving).map fun (e : Nat × Bound) => e.1
  match h.cmd with
  | 3 | 7 => out.foldl (fun s n => [0, 1].foldl (fun s r => if s.busyFor c n r then s.onCore n r fun x => x.leave else s) s) s
  | 0 =>
    if h.spare.isNone then s.loseCores c h.failing
    else
      out.foldl (fun s n => [0, 1].foldl (fun s r =>
        match s.launchOf n r with
        | some l => if l.fixed then s.onCore n r fun x => x.leave else s.askLeave c n r
        | none => s) s) s
  | _ => out.foldl (fun s n => (s.askLeave c n 0).askLeave c n 1) s

/-- The ranks of a FIXED launch follow their cores to the replacements (R336). -/
def State.replaceRanks (s : State) (c failing : Nat) (spare : Option Nat) : State :=
  [0, 1].foldl (fun s lane => s.onLaunch c lane fun l =>
    if l.fixed ∧ spare.isSome then { l with cores := l.cores.map fun n => (movedTo failing spare 8 n).getD n } else l) s

/-- Attach the function of a new composition (R316, R377), and show what its record fixes (R346). -/
def State.attach (s : State) (c : Nat) (r : MapRec) : State :=
  let s := (s.setFld F.CTX_FN_STATUS_attached r.fn 1).setFld F.CTX_FN_STATUS_composition r.fn c
  (s.setFld F.CMP_STATUS_mode c r.shared.toNat).setFld F.CMP_STATUS_sliced c r.sliced.toNat

/-- The joining cores of the new map begin (R61, R334): fills in place go on, joiners start. -/
def State.coresJoin (s : State) (c : Nat) (h : MapChange) (joined : List Nat) : State :=
  let s := match h.cmd with
    | 2 => joined.foldl (fun (s : State) n => s.joinLaunches c n) s
    | 0 => joined.foldl (fun (s : State) n => s.joinLaunches c n) (s.replaceRanks c h.failing h.spare)
    | _ => s
  let s := if s.outsideWindows c then s else s.resumeInPlace (some c)
  (s.startReady c 0).startReady c 1

/-- Whether composition `c` holds a core or channel of cluster `cl`. -/
def State.compHolds (s : State) (c cl : Nat) : Bool :=
  (s.coreOwner.any fun e => e.1 / 8 == cl && e.2.comp == c) || (s.chanOwner.any fun e => e.1 / 16 == cl && e.2.comp == c)

/-- Record in the flacon what the repair of cluster `cl` changes: its spare IN_SERVICE, and itself RETIRED where `last` says that no composition is
left to move (R18, R22, R336). -/
def State.recordRepair (s : State) (cl : Nat) (last : Bool) : State :=
  match s.failing.find cl with
  | none => s
  | some spare =>
    let s := match spare with
      | some sp => s.onFlacon fun f => f.setCluster sp 0
      | none => s
    let s := s.when last fun s => { s.onFlacon fun f => f.setCluster cl 2 with failing := s.failing.del cl }
    s.showClusters

/-- Before the epoch advance of composition `c` the flacon records the repair that the change carries out (R336 step 4). -/
def State.recordBefore (s : State) (c : Nat) (h : MapChange) : State :=
  if h.cmd = 0 then s.recordRepair h.failing (!(List.range 64).any fun d => d != c && s.compHolds d h.failing) else s

/-- The failing clusters that no composition holds any more are RETIRED; one never bound is gated (R22, R336). -/
def State.settleFailing (s : State) : State :=
  s.failing.foldl (fun s e =>
    if (List.range 64).any fun c => s.compHolds c e.1 then s else (s.recordRepair e.1 true).requestDom e.1 .off false) s

/-- Step 4: the new map is installed: at e + 1 with draining set, or at epoch 0 for CREATE; leaving resources begin to drain, joining ones are
usable; a repair is in the flacon first (R22, R323, R324, R327, R336). -/
def State.advance (s : State) (c : Nat) (h : MapChange) : State :=
  let s := s.recordBefore c h
  let r := h.record
  let first := h.cmd == 1
  let e := s.fld F.CMP_EPOCH_epoch c
  let joinedCores := (s.coreOwner.filter fun e => e.2.comp == c && e.2.phase == .preparing).map fun (e : Nat × Bound) => e.1
  let joinedChans := (s.chanOwner.filter fun e => e.2.comp == c && e.2.phase == .preparing).map fun (e : Nat × Bound) => e.1
  let s := if first then (s.setReg .CMP_EPOCH c 0#64).attach c r
    else ((s.setFld F.CMP_EPOCH_old c e).setFld F.CMP_EPOCH_epoch c ((e + 1) % 65536)).setFld F.CMP_EPOCH_draining c 1
  let s := s.setComp c { s.comp c with record := some r, change := some { h with step := 5, drainAt := s.aon.dt, oldPorts := (s.portShares c).map (·.1) } }
  let s := s.setFld F.CMP_SLICE_demand c (if r.sliced then r.demand else 0)
  let s := { s with coreOwner := installMap s.coreOwner c r.cores first, chanOwner := installMap s.chanOwner c r.channels first,
                    partOwner := installMap s.partOwner c r.parts first, farOwner := installMap s.farOwner c r.far first }
  let s := joinedChans.foldl (fun s x => s.bindChan x c (if first then .staying else .joining)) s
  let s := (s.chanOwner.filter fun e => e.2.comp == c && e.2.phase == .leaving).foldl (fun s e => s.drainChan e.1) s
  let s := s.when (h.cmd == 0) fun s => s.moveWatches c h.failing h.spare
  let s := (s.coresLeave c h).coresJoin c h joinedCores
  let s := if h.cmd = 4 ∨ h.cmd = 8 ∨ h.cmd = 0 then s.restartChains c r.channels else s
  s.showComp c

/-- EPOCH_ADVANCE: once step 3 is over the new map is installed and the drain begins; a REBIND that waited for a FIXED launch begins its step 3 once
none is left (R323, R327, R328). -/
def execEpochAdvance (c : Nat) (s : State) : Out :=
  checked (decide (c < 64))
    (match (s.comp c).change with
     | none => s
     | some h =>
       let s := if h.step = 2 ∧ !s.fixedHeld c then s.stepThree c h else s
       match (s.comp c).change with
       | none => s
       | some h => if h.step = 3 ∧ s.stepThreeOver c h then s.advance c h else s)

/-- CORE_RESUME_FILL: in step 3 of a resume or a repair, a joining core is filled from the slot whose state it is to hold, and stands in place until the
epoch advance; a resident that had yet to start is armed again (R69, R79, R83, R322, R334, R336). -/
def execCoreResumeFill (n r slot : Nat) (s : State) : Out :=
  checked (coreOk n r)
    (match s.coreOwner.find n with
     | none => s
     | some b =>
       let c := b.comp
       let k := slot / 2
       match s.saved.find (savedKey c k r), (s.comp c).change, s.launches.find (laneKey c r) with
       | some sv, some h, some l =>
         let mine := match h.cmd with
           | 4 | 8 => h.record.cores[k]? == some n
           | 0 => l.fixed && ((l.cores[k]?).map fun m => m / 8 == h.failing && movedTo h.failing h.spare 8 m == some n).getD false
           | _ => false
         if b.phase != .preparing || h.step != 3 || slot % 2 != r || !mine || !s.coreReadyNow n c then s
         else
           let s := if sv.res.status = .armed then
               s.onCore n r fun x => { x.leave with status := .armed, comp := c, lane := r, ctx := l.ctx, rank := sv.res.rank }
             else (s.fillCore n r c sv).onCore n r fun x => { x with status := .stopped .inPlace }
           { s with saved := s.saved.del (savedKey c k r) }
       | _, _, _ => s)

/-! ## Steps 5 to 7 (R327 to R331) -/

/-- The leaving resources of a map. -/
def leaving (m : SMap Bound) (c : Nat) : List Nat := (m.filter fun e => e.2.comp == c && e.2.phase == .leaving).map (·.1)

/-- Whether a request of composition `c` under its old epoch is held by a leaving resource (R327 step 5). -/
def State.drains (s : State) (c : Nat) (q : MemReq) : Bool :=
  let holder := match region q.addr with
    | .remote k _ => s.shareOf c k
    | _ => s.holderOf q.addr
  q.comp == some c && q.epoch == s.fld F.CMP_EPOCH_old c && (holder.map fun b => b.comp == c && b.phase == .leaving).getD false

/-- Whether every leaving resource of composition `c` is idle (R327). -/
def State.leavingIdle (s : State) (c : Nat) : Bool :=
  (leaving s.coreOwner c).all (fun n => !s.busyFor c n 0 && !s.busyFor c n 1) &&
    (leaving s.chanOwner c).all s.chanQuiet && !s.outst.any fun e => s.drains c e.2.req

/-- The drain deadline of composition `c` in ticks (R320, R327). -/
def State.drainTicks (s : State) (c : Nat) : Nat := let d := (s.recordOf c).drainUs; us (if d = 0 then 200 else d)

/-- DRAIN_DEADLINE: what is still outstanding under the old epoch on leaving resources is squashed: cores under R61, channels under R218, every other
request completes with EPOCH_NACK (R327 step 6). -/
def execDrainDeadline (c : Nat) (s : State) : Out :=
  checked (decide (c < 64))
    (match (s.comp c).change with
     | none => s
     | some h =>
       if h.step ≠ 5 ∨ s.aon.dt < h.drainAt + s.drainTicks c ∨ s.leavingIdle c then s
       else
         let s := s.setComp c { s.comp c with change := some { h with step := 6, status := if h.status = 0 then 8 else h.status } }
         let s := (leaving s.coreOwner c).foldl (fun s n =>
           [0, 1].foldl (fun s r => if s.busyFor c n r then s.squashCore n r true else s) s) s
         let s := (leaving s.chanOwner c).foldl (fun s x => s.squashReqs (ofChan x)) s
         (s.outst.filter fun e => s.drains c e.2.req).foldl (fun s e => s.finishEntry e.1 .epochNack []) s)

/-- Scrub entries for granules that leave (R330). -/
def State.scrubLeft (s : State) (gs : List Nat) : State :=
  { s with scrubs := s.scrubs ++ gs.map fun g => { granule := g, lo := granuleBase g, hi := granuleBase g + 0x20000000, slot := none } }

/-- Leaving resources return to the pool; what joined stays (R327 step 7). -/
def State.returnLeft (s : State) (c : Nat) : State :=
  let cores := leaving s.coreOwner c
  let chans := leaving s.chanOwner c
  let far := leaving s.farOwner c
  let parts := leaving s.partOwner c
  let s := chans.foldl (fun s x => s.unbindChan x) s
  let s : State := { s with queues := s.queues.map fun (e : Nat × Ring) =>
    (e.1, { e.2 with cur := e.2.cur.map fun (k : Cur) => if (k.chan.map fun x => chans.contains x).getD false then { k with chan := none } else k }) }
  let s := cores.foldl (fun s n => [0, 1].foldl (fun s r => s.setCore n r Res.init) s) s
  let s := { s with coreOwner := cores.foldl SMap.del s.coreOwner, coreReady := cores.foldl SMap.del s.coreReady,
                    partOwner := parts.foldl SMap.del s.partOwner, farOwner := far.foldl SMap.del s.farOwner }
  let s := s.scrubLeft far
  let stay (m : SMap Bound) : SMap Bound := m.map fun e => if e.2.comp = c then (e.1, ⟨c, Phase.staying⟩) else e
  let s := { s with coreOwner := stay s.coreOwner, chanOwner := stay s.chanOwner, partOwner := stay s.partOwner, farOwner := stay s.farOwner }
  let s := [0, 1].foldl (fun s lane => s.onLaunch c lane fun l => if l.fixed then l else { l with cores := l.cores.filter fun n => !cores.contains n }) s
  ((cores.map (· / 8) ++ chans.map (· / 16)).eraseDups).foldl (fun s cl => if s.clusterBound cl then s else s.requestDom cl .off false) s

/-- RELEASE clears the enable of every watch of the composition (R477). -/
def State.endWatches (s : State) (c : Nat) : State :=
  (List.range 8).foldl (fun s w => if s.fld F.MON_TW_CFG_composition w = c then s.setFld F.MON_TW_CFG_enable w 0 else s) s

/-- RELEASE has ended: the function is detached, nothing of the composition remains (R332, R438, R452, R477). -/
def State.detach (s : State) (c : Nat) : State :=
  let f := (s.recordOf c).fn
  let s := (s.setFld F.CTX_FN_STATUS_attached f 0).setFld F.CTX_FN_STATUS_composition f 0
  let s := ((s.setFld F.SEC_COMP_CFG_confidential c 0).setFld F.SEC_COMP_CFG_ctx_sel c 0).setFld F.PWR_COMP_CFG_power_parked c 0
  let s := (((s.setFld F.CMP_STATUS_mode c 0).setFld F.CMP_STATUS_sliced c 0).setFld F.CMP_SLICE_demand c 0).mbxReset c
  let s := s.endWatches c
  { (s.setComp c Comp.init).dropSaved (fun k _ => k / 65536 == c) with shadows := s.shadows.filter fun x => x.comp != c }

/-! ## What follows a change: power parks, repairs, slices (R328, R335, R452) -/

/-- A park that a power target requires: it waits behind a change in progress; power_parked and POWER_PARK go with it (R328, R452, R461). -/
def State.powerPark (s : State) (c : Nat) : State :=
  if s.fld F.CMP_STATUS_busy c = 1 then s.setComp c { s.comp c with wantPark := true }
  else if s.cmpState c ≠ 2 ∧ s.cmpState c ≠ 8 then s
  else
    let s := (s.parkNow c 3).setFld F.PWR_COMP_CFG_power_parked c 1
    s.mbxSend c 1 (leBytes 8 s.aon.dt ++ leBytes 4 (s.fld F.PWR_TARGET_STATUS_target 0))

/-- A power-parked composition is resumed by the controller; with too few free cores it stays parked (R452, R461). -/
def State.powerResume (s : State) (c : Nat) : State :=
  if s.cmpBlocked c [5] || s.fld F.PWR_COMP_CFG_power_parked c == 0 then s
  else
    match s.resumeRecord c with
    | none => s
    | some r => ((s.beginChange c 4 r 0 none 0).setFld F.PWR_COMP_CFG_power_parked c 0).mbxSend c 2 (leBytes 8 s.aon.dt)

/-- Begin the repair of composition `c` for a failing cluster: its cores and channels there move to the spare's, or leave (R336, R337). -/
def State.repairNow (s : State) (c cl : Nat) (spare : Option Nat) : State :=
  let r := s.recordOf c
  let r := { r with cores := r.cores.filterMap (movedTo cl spare 8), channels := r.channels.filterMap (movedTo cl spare 16) }
  s.beginChange c 0 r cl spare (if spare.isNone then 9 else 0)

/-- Repair composition `c`, after the change in progress where there is one (R328). -/
def State.repairComp (s : State) (c cl : Nat) (spare : Option Nat) : State :=
  if s.fld F.CMP_STATUS_busy c = 1 then s.setComp c { s.comp c with repairs := (s.comp c).repairs ++ [(cl, spare)] } else s.repairNow c cl spare

/-- What waited for a change to end: repairs first, then a power park (R328). -/
def State.afterChange (s : State) (c : Nat) : State :=
  let x := s.comp c
  match x.repairs, s.cmpState c with
  | p :: rest, 2 => (s.setComp c { x with repairs := rest }).repairNow c p.1 p.2
  | _, _ =>
    let s := s.setComp c { x with repairs := [], wantPark := false }
    if x.wantPark then s.powerPark c else s

/-- The compositions in the order in which slices are given: rising, starting after the one resumed last (R335). -/
def sliceOrder (last : Nat) : List Nat := (List.range 64).map fun j => (last + 1 + j) % 64

/-- Resume as many waiting sliced compositions as the free cores allow (R335). -/
def State.resumeSlices (s : State) : State :=
  (sliceOrder s.lastSliced).foldl (fun s c =>
    if s.cmpState c = 8 ∧ s.fld F.CMP_STATUS_busy c = 0 ∧ (s.resumeRecord c).isSome then { (s.resumeNow c 8).1 with lastSliced := c } else s) s

/-- SLICE_END: sliced compositions that have run for slice_us are parked, and waiting ones are resumed as cores allow (R335). -/
def execSliceEnd (s : State) : Out :=
  checked true
    (let due := (List.range 64).filter fun c =>
       s.cmpState c == 2 && s.fld F.CMP_STATUS_busy c == 0 && s.fld F.CMP_STATUS_sliced c == 1 &&
         decide ((s.comp c).activeAt + us (s.fld F.CMP_SLICE_slice_us c) ≤ s.aon.dt)
     (due.foldl (fun s c => s.parkNow c 7) s).resumeSlices)

/-- Step 7: leaving resources return to the pool, draining and busy clear, last_status is set, the composition event is raised (R327 to R330,
R345). -/
def State.endChange (s : State) (c : Nat) (h : MapChange) : State :=
  let s := (s.returnLeft c).setFld F.CMP_EPOCH_draining c 0
  let s := (((s.setFld F.CMP_STATUS_busy c 0).setFld F.CMP_STATUS_last_status c h.status).setCmpState c (endState h.cmd h.record)).showComp c
  let s := s.setComp c { s.comp c with change := none, activeAt := s.aon.dt }
  let s := s.compEvent c (if h.cmd = 6 then 2 else 0) s.aon.dt
  let s := (if h.cmd = 5 then s.detach c else s).settleFailing
  let s := s.afterChange c
  if h.cmd = 7 then s.resumeSlices else s

/-- MAP_CHANGE_END: once every leaving resource is idle, or after the squash, the change ends (R327 step 7, R329, R330). -/
def execMapChangeEnd (c : Nat) (s : State) : Out :=
  checked (decide (c < 64))
    (match (s.comp c).change with
     | none => s
     | some h => if h.step = 6 ∨ (h.step = 5 ∧ s.leavingIdle c) then s.endChange c h else s)

/-! ## Repair (R336, R337) -/

/-- Repair cluster `cl`: every composition that holds a core or channel of it begins a change of map toward a spare, where its cores could be
spilled and a spare is free; the flacon records it once none is left to move (R22, R336, R337). -/
def State.repairCluster (s : State) (cl : Nat) (spillOk : Bool) : State :=
  if s.clState cl ≠ 0 ∨ (s.failing.find cl).isSome then s
  else
    let spare := if spillOk then s.spareFor cl else none
    let held := (List.range 64).filter fun c => s.compHolds c cl
    let s := { s with failing := s.failing.put cl spare }.reportDev 255 0x14 (engineCode 7 cl) 0 cl []
    (held.foldl (fun s c => s.repairComp c cl spare) s).settleFailing

/-- CLUSTER_REPAIR: management firmware replaces a failing cluster by a spare through one change of map on every composition that holds a core or
channel of it; without a spare, or where a spill fails (`spillOk` false), the cluster is retired without replacement (R336, R337). -/
def execClusterRepair (cl : Nat) (spillOk : Bool) (s : State) : Out := checked (decide (cl < 84)) (s.repairCluster cl spillOk)

/-! ## Promotion (R345) -/

/-- The two channels that a promoted core brings: of its cluster's engine first, then of any, in rising index. -/
def pickTwo (free : List Nat) (cl : Nat) (got : List Nat) : List Nat :=
  let rest := free.filter fun x => !got.contains x
  ((rest.filter fun x => x / 16 == cl) ++ rest.filter fun x => x / 16 != cl).take 2

/-- The record that a standby composition is promoted with; none where too few cores or channels are free. -/
def State.promoteRecord (s : State) (c : Nat) : Option MapRec :=
  let r := s.recordOf c
  let cores := s.freeCores.take r.demand
  let free := s.poolChans
  let chans := cores.foldl (fun got n => got ++ pickTwo free (n / 8) got) []
  if cores.length = r.demand ∧ chans.length = 2 * r.demand then some { r with standby := false, demand := 0, cores := cores, channels := chans.mergeSort }
  else none

/-- A mirrored queue as its 32 bytes describe it (DESIGN CHOICE, log 47). -/
def mirroredRing (fn ctx : Nat) (b : List Byte) : Nat × Ring :=
  let u (off n : Nat) : Nat := leNat ((b.drop off).take n)
  (u 0 4, { Ring.init with fn := fn, ctx := ctx, n := u 4 1, kind := u 5 1, doorbell := u 6 2, base := u 8 8, cplBase := u 16 8 })

/-- Make a mirrored context with its queues live (R345). -/
def State.liveContext (s : State) (c fn i : Nat) (b : List Byte) : State :=
  let u (off n : Nat) : Nat := leNat ((b.drop off).take n)
  match s.ctxs.find i, s.freeTag with
  | none, some tag =>
    if u 1 1 ≠ 1 then s
    else
      let s := (s.assignTag tag c (u 2 1 == 1)).getD s
      let seed := s.free 64
      let x : Ctx := { fn := fn, comp := c, tag := tag, state := .live, rt := u 2 1 == 1, prio := u 3 1 == 1, weight := u 4 4, pass := 0, time := 0, overrun := 0,
                       ovf := 0, ovfSat := false, srseed := seed.1.toNat, sel := u 10 2, lastQ := 0, destroyBy := none, destroyAt := 0, invalidating := false,
                       guilty := false }
      let rings := (List.range (min (u 12 4) ((b.length - 16) / 32))).map fun j => mirroredRing fn i (b.drop (16 + 32 * j))
      let s := { seed.2 with ctxs := seed.2.ctxs.put i x, tagsUsed := tag :: seed.2.tagsUsed }
      { s with queues := rings.foldl (fun m p => if (m.find p.1).isNone then m.put p.1 p.2 else m) s.queues }
  | _, _ => s

/-- Make a mirrored fence live at its value (R345). -/
def State.liveFence (s : State) (fn i : Nat) (b : List Byte) : State :=
  let u (off n : Nat) : Nat := leNat ((b.drop off).take n)
  if (s.fences.get i Fence.init).taken then s
  else { s with fences := s.fences.put i { gen := u 8 4, taken := true, abandoned := u 27 1 == 1, value := u 0 8, last := u 26 1, fn := fn, ctx := u 12 4,
                                           tag := u 16 8, vector := u 24 2 } }

/-- A mirrored queue goes on from its read pointer: every command beyond it runs again (R345). -/
def State.liveQueue (s : State) (c i : Nat) (b : List Byte) : State :=
  match s.queues.find i with
  | none => s
  | some x => if ((s.ctxs.find x.ctx).map (·.comp)) = some c then { s with queues := s.queues.put i { x with rd := leNat (b.take 8), prod := leNat (b.take 8) } } else s

/-- Make every mirrored object of a composition live: contexts with their queues, fences, read pointers (R345). -/
def State.liveShadows (s : State) (c : Nat) : State :=
  let fn := (s.recordOf c).fn
  let mine := s.shadows.filter fun x => x.comp == c
  let s := (mine.filter fun x => x.kind == 2).foldl (fun s x => s.liveContext c fn x.index x.data) s
  let s := (mine.filter fun x => x.kind == 3).foldl (fun s x => s.liveFence fn x.index x.data) s
  let s := (mine.filter fun x => x.kind == 4).foldl (fun s x => s.liveQueue c x.index x.data) s
  ({ s with shadows := s.shadows.filter fun x => x.comp != c }).showFn fn

/-- Promote a standby composition where enough is free; the Bool says so (R345). -/
def State.promote (s : State) (c : Nat) : State × Bool :=
  match s.promoteRecord c with
  | none => (s.cmpRefuse c 4, false)
  | some r =>
    let s := (s.liveShadows c).beginChange c 6 r 0 none 0
    (s.setComp c { s.comp c with promoting := none, promoted := true }, true)

/-- PROMOTE (R332, R345). -/
def execPromote (c : Nat) (s : State) : Out :=
  checked (decide (c < 64)) (if s.cmpBlocked c [9] then s.cmpRefuse c 6 else (s.promote c).1)

/-- PROMOTE_RETRY: a promotion on loss that found too little free tries again every 10 ms (R345). -/
def execPromoteRetry (c : Nat) (s : State) : Out :=
  checked (decide (c < 64))
    (match (s.comp c).promoting with
     | none => s
     | some t =>
       if s.aon.dt < t + us 10000 ∨ s.cmpBlocked c [9] then s
       else
         let q := s.promote c
         if q.2 then q.1 else q.1.setComp c { q.1.comp c with promoting := some s.aon.dt })

end Sys2Proof.Machine
end

