-- ==== Sys2Proof/Machine/Twins.lean ====
section
/-! DEFINITION. Machine/Twins.lean: mirroring to a twin (R340, R341), the twin's side (R339, R344, R345), the loss of a twin (R342, R343). -/
namespace Sys2Proof.Machine

/-- Whether the twin port's role is TWIN. -/
def State.twinPort (s : State) : Bool := s.fld F.PRT_CFG_role (s.fld F.CMP_TWIN_port 0) == roleTwin

/-! ## The primary's side (R340, R341) -/

/-- A leaf of the mirrored tables: its composition and entry, with the size of its page. -/
def State.leavesOf (s : State) (t : Table) : List (Nat × Nat × Nat) :=
  match s.ctxs.find? fun e => e.2.tag == t.tag with
  | none => []
  | some x =>
    (List.range (tableEntries t.level)).filterMap fun i =>
      let e := s.word (t.addr + 8 * i)
      if entryValid e && entryLeaf e then some (x.2.comp, e, pageSize t.level) else none

/-- Copy a span of physical memory to the twin. `fuel` counts messages of 256 bytes (R282). -/
def State.copySpan (s : State) (fuel sel comp pa : Nat) : State :=
  match fuel with
  | 0 => s
  | k + 1 =>
    let r := s.readPhys .fw sel pa 256
    (if r.st = .ok then r.s.mirrorMsg 1 sel comp pa r.data else r.s).copySpan k sel comp (pa + 256)

/-- Copy every mirrored page and object to the twin (R341). -/
def State.copyToTwin (s : State) : State :=
  let leaves := (s.tables.flatMap fun t => s.leavesOf t).filter fun l => bits l.2.1 5 5 == 1
  let s := leaves.foldl (fun s l => s.copySpan (l.2.2 / 256) (leafSel l.2.1) l.1 (leafPage l.2.1)) s
  let s := s.ctxs.foldl (fun s e => s.mirrorCtx e.1) s
  let s := (s.fences.filter fun e => e.2.taken).foldl (fun s e => s.mirrorFence e.1) s
  s.queues.foldl (fun s e => s.mirrorMsg 4 0 ((s.ringComp (.queue e.1)).getD 0) e.1 (leBytes 8 e.2.rd)) s

/-- Release the fence signals that `due` selects, each with its own status, in order (R341, R342). -/
def State.releaseTwin (s : State) (due : TwinSignal → Bool) : State :=
  let hit := s.twinWait.filter due
  hit.foldl (fun s w => (s.signalNow w.fence w.value w.add w.status s.aon.dt).1.recheckFence w.fence)
    { s with twinWait := s.twinWait.filter fun w => !due w }

/-- Stop mirroring in a state of CMP_TWIN: every waiting signal is released. -/
def State.stopMirror (s : State) (st : Nat) : State :=
  ({ s with mirrorHeld := [] }.setFld F.CMP_TWIN_state 0 st).releaseTwin fun _ => true

/-- TWIN_ENABLE: a write of CMP_TWIN: enable is refused unless the port's role is TWIN; enabled, the device copies what it mirrors, in SYNCING
(R341, R346). -/
def execTwinEnable (v : Word) (s : State) : Out :=
  checked true
    (let was := s.fld F.CMP_TWIN_enable 0 == 1
     let s := s.writeReg .CMP_TWIN 0 v.toNat (2 ^ 64 - 1)
     if F.CMP_TWIN_enable.of v = 0 then (if was then (s.setFld F.CMP_TWIN_enable 0 0).stopMirror 0 else s)
     else if was || !s.twinPort then s
     else
       let s := (((s.setFld F.CMP_TWIN_enable 0 1).setFld F.CMP_TWIN_state 0 1).setFld F.CMP_TWIN_unacked 0 0).setReg .CMP_TWIN_ACK 0 0#64
       { s with mirrorSeq := 0, mirrorHeld := [], twinLost := none }.copyToTwin)

/-- TWIN_SYNC_DONE: every mirrored page and object has been copied, and the twin has acknowledged the copies: MIRRORING (R341). -/
def execTwinSyncDone (s : State) : Out :=
  checked true
    (if s.fld F.CMP_TWIN_state 0 = 1 ∧ s.fld F.CMP_TWIN_unacked 0 = 0 ∧ s.mirrorHeld.isEmpty then s.setFld F.CMP_TWIN_state 0 2 else s)

/-- Send mirror messages that waited for acknowledgements (R341). `fuel` counts them. -/
def State.sendHeld (s : State) (fuel : Nat) : State :=
  match fuel with
  | 0 => s
  | k + 1 =>
    match s.mirrorHeld with
    | [] => s
    | m :: rest =>
      if s.fld F.CMP_TWIN_unacked 0 < 4096 then
        (({ s with mirrorHeld := rest }.bump F.CMP_TWIN_unacked 0 1).sendMsg (s.fld F.CMP_TWIN_port 0) m.1 m.2).sendHeld k
      else s

/-- The mirror messages that the twin has acknowledged. -/
def State.mirrorAcked (s : State) : Nat := s.mirrorSeq - s.mirrorHeld.length - s.fld F.CMP_TWIN_unacked 0

/-- MIRROR_ACK: the twin has applied the mirror log up to a sequence: unacked falls, messages and signals that waited go on; an answer ABSENT sets
state BROKEN (R341, R345). -/
def execMirrorAck (k : Nat) (m : PortMsg) (s : State) : Out :=
  checked (decide (k < 8))
    (let st := s.fld F.CMP_TWIN_state 0
     if s.ptState k ≠ ptUp ∨ s.fld F.CMP_TWIN_enable 0 = 0 ∨ k ≠ s.fld F.CMP_TWIN_port 0 ∨ (st ≠ 1 ∧ st ≠ 2) then s
     else if m.status = 6 then s.stopMirror 4
     else
       let sent := s.mirrorSeq - s.mirrorHeld.length
       let left := min (s.fld F.CMP_TWIN_unacked 0) (sent - (m.group + 1))
       let s := (s.setFld F.CMP_TWIN_unacked 0 left).setReg .CMP_TWIN_ACK 0 (BitVec.ofNat 64 (max (s.reg .CMP_TWIN_ACK 0).toNat m.group))
       let s := { s with twinAckAt := s.aon.dt }
       let n := s.mirrorAcked
       (s.releaseTwin fun w => decide (w.upto ≤ n)).sendHeld 4096)

/-! ## The twin's side (R344, R345) -/

/-- MIRROR: a message of the partner's mirror log reaches the agent of port `k`, which applies it after what waits there (R255, R285, R340, R344,
R345). -/
def execMirror (k : Nat) (m : PortMsg) (data : List Byte) (s : State) : Out :=
  checked (decide (k < 8)) (s.takeRequest k ⟨{ m with op := 0x20 }, data, clsBulk, s.aon.dt⟩)

/-- TWIN_LOG_ENABLE: a write of CMP_TWIN_LOG; enabled only where the ring lies in memory bound to no composition and exported by no window; LOGWR becomes
0 (R344, R346). -/
def execTwinLogEnable (v : Word) (s : State) : Out :=
  checked true
    (let s := s.writeReg .CMP_TWIN_LOG 0 v.toNat (2 ^ 64 - 1)
     if F.CMP_TWIN_LOG_enable.of v = 0 then s.setFld F.CMP_TWIN_LOG_enable 0 0
     else
       let a := s.fld F.CMP_TWIN_LOG_base 0 * 4096
       let n := 0x20000 * 2 ^ s.fld F.CMP_TWIN_LOG_size 0
       if inPlainMemory a n && !s.meetsBound a n && !s.meetsWindow a n then (s.setFld F.CMP_TWIN_LOG_enable 0 1).setReg .CMP_TWIN_LOGWR 0 0#64
       else s.setFld F.CMP_TWIN_LOG_enable 0 0)

/-! ## Loss (R342, R343) -/

/-- Whether the twin is lost by R342: its port has not been UP for 200 µs, or a GOING_AWAY frame has been accepted on it. -/
def State.twinGone (s : State) : Bool :=
  let k := s.fld F.CMP_TWIN_port 0
  s.twinPort && s.ptState k != ptUp && (s.ptState k == ptGone || decide ((s.port k).downAt + us 200 ≤ s.aon.dt))

/-- The primary loses its twin: state LOST, waiting signals released, the event TWIN_LOST with the DT of the last MIRROR_ACK (R342). -/
def State.primaryTwinLost (s : State) : State :=
  let s := s.stopMirror 3
  (List.range 64).foldl (fun s c => if s.cmpState c = 0 ∨ s.cmpState c = 9 then s else s.compEvent c 1 s.twinAckAt) s

/-- The standby side loses its partner: it promotes, or tells management firmware (R343). -/
def State.standbyTwinLost (s : State) : State :=
  (List.range 64).foldl (fun s c =>
    if s.cmpState c ≠ 9 then s
    else if s.fld F.CMP_TWIN_auto_promote 0 = 1 then
      if s.cmpBlocked c [9] then s
      else
        let q := s.promote c
        if q.2 then q.1 else q.1.setComp c { q.1.comp c with promoting := some q.1.aon.dt }
    else s.noticeAll 2 (c + 256)) s

/-- TWIN_LOST: a side declares its twin lost, once for each time that the twin port ceases to be UP (R342, R343). -/
def execTwinLost (s : State) : Out :=
  checked true
    (let at_ := (s.port (s.fld F.CMP_TWIN_port 0)).downAt
     if !s.twinGone || s.twinLost == some at_ then s
     else
       let s := { s with twinLost := some at_ }
       let st := s.fld F.CMP_TWIN_state 0
       (if st = 1 ∨ st = 2 then s.primaryTwinLost else s).standbyTwinLost)

end Sys2Proof.Machine
end

