-- ==== Sys2Proof/Machine/Fabric.lean ====
section
/-! DEFINITION. Machine/Fabric.lean: the seam: credit stalls (R254), retries and repair (R259 to R261), its maps (R252, R263). -/
namespace Sys2Proof.Machine

/-- Seam segment `g` in the flacon. -/
def Flacon.seam (f : Flacon) (g : Nat) : SeamMap := f.seams.getD g ⟨20, 2 ^ 40, List.range 20⟩

/-- The state of physical channel `ch`: 0 IN_SERVICE, 1 SPARE, 2 RETIRED, 3 REPAIRING. -/
def SeamMap.state (m : SeamMap) (ch : Nat) : Nat := bits m.states (2 * ch + 1) (2 * ch)

/-- The segment with a channel in a state. -/
def SeamMap.setState (m : SeamMap) (ch st : Nat) : SeamMap := { m with states := putBits m.states (2 * ch + 1) (2 * ch) st }

/-- The spare channel of a segment, none where none is left. -/
def SeamMap.spare (m : SeamMap) : Option Nat := (List.range 21).find? fun c => m.state c == 1

/-- The segment after the repair of a channel (R260, R261): the spare takes its logical number, or n falls by one. -/
def SeamMap.repaired (m : SeamMap) (ch : Nat) : SeamMap :=
  match m.spare with
  | some sp => { (m.setState ch 2).setState sp 0 with order := m.order.map fun c => if c = ch then sp else c }
  | none => { m.setState ch 2 with n := m.n - 1, order := m.order.filter fun c => c != ch }

/-- Show the two segments of the flacon, with the channels under repair as REPAIRING (R260, R263). -/
def State.showSeams (s : State) : State :=
  [0, 1].foldl (fun s g =>
    let m := (s.seamFix.get g []).foldl (fun m c => m.setState c 3) (s.flacon.seam g)
    (s.setFld F.FAB_SEAM_MAP_n_logical g m.n).setFld F.FAB_SEAM_MAP_ch_state g m.states) s

/-- The key of a channel of a segment. -/
def seamKey (seg ch : Nat) : Nat := seg * 32 + ch

/-- Step 1 of a repair: the channel is REPAIRING (R260). -/
def State.startSeamRepair (s : State) (seg ch : Nat) : State :=
  let l := s.seamFix.get seg []
  if l.contains ch ∨ (s.flacon.seam seg).state ch ≠ 0 then s
  else ({ s with seamFix := s.seamFix.put seg (l ++ [ch]) }.setFld F.FAB_SEAM_STATUS_repair_busy seg 1).showSeams

/-- The retries of a channel in the last 2,000,000 ticks (R259). -/
def State.seamWindow (s : State) (seg ch : Nat) : List Nat := (s.seamRetries.get (seamKey seg ch) []).filter fun t => decide (s.aon.dt < t + 2000000)

/-- SEAM_FLIT_REPLAY: a flit fails its check and is replayed, well or not (`good`): a retry is counted; the eighth failed replay in a row is a hard failure,
and the channel is repaired (R259, R264). -/
def execSeamFlitReplay (seg ch : Nat) (good : Bool) (s : State) : Out :=
  checked (decide (seg < 2) && decide (ch < 21))
    (let key := seamKey seg ch
     if (s.flacon.seam seg).state ch ≠ 0 ∨ (s.seamFix.get seg []).contains ch then s
     else
       let s := s.fabCount (136 + seg) false
       let s := { s with seamRetries := s.seamRetries.put key (s.seamWindow seg ch ++ [s.aon.dt]) }
       if good then { s with seamFails := s.seamFails.del key }
       else
         let n := s.seamFails.get key 0 + 1
         if n < 8 then { s with seamFails := s.seamFails.put key n }
         else (({ s with seamFails := s.seamFails.del key }).fabCount (136 + seg) true).startSeamRepair seg ch)

/-- SEAM_RETRY_WINDOW: a channel's retries in a window of 1 ms exceed retry_limit: it is repaired; the limit 0 disables this trigger (R259, R260). -/
def execSeamRetryWindow (seg : Nat) (s : State) : Out :=
  checked (decide (seg < 2))
    (let lim := s.fld F.FAB_SEAM_CFG_retry_limit 0
     if lim = 0 then s
     else (List.range 21).foldl (fun s ch => if lim < (s.seamWindow seg ch).length then s.startSeamRepair seg ch else s) s)

/-- SEAM_REPAIR: the repair of a channel ends: the failed channel is RETIRED and the spare IN_SERVICE under its logical number, or n falls by one; the flacon
records the map, and a fault record is written (R260, R261). -/
def execSeamRepair (seg ch : Nat) (s : State) : Out :=
  checked (decide (seg < 2) && decide (ch < 21))
    (let l := s.seamFix.get seg []
     if !l.contains ch then s
     else
       let rest := l.filter fun c => c != ch
       let s := s.onFlacon fun f => { f with seams := splice f.seams seg [(f.seam seg).repaired ch] }
       let s := { s with seamFix := s.seamFix.put seg rest, seamRetries := s.seamRetries.del (seamKey seg ch), seamFails := s.seamFails.del (seamKey seg ch) }
       let s := if rest.isEmpty then s.setFld F.FAB_SEAM_STATUS_repair_busy seg 0 else s
       s.showSeams.reportDev (136 + seg) 6 (engineCode 7 (136 + seg)) 0 ch [])

end Sys2Proof.Machine
end

