-- ==== Sys2Proof/Machine/TimeRef.lean ====
section
/-! DEFINITION. Machine/TimeRef.lean: the reference and PPS (R296 to R298), the replicas of device time (R294), one-way delays (R304, R315), and the
delivery of trace records (R312, R315). -/
namespace Sys2Proof.Machine

/-! ## Replicas (R294) -/

/-- Whether the replicas of the ON islands and the master, with these skews, agree within 4 ticks of one another (R294). -/
def agree (l : List Int) : Bool := l.all fun a => decide (-4 ≤ a) && decide (a ≤ 4) && l.all fun b => decide (a - b ≤ 4)

/-- REPLICA_ALIGN: the master aligns the replicas of the islands that are ON, each to a skew that R294 allows; none steps backward. -/
def execReplicaAlign (skews : List Int) (s : State) : Out :=
  checked true
    (let on := (List.range 148).filter fun i => (s.dom i).state == .on
     if !s.aon.dtRuns || !agree (on.map fun i => skews.getD i (s.dom i).skew) then s
     else on.foldl (fun s i => s.setDom i { s.dom i with floor := s.dtOf i, skew := skews.getD i (s.dom i).skew }) s)

/-! ## The reference (R296) -/

/-- REFERENCE_LOST: the master counts on from the AON oscillator, in holdover; ref_lost_stk; the reference event (R296, R473). -/
def execReferenceLost (s : State) : Out :=
  checked true
    (if !s.aon.powered || s.fld F.TIM_STATUS_ref_ok 0 == 0 then s
     else
       let s := ((s.setFld F.TIM_STATUS_ref_ok 0 0).setFld F.TIM_STATUS_holdover 0 1).setFld F.TIM_STATUS_ref_lost_stk 0 1
       s.counterEvent F.MON_EVT_reference 255 "TIM_STATUS")

/-- REFERENCE_RELOCK: the reference has been present for 1 ms: the device relocks and leaves holdover, and DT does not step (R296). -/
def execReferenceRelock (s : State) : Out :=
  checked true
    (if s.fld F.TIM_STATUS_holdover 0 = 1 then (s.setFld F.TIM_STATUS_ref_ok 0 1).setFld F.TIM_STATUS_holdover 0 0 else s)

/-! ## PPS (R297, R298) -/

/-- PPS_IN_EDGE: a rising edge latches the master DT; one that comes too early or too late sets pps_err_stk (R297). -/
def execPpsInEdge (s : State) : Out :=
  checked true
    (if s.fld F.TIM_CFG_pps_in_en 0 = 0 ∨ !s.aon.powered then s
     else
       let d := s.aon.dt - (s.reg .TIM_PPS_LATCH 0).toNat
       let bad := s.aon.ppsEver && (decide (d < 1998000000) || decide (2002000000 < d))
       let s := { s with aon := { s.aon with ppsEver := true } }
       let s := (s.setReg .TIM_PPS_LATCH 0 (BitVec.ofNat 64 s.aon.dt)).setFld F.TIM_STATUS_pps_seen 0 1
       if bad then s.setFld F.TIM_STATUS_pps_err_stk 0 1 else s)

/-- PPS_IN_TIMEOUT: no edge for 1.1 s clears pps_seen (R297). -/
def execPpsInTimeout (s : State) : Out :=
  checked true
    (if (s.reg .TIM_PPS_LATCH 0).toNat + 2200000000 ≤ s.aon.dt then s.setFld F.TIM_STATUS_pps_seen 0 0 else s)

/-- The level of PPS_OUT: low while pps_out_en = 0 and while the part is unpowered (R298). -/
def State.ppsOut (s : State) : Bool := s.aon.powered && s.fld F.TIM_CFG_pps_out_en 0 == 1 && s.aon.ppsRose.isSome

/-- PPS_OUT_RISE: PPS_OUT goes high at a DT congruent to pps_out_phase modulo 2,000,000,000, to the AON cycle (R298). -/
def execPpsOutRise (s : State) : Out :=
  checked true
    (let past := (s.aon.dt + 2000000000 - s.fld F.TIM_CFG_pps_out_phase 0) % 2000000000
     if s.aon.powered ∧ s.aon.dtRuns ∧ s.fld F.TIM_CFG_pps_out_en 0 = 1 ∧ past < 10 then { s with aon := { s.aon with ppsRose := some s.aon.dt } } else s)

/-- PPS_OUT_FALL: PPS_OUT goes low 100 ms after it went high (R298). -/
def execPpsOutFall (s : State) : Out :=
  checked true
    (match s.aon.ppsRose with
     | none => s
     | some t => if t + 200000000 ≤ s.aon.dt then { s with aon := { s.aon with ppsRose := none } } else s)

/-! ## One-way delays (R304, R315) -/

/-- TIM_OWD_READ: a read of TIM_OWD of port `k` answers the mean and takes the snapshot of TIM_OWD_AUX that the next read of that returns (R315). -/
def execTimOwdRead (k : Nat) (s : State) : Out :=
  checked (decide (k < 8))
    (({ s with owdAux := s.owdAux.put k (s.reg .TIM_OWD_AUX k) }).answer false (s.reg .TIM_OWD k))

/-! ## Sillage (R310, R312, R315) -/

/-- The 32 bytes of a trace record (R310). -/
def SilRec.bytes (r : SilRec) : List Byte :=
  leBytes 8 r.dt ++ leBytes 4 r.seq ++ leBytes 1 r.island ++ leBytes 1 r.kind ++ leBytes 1 r.comp ++ leBytes 1 r.status ++ leBytes 4 r.layer ++
    leBytes 2 r.operator ++ leBytes 2 r.engine ++ leBytes 4 r.ctx ++ leBytes 4 r.arg

/-- The capacity of buffer `i`. -/
def State.silCap (s : State) (i : Nat) : Nat := 4096 * 2 ^ s.fld F.TIM_SIL_CFG_size i

/-- Whether buffer `i` is full. -/
def State.silFull (s : State) (i : Nat) : Bool := decide (s.silCap i ≤ (s.reg .TIM_SIL_WR i).toNat - (s.reg .TIM_SIL_RD i).toNat)

/-- Write a record into buffer `i` with selector 0 and advance WR. -/
def State.silWrite (s : State) (i : Nat) (r : SilRec) : State :=
  let w := (s.reg .TIM_SIL_WR i).toNat
  let a := s.fld F.TIM_SIL_CFG_base i * 4096 + w % s.silCap i * 32
  (s.writePhys .fw 0 a r.bytes).s.setReg .TIM_SIL_WR i (BitVec.ofNat 64 (w + 1))

/-- Deliver a record of half `h` to buffer `i`: dropped and counted at a full one; a LOSS record first where records were lost (R312). -/
def State.silDeliver (s : State) (h i : Nat) (r : SilRec) : State :=
  let lost := s.silLoss.get i 0
  let s := if lost = 0 ∨ s.silFull i then s
    else
      let isl := if h = 0 then 141 else 146
      let (st, s) := s.stamp isl
      let l : SilRec := { dt := st.1, seq := st.2, island := isl, kind := 4, comp := 0xFF, status := 0, layer := 0, operator := 0, engine := engineCode 7 isl,
                          ctx := noCtx, arg := lost }
      { s.silWrite i l with silLoss := s.silLoss.del i }
  if s.silFull i then s.silDrop i else s.silWrite i r

/-- SILLAGE_RECORD: the unit of half `h` delivers its oldest record to every enabled buffer whose filter accepts it (R312, R313). -/
def execSillageRecord (h : Nat) (s : State) : Out :=
  checked (decide (h < 2))
    (match s.sil.get h [] with
     | [] => s
     | r :: rest =>
       (List.range 16).foldl (fun s i => if s.silAccepts i r then s.silDeliver h i r else s) { s with sil := s.sil.put h rest })

/-- SILLAGE_ENABLE: a write of TIM_SIL_CFG of buffer `i`: enabled only where the ring lies wholly in near or far memory bound to no composition and exported
by no window; WR, RD and LOST become 0 (R315). -/
def execSillageEnable (i : Nat) (v : Word) (s : State) : Out :=
  checked (decide (i < 16))
    (let s := s.writeReg .TIM_SIL_CFG i v.toNat (2 ^ 64 - 1)
     if F.TIM_SIL_CFG_enable.of v = 0 then s.setFld F.TIM_SIL_CFG_enable i 0
     else
       let a := s.fld F.TIM_SIL_CFG_base i * 4096
       let n := 32 * s.silCap i
       if inPlainMemory a n && !s.meetsBound a n && !s.meetsWindow a n then
         { (((s.setFld F.TIM_SIL_CFG_enable i 1).setReg .TIM_SIL_WR i 0#64).setReg .TIM_SIL_RD i 0#64).setReg .TIM_SIL_LOST i 0#64 with
             silLoss := s.silLoss.del i }
       else s.setFld F.TIM_SIL_CFG_enable i 0)

end Sys2Proof.Machine
end

