-- ==== Sys2Proof/Machine/HostReset.lean ====
section
/-! DEFINITION. Machine/HostReset.lean: resets of functions and host ports, and the links of the host ports (R373 to R375). -/
namespace Sys2Proof.Machine

/-- The registers that a function has for its own and that its reset returns to their reset values (R374); CTX_FN_STATUS keeps its composition. -/
def functionRegs : List RegName :=
  [.CTX_ADMIN, .CTX_ADMIN_CPL, .CTX_EVR_BASE, .CTX_EVR_CFG, .CTX_EVR_RD, .CTX_EVR_WR, .CTX_ABORT, .FEN_SEL, .FEN_VAL, .SCH_CTX_SEL, .SCH_CTX_CFG,
   .SCH_CTX_TIME, .SCH_CTX_OVR, .FLT_RING_BASE, .FLT_RING_RD, .FLT_RING_STATUS, .FLT_CTX_OVF]

/-- Step 1 of R374: every context of the function is destroyed, on nobody's command. -/
def State.destroyAll (s : State) (f : Nat) : State :=
  s.ctxs.foldl (fun s e =>
    if e.2.fn ≠ f then s
    else if e.2.state = .live then s.startDestroy e.1 none
    else s.onCtx e.1 fun c => { c with destroyBy := none }) s

/-- Step 2 of R374: the function's registers and its own objects as after reset; engines whose records waited for its ring go on (R406). -/
def State.clearFunction (s : State) (f : Nat) : State :=
  let waiting := (s.fn f).stalled
  let s := (functionRegs.foldl (fun s r => s.resetReg r f) s).setFld F.CTX_FN_STATUS_evr_ovf f 0
  let s := s.setFn f Fn.init
  (waiting.foldl (fun s p => s.recordGone p.2) s).showFn f

/-- The reset of a function (R374): its contexts, its registers, and the mailbox of its composition, which stays bound; management firmware
gets the event. -/
def State.functionReset (s : State) (f : Nat) : State :=
  let s := (s.destroyAll f).clearFunction f
  match s.compOf f with
  | some c => (s.mbxReset c).noticeAll 2 c
  | none => s

/-- The reset of every function of host port `h` (R373). -/
def State.portReset (s : State) (h : Nat) : State := (List.range 64).foldl (fun s i => s.functionReset (64 * h + i)) s

/-- The state with host port `h` replaced. -/
def State.onHost (s : State) (h : Nat) (f : HostPort → HostPort) : State := { s with hosts := s.hosts.put h (f (s.hosts.get h HostPort.init)) }

/-- PERST_ASSERT: the reset input of host port `h` is asserted: its link is down and its functions are in reset (R373 to R375). -/
def execPerstAssert (h : Nat) (s : State) : Out :=
  checked (decide (h < 2)) ((s.onHost h fun p => { p with perst := true, up := false }).portReset h)

/-- PERST_RELEASE: the reset input of host port `h` is released; its link trains (R375). -/
def execPerstRelease (h : Nat) (s : State) : Out := checked (decide (h < 2)) (s.onHost h fun p => { p with perst := false })

/-- HOT_RESET: every function of the port is reset (R373, R374). -/
def execHotReset (h : Nat) (s : State) : Out := checked (decide (h < 2)) (s.portReset h)

/-- HOST_LINK_DOWN: the link of a host port is down: its functions are reset (R373 to R375). -/
def execHostLinkDown (h : Nat) (s : State) : Out :=
  checked (decide (h < 2)) ((s.onHost h fun p => { p with up := false }).portReset h)

/-- Whether host port `h` can train: its domain is ON, its reset input is released, start-up has come to its links (R375, R462). -/
def State.hostTrains (s : State) (h : Nat) : Bool :=
  s.domOn (138 + h) && !(s.hosts.get h HostPort.init).perst && (s.aon.stage == .links || s.aon.stage == .running)

/-- HOST_LINK_UP: the link of a host port has trained (R375). -/
def execHostLinkUp (h : Nat) (s : State) : Out :=
  checked (decide (h < 2)) (if s.hostTrains h then s.onHost h fun p => { p with up := true } else s)

/-- FUNCTION_LEVEL_RESET: of a virtual function, that function alone; of a physical function, every function of its port (R373, R374). -/
def execFunctionLevelReset (f : Nat) (s : State) : Out :=
  checked (decide (f < 128)) (if f % 64 = 0 then s.portReset (f / 64) else s.functionReset f)

end Sys2Proof.Machine
end

