-- ==== Sys2Proof/Machine/Dump.lean ====
section
/-! DEFINITION. Machine/Dump.lean: the fault rings' space (R405 to R408, R420) and the crash dump (R417 to R419). -/
namespace Sys2Proof.Machine

/-! ## Fault rings -/

/-- PENDING_FAULT_WRITE: space has freed in the fault ring of function `f`: the merge buffer's record is written, and after it the records that
wait, in the order in which they arose; the engine of a written record goes on (R406, R407). -/
def execPendingFaultWrite (f : Nat) (s : State) : Out :=
  checked (decide (f < 128))
    (if s.fltFull f then s
     else
       match (s.fn f).merge with
       | some m => (s.setFn f { s.fn f with merge := none }).fltPut f m
       | none =>
         match (s.fn f).stalled with
         | [] => s
         | (r, who) :: rest => (((s.setFn f { s.fn f with stalled := rest }).showStalled f).fltPut f r).recordGone who)

/-- FLT_RING_ENABLE: a write to FLT_RING_BASE: enabling sets wr, rd, lost and overflow to 0; base is not written while the ring is enabled
(R420). -/
def execFltRingEnable (f : Nat) (v : Word) (s : State) : Out :=
  checked (decide (f < 128))
    (let s := s.writeReg .FLT_RING_BASE f v.toNat (2 ^ 64 - 1)
     if F.FLT_RING_BASE_enable.of v = 1 then
       let s := ((s.setFld F.FLT_RING_BASE_enable f 1).setReg .FLT_RING_RD f 0#64).setFld F.FLT_RING_STATUS_wr f 0
       let s := (s.setFld F.FLT_RING_STATUS_lost f 0).setFld F.FLT_RING_STATUS_overflow f 0
       s.setFn f { s.fn f with fltWr := 0 }
     else s.setFld F.FLT_RING_BASE_enable f 0)

/-- OVERFLOW_CLEAR: software clears overflow: the header's bit goes too, and the next overflow sends a message again (R408, R420). -/
def execOverflowClear (f : Nat) (s : State) : Out :=
  checked (decide (f < 128))
    (if s.fld F.FLT_RING_STATUS_overflow f = 0 then s
     else (s.setFld F.FLT_RING_STATUS_overflow f 0).hostStore (f / 64) (s.fld F.FLT_RING_BASE_base f * 4096 + 8) (zeros 8))

/-! ## The crash dump (R417, R418) -/

/-- The base of the crash-dump region. -/
def dumpBase : Nat := 0x01A7E0000000

/-- The bytes of a complete dump: up to the end of the last section that holds data (R417). -/
def dumpLength : Nat := 0x06441000

/-- The sections in the order of the layout table: offset and length. -/
def dumpSections : List (Nat × Nat) :=
  [(0x1000, 0x400000), (0x401000, 0x1000000), (0x1401000, 0x1000000), (0x2401000, 0x1000000), (0x3401000, 0x1000000), (0x4401000, 0x2000000),
   (0x6401000, 0x40000)]

/-- Every register. -/
def allRegs : List RegName :=
  [.DEV_ID, .DEV_CLUSTER_STATE, .CMP_CTL, .CMP_STATUS, .CMP_EPOCH, .CMP_MAP, .CMP_SLICE, .CMP_TWIN, .CMP_TWIN_ACK, .CMP_TWIN_LOG,
   .CMP_TWIN_LOGWR, .CTX_ADMIN, .CTX_ADMIN_CPL, .CTX_EVR_BASE, .CTX_EVR_CFG, .CTX_EVR_RD, .CTX_EVR_WR, .CTX_ABORT, .CTX_FN_STATUS,
   .CTX_QUOTA, .FEN_SEL, .FEN_VAL, .TLX_POOL, .TLX_PIN_STATUS, .TLX_DLOG_CFG, .DMA_CH_CTL, .DMA_CH_STATUS, .DMA_CH_FAIL, .DMA_CH_DONE,
   .DMA_CH_HEAD, .DMA_CH_POS, .DMA_ENG_STATUS, .MEM_LEDGER_CFG, .MEM_RES_STATUS, .MEM_RSV_CFG, .MEM_RSV_STAT, .MEM_PXW_BASE, .MEM_PXW_CFG,
   .MEM_RRD, .MEM_RRD1, .FAB_SEAM_MAP, .FAB_SEAM_STATUS, .FAB_SEAM_CFG, .FAB_ERR_CNT, .FAB_ERR_STK, .PRT_CFG, .PRT_STATUS, .PRT_LOS_STATUS,
   .PRT_TX_CTR, .PRT_FEC_CNT, .PRT_AUTH_FAIL, .PRT_DROP_CNT, .PRT_ERR_STK, .PRT_CTL, .PRT_NODE_ID, .PRT_RT_ADDR, .PRT_RT_DATA, .TIM_DT,
   .TIM_CFG, .TIM_STATUS, .TIM_PPS_LATCH, .TIM_OWD, .TIM_OWD_AUX, .TIM_SIL_CFG, .TIM_SIL_FILT, .TIM_SIL_WR, .TIM_SIL_RD, .TIM_SIL_LOST,
   .SCH_COMP_CFG, .SCH_MIX_CFG, .SCH_MIX_AREA, .SCH_MIX_BUDGET, .SCH_CTX_SEL, .SCH_CTX_CFG, .SCH_CTX_TIME, .SCH_CTX_OVR, .SCH_CYC_CFG,
   .SCH_CYC_START, .SCH_CYC_ENT, .FLT_RING_BASE, .FLT_RING_RD, .FLT_RING_STATUS, .FLT_CTX_OVF, .FLT_WD_CFG, .FLT_RESET, .FLT_LADDER,
   .FLT_DUMP_STATUS, .FLT_DUMP_CTL, .FLT_DUMP_HOST, .FLT_ISL_STAT, .SEC_IDS_DIGEST, .SEC_IDB_DIGEST, .SEC_BOOT, .SEC_FW_CTL, .SEC_FW_LOAD,
   .SEC_SLOT_SEL, .SEC_SLOT_STATUS, .SEC_SLOT_KEYID, .SEC_SLOT_CTL, .SEC_UNWRAP, .SEC_COMP_CFG, .PWR_FEED_STATUS, .PWR_POLICY,
   .PWR_TARGET_DT, .PWR_TARGET, .PWR_TARGET_STATUS, .PWR_MEAS, .PWR_ENERGY, .PWR_THERM, .PWR_DOM_CTL, .PWR_DOM_STATUS, .PWR_LASTGASP,
   .PWR_SVC_CTL, .PWR_COMP_CFG, .MON_CFG, .MON_EVT, .MON_MGMT, .MON_ACT, .MON_ERR_A, .MON_ERR_B, .MON_ERR_STK, .MON_TW_CFG, .MON_TW_DIG,
   .MON_TW_DIGWR, .MON_TW_DIGRD, .MON_TW_MIN, .MON_TW_MAX, .MON_TW_SUM, .MON_TW_CNT, .MON_TW_SPEC, .MON_TW_ZERO, .MON_TW_HIST,
   .MON_TW_DIGLOST, .MBX_DOORBELL, .MBX_STATUS, .MBX_ACK]

/-- Write bytes of the crash-dump region with selector 0, as management firmware does. -/
def State.dumpPut (s : State) (off : Nat) (data : List Byte) : State := (s.writePhys .fw 0 (dumpBase + off) data).s

/-- The register snapshot: every register, at block index × 1 MiB + offset; of a register that each function has, the copy of function 0. -/
def State.dumpRegs (s : State) : State :=
  allRegs.foldl (fun s r =>
    (List.range r.row.count).foldl (fun s i => s.dumpPut (0x401000 + r.row.base + r.row.stride * i) (leBytes 8 (s.regView r i).toNat)) s) s

/-- The tails of both sillage FIFOs, 4,096 records each. -/
def State.dumpSil (s : State) : State :=
  [0, 1].foldl (fun s h =>
    let q := (s.sil.get h []).drop ((s.sil.get h []).length - 4096)
    s.dumpPut (0x6401000 + 0x20000 * h) (q.flatMap SilRec.bytes)) s

/-- Fill part of the dump with free values: the spec gives the section no layout, or the dump was cut. -/
def State.dumpFree (s : State) (off n : Nat) : State :=
  let q := s.freeBytes n
  q.2.dumpPut off q.1

/-- The core control state of the dump, 48 KiB for each core: zeros for the cores of a confidential composition, free values for the others
(R417, R439). -/
def State.dumpCores (s : State) : State :=
  let secret := s.coreOwner.filter fun e => s.confidential e.2.comp
  secret.foldl (fun s e => s.dumpPut (0x4401000 + 0xC000 * e.1) (zeros 0xC000)) (s.dumpFree 0x4401000 0x2000000)

/-- The header of the dump, its state aside: from the DT of the fault to the sections (R417). -/
def State.dumpHeader (s : State) (dt cause step island length : Nat) (digest : List Byte) (state : Nat) : State :=
  let secs := dumpSections.flatMap fun p => leBytes 8 p.1 ++ leBytes 8 p.2
  s.dumpPut 0 (asciiBytes "ULKDUMP1" ++ leBytes 4 1 ++ leBytes 4 state ++ leBytes 8 dt ++ leBytes 1 cause ++ leBytes 1 step ++ leBytes 1 island ++
    zeros 5 ++ leBytes 8 (s.reg .DEV_ID 0).toNat ++ leBytes 8 s.logWr ++ leBytes 8 length ++ zeros 8 ++ secs ++
    zeros (256 - secs.length) ++ (digest ++ zeros 32).take 32 ++ zeros 3744)

/-- FLT_DUMP_STATUS shows the header's state and the length (R420). -/
def State.showDump (s : State) (state length : Nat) : State :=
  (s.setFld F.FLT_DUMP_STATUS_state 0 state).setFld F.FLT_DUMP_STATUS_length_kib 0 ((length + 1023) / 1024)

/-- The state of the dump: 0 EMPTY, 1 WRITING, 2 COMPLETE, 3 PARTIAL. -/
def State.dumpState (s : State) : Nat := s.fld F.FLT_DUMP_STATUS_state 0

/-- Begin the dump before a fatal step: a held one that keep protects stays, and dump_lost is set (R418). -/
def State.beginDump (s : State) (r : LadderReq) : State :=
  if 2 ≤ s.dumpState ∧ s.fld F.FLT_DUMP_CTL_keep 0 = 1 then s.setFld F.FLT_DUMP_STATUS_dump_lost 0 1
  else
    let s := s.dumpHeader s.aon.dt (if r.hang then 0x0B else 0x0C) r.step r.island 0 [] 1
    { s.showDump 1 0 with ladder := { s.ladder with dumping := some s.aon.dt } }

/-- End the dump in progress: COMPLETE with its sections and digest, or PARTIAL with what had been written, which the spec does not say (R418). -/
def State.endDump (s : State) (r : LadderReq) (complete : Bool) : State :=
  match s.ladder.dumping with
  | none => s
  | some t =>
    let s := { s with ladder := { s.ladder with dumping := none } }
    let cause := if r.hang then 0x0B else 0x0C
    if complete then
      let s := ((s.dumpRegs.dumpFree 0x1401000 0x1000000).dumpFree 0x2401000 0x1000000).dumpFree 0x3401000 0x1000000
      let s := s.dumpCores.dumpSil
      let digest := Config.sha256 (s.bytes (dumpBase + 0x1000) (dumpLength - 0x1000))
      (s.dumpHeader t cause r.step r.island dumpLength digest 2).showDump 2 dumpLength
    else
      let s := (s.dumpFree 0x401000 0x4000000).dumpCores.dumpFree 0x6401000 0x40000
      let q := s.free 32
      let n := q.1.toNat % (dumpLength + 1)
      (q.2.dumpHeader t cause r.step r.island n [] 3).showDump 3 n

/-- DUMP_COPY: a write of copy in FLT_DUMP_CTL by host `h`'s physical function starts the copy to its memory; ignored while one runs or the dump
is EMPTY (R419, R420). -/
def execDumpCopy (h : Nat) (s : State) : Out :=
  checked (decide (h < 2))
    (if s.fld F.FLT_DUMP_STATUS_copy_busy 0 = 1 ∨ s.dumpState = 0 then s
     else { s.setFld F.FLT_DUMP_STATUS_copy_busy 0 1 with ladder := { s.ladder with copyTo := some h } })

/-- The bytes of the held dump: the length of its header. -/
def State.dumpBytes (s : State) : List Byte :=
  let n := s.word (dumpBase + 0x30)
  let r := s.readPhys .fw 0 dumpBase n
  if r.st = .ok then r.data else []

/-- DUMP_COPY_DONE: the copy has ended: the bytes of the dump stand in host memory, and copy_busy clears (R419). -/
def execDumpCopyDone (s : State) : Out :=
  checked true
    (match s.ladder.copyTo with
     | none => s
     | some h =>
       let s := s.hostStore h (s.fld F.FLT_DUMP_HOST_addr 0 * 4096) s.dumpBytes
       { s.setFld F.FLT_DUMP_STATUS_copy_busy 0 0 with ladder := { s.ladder with copyTo := none } })

/-- DUMP_RELEASE: a write of release returns the dump to EMPTY; ignored while a copy runs (R419, R420). -/
def execDumpRelease (s : State) : Out :=
  checked true
    (if s.fld F.FLT_DUMP_STATUS_copy_busy 0 = 1 then s else (s.dumpPut 0xC (leBytes 4 0)).setFld F.FLT_DUMP_STATUS_state 0 0)

end Sys2Proof.Machine
end

