-- ==== Sys2Proof/Machine/Ladder.lean ====
section
/-! DEFINITION. Machine/Ladder.lean: watchdogs (R409, R410, R392) and the reset ladder (R411 to R414, R236, R254). -/
namespace Sys2Proof.Machine

/-! ## Engines (R310, R402, R409, R411) -/

/-- The number of a translation unit in a record: the spec gives none, and this is the model's (DESIGN CHOICE, log 60). -/
def unitNumber (u : TlbUnit) : Nat :=
  match u with
  | .load n => n
  | .store n => 672 + n
  | .eng e => 1344 + e
  | .half h => 1428 + h

/-- Whether an engine exists. -/
def engineOk (e : Engine) : Bool :=
  match e with
  | .core n r => decide (n < 672) && decide (r < 2)
  | .chan x => decide (x < 1344)
  | .cp p => decide (p < 16)
  | .agent k => decide (k < 8)
  | .unit u => unitOk u

/-- The domain of an engine. -/
def engineIsl (e : Engine) : Nat :=
  match e with
  | .core n _ => n / 8
  | .chan x => x / 16
  | .cp p => cpIsl p
  | .agent k => 120 + k
  | .unit u => unitIsl u

/-- What a watchdog's record calls its engine (R310, R402). -/
def engineNo (e : Engine) : Nat :=
  match e with
  | .core n _ => engineCode 2 n
  | .chan x => engineCode 1 x
  | .cp p => engineCode 0 p
  | .agent k => engineCode 4 k
  | .unit u => engineCode 6 (unitNumber u)

/-- What a reset of step 1 calls its engine: a channel is reset with its DMA engine (R402, R411). -/
def resetNo (e : Engine) : Nat :=
  match e with
  | .chan x => engineCode 3 (x / 16)
  | e => engineNo e

/-- The engine that FLT_RESET names (R402, R420), none where it names none. -/
def engineOf (w : Nat) : Option Engine :=
  let i := w % 4096
  let e : Option Engine := match w / 4096 with
    | 0 => some (.cp i)
    | 1 => some (.chan i)
    | 2 => some (.core i 0)
    | 3 => some (.chan (16 * i))
    | 4 => some (.agent i)
    | 6 => (allUnits.find? fun u => unitNumber u == i).map .unit
    | _ => none
  e.filter engineOk

/-- Whether two engines are one under step 1: both residents of a core, every channel of a DMA engine. -/
def sameEngine (a b : Engine) : Bool :=
  match a, b with
  | .core n _, .core m _ => n == m
  | .chan x, .chan y => x / 16 == y / 16
  | a, b => a == b

/-! ## The scope of a step -/

/-- The domains that depend on a domain, itself among them, at any distance (R27). -/
def dependents (i : Nat) : List Nat :=
  (List.range 4).foldl (fun l _ => (List.range 148).filter fun j => l.contains j || (depsOf j).any fun k => l.contains k) [i]

/-- The domains of the half of island `i`, the seam apart (R411). -/
def halfIslands (i : Nat) : List Nat := (List.range 148).filter fun j => islEast j == islEast i && j != 136 && j != 137

/-- The domains that a step resets whole. -/
def LadderReq.islands (r : LadderReq) : List Nat :=
  if r.step = 2 then dependents r.island else if r.step = 3 then halfIslands r.island else []

/-- Whether a step resets core `n`. -/
def LadderReq.hitsCore (r : LadderReq) (n : Nat) : Bool :=
  r.step == 4 || r.islands.contains (n / 8) || (r.step == 1 && (r.engine.map fun e => sameEngine e (.core n 0)).getD false)

/-- Whether a step resets DMA channel `x`. -/
def LadderReq.hitsChan (r : LadderReq) (x : Nat) : Bool :=
  r.step == 4 || r.islands.contains (x / 16) || (r.step == 1 && (r.engine.map fun e => sameEngine e (.chan x)).getD false)

/-- Whether a step resets command processor `p`. -/
def LadderReq.hitsCp (r : LadderReq) (p : Nat) : Bool :=
  r.step == 4 || r.islands.contains (cpIsl p) || (r.step == 1 && (r.engine.map fun e => sameEngine e (.cp p)).getD false)

/-! ## Suspects (R410, R414) -/

/-- Whether a queue's command runs on what a step resets: a copy on a channel, or any command that a command processor performs; one that has
ended, or has written its completion record, runs on nothing (R410). -/
def State.runsOn (s : State) (r : LadderReq) (i : Nat) (x : Ring) : Bool :=
  match x.cur with
  | none => false
  | some k =>
    k.started && k.ended.isNone && !k.written && !s.suspected (.queue i) &&
      (match k.rec_.opcode with
       | 1 => s.launches.any fun e => e.2.q == .queue i && !e.2.step && e.2.cores.any fun n => r.hitsCore n && s.busyFor (e.1 / 2) n (e.1 % 2)
       | 2 | 3 | 4 => (k.chan.map fun x => r.hitsChan x).getD false
       | _ => ((s.ringComp (.queue i)).map fun c => r.hitsCp (s.homeCp c)).getD false)

/-- The queues whose commands a step makes suspects. -/
def State.suspectsOf (s : State) (r : LadderReq) : List (Nat × Ring) := s.queues.filter fun e => s.runsOn r e.1 e.2

/-- Hold the commands of suspects (R414): a held launch stops on all of its cores, and nothing of it is reissued. -/
def State.holdSuspects (s : State) (r : LadderReq) (l : List (Nat × Ring)) : State :=
  l.foldl (fun s e =>
    let q := QRef.queue e.1
    let hit := s.launches.find? fun x => x.2.q == q && !x.2.step
    let p : Suspect := { q := q, ctx := e.2.ctx, cores := (hit.map fun (x : Nat × Launch) => x.2.cores.length).getD 0, since := s.aon.dt,
                         cl := if r.hang && decide (r.island < 84) then some r.island else none, replay := none, hung := false }
    let s : State := { s with suspects := s.suspects ++ [p] }
    match hit with
    | some x => s.markAborting x.1
    | none => s.onCur q fun k => { k with chan := none }) s

/-- A step of a mixer whose cores a reset takes is aborted (R400; DEDUCED, log 61). -/
def State.abortSteps (s : State) (r : LadderReq) : State :=
  s.launches.foldl (fun s e =>
    if e.2.step && e.2.cores.any fun n => r.hitsCore n && s.busyFor (e.1 / 2) n (e.1 % 2) then s.markAborting e.1 else s) s

/-- A replay that ran on what a step resets has hung (R415). -/
def State.markHung (s : State) (r : LadderReq) : State :=
  let hung (p : Suspect) : Bool := match p.replay with
    | none => false
    | some c =>
      (s.coreOwner.any fun e => e.2.comp == c && r.hitsCore e.1) || (s.chanOwner.any fun e => e.2.comp == c && r.hitsChan e.1) ||
        (c == 64 && (List.range 16).any fun p => r.hitsCp p)
  { s with suspects := s.suspects.map fun (p : Suspect) => if hung p then { p with hung := true } else p }

/-! ## Collection (R413) -/

/-- A record of collected state: what it is, its context, an address, a value, further bytes. The layout is the model's (DESIGN CHOICE, log 62). -/
structure Collected where
  what : Nat
  ctx : Nat
  addr : Nat
  pos : Nat
  detail : List Byte
  deriving DecidableEq, Repr

/-- The code of a token state in a collected record. -/
def tokCode (t : Tok) : Nat :=
  match t with
  | .empty => 0
  | .filling => 1
  | .full => 2
  | .draining => 3

/-- The control state of a resident: its pc, the tokens of its tile queues, its station queues. -/
def Res.collected (x : Res) : List Collected :=
  [{ what := 5, ctx := x.ctx, addr := x.file.pc, pos := x.seqNo, detail := [] }] ++
  (x.queues.map fun (e : Nat × TQueue) =>
    { what := 6, ctx := x.ctx, addr := e.1, pos := 0, detail := leBytes 16 (e.2.toks.foldr (fun t m => 4 * m + tokCode t) 0) }) ++
  x.sq.map fun (i : StIns) => { what := 7, ctx := x.ctx, addr := i.pc, pos := i.seq, detail := leBytes 1 i.u ++ leBytes 1 i.op }

/-- What collection reads of the cores on its scope: of a core of a confidential composition only that it is bound; of the others their barriers,
flag watches and residents (R413, R439). -/
def State.collectedCores (s : State) (r : LadderReq) : List Collected :=
  let secret (n : Nat) : Bool := (s.coreOwner.find n).any fun b => s.confidential b.comp
  let on := s.launches.filter fun e => !s.confidential (e.1 / 2) && e.2.cores.any fun n => r.hitsCore n
  let bars : List Collected := on.flatMap fun (e : Nat × Launch) =>
    ((List.range e.2.bars.length).zip e.2.bars).map fun (b : Nat × Barrier) => { what := 3, ctx := e.2.ctx, addr := b.1, pos := b.2.gen, detail := [] }
  let flags : List Collected := (s.flagWatch.filter fun e => r.hitsCore (e.1 / 2) && !secret (e.1 / 2)).map fun (e : Nat × Nat) =>
    { what := 4, ctx := noCtx, addr := e.2, pos := e.1, detail := [] }
  let cores := (s.res.filter fun e => r.hitsCore (e.1 / 2) && !secret (e.1 / 2)).flatMap fun (e : Nat × Res) => e.2.collected
  let bound : List Collected := (s.coreOwner.filter fun e => r.hitsCore e.1 && secret e.1).map fun (e : Nat × Bound) =>
    { what := 9, ctx := noCtx, addr := e.1, pos := e.2.comp, detail := [] }
  bars ++ flags ++ cores ++ bound

/-- What collection reads before a step: queues and fences of the commands on its scope, what it reads of the cores, channels. -/
def State.collection (s : State) (r : LadderReq) : List Collected :=
  let qs := s.suspectsOf r
  let queues : List Collected := qs.map fun (e : Nat × Ring) =>
    { what := 1, ctx := e.2.ctx, addr := e.1, pos := e.2.rd * 2 ^ 32 + e.2.prod, detail := leBytes 4 e.2.rd }
  let ids := qs.flatMap fun (e : Nat × Ring) => match e.2.cur with
    | some k => (if k.rec_.flag 0 then [k.rec_.sigFence] else []) ++ (if k.rec_.flag 2 then [k.rec_.waitFence] else [])
    | none => []
  let fences : List Collected := ids.map fun id =>
    { what := 2, ctx := ((s.fence id).map (·.ctx)).getD noCtx, addr := id, pos := ((s.fence id).map (·.value)).getD 0, detail := [] }
  let chans : List Collected := (s.chanOwner.filter fun e => r.hitsChan e.1).flatMap fun (e : Nat × Bound) =>
    chanRegs.map fun g => { what := 8, ctx := (s.chan e.1).ctxNo, addr := g.row.base + g.row.stride * e.1, pos := (s.reg g e.1).toNat, detail := [] }
  queues ++ fences ++ s.collectedCores r ++ chans

/-- Write collected records into the device fault log: cause WATCHDOG where a hang asked for the step, else RESET; partial where collection was
cut short (R402, R413). -/
def State.writeCollected (s : State) (r : LadderReq) (l : List Collected) (cut : Bool) : State :=
  l.foldl (fun s c =>
    let (st, s) := s.stamp 255
    s.logRecord { dt := st.1, seq := st.2, island := 255, flags := if cut then 4 else 0, cause := if r.hang then 0x0B else 0x0C,
                  gen := s.fld F.FLT_ISL_STAT_gen 255, comp := 0xFF, engine := (r.engine.map resetNo).getD (engineCode 7 r.island), ctx := c.ctx,
                  addr := c.addr, pos := c.pos, code := 0x100 + c.what, count := 1, detail := c.detail }) s

/-- End the collection that runs, complete. -/
def State.endCollection (s : State) (r : LadderReq) : State :=
  if s.ladder.collecting then
    let s := s.writeCollected r (s.collection r) false
    { s with ladder := { s.ladder with collecting := false } }
  else s

/-! ## Starting and ending a step (R411) -/

/-- One second. -/
def second : Nat := 2000000000

/-- The bound of a step. -/
def stepTicks (n : Nat) : Nat := [0, us 1000, us 5000, us 50000].getD n 0

/-- A step asked for, one step higher for each that its domain completed within the last second. `fuel` counts steps. -/
def State.escalated (s : State) (fuel : Nat) (r : LadderReq) : LadderReq :=
  match fuel with
  | 0 => r
  | k + 1 =>
    match s.ladder.doneAt.find (r.island * 8 + r.step) with
    | some t => if r.step < 4 ∧ s.aon.dt < t + second then s.escalated k { r with step := r.step + 1, engine := none } else r
    | none => r

/-- Begin the step at the front: FLT_LADDER is busy, the domains are under it, collection begins, and before a fatal step the crash dump. -/
def State.beginStep (s : State) : State :=
  match s.ladder.reqs with
  | [] => s
  | r0 :: rest =>
    let r := s.escalated 3 r0
    let s := ((s.setFld F.FLT_LADDER_busy 0 1).setFld F.FLT_LADDER_step 0 r.step).setFld F.FLT_LADDER_island 0 r.island
    let s := { s with ladderOn := r.islands, ladder := { s.ladder with reqs := r :: rest, at_ := s.aon.dt, collecting := true, dumping := none } }
    s.when (decide (3 ≤ r.step)) fun s => s.beginDump r

/-- Ask the reset controller for a step: once for one engine or domain; it begins where none is in progress. -/
def State.askReset (s : State) (r : LadderReq) : State :=
  if s.ladder.reqs.any fun p => p.step == r.step && p.island == r.island && p.engine == r.engine then s
  else
    let idle := s.ladder.reqs.isEmpty
    let s := { s with ladder := { s.ladder with reqs := s.ladder.reqs ++ [r] } }
    s.when idle State.beginStep

/-- The step at the front leaves, and the next begins. -/
def State.popStep (s : State) : State :=
  let s := { s.setFld F.FLT_LADDER_busy 0 0 with ladderOn := [], ladder := { s.ladder with reqs := s.ladder.reqs.drop 1, collecting := false } }
  s.beginStep

/-- Note that a step has reset a domain: its tag advances, its counts and its last step (R411, R420). -/
def State.noteReset (s : State) (step i : Nat) : State :=
  let s := s.setFld F.FLT_ISL_STAT_gen i ((s.fld F.FLT_ISL_STAT_gen i + 1) % 256)
  let s := (s.setFld F.FLT_ISL_STAT_last_step i step).bump F.FLT_ISL_STAT_resets i 1
  { s with ladder := { s.ladder with doneAt := s.ladder.doneAt.put (i * 8 + step) s.aon.dt } }

/-- A step has completed: its RESET record, and the next step (R411, R403). -/
def State.completeStep (s : State) (r : LadderReq) : State :=
  ((s.reportDev 255 0x0C ((r.engine.map resetNo).getD (engineCode 7 r.island)) 0 r.step []).popStep)

/-! ## Step 1: an engine -/

/-- Every invalidation that waits for a unit takes its reset for an acknowledgement (R236). -/
def State.acksOf (s : State) (u : TlbUnit) : State :=
  ((s.invals.filter fun v => v.units.contains u).map (·.tag)).foldl (fun s t => (s.settleUnit u t).unitAcks u t) s

/-- Reset a translation unit: its entries, its misses and the requests translated by it are gone; that counts as its acknowledgement (R236, R411). -/
def State.resetUnit (s : State) (u : TlbUnit) : State :=
  let s := { s with tlbs := s.tlbs.filter (fun e => e.1 != u), misses := s.misses.filter fun m => m.unit != u }
  (s.squashEntries fun _ q => servedBy q u).acksOf u

/-- Nothing of a unit's accesses is held at its injection point (R411). -/
def State.dropHeld (s : State) (f : Owner → Bool) : State := { s with heldAcc := s.heldAcc.filter fun h => !f h.own }

/-- Both residents of a core as after reset; the scratchpad keeps its contents (R411). An item of an ELASTIC launch is reissued only in step 3,
which makes no suspects (R61, R414). -/
def State.resetCore (s : State) (n : Nat) (reissue : Bool) : State :=
  let s := [0, 1].foldl (fun s r =>
    let x := s.core n r
    let s := if x.inLaunch then s.squashCore n r reissue else s.squashReqs (ownerOfCore n r)
    (s.dropRequests n r).setCore n r Res.init) s
  { s.passRecord (fun w => w == .core n 0 || w == .core n 1) with
      accs := s.accs.clear (4 * n) (4 * n + 4), icache := s.icache.del n, flagWatch := s.flagWatch.clear (2 * n) (2 * n + 2) }

/-- Whether an owner is one of DMA engine `e`. -/
def ofEngine (e : Nat) (o : Owner) : Bool :=
  match o with
  | .dmaPiece x | .descFetch x => x / 16 == e
  | .indexLine f _ => e == f
  | _ => false

/-- A DMA engine as after reset: its channels stay bound, IDLE; what waited on them breaks, and their open commit groups close (R212, R411). -/
def State.resetDma (s : State) (e : Nat) : State :=
  let s := (chansOf e).foldl (fun (s : State) x => (s.setChan x { s.chan x with ending := none }).commitOwner (ownerDma x)) s
  let s := (s.squashEntries fun _ q => ofEngine e q.owner).dropHeld (ofEngine e)
  let s := (chansOf e).foldl (fun s x =>
    let s := ((s.breakWatches x).dropOwnWatch x).passRecord fun w => w == .chan x
    match s.chanOwner.find x with
    | some b => s.bindChan x b.comp b.phase
    | none => s) s
  { s.resetReg .DMA_ENG_STATUS e with indexSerial := s.indexSerial.del e, idxLines := s.idxLines.del e }

/-- A command processor restarts at its firmware entry; what firmware has set in its CSRs stays (R96, R411). -/
def State.resetCp (s : State) (p : Nat) : State :=
  ((s.squashEntries fun _ q => q.owner == .cpAccess p).dropHeld fun o => o == .cpAccess p).restartCp p

/-- A port memory agent has no staged write and no request any more (R411). -/
def State.resetAgent (s : State) (k : Nat) : State :=
  ((s.squashEntries fun _ q => q.owner == .agent k).dropHeld fun o => o == .agent k).onPort k fun p =>
    { p with staged := [], published := [], waiting := [] }

/-- Reset one engine. -/
def State.resetEngine (s : State) (e : Engine) : State :=
  match e with
  | .core n _ => s.resetCore n false
  | .chan x => s.resetDma (x / 16)
  | .cp p => s.resetCp p
  | .agent k => s.resetAgent k
  | .unit u => s.resetUnit u

/-- The step in progress, where it is step `n`. -/
def State.inStepNo (s : State) (n : Nat) : Option LadderReq := s.ladder.reqs.head?.filter fun r => r.step == n

/-- ENGINE_RESET: step 1 completes: collection, then the engine's state is reset, its requests squashed; every context with a command on it is a
suspect (R411, R413, R414). -/
def execEngineReset (e : Engine) (s : State) : Out :=
  checked (engineOk e)
    (match s.inStepNo 1 with
     | none => s
     | some r =>
       if !((r.engine.map fun d => sameEngine d e).getD false) then s
       else
         let s := s.endCollection r
         let l := s.suspectsOf r
         let s := ((s.markHung r).holdSuspects r l).abortSteps r
         ((s.resetEngine e).noteReset 1 r.island).completeStep r)

/-! ## Steps 2 and 3: domains -/

/-- A cluster's cores and engine as its domain is reset: the scratchpads are lost, so a bound core's is filled with zeros again (R24, R169). -/
def State.resetCluster (s : State) (cl : Nat) (reissue : Bool) : State :=
  let cores := (List.range 8).map fun j => 8 * cl + j
  let s := (cores.foldl (fun s n => s.resetCore n reissue) s).resetDma cl
  let bound := cores.filter fun n => (s.coreOwner.find n).isSome
  let s := s.wipe (scratchBase (8 * cl)) (scratchBase (8 * cl + 8))
  { s with coreReady := bound.foldl (fun m n => m.put n false) s.coreReady,
           zeroFills := s.zeroFills ++ (bound.map FillTarget.core).filter fun z => !s.zeroFills.contains z }

/-- A port's domain is reset: the port is lost under R281 and, where it is enabled, brought up again (R277, R411). -/
def State.resetPort (s : State) (k : Nat) : State :=
  let s := (s.lossSteps k).resetReg .PRT_STATUS k
  { s with ports := s.ports.put k { Port.init with downAt := s.aon.dt } }

/-- The state of a domain once a step has reset it: ON where it was ON or in a transition from ON. -/
def Dom.afterReset (d : Dom) : Dom := { d with trans := .none, queue := [], floor := 0, skew := 0 }

/-- Isolate domain `i` at once, without drain: its requests are squashed, and what it runs and holds beside NM and FMP contents is lost (R411,
R447, R454). -/
def State.isolate (s : State) (i : Nat) (reissue : Bool) : State :=
  let s := s.squashEntries fun key _ => key / 65536 == i
  let s := match domKind i with
    | .cl => s.resetCluster i reissue
    | .prt => s.resetPort (i - 120)
    | .hst => (s.onHost (i - 138) fun p => { p with up := false }).portReset (i - 138)
    | .nm | .fmp | .atm | .seam | .fab => s
  let s := (List.range 16).foldl (fun s p => if cpIsl p = i then s.resetCp p else s) s
  let units := allUnits.filter fun u => unitIsl u == i && (s.tlbs.any (fun e => e.1 == u) || s.invals.any fun v => v.units.contains u)
  units.foldl (fun s u => s.resetUnit u) s

/-- Reset domain `i`: isolated without drain, power-cycled and woken; NM and FMP contents pass through RETAIN (R411). -/
def State.resetIsl (s : State) (step i : Nat) : State :=
  let was := (s.dom i).state
  let s := s.isolate i (step == 3)
  let s := s.when (s.power.domReq.isSome && s.fld F.PWR_DOM_STATUS_island 0 == i) fun s => s.domResult i domProtected
  let s := s.setDom i (s.dom i).afterReset
  let s := s.noteReset step i
  if (domKind i == .prt) && (was == .on) && (s.fld F.PRT_CFG_enable (i - 120) == 1) then s.startBringUp (i - 120) else s

/-- Whether the entry of a request is held by a stalled seam segment in front of mesh segment `m`: the request itself, which has had no answer
(R236, R254). -/
def State.heldBehind (s : State) (m key : Nat) (q : MemReq) : Bool :=
  let a := key / 65536
  let d := memIsl q.addr
  meshOfIsl d == m && s.seamHeld a d && !s.replies.any fun r => r.isl == a && r.entry == key % 65536

/-- The reset of mesh segment `m` squashes what a stalled seam segment held for it, and ends the stall (R236, R254). -/
def State.stallOver (s : State) (m : Nat) : State :=
  if !s.stalls.any fun p => p.2 == m then s
  else
    let s := s.squashEntries (s.heldBehind m)
    { s with replies := s.replies.filter fun r => !(meshOfIsl r.isl == m && s.seamHeld r.src r.isl), stalls := s.stalls.filter fun p => p.2 != m }

/-- The launches that step 3 took cores from: a FIXED one, or one with no core left, ends with CORE_LOST; copies go on elsewhere (DEDUCED, log 63). -/
def State.halfLost (s : State) (r : LadderReq) : State :=
  let s := s.launches.foldl (fun s e =>
    let lost := e.2.cores.filter fun n => r.hitsCore n
    if lost.isEmpty then s
    else
      let c := e.1 / 2
      let lane := e.1 % 2
      let left := e.2.cores.filter fun n => !r.hitsCore n
      if e.2.fixed || left.isEmpty then
        let s := s.onLaunch c lane fun l => { l with coreLost := true }
        (left.foldl (fun s n => if s.busyFor c n lane then s.squashCore n lane false else s) s).settleLaunch c lane
      else s.onLaunch c lane fun l => { l with cores := left }) s
  { s with queues := s.queues.map fun (e : Nat × Ring) =>
      (e.1, { e.2 with cur := e.2.cur.map fun (k : Cur) => if (k.chan.map fun x => r.hitsChan x).getD false then { k with chan := none } else k }) }

/-- Reset the domains of a step. -/
def State.resetDomains (s : State) (r : LadderReq) : State :=
  r.islands.foldl (fun s i => (s.resetIsl r.step i).stallOver i) s

/-- ISLAND_RESET: step 2 on the domain of island `i` completes: it and every domain that depends on it, without drain; suspects are held (R411,
R413, R414). -/
def execIslandReset (i : Nat) (s : State) : Out :=
  checked (decide (i < 148))
    (match s.inStepNo 2 with
     | none => s
     | some r =>
       if r.island ≠ i then s
       else
         let s := s.endCollection r
         let l := s.suspectsOf r
         let s := ((s.markHung r).holdSuspects r l).abortSteps r
         (s.resetDomains r).completeStep r)

/-- HALF_RESET: step 3 on the half `h` completes: the crash dump, then every domain of the half but the seam (R411, R413, R418). -/
def execHalfReset (h : Nat) (s : State) : Out :=
  checked (decide (h < 2))
    (match s.inStepNo 3 with
     | none => s
     | some r =>
       if (islEast r.island).toNat ≠ h then s
       else
         let s := (s.endCollection r).endDump r true
         let s := (s.markHung r).abortSteps r
         ((s.resetDomains r).halfLost r).completeStep r)

/-! ## What starts a step -/

/-- Whether an engine is hung, as its watchdog judges (R409). A core waits in its class for its started instructions, a channel for its
requests, a command processor for `cp.next` or `cp.sleep`, an agent for the oldest request that waits at it, a unit for its acknowledgement. -/
def State.hung (s : State) (e : Engine) : Bool :=
  let ms (F : Fld) : Nat := max 1 (s.fld F 0) * 2000000
  s.domOn (engineIsl e) &&
    match e with
    | .core n r =>
      let x := s.core n r
      let first := x.started.foldl (fun m t => min m t.at_) s.aon.dt
      s.fld F.FLT_WD_CFG_core_ms 0 != 0 && !x.started.isEmpty && x.status != .waitRecord && decide (max first x.doneAt + ms F.FLT_WD_CFG_core_ms ≤ s.aon.dt)
    | .chan x => s.chState x == chRunning && (s.chan x).waitRecord.isNone && decide ((s.chan x).movedAt + ms F.FLT_WD_CFG_dma_ms ≤ s.aon.dt)
    | .cp p => (s.cp p).sleep.isNone && !(s.cp p).reload && decide ((s.cp p).aliveAt + ms F.FLT_WD_CFG_cp_ms ≤ s.aon.dt)
    | .agent k => (s.port k).waiting.any fun q => decide (q.at_ + us 1000 ≤ s.aon.dt)
    | .unit u => s.invals.any fun v => v.units.contains u && decide (v.at_ + us 1000 ≤ s.aon.dt)

/-- The class of an engine's watchdog. -/
def watchClass (e : Engine) : Nat :=
  match e with
  | .core _ _ => 1
  | .chan _ => 2
  | .cp _ => 3
  | .agent _ => 4
  | .unit _ => 5

/-- The composition and context of an engine. -/
def State.engineOwner (s : State) (e : Engine) : Nat × Nat :=
  match e with
  | .core n r => if (s.core n r).inLaunch then ((s.core n r).comp, (s.core n r).ctx) else (0xFF, noCtx)
  | .chan x => if (s.chanOwner.find x).isSome then (s.chComp x, (s.chan x).ctxNo) else (0xFF, noCtx)
  | _ => (0xFF, noCtx)

/-- Hand an engine to the ladder: step 1. -/
def State.toLadder (s : State) (e : Engine) : State :=
  s.askReset { step := 1, engine := some e, island := engineIsl e, hang := true }

/-- WATCHDOG_EXPIRE: an engine's watchdog expires: a WATCHDOG record with its class, and step 1 of the ladder on the engine (R409). -/
def execWatchdogExpire (e : Engine) (s : State) : Out :=
  checked (engineOk e)
    (if s.hung e then
       let o := s.engineOwner e
       (s.report (engineIsl e) 0x0B o.1 (engineNo e) o.2 0 0 (watchClass e) [] .none).1.toLadder e
     else s)

/-- INVALIDATE_TIMEOUT: a unit has not acknowledged an invalidation within 1 ms of step 1: it is recorded with the tag and reset (R236). -/
def execInvalidateTimeout (u : TlbUnit) (tag : Nat) (s : State) : Out :=
  checked (unitOk u && decide (tag < 65536))
    (if s.invals.any fun v => v.tag == tag && v.units.contains u && decide (v.at_ + us 1000 ≤ s.aon.dt) then
       (s.reportDev (unitIsl u) 0x12 (engineCode 6 (unitNumber u)) 0 tag []).toLadder (.unit u)
     else s)

/-- Whether a packet from island `a` to island `d` crosses logical channel `ch` of seam segment `g` toward mesh segment `m` (R245). -/
def State.onSeam (s : State) (g ch m a d : Nat) : Bool := crossesSeam a d == some g && s.seamChan g a d == ch && meshOfIsl d == m

/-- Whether a request, or the reply to one, that crosses a logical channel toward mesh segment `m` has been out for credit_timeout ticks (R254). -/
def State.creditWaits (s : State) (g ch m : Nat) : Bool :=
  s.outst.any fun e =>
    let a := e.1 / 65536
    let d := memIsl e.2.req.addr
    (s.onSeam g ch m a d || s.onSeam g ch m d a) && (s.nacked.find e.1).isNone &&
      decide (e.2.at_ + s.fld F.FAB_SEAM_CFG_credit_timeout 0 ≤ s.aon.dt)

/-- SEAM_CREDIT_STALL: flits of logical channel `ch` have waited for credits of an ON mesh segment for credit_timeout ticks: credit_stall, a fault
record, and the ladder on that mesh segment; what waits stays held until its reset (R254, R409). `east`: the segment that does not return credits is
the eastern one. -/
def execSeamCreditStall (seg ch : Nat) (east : Bool) (s : State) : Out :=
  checked (decide (seg < 2) && decide (ch < 21))
    (let mesh := (if seg = 0 then 141 else 142) + if east then 4 else 0
     if s.seamN seg ≤ ch ∨ (s.dom mesh).state ≠ .on ∨ (s.dom mesh).trans != .none ∨ s.stalls.contains (seg, mesh) ∨ !s.creditWaits seg ch mesh then s
     else
       let s := { s with stalls := s.stalls ++ [(seg, mesh)] }
       let s := (s.setFld F.FAB_SEAM_STATUS_credit_stall seg 1).reportDev (136 + seg) 5 (engineCode 7 (136 + seg)) 0 ch []
       s.askReset { step := 2, engine := none, island := mesh, hang := true })

/-- FLT_RESET_WRITE: a write of FLT_RESET starts a step after collection; ignored while one is in progress, and where it names no step or nothing
that the step can reset (R411, R413, R420). -/
def execFltResetWrite (v : Word) (s : State) : Out :=
  checked true
    (if s.fld F.FLT_LADDER_busy 0 = 1 then s
     else
       let i := F.FLT_RESET_island.of v
       match F.FLT_RESET_step.of v with
       | 1 =>
         match engineOf (F.FLT_RESET_engine.of v) with
         | some e => s.askReset { step := 1, engine := some e, island := engineIsl e, hang := false }
         | none => s
       | 2 => if i < 148 then s.askReset { step := 2, engine := none, island := i, hang := false } else s
       | 3 => if i < 148 ∧ i ≠ 136 ∧ i ≠ 137 then s.askReset { step := 3, engine := none, island := i, hang := false } else s
       | 4 => s.askReset { step := 4, engine := none, island := i, hang := false }
       | _ => s)

/-- LADDER_STEP_TIMEOUT: the step in progress has not completed within its bound: it is abandoned, and the next starts on the domain or half that
contains it; each step is preceded by its own collection (R411, R413). -/
def execLadderStepTimeout (s : State) : Out :=
  checked true
    (match s.ladder.reqs with
     | [] => s
     | r :: rest =>
       let extra := (if s.ladder.collecting then us 200 else 0) + if s.ladder.dumping.isSome then us 10000 else 0
       if 4 ≤ r.step ∨ s.aon.dt < s.ladder.at_ + extra + stepTicks r.step then s
       else
         let s := (s.endCollection r).endDump r true
         { s with ladder := { s.ladder with reqs := { r with step := r.step + 1, engine := none } :: rest } }.beginStep)

/-- COLLECTION_TIMEOUT: collection has not finished within 200 µs: partial is set and the step proceeds; how much had been written is not said
(R413). -/
def execCollectionTimeout (s : State) : Out :=
  checked true
    (match s.ladder.reqs with
     | [] => s
     | r :: _ =>
       if !s.ladder.collecting || decide (s.aon.dt < s.ladder.at_ + us 200) then s
       else
         let l := s.collection r
         let q := s.free 16
         let s := q.2.writeCollected r (l.take (1 + q.1.toNat % (l.length + 1))) true
         { s with ladder := { s.ladder with collecting := false, at_ := s.aon.dt } })

/-- DUMP_TIMEOUT: the crash dump has not finished within 10 ms: it ends PARTIAL, and the step proceeds (R418). -/
def execDumpTimeout (s : State) : Out :=
  checked true
    (match s.ladder.reqs, s.ladder.dumping with
     | r :: _, some t =>
       if s.aon.dt < t + us 10000 then s
       else
         let s := (s.endCollection r).endDump r false
         { s with ladder := { s.ladder with at_ := s.aon.dt } }
     | _, _ => s)

end Sys2Proof.Machine
end

