-- ==== Sys2Proof/Machine/DeviceReset.lean ====
section
/-! DEFINITION. Machine/DeviceReset.lean: what device reset leaves (R36, R411, R412, R433, R442), and step 4 of the ladder. -/
namespace Sys2Proof.Machine

/-- The registers with fields that device reset leaves as they were; those of the selected key slot show the slots, which stay (R433). -/
def keptRegs : List RegName := [.TIM_CFG, .TIM_STATUS, .TIM_PPS_LATCH, .PWR_ENERGY, .MON_CFG, .MON_ACT]

/-- The word of a register after device reset: its kept fields as they were, the others at their reset values. -/
def keptWord (r : RegName) (i : Nat) (w : Word) : Word :=
  BitVec.ofNat 64 ((w.toNat &&& r.row.kept) ||| ((r.resetWord i).toNat - ((r.resetWord i).toNat &&& r.row.kept)))

/-- A domain in device reset (R36); its temperature and a trip stay what they are (R454). -/
def Dom.inReset (d : Dom) (i : Nat) : Dom :=
  let retain := (domKind i == .nm || domKind i == .fmp) && d.state != .off
  { Dom.init i with state := if retain then .retain else .off, temp := d.temp, tripped := d.tripped }

/-- Whether device reset leaves the contents of an address: near and far memory, whose domains are retained (R36). -/
def retained (a : Nat) : Bool :=
  match region a with
  | .near _ _ | .far _ | .dump => true
  | _ => false

/-- The device in device reset (R36, R411): everything as after reset but AON's own state: device time, the flacon, the key slots and the scrub
list, retained memory, the feeds, the pins, what hosts hold, what has been sent. -/
def State.deviceReset (s : State) : State :=
  let r : State := { State.reset with
    pending := s.pending
    aon := { s.aon with stage := .rom, lastReset := s.aon.dt }
    doms := (List.range 148).foldl (fun m i => m.put i ((s.dom i).inReset i)) []
    mem := s.mem.filter fun e => retained e.1
    tags := s.tags.filter fun e => retained (64 * e.1)
    poison := s.poison.filter fun e => retained (64 * e.1)
    seals := s.seals.filter fun e => retained (64 * e.1)
    metas := s.metas.filter fun e => retained (64 * e.1)
    hostMem := s.hostMem
    hosts := s.hosts.map fun (e : Nat × HostPort) => (e.1, { e.2 with up := false, crs := true })
    slots := s.slots
    flacon := s.flacon
    retiring := s.retiring
    scrubs := s.scrubs
    outputs := s.outputs
    power := { State.reset.power with
      main := s.power.main, backup := s.power.backup, mainV := s.power.mainV, backupV := s.power.backupV, active := s.power.active
      bothFailed := s.power.bothFailed, carried := s.power.carried, singleAt := s.power.singleAt }
    freeCtr := s.freeCtr }
  keptRegs.foldl (fun t g => (List.range g.row.count).foldl (fun t i => t.setReg g i (keptWord g i (s.reg g i))) t) r

/-- DEVICE_RESET: step 4: collection and the crash dump, then device reset; start-up follows from the mask ROM (R36, R411, R413, R418, R462). -/
def execDeviceReset (s : State) : Out :=
  checked true
    (match s.inStepNo 4 with
     | none => s
     | some r => ((s.endCollection r).endDump r true).deviceReset)

end Sys2Proof.Machine
end

