-- ==== Sys2Proof/Machine/Quarantine.lean ====
section
/-! DEFINITION. Machine/Quarantine.lean: the replay of suspects in quarantine compositions and its outcome (R415), and commands past the
maximum of their class (R390, R392). -/
namespace Sys2Proof.Machine

/-! ## Verdicts (R403, R415) -/

/-- Record a verdict of management firmware on a context: cause GUILTY, CLEARED or UNRESOLVED, the code the context. -/
def State.verdict (s : State) (cause ctx : Nat) : State :=
  let c := ((s.ctxs.find ctx).map (·.comp)).getD 0xFF
  (s.report 255 cause c (engineCode 7 255) ctx 0 0 ctx [] .none).1

/-- GUILTY. -/
def causeGuilty : Nat := 0x0D
/-- CLEARED. -/
def causeCleared : Nat := 0x0E
/-- UNRESOLVED. -/
def causeUnresolved : Nat := 0x0F

/-- Replace a suspect. -/
def State.setSuspect (s : State) (p q : Suspect) : State := { s with suspects := s.suspects.map fun x => if x = p then q else x }

/-- A suspect is judged: it is one no more, its replay's composition is given back. -/
def State.judged (s : State) (p : Suspect) : State :=
  let s := { s with suspects := s.suspects.filter fun x => x != p }
  (p.replay.map fun c => s.releaseQuarantine c).getD s

/-- Its command completes ABORTED, with its sig fence signalled so (R415). -/
def State.endAborted (s : State) (p : Suspect) : State := s.onCur p.q fun k => { k with ended := some (1, 0, 0) }

/-- A suspect of a hang on a cluster was not CLEARED: neither is the hang (R415). -/
def State.hangUnclear (s : State) (p : Suspect) : State :=
  (p.cl.map fun cl => { s with ladder := { s.ladder with unclear := (cl, p.since) :: s.ladder.unclear } }).getD s

/-- A suspect of a hang on a cluster is CLEARED. Where it was the last, and so was every other, the hang is CLEARED; the second such hang within
one hour has the cluster repaired (R336, R415). -/
def State.hangCleared (s : State) (p : Suspect) : State :=
  match p.cl with
  | none => s
  | some cl =>
    if s.suspects.any (fun x => x.cl == some cl && x.since == p.since) || s.ladder.unclear.contains (cl, p.since) then s
    else
      let again := ((s.ladder.clearedAt.find cl).map fun t => decide (s.aon.dt ≤ t + 3600 * second)).getD false
      let s := { s with ladder := { s.ladder with clearedAt := s.ladder.clearedAt.put cl s.aon.dt } }
      s.when again fun s => s.repairCluster cl true

/-- A suspect that cannot be replayed: UNRESOLVED (R415). -/
def State.unresolved (s : State) (p : Suspect) : State := (((s.verdict causeUnresolved p.ctx).judged p).hangUnclear p).endAborted p

/-! ## Building a quarantine composition (R415) -/

/-- A composition that does not exist, the lowest (DESIGN CHOICE, log 64). -/
def State.freeComp (s : State) : Option Nat := (List.range 64).find? fun c => s.cmpState c == 0 && s.fld F.CMP_STATUS_busy c == 0 && (s.comp c).quarantine.isNone

/-- Build quarantine composition `c` for one of `orig`, from free cores and channels: no memory, no port share, no function. Its CMP_STATUS reads ACTIVE
and busy, so that no command of the operator touches it. -/
def State.buildQuarantine (s : State) (c orig : Nat) (cores chans : List Nat) : State :=
  let r : MapRec := { shared := s.shared orig, sliced := false, standby := false, fn := 0, drainUs := 0, demand := 0, savePerPart := 0,
                      cores := cores, channels := chans, parts := [], far := [], ports := [] }
  let s := s.setComp c { Comp.init with record := some r, quarantine := some orig }
  let s := (s.setCmpState c 2).setFld F.CMP_STATUS_busy c 1
  let s := s.prepareJoin c r
  let s := chans.foldl (fun s x => s.bindChan x c .staying) s
  { s with coreOwner := cores.foldl (fun m n => m.put n ⟨c, .staying⟩) s.coreOwner }

/-- The launch that a suspect's command asks for, its work-list header's device fields set to zero; none where its header cannot be read, or
nothing of it may be reissued. -/
def State.replayLaunch (s : State) (p : Suspect) (k : Cur) : State × Option Launch :=
  match s.ctxs.find p.ctx with
  | none => (s, none)
  | some x =>
    let s := match s.headerPlace x.tag k.rec_.a0 with
      | some (pa, _) => s.store (pa + 0x20) (zeros 0x2020)
      | none => s
    match s.readHeader p.q p.ctx x k.rec_ with
    | .ok l => (s, if l.noReissue then none else some l)
    | .refused _ _ => (s, none)

/-- Whether a second has passed since the suspect's reset without resources for it. -/
def State.tooLate (s : State) (p : Suspect) : Bool := decide (p.since + second ≤ s.aon.dt)

/-- What happens while resources are missing: the suspect waits, or is UNRESOLVED after 1 s. -/
def State.lacks (s : State) (p : Suspect) : State := if s.tooLate p then s.unresolved p else s

/-- Replay a launch: as many cores as it held where it is FIXED, else 8; every item again. -/
def State.startReplay (s : State) (p : Suspect) (k : Cur) : State :=
  if s.launches.any fun e => e.2.q == p.q && !e.2.step then s
  else
    let q := s.replayLaunch p k
    match q.2 with
    | none => s.unresolved p
    | some l =>
      let n := if l.fixed then p.cores else 8
      let cores := s.freeCores.take n
      match s.freeComp with
      | none => s.lacks p
      | some c =>
        if cores.length < n then s.lacks p
        else
          let orig := ((s.ctxs.find p.ctx).map (·.comp)).getD 0
          let s := (q.1.buildQuarantine c orig cores []).setSuspect p { p with replay := some c }
          (s.onCur p.q fun k => { k with ended := none }).runLaunch c 0 l

/-- Replay a copy on one free channel, from its first byte. -/
def State.startCopyReplay (s : State) (p : Suspect) : State :=
  match s.poolChans, s.freeComp with
  | x :: _, some c =>
    let orig := ((s.ctxs.find p.ctx).map (·.comp)).getD 0
    let s := (s.buildQuarantine c orig [] [x]).setSuspect p { p with replay := some c }
    s.onCur p.q fun k => { k with chan := some x, pos := 0, unitAt := s.aon.dt, ended := none }
  | _, _ => s.lacks p

/-- The suspects that wait for their replay. -/
def State.waitingSuspects (s : State) : List Suspect := s.suspects.filter fun p => p.replay.isNone

/-- QUARANTINE_REPLAY: management firmware replays the next suspect, that of the lowest context, where none is being replayed. `portUse`: its
program uses a port SEND or RECV, and so cannot be replayed (R415). -/
def execQuarantineReplay (ctx : Nat) (portUse : Bool) (s : State) : Out :=
  checked (decide (ctx < 40960))
    (let w := s.waitingSuspects
     if s.suspects.any (fun p => p.replay.isSome) || w.any fun p => decide (p.ctx < ctx) then s
     else
       match w.find? fun p => p.ctx == ctx with
       | none => s
       | some p =>
         match (s.ring p.q).cur with
         | none => s.judged p
         | some k =>
           if portUse && k.rec_.opcode == 1 then s.unresolved p
           else
             match k.rec_.opcode with
             | 1 => s.startReplay p k
             | 2 | 3 | 4 => s.startCopyReplay p
             | _ => (s.setSuspect p { p with replay := some 64 }).onCur p.q fun k => { k with started := false, ended := none })

/-- QUARANTINE_OUTCOME: a replay has ended. `clean`: it completed, the context is CLEARED and its command completes as the replay did; `hang`: it
hung, the context is GUILTY until it is destroyed, and its command completes ABORTED (R415). -/
def execQuarantineOutcome (ctx : Nat) (o : ReplayEnd) (s : State) : Out :=
  checked (decide (ctx < 40960))
    (match s.suspects.find? fun p => p.ctx == ctx && p.replay.isSome with
     | none => s
     | some p =>
       let past := ((s.ring p.q).cur.map fun k => k.ended.isSome).getD true
       match o with
       | .clean => if past && !p.hung then ((s.verdict causeCleared ctx).judged p).hangCleared p else s
       | .hang =>
         if !p.hung then s
         else
           let s := s.onCtx ctx fun c => { c with guilty := true }
           (((s.verdict causeGuilty ctx).judged p).hangUnclear p).endAborted p)

/-! ## Commands past the maximum of their class (R390, R392) -/

/-- The class of a command (R390), as R403's code counts them from 0x10: LAUNCH, copies, TABLE_SYNC, INVALIDATE, CTX_DESTROY, the others. -/
def spanClass (opcode : Nat) : Nat :=
  match opcode with
  | 1 => 0
  | 2 | 3 | 4 => 1
  | 5 => 2
  | 6 => 3
  | 0x41 => 4
  | _ => 5

/-- The maximum of a class, the launch's apart. -/
def spanMax (cls : Nat) : Nat := [0, us 1000, us 6000, us 2000, us 3000, us 100].getD cls 0

/-- The cores of a launch that have been asked to stop and have not reached their tile boundary within 10 tile budgets. -/
def State.pastSpan (s : State) (c lane : Nat) (l : Launch) : List Nat :=
  l.cores.filter fun n =>
    let x := s.core n lane
    match x.status with
    | .stopping _ => s.busyFor c n lane && decide (x.stopAt + 10 * s.tileBudget c ≤ s.aon.dt)
    | _ => false

/-- End a hung command: ABORTED, its sig fence signalled so, with a WATCHDOG record of its class, and its engine handed to the ladder. -/
def State.spanHung (s : State) (q : QRef) (k : Cur) (e : Engine) : State :=
  let ctx := ((s.ringCtx q).map (·.1)).getD noCtx
  let c := (s.ringComp q).getD 0xFF
  let s := s.endCommand q 1 0 0
  (s.report (engineIsl e) 0x0B c (engineNo e) ctx 0 0 (0x10 + spanClass k.rec_.opcode) [] .none).1.toLadder e

/-- SPAN_HANG: the non-preemptible span of a queue's command has passed the maximum of its class (R390, R392): a launch that a core of it keeps from
its tile boundary, a copy whose unit does not end, any other command as a whole. A suspended part of the launch is discarded (R388). -/
def execSpanHang (q : QRef) (s : State) : Out :=
  checked true
    (match (s.ring q).cur with
     | none => s
     | some k =>
       if !k.started || k.ended.isSome || s.suspected q then s
       else if k.rec_.opcode = 1 then
         match s.launches.find? fun e => e.2.q == q && !e.2.step with
         | none => s
         | some (key, l) =>
           match s.pastSpan (key / 2) (key % 2) l with
           | [] => s
           | n :: _ =>
             let s := s.spanHung q k (.core n (key % 2))
             (s.onLaunch (key / 2) (key % 2) fun l => { l with recorded := true }).markAborting key
       else if k.unitAt + spanMax (spanClass k.rec_.opcode) ≤ s.aon.dt then
         match k.chan with
         | some x => s.spanHung q k (.chan x)
         | none => s.spanHung q k (.cp (((s.ringComp q).map s.homeCp).getD 0))
       else s)

end Sys2Proof.Machine
end

