-- ==== Sys2Proof/Machine/Power.lean ====
section
/-! DEFINITION. Machine/Power.lean: the feeds (R444 to R448), power targets and the controller (R449 to R453), device protection (R454), the
sideband signals that follow from them (R460). -/
namespace Sys2Proof.Machine

/-- The state with the power controller's own state changed. -/
def State.onPower (s : State) (f : Power → Power) : State := { s with power := f s.power }

/-- The state of the device (R463): 0 IN_SERVICE, 1 HOLDING, 2 DRYDOWN, 3 PARKED. -/
def State.devState (s : State) : Nat := s.fld F.PWR_TARGET_STATUS_dev_state 0

/-- The power event on the management network (R445). -/
def State.powerEvent (s : State) (what : Nat) : State := s.noticeAll 6 what

/-! ## The ceiling (R449, R450) -/

/-- The ceiling line L(t) at the present DT: the old value until 5 ms after the firing, then toward the target at the slew in force. -/
def State.ceiling (s : State) : Nat :=
  let target := s.fld F.PWR_TARGET_STATUS_target 0
  let t0 := s.power.lineAt + us 5000
  let moved := (s.aon.dt - t0) * s.fld F.PWR_TARGET_STATUS_slew 0 / 2000000
  if s.power.lineFrom ≤ target then min target (s.power.lineFrom + moved) else max target (s.power.lineFrom - moved)

/-- A ceiling target takes effect: the line starts from where it is. -/
def State.setTarget (s : State) (watts slew : Nat) : State :=
  let from_ := s.ceiling
  let s := (s.setFld F.PWR_TARGET_STATUS_target 0 watts).setFld F.PWR_TARGET_STATUS_slew 0 slew
  let s := ((s.setFld F.PWR_TARGET_STATUS_reached 0 0).setFld F.PWR_TARGET_STATUS_unreachable 0 0).setFld F.PWR_TARGET_STATUS_ceiling 0 from_
  s.onPower fun p => { p with lineFrom := from_, lineAt := s.aon.dt }

/-- A target of 240 W or more that replaces what HOLD or a drydown had in force. -/
def State.ownTarget (s : State) (t : Target) : State := (s.setTarget t.watts t.slew).onPower fun p => { p with beforeHold := none }

/-! ## Drydown's start and the way out of PARKED (R455, R456) -/

/-- The causes of a drydown. -/
def dryPolicy : Nat := 1
/-- A drydown of R446. -/
def dryFeed : Nat := 2
/-- A drydown target. -/
def dryTarget : Nat := 3

/-- The copies that run stop: their commands complete ABORTED (R376). -/
def State.stopCopies (s : State) : State :=
  s.queues.foldl (fun s e =>
    match e.2.cur with
    | some k =>
      if k.started && k.ended.isNone && decide (2 ≤ k.rec_.opcode) && decide (k.rec_.opcode ≤ 4) then s.endCommand (.queue e.1) 1 0 0 else s
    | none => s) s

/-- Step 1 of a drydown: dev_state, the cause, what was in force before, the copies stopped, the mailbox message to every function (R376, R455,
R461). A second request changes nothing (R456). -/
def State.startDrydown (s : State) (cause : Nat) : State :=
  if 2 ≤ s.devState then s
  else
    let up := (List.range 8).filter fun k => s.portUp k
    let back := s.returnDt
    let s := (s.setFld F.PWR_TARGET_STATUS_dev_state 0 2).setFld F.PWR_TARGET_STATUS_dry_cause 0 cause
    let s := s.onPower fun p =>
      { p with dryStep := 1, dryAt := s.aon.dt, upPorts := up,
               beforeDry := some (s.fld F.PWR_TARGET_STATUS_target 0, s.fld F.PWR_TARGET_STATUS_slew 0) }
    let s := s.stopCopies
    (List.range 64).foldl (fun s c => if (s.attached c).isSome then s.mbxSend c 3 (leBytes 8 s.aon.dt ++ leBytes 8 back) else s) s

/-- Whether a domain is ON in service and in the holding state (R36): CL domains where bound, those of a port where it is fitted, the others always. -/
def State.inService (s : State) (i : Nat) : Bool :=
  match domKind i with
  | .cl => s.clusterBound i
  | .prt => s.flacon.hasPort (i - 120)
  | .atm => s.flacon.hasPort (i - 128)
  | .fab => i == 141 || i == 142 || i == 145 || i == 146 || (List.range 8).any fun k => edgeOf k == i && s.flacon.hasPort k
  | _ => true

/-- Leave PARKED: memory out of RETAIN, fabric and ports ON, the ports that were UP brought up, and the holding state; with the ceiling that was
in force before the drydown unless a target has taken effect since (R456). -/
def State.leavePark (s : State) : State :=
  let s := (((List.range 24).map (84 + ·)) ++ ((List.range 12).map (108 + ·)) ++ ((List.range 8).map (140 + ·)) ++
    ((List.range 16).map (120 + ·))).foldl (fun (s : State) (i : Nat) => if s.inService i then s.requestDom i .on false else s) s
  let s := s.power.upPorts.foldl (fun (s : State) (k : Nat) => s.startBringUp k) s
  let s := (s.setFld F.PWR_TARGET_STATUS_dev_state 0 1).setFld F.PWR_TARGET_STATUS_dry_cause 0 0
  let s := match s.power.beforeDry with
    | some (w, slew) => s.setTarget w slew
    | none => s
  s.onPower fun p => { p with dryStep := 0, upPorts := [], beforeDry := none }

/-! ## Targets (R449, R456) -/

/-- Fire a target. A drydown target starts drydown, and is ignored during one; another is held during drydown, and ends a PARKED state that a
drydown target had brought about (R449, R456). -/
def State.fireTarget (s : State) (t : Target) : State :=
  if t.watts < 240 then s.startDrydown dryTarget
  else if s.devState = 2 then s.onPower fun p => { p with held := p.held ++ [t] }
  else if s.devState = 3 then
    let s := (s.ownTarget t).onPower fun p => { p with beforeDry := none }
    if s.fld F.PWR_TARGET_STATUS_dry_cause 0 = dryTarget then s.leavePark else s
  else s.ownTarget t

/-- Show how many targets are pending. -/
def State.showTargets (s : State) : State := s.setFld F.PWR_TARGET_STATUS_pending 0 s.power.targets.length

/-- PWR_TARGET_COMMIT: a write of PWR_TARGET with commit places a target for PWR_TARGET_DT, or is refused; a DT of 0 fires it at once (R449, R300).
A write without commit has no effect. -/
def execPwrTargetCommit (v : Word) (s : State) : Out :=
  checked true
    (if F.PWR_TARGET_commit.of v = 0 then s
     else
       let w := F.PWR_TARGET_watts.of v
       let slew := F.PWR_TARGET_slew.of v
       let dt := (s.reg .PWR_TARGET_DT 0).toNat
       let result (r : Nat) (s : State) : State := s.setFld F.PWR_TARGET_STATUS_last_result 0 r
       let others := s.power.targets.filter fun t => t.dt != dt
       if 3000 < w ∨ (240 ≤ w ∧ (slew = 0 ∨ 200 < slew)) then result 1 s
       else if s.aon.dt + 2 ^ 48 < dt then result 2 s
       else if dt = 0 then result 0 (s.fireTarget { dt := s.aon.dt, watts := w, slew := slew })
       else if 16 ≤ others.length then result 3 s
       else result 0 (s.onPower fun p => { p with targets := others ++ [{ dt := dt, watts := w, slew := slew }] }).showTargets)

/-- The pending target with the earliest DT. -/
def State.nextTarget (s : State) : Option Target :=
  match s.power.targets with
  | [] => none
  | t :: ts => some (ts.foldl (fun m x => if x.dt < m.dt then x else m) t)

/-- POWER_TARGET_FIRE: the DT of the earliest pending target has come: it fires; a late one writes a TIMED record (R299, R300, R449). -/
def execPowerTargetFire (s : State) : Out :=
  checked true
    (match s.nextTarget with
     | none => s
     | some t =>
       if !s.aon.dtRuns || decide (s.aon.dt < t.dt) then s
       else
         let s := (s.onPower fun p => { p with targets := p.targets.erase t }).showTargets
         let late := s.aon.dt - t.dt
         (s.when (decide (4 < late)) fun s => s.lateRecord 255 0xFF (engineCode 0 0) noCtx late).fireTarget t)

/-! ## Feeds (R444 to R448) -/

/-- PWR_FEED_STATUS shows the feeds. -/
def State.showFeeds (s : State) : State :=
  let p := s.power
  ((((s.setFld F.PWR_FEED_STATUS_active 0 p.active).setFld F.PWR_FEED_STATUS_main_state 0 p.main).setFld F.PWR_FEED_STATUS_backup_state 0 p.backup).setFld
    F.PWR_FEED_STATUS_main_v 0 (p.mainV % 1024)).setFld F.PWR_FEED_STATUS_backup_v 0 (p.backupV % 1024)

/-- The state of feed `b`, false MAIN, true BACKUP. -/
def Power.feed (p : Power) (b : Bool) : Nat := if b then p.backup else p.main

/-- The state with a feed's state and voltage changed. -/
def State.setFeedState (s : State) (b : Bool) (st dv : Nat) : State :=
  (s.onPower fun p => if b then { p with backup := st, backupV := dv } else { p with main := st, mainV := dv }).showFeeds

/-- Note since when exactly one feed has been GOOD (R446). -/
def State.noteSingle (s : State) : State :=
  let p := s.power
  if (p.main == 2) == (p.backup == 2) then s.onPower fun p => { p with singleAt := none, singleDone := false }
  else if p.singleAt.isSome then s
  else s.onPower fun p => { p with singleAt := some s.aon.dt, singleDone := false }

/-- Make the other feed active (R445). -/
def State.switchFeed (s : State) : State :=
  let s := (s.onPower fun p => { p with active := 1 - p.active }).showFeeds
  ((s.setFld F.PWR_FEED_STATUS_switch_stk 0 1).bump F.PWR_FEED_STATUS_switches 0 1).powerEvent 1

/-- The last 52 records of the device fault log, oldest first (R448). -/
def State.lastFaults (s : State) : List Byte :=
  let n := min 52 s.logWr
  (List.range n).flatMap fun i => s.bytes (logBase + (s.logWr - n + i) % 65536 * 64) 64

/-- The last-gasp record (R448), as the registers stand now. -/
def State.gaspRecord (s : State) : List Byte :=
  let comps := (List.range 64).flatMap fun c =>
    leBytes 2 (bits (s.regView .CMP_STATUS c).toNat 63 48) ++ leBytes 2 (bits (s.regView .CMP_EPOCH c).toNat 15 0) ++ zeros 4
  let faults := s.lastFaults
  asciiBytes "ULKGASP1" ++ leBytes 8 s.aon.dt ++ leBytes 4 (s.flacon.gaspCount + 1) ++ leBytes 1 (if s.devState = 2 then 2 else 1) ++
    leBytes 1 s.devState ++ zeros 2 ++ leBytes 8 (s.regView .PWR_FEED_STATUS 0).toNat ++ leBytes 8 (s.regView .PWR_TARGET_STATUS 0).toNat ++
    leBytes 8 (s.regView .PWR_MEAS 0).toNat ++ leBytes 8 s.logWr ++ leBytes 8 (s.regView .CMP_TWIN_ACK 0).toNat ++ zeros 192 ++ comps ++ faults ++
    zeros (3328 - faults.length)

/-- PWR_LASTGASP shows the last-gasp area. -/
def State.showGasps (s : State) : State :=
  (s.setFld F.PWR_LASTGASP_count 0 s.flacon.gaspCount).setFld F.PWR_LASTGASP_last 0 s.flacon.gaspLast

/-- Management firmware writes the last-gasp record to the next slot of the ring (R421, R448). -/
def State.writeGasp (s : State) (body : List Byte) : State :=
  let slot := if s.flacon.gaspCount = 0 then 0 else (s.flacon.gaspLast + 1) % 1024
  (s.onFlacon fun f => { f with gasps := f.gasps.put slot body, gaspCount := f.gaspCount + 1, gaspLast := slot }).showGasps

/-- Isolate every domain other than AON, NM and FMP without drain; those go into RETAIN (R447 step 1). The seam segments
are isolated but not OFF (R26). -/
def State.isolateAll (s : State) : State :=
  let s := (List.range 148).foldl (fun s i =>
    match domKind i with
    | .nm | .fmp => if s.domOn i then s.setDom i { (s.dom i).afterReset with state := .retain } else s
    | .seam => s.isolate i false
    | _ => (s.isolate i false).setDom i { (s.dom i).afterReset with state := .off, lock := false }) s
  { s with ladderOn := List.range 148, outst := [], nacked := [], replies := [], heldAcc := [], misses := [], stalls := [] }

/-- Both feeds are in FAIL: isolation and the last-gasp record (R447, R448). -/
def State.bothFail (s : State) : State :=
  let body := s.gaspRecord
  (s.isolateAll.writeGasp body).onPower fun p => { p with bothFailed := some s.aon.dt, carried := false }

/-- AON loses power: device time, key slots and memory are lost; the flacon, the pins and what lies outside the device stay (R293, R433, R447). -/
def State.powerLoss (s : State) : State :=
  { State.reset with
    pending := s.pending
    aon := { State.reset.aon with powered := false, stage := .off, resetPin := s.aon.resetPin }
    hostMem := s.hostMem
    hosts := s.hosts.map fun (e : Nat × HostPort) => (e.1, { HostPort.init with perst := e.2.perst })
    flacon := s.flacon
    outputs := s.outputs
    power := { State.reset.power with main := s.power.main, backup := s.power.backup, mainV := s.power.mainV, backupV := s.power.backupV }
    freeCtr := s.freeCtr }

/-- Whether a feed's voltage, in 100 mV, lies outside the bounds of FAIL (R444). -/
def failVolts (dv : Nat) : Bool := decide (dv < 470) || decide (620 < dv)

/-- Whether it lies within 48 V to 60 V. -/
def goodVolts (dv : Nat) : Bool := decide (480 ≤ dv) && decide (dv ≤ 600)

/-- FEED_FAIL: a feed enters FAIL: its sticky bit and the power event; the other feed takes over where it is GOOD; with both in FAIL the device isolates
its domains and writes the last-gasp record; a returning feed that fails again before it is GOOD leaves AON without power (R444, R445, R447). -/
def execFeedFail (b : Bool) (dv : Nat) (s : State) : Out :=
  checked (decide (dv < 1024))
    (if !failVolts dv || s.power.feed b == 0 then s
     else if !s.aon.powered then s.setFeedState b 0 dv
     else
       let s := (s.setFeedState b 0 dv).setFld (if b then F.PWR_FEED_STATUS_backup_fail_stk else F.PWR_FEED_STATUS_main_fail_stk) 0 1
       let s := s.powerEvent (if b then 3 else 2)
       if s.power.main = 0 ∧ s.power.backup = 0 then
         if s.power.bothFailed.isSome then s.powerLoss else s.bothFail
       else
         let s := if s.power.active = b.toNat ∧ s.power.feed (!b) = 2 then s.switchFeed else s
         s.noteSingle)

/-- FEED_QUALIFY: a FAIL feed has returned within 48 V to 60 V: QUALIFYING; where both had failed it carries AON (R444, R447). -/
def execFeedQualify (b : Bool) (dv : Nat) (s : State) : Out :=
  checked (decide (dv < 1024))
    (if !goodVolts dv || s.power.feed b != 0 then s
     else (s.setFeedState b 1 dv).onPower fun p => if p.bothFailed.isSome then { p with carried := true } else p)

/-- The active feed as start-up picks it: MAIN if GOOD, else BACKUP (R444). -/
def State.pickFeed (s : State) : State := (s.onPower fun p => { p with active := if p.main = 2 then 0 else 1 }).showFeeds

/-- FEED_GOOD: a QUALIFYING feed has stayed within range for 100 ms. From unpowered, the AON rails rise (R462 stage 1); after both had failed, a
device reset completes (R447); else a device whose active feed has failed draws from it, an on_single hold ends, and a drydown of cause FEED is
left, once both are GOOD (R444 to R446, R456). -/
def execFeedGood (b : Bool) (dv : Nat) (s : State) : Out :=
  checked (decide (dv < 1024))
    (if !goodVolts dv || s.power.feed b != 1 then s
     else
       let s := s.setFeedState b 2 dv
       if !s.aon.powered then
         { s.pickFeed with aon := { s.aon with powered := true, stage := .aon, intKey := Config.integrityKey (s.freeCtr + 1) }, freeCtr := s.freeCtr + 1 }
       else if s.power.bothFailed.isSome then (s.onPower fun p => { p with bothFailed := none, carried := false }).deviceReset.pickFeed.noteSingle
       else
         let s := if s.power.active ≠ b.toNat ∧ s.power.feed (!b) = 0 then s.switchFeed else s
         let s := s.noteSingle
         if s.power.main = 2 ∧ s.power.backup = 2 then
           let s := match s.power.beforeHold with
             | some (w, slew) => (s.setTarget w slew).onPower fun p => { p with beforeHold := none }
             | none => s
           if s.devState = 3 ∧ s.fld F.PWR_TARGET_STATUS_dry_cause 0 = dryFeed then s.leavePark else s
         else s)

/-- Whether exactly one feed has been GOOD for single_delay_ms (R446). -/
def State.singleDue (s : State) : Bool :=
  match s.power.singleAt with
  | none => false
  | some t => !s.power.singleDone && decide (t + s.fld F.PWR_POLICY_single_delay_ms 0 * 2000000 ≤ s.aon.dt)

/-- SINGLE_FEED_TIMEOUT: exactly one feed has been GOOD for single_delay_ms: the device acts under on_single (R446). -/
def execSingleFeedTimeout (s : State) : Out :=
  checked true
    (if !s.singleDue then s
     else
       let s := s.onPower fun p => { p with singleDone := true }
       match s.fld F.PWR_POLICY_on_single 0 with
       | 1 =>
         if 2 ≤ s.devState then s
         else
           let was := (s.fld F.PWR_TARGET_STATUS_target 0, s.fld F.PWR_TARGET_STATUS_slew 0)
           (s.setTarget 240 was.2).onPower fun p => { p with beforeHold := some was }
       | 2 => s.startDrydown dryFeed
       | _ => s)

/-- HOLDUP_EXHAUSTED: the hold-up is exhausted with no feed back within range: AON loses power (R447 step 3). -/
def execHoldupExhausted (s : State) : Out :=
  checked true (if s.power.bothFailed.isSome && !s.power.carried then s.powerLoss else s)

/-! ## The controller (R451 to R453) -/

/-- The bound CL islands that are ON (R451). -/
def State.boundOn (s : State) : List Nat := (List.range 84).filter fun cl => s.domOn cl && s.clusterBound cl

/-- Lower the clock of the islands of a list by 50 MHz, not below `floor`. -/
def State.lowerClocks (s : State) (l : List Nat) (floor : Nat) : State :=
  l.foldl (fun s i => s.setMhz i (max (min (s.dom i).mhz floor) ((s.dom i).mhz - 50))) s

/-- Raise the clock of the islands of a list by 50 MHz, not above 1.9 GHz; one that its temperature holds down stays (R454). -/
def State.raiseClocks (s : State) (l : List Nat) : State :=
  l.foldl (fun s i => if s.power.hot.contains i then s else s.setMhz i (min 1900 ((s.dom i).mhz + 50))) s

/-- Whether no request of a half is under way: its fabric segments have no traffic (R451 step 1; DEDUCED, log 65). -/
def State.quiet (s : State) (i : Nat) : Bool := !s.outst.any fun e => islEast (e.1 / 65536) == islEast i

/-- The fabric segments without traffic whose clock is one of `l`. -/
def State.fabAt (s : State) (l : List Nat) (idle : Bool) : List Nat :=
  ((List.range 8).map (140 + ·)).filter fun i => s.domOn i && l.contains (s.dom i).mhz && (!idle || s.quiet i)

/-- Whether a composition holds a real-time context (R451). -/
def State.holdsRt (s : State) (c : Nat) : Bool := s.ctxs.any fun e => e.2.comp == c && e.2.rt

/-- The compositions that a target may park, in the order of R451: ascending park_order, then ascending number. -/
def State.parkable (s : State) : List Nat :=
  let ok := (List.range 64).filter fun c => (s.cmpState c == 2 || s.cmpState c == 8) && s.fld F.PWR_COMP_CFG_park_order c != 255 && !s.holdsRt c
  (List.range 255).flatMap fun o => ok.filter fun c => s.fld F.PWR_COMP_CFG_park_order c == o

/-- The power-parked compositions, in the order in which they are resumed: descending park_order, then descending number. -/
def State.resumable (s : State) : List Nat :=
  let ok := (List.range 64).filter fun c => s.cmpState c == 5 && s.fld F.PWR_COMP_CFG_power_parked c == 1
  (List.range 256).reverse.flatMap fun o => ok.reverse.filter fun c => s.fld F.PWR_COMP_CFG_park_order c == o

/-- The CL islands of a composition's cores. -/
def State.clustersOf (s : State) (c : Nat) : List Nat := ((s.coreOwner.filter fun e => e.2.comp == c).map fun e => e.1 / 8).eraseDups

/-- Lower the draw by the next action of R451: fabric clocks, CL clocks to 1.2 GHz, a park with its clusters at 0.6 GHz, the other CL clocks to 0.6 GHz;
unreachable where nothing is left. -/
def State.lowerDraw (s : State) : State :=
  let fab8 := s.fabAt [1600] true
  let fab4 := s.fabAt [800] true
  let fast := s.boundOn.filter fun i => decide (1200 < (s.dom i).mhz)
  let slow := s.boundOn.filter fun i => decide (600 < (s.dom i).mhz)
  if !fab8.isEmpty then fab8.foldl (fun s i => s.setMhz i 800) s
  else if !fab4.isEmpty then fab4.foldl (fun s i => s.setMhz i 400) s
  else if !fast.isEmpty then s.lowerClocks fast 1200
  else
    match s.parkable with
    | c :: _ => ((s.clustersOf c).foldl (fun s i => if s.domOn i then s.setMhz i 600 else s) s).powerPark c
    | [] => if !slow.isEmpty then s.lowerClocks slow 600 else s.setFld F.PWR_TARGET_STATUS_unreachable 0 1

/-- Raise the draw by the next action: a power-parked composition resumes, clocks last (R451, R452). -/
def State.raiseDraw (s : State) : State :=
  let fits := s.resumable.find? fun c => (s.resumeRecord c).isSome
  match fits with
  | some c => s.powerResume c
  | none =>
    let slow := s.boundOn.filter fun i => decide ((s.dom i).mhz < 1900) && !s.power.hot.contains i
    let fab4 := s.fabAt [400] false
    let fab8 := s.fabAt [800] false
    if s.power.packageHot then s
    else if !slow.isEmpty then s.raiseClocks slow
    else if !fab4.isEmpty then fab4.foldl (fun s i => s.setMhz i 800) s
    else fab8.foldl (fun s i => s.setMhz i 1600) s

/-- Whether the holding state is reached: a target of 240 W, nothing left to park, every bound CL domain OFF (R449, R453). -/
def State.holds240 (s : State) : Bool := s.fld F.PWR_TARGET_STATUS_target 0 == 240 && s.parkable.isEmpty && s.boundOn.isEmpty

/-- dev_state between IN_SERVICE and HOLDING (R453). -/
def State.judgeHolding (s : State) : State :=
  if s.devState = 0 ∧ s.holds240 then s.setFld F.PWR_TARGET_STATUS_dev_state 0 1
  else if s.devState = 1 ∧ s.fld F.PWR_TARGET_STATUS_target 0 ≠ 240 ∧ (!s.boundOn.isEmpty || s.resumable.isEmpty) then
    s.setFld F.PWR_TARGET_STATUS_dev_state 0 0
  else s

/-- Whether the draw may rise by another action: at most slew × 1 ms from window to window, and below the line (R450; DEDUCED, log 66). -/
def State.mayRaise (s : State) (watts : Nat) : Bool := decide (watts + s.fld F.PWR_TARGET_STATUS_slew 0 ≤ s.ceiling)

/-- POWER_WINDOW: a 1 ms window ends with this mean draw, in W: the measurement and the energy, the line, reached; the package limit; the controller
takes its next action (R450 to R454). -/
def execPowerWindow (watts : Nat) (s : State) : Out :=
  checked (decide (watts < 65536))
    (if s.aon.stage ≠ .running ∨ s.power.bothFailed.isSome then s
     else
       let s := s.setFld F.PWR_MEAS_avg_w 0 watts
       let s := s.setReg .PWR_ENERGY 0 (s.reg .PWR_ENERGY 0 + BitVec.ofNat 64 watts)
       let line := s.ceiling
       let target := s.fld F.PWR_TARGET_STATUS_target 0
       let s := s.setFld F.PWR_TARGET_STATUS_ceiling 0 line
       let s := s.when (line == target && decide (100 * watts ≤ 102 * target)) fun s => s.setFld F.PWR_TARGET_STATUS_reached 0 1
       let s := s.onPower fun p => { p with packageHot := decide (3000 < watts) || (p.packageHot && decide (2950 ≤ watts)) }
       let s := s.setFld F.PWR_THERM_throttling 0 (if s.power.packageHot || !s.power.hot.isEmpty then 1 else 0)
       if 2 ≤ s.devState then s
       else
         let s := if line < watts then s.lowerDraw
           else if s.mayRaise watts then (s.setFld F.PWR_TARGET_STATUS_unreachable 0 0).raiseDraw
           else s
         s.judgeHolding)

/-! ## Device protection (R454) -/

/-- The derate factor of a level that rises at thresholds and falls 3 °C below them: the greatest threshold index in force. -/
def thermLevel (was temp : Nat) (ts : List Nat) : Nat :=
  let up := (ts.filter fun t => decide (t ≤ temp)).length
  let keep := (ts.filter fun t => decide (t ≤ temp + 2)).length
  if was ≤ up then up else min was keep

/-- The thresholds of an NM stack, of an FMP pair. -/
def nmSteps : List Nat := [88, 91, 93, 95]
/-- The thresholds of an FMP pair; an island trips at 95 °C. -/
def fmpSteps : List Nat := [91, 93, 95]

/-- The factor, in hundredths, at a level. -/
def nmFactor (level : Nat) : Nat := [100, 90, 75, 50].getD level 0
/-- The far-memory factor at a level. -/
def fmpFactor (level : Nat) : Nat := [100, 75, 50].getD level 0

/-- The level that an island stands at. -/
def levelOf (factor : Nat → Nat) (derated nominal : Nat) : Nat := ((List.range 4).find? fun l => nominal * factor l / 100 ≤ derated).getD 4

/-- The lowest far-memory factor of the FMP pairs that are fitted and not failed, by their temperatures (R192, R454). -/
def State.farLevel (s : State) : Nat :=
  ((List.range 12).map fun j => let d := s.dom (108 + j)
                                if d.tripped then 3 else thermLevel 0 d.temp fmpSteps).foldl max 0

/-- A port whose PRT or ATM island is tripped has failed: both its resources have the factor 0, until that is over (R192, R454). -/
def State.deratePort (s : State) (k : Nat) : State :=
  let factor := if (s.dom (120 + k)).tripped || (s.dom (128 + k)).tripped then 0 else 100
  (s.setDerate (32 + k) factor (s.fld F.PRT_STATUS_deg_tx k == 1)).setDerate (40 + k) factor (s.fld F.PRT_STATUS_deg_rx k == 1)

/-- The derate of the resource that island `i` is, after its temperature has changed (R192, R454). -/
def State.derateIsl (s : State) (i : Nat) : State :=
  match domKind i with
  | .nm =>
    let was := levelOf nmFactor (s.fld F.MEM_RES_STATUS_derated (i - 84)) 1500
    let l := if (s.dom i).tripped then 4 else thermLevel (min was 3) (s.dom i).temp nmSteps
    s.setDerate (i - 84) (nmFactor l) false
  | .fmp =>
    let was := levelOf fmpFactor (s.fld F.MEM_RES_STATUS_derated 24) 819
    let up := s.farLevel
    let keep := ((List.range 12).map fun j => let d := s.dom (108 + j)
                                              if d.tripped then 3 else thermLevel 3 d.temp fmpSteps).foldl max 0
    let l := if was ≤ up then up else min was keep
    s.setDerate 24 (fmpFactor l) false
  | .prt => s.deratePort (i - 120)
  | .atm => s.deratePort (i - 128)
  | _ => s

/-- PWR_THERM shows the hottest sensor: of equal ones the lowest identity. -/
def State.showHottest (s : State) : State :=
  let h := (List.range 148).foldl (fun m i => if (s.dom m).temp < (s.dom i).temp then i else m) 0
  (s.setFld F.PWR_THERM_hottest 0 h).setFld F.PWR_THERM_temp 0 ((s.dom h).temp % 256)

/-- An island trips: it and what depends on it, memory in RETAIN apart (R27), are isolated without drain and held OFF; trip_stk; a CL trip parks
every composition that holds the
cluster (R454). -/
def State.trip (s : State) (i : Nat) : State :=
  let s := (s.setDom i { s.dom i with tripped := true }).setFld F.PWR_THERM_trip_stk 0 1
  let held := (List.range 64).filter fun c => (s.coreOwner.any fun e => e.1 / 8 == i && e.2.comp == c) || s.chanOwner.any fun e => e.1 / 16 == i && e.2.comp == c
  let s := ((dependents i).filter fun j => j == i || (s.dom j).state != .retain).foldl (fun s j =>
    let t := s.isolate j true
    (t.setDom j (t.dom j).afterReset).powerOff j .off) s
  (if domKind i = .cl then held.foldl (fun s c => s.powerPark c) s else s).derateIsl i

/-- THERMAL_THRESHOLD: the sensor of an island reads `temp`: a CL island at 90 °C is throttled, memory derated, any island at 95 °C tripped; each
threshold clears 3 °C below (R454, R192). -/
def execThermalThreshold (i temp : Nat) (s : State) : Out :=
  checked (decide (i < 148) && decide (temp < 256))
    (let s := (s.setDom i { s.dom i with temp := temp }).showHottest
     if (s.dom i).tripped then s
     else if 95 ≤ temp then s.trip i
     else
       let s := s.derateIsl i
       if domKind i ≠ .cl then s
       else if 90 ≤ temp then
         let s := (s.setFld F.PWR_THERM_warn_stk 0 1).setFld F.PWR_THERM_throttling 0 1
         s.onPower fun p => { p with hot := if p.hot.contains i then p.hot else p.hot ++ [i] }
       else if temp ≤ 87 then
         let s := s.onPower fun p => { p with hot := p.hot.filter fun j => j != i }
         s.setFld F.PWR_THERM_throttling 0 (if s.power.packageHot || !s.power.hot.isEmpty then 1 else 0)
       else s)

/-- THROTTLE_STEP: 100 µs have passed: the clocks held down by temperature or by the package limit fall by 50 MHz, down to 0.6 GHz (R454). -/
def execThrottleStep (s : State) : Out :=
  checked true
    (let hot := s.power.hot.filter fun i => s.domOn i && decide (89 ≤ (s.dom i).temp)
     let all := if s.power.packageHot then s.boundOn else []
     s.lowerClocks (hot ++ all.filter fun i => !hot.contains i) 600)

/-- TRIP_RECOVER: a tripped island has cooled below 85 °C: it may be woken again, and its resource has its factor back; one that stands ON in the
device's state is woken (R36, R454). -/
def execTripRecover (i temp : Nat) (s : State) : Out :=
  checked (decide (i < 148) && decide (temp < 256))
    (let s := (s.setDom i { s.dom i with temp := temp }).showHottest
     if !(s.dom i).tripped || decide (85 ≤ temp) then s
     else
       let s := (s.setDom i { s.dom i with tripped := false }).derateIsl i
       if s.aon.stage ≠ .running ∨ 2 ≤ s.devState then s
       else if !s.inService i then s
       else s.requestDom i .on false)

/-! ## Sideband signals (R460) -/

/-- PWR_GOOD: a feed is GOOD and the AON rails are in regulation. -/
def State.pwrGood (s : State) : Bool := s.aon.powered && (s.power.main == 2 || s.power.backup == 2)

/-- ALERT_N, true while driven low: a sticky bit of PWR_FEED_STATUS or PWR_THERM is set. -/
def State.alertLow (s : State) : Bool :=
  s.aon.powered && [F.PWR_FEED_STATUS_switch_stk, F.PWR_FEED_STATUS_main_fail_stk, F.PWR_FEED_STATUS_backup_fail_stk, F.PWR_THERM_warn_stk,
    F.PWR_THERM_trip_stk].any fun g => s.fld g 0 == 1

/-- THERM_WARN_N, true while driven low: a CL island stands at its 90 °C threshold. -/
def State.warnLow (s : State) : Bool := s.aon.powered && !s.power.hot.isEmpty

/-- THERM_TRIP_N, true while driven low: an island is tripped. -/
def State.tripLow (s : State) : Bool := s.aon.powered && (List.range 148).any fun i => (s.dom i).tripped

end Sys2Proof.Machine
end

