-- ==== Sys2Proof/Machine/Drydown.lean ====
section
/-! DEFINITION. Machine/Drydown.lean: drydown and the parked state (R455, R456, R36), services (R458, R459), the reset pin (R460), start-up (R462). -/
namespace Sys2Proof.Machine

/-! ## Drydown (R455) -/

/-- DRYDOWN_START: drydown starts: cause 1, drydown = 1 is written in PWR_POLICY; 2, the feeds ask for it under R446; 3, a drydown target is due (R455). A
second request during drydown is ignored (R456). -/
def execDrydownStart (cause : Nat) (s : State) : Out :=
  checked (decide (1 ≤ cause) && decide (cause ≤ 3))
    (match cause with
     | 1 => (s.setFld F.PWR_POLICY_drydown 0 1).startDrydown dryPolicy
     | 2 =>
       if s.singleDue && s.fld F.PWR_POLICY_on_single 0 == 2 then (s.onPower fun p => { p with singleDone := true }).startDrydown dryFeed else s
     | _ =>
       match s.nextTarget with
       | some t =>
         if s.aon.dtRuns && decide (t.dt ≤ s.aon.dt) && decide (t.watts < 240) then
           ((s.onPower fun p => { p with targets := p.targets.erase t }).showTargets).startDrydown dryTarget
         else s
       | none => s)

/-- The state with drydown at a later step. -/
def State.dryTo (s : State) (n : Nat) : State := s.onPower fun p => { p with dryStep := n, dryAt := s.aon.dt }

/-- Whether step 2 of drydown is over: at once in CHECKPOINT; in FINISH once no launch runs, or after finish_ms. -/
def State.finishOver (s : State) : Bool :=
  s.fld F.PWR_POLICY_dry_mode 0 == 0 || s.launches.isEmpty || decide (s.power.dryAt + s.fld F.PWR_POLICY_finish_ms 0 * 2000000 ≤ s.aon.dt)

/-- DRYDOWN_PARK: step 3: every composition that is not FREE, PARKED or STANDBY is parked, and counts as power-parked; running launches are suspended in
their save slots (R333, R455, R456). -/
def execDrydownPark (s : State) : Out :=
  checked true
    (if s.devState ≠ 2 ∨ s.power.dryStep ≠ 1 ∨ !s.finishOver then s
     else ((List.range 64).foldl (fun s c => s.powerPark c) s).dryTo 3)

/-- Whether every composition has parked. -/
def State.allParked (s : State) : Bool := (List.range 64).all fun c => s.cmpState c == 0 || s.cmpState c == 5 || s.cmpState c == 9

/-- DRYDOWN_TWIN_WAIT_END: step 4: with a MIRRORING twin the device has waited until unacked is 0, or for 2 ms (R455). -/
def execDrydownTwinWaitEnd (s : State) : Out :=
  checked true
    (if s.devState ≠ 2 ∨ s.power.dryStep ≠ 3 ∨ !s.allParked then s
     else if s.fld F.CMP_TWIN_state 0 = 2 ∧ s.fld F.CMP_TWIN_unacked 0 ≠ 0 ∧ s.aon.dt < s.power.dryAt + us 2000 then s
     else s.dryTo 4)

/-- DRYDOWN_PORTS: step 5: every UP port runs R289 with reason DRYDOWN (R289, R455). -/
def execDrydownPorts (s : State) : Out :=
  checked true
    (if s.devState ≠ 2 ∨ s.power.dryStep ≠ 4 then s
     else ((List.range 8).foldl (fun s k => s.startAway k 1) s).dryTo 5)

/-- The state of a domain in the parked row of R36. -/
def parkedState (i : Nat) : DomState :=
  match domKind i with
  | .nm | .fmp => .retain
  | .hst | .seam => .on
  | .fab => if i = 141 ∨ i = 146 then .on else .off
  | .cl | .prt | .atm => .off

/-- Bring a domain into the parked row (R36, R290): memory into RETAIN, one that is OFF with contents it has lost; the mesh segments of the
command processors ON; a tripped one stays OFF (R454). -/
def State.parkDom (s : State) (i : Nat) : State :=
  let d := s.dom i
  match parkedState i with
  | .on => if s.domOn i || d.tripped then s else (s.setDom i d.afterReset).comeOn i
  | .retain => if d.state = .retain ∨ d.tripped then s else s.setDom i { d.afterReset with state := .retain }
  | .off =>
    if d.state = .off then s
    else
      (s.setDom i d.afterReset).powerOff i .off

/-- The order in which the domains go to the parked row: those that stay ON first, those that others depend on before them (R27). -/
def parkOrder : List Nat := [136, 137, 141, 146, 138, 139] ++ (List.range 148).filter fun i => parkedState i != .on

/-- Whether a device that has just become PARKED leaves that state again: a drydown target's drydown met a held target, or one of cause FEED finds
both feeds GOOD (R456). -/
def State.leavesAtOnce (s : State) (held : List Target) : Bool :=
  let cause := s.fld F.PWR_TARGET_STATUS_dry_cause 0
  (!held.isEmpty && cause == dryTarget) || (cause == dryFeed && s.power.main == 2 && s.power.backup == 2)

/-- DRYDOWN_PARKED: step 6: once the ports are gone, or after step 5's bound, the domains go to the parked row and dev_state becomes PARKED; targets
held during the drydown take effect, and the device leaves the state again where R456 lets it (R36, R455, R456). -/
def execDrydownParked (s : State) : Out :=
  checked true
    (if s.devState ≠ 2 ∨ s.power.dryStep ≠ 5 then s
     else if ((List.range 8).any fun k => s.portUp k) && decide (s.aon.dt < s.power.dryAt + us 56) then s
     else
       let s := (parkOrder.foldl (fun s i => s.parkDom i) s).dryTo 6
       let s := s.setFld F.PWR_TARGET_STATUS_dev_state 0 3
       let held := s.power.held
       let s := s.onPower fun p => { p with held := [] }
       let s := held.foldl (fun s t => (s.ownTarget t).onPower fun p => { p with beforeDry := none }) s
       if s.leavesAtOnce held then s.leavePark else s)

/-- LEAVE_PARKED: the operator writes 0 to drydown in PWR_POLICY: a PARKED device leaves that state, whatever the cause (R456, R463). -/
def execLeaveParked (s : State) : Out :=
  checked true
    (let s := s.setFld F.PWR_POLICY_drydown 0 0
     if s.devState = 3 then s.leavePark else s)

/-! ## Services (R458, R459) -/

/-- The results of PWR_SVC_CTL. -/
def svcOk : Nat := 0
/-- A reload is in progress. -/
def svcBusy : Nat := 1
/-- An island that does not suit, or an image that does not verify. -/
def svcInvalid : Nat := 2
/-- No spare. -/
def svcNoSpare : Nat := 3

/-- Set svc_result. -/
def State.svcResult (s : State) (r : Nat) : State := s.setFld F.PWR_DOM_STATUS_svc_result 0 r

/-- The command processors of the half of island `i`. -/
def cpsOf (i : Nat) : List Nat := (List.range 16).filter fun p => islEast (cpIsl p) == islEast i

/-- RELOAD_CP: PWR_SVC_CTL action 1 with a FAB island of the half: its processors take no further command; refused with BUSY while one is in
progress, with INVALID for another island (R458, R459, R463). -/
def execReloadCp (i : Nat) (s : State) : Out :=
  checked (decide (i < 256))
    (if s.fld F.PWR_DOM_STATUS_svc_busy 0 = 1 then s.svcResult svcBusy
     else if i < 140 ∨ 147 < i then s.svcResult svcInvalid
     else
       let s := (s.setFld F.PWR_DOM_STATUS_svc_busy 0 1).onPower fun p => { p with svc := some (1, i) }
       (cpsOf i).foldl (fun s p => s.setCp p { s.cp p with reload := true }) s)

/-- RELOAD_CP_DONE: the command-processor part of image next has been verified and loaded, and measurement 3 updated; or the old firmware restarts and
the reload is refused with INVALID. The processors restart with the doorbells and pulses held for them (R96, R459). -/
def execReloadCpDone (s : State) : Out :=
  checked true
    (match s.power.svc with
     | none => s
     | some (_, i) =>
       let img := s.flacon.image s.flacon.next
       let ok := imageOk img s.flacon.minSvn
       let s := if ok then { s with measures := s.measures.put 3 ((img.drop 48).take 32) } else s
       let s := (cpsOf i).foldl (fun s p =>
         let c := s.cp p
         (s.resetCp p).setCp p { (s.resetCp p).cp p with wakes := c.wakes, taken := c.taken, reload := false }) s
       ((s.svcResult (if ok then svcOk else svcInvalid)).setFld F.PWR_DOM_STATUS_svc_busy 0 0).onPower fun p => { p with svc := none })

/-- REPAIR: PWR_SVC_CTL action 2 with a CL island: a spare swap (R336); NO_SPARE where none is free, so that R337 applies; INVALID for another
island; ignored while an operation is in progress (R458, R463). -/
def execRepair (i : Nat) (s : State) : Out :=
  checked (decide (i < 256))
    (if s.fld F.PWR_DOM_STATUS_svc_busy 0 = 1 then s
     else if 84 ≤ i ∨ s.clState i ≠ 0 ∨ (s.failing.find i).isSome then s.svcResult svcInvalid
     else (s.repairCluster i true).svcResult (if (s.spareFor i).isSome then svcOk else svcNoSpare))

/-! ## The reset pin (R460) -/

/-- The state with the level of DEV_RESET_N held: true while low. -/
def State.setPin (s : State) (low : Bool) : State := { s with aon := { s.aon with resetPin := low } }

/-- DEV_RESET_N_ASSERT: DEV_RESET_N has been low for 1 µs: device reset, with no crash dump and without touching a held one; the device stays in it
while the signal is low (R460). -/
def execDevResetNAssert (s : State) : Out :=
  checked true (if s.aon.powered && s.aon.dtRuns then s.deviceReset.setPin true else s.setPin true)

/-- DEV_RESET_N_RELEASE: the signal is high: start-up follows from stage 3 (R460, R462). -/
def execDevResetNRelease (s : State) : Out := checked true (s.setPin false)

/-! ## Start-up (R462) -/

/-- REFERENCE_FIRST_LOCK: AON locks to its reference for the first time since it was unpowered: device time starts at 0 and the mask ROM runs (R293,
R462 stage 2). -/
def execReferenceFirstLock (s : State) : Out :=
  checked true
    (if s.aon.stage ≠ .aon ∨ !s.aon.powered then s
     else
       let s := s.setFld F.TIM_STATUS_ref_ok 0 1
       { s with aon := { s.aon with dt := 0, dtRuns := true, stage := .rom } })

/-- FIRMWARE_START: management firmware has started; the management network and the console are up (R425, R462 stage 4). -/
def execFirmwareStart (s : State) : Out :=
  checked true (if s.aon.stage ≠ .firmware ∨ s.aon.resetPin then s else { s with aon := { s.aon with stage := .training } })

/-- A domain ON at once, as start-up brings it, where it has not tripped and the domains it depends on are ON (R27, R454). -/
def State.domStarts (s : State) (i : Nat) : State :=
  if (s.dom i).tripped || !((depsOf i).all fun j => s.domOn j) then s else (s.setDom i (s.dom i).afterReset).comeOn i

/-- A stack or pair that has not trained: factor 0 and a fault record; its domain stays OFF (R462 stage 5). The cause of the record is the model's
(DESIGN CHOICE, log 67). -/
def State.notTrained (s : State) (i : Nat) : State :=
  let s := (s.setDom i (s.dom i).afterReset).powerOff i .off
  let s := if i < 108 then s.setDerate (i - 84) 0 false else s.setDerate 24 0 false
  s.reportDev 255 0x13 (engineCode 7 i) 0 i []

/-- The seam and mesh segments, which start-up brings ON before memory trains (R36; DEDUCED, log 68). -/
def fabricIsls : List Nat := [136, 137, 141, 142, 145, 146]

/-- MEMORY_TRAINING_DONE: NM stacks and FMP pairs have trained or left RETAIN, but those of `failed`; the HST domains come ON, the edge,
ATM and PRT domains of the fitted ports too (R36), and the ports of CONFIG's start-up mask are enabled (R462 stages 5 and 6). -/
def execMemoryTrainingDone (failed : List Nat) (s : State) : Out :=
  checked (failed.all fun i => decide (84 ≤ i) && decide (i < 120))
    (if s.aon.stage ≠ .training ∨ s.aon.resetPin then s
     else
       let s := fabricIsls.foldl (fun s i => s.domStarts i) s
       let mem := (List.range 36).map (84 + ·)
       let s := mem.foldl (fun s i => if failed.contains i then s.notTrained i else s.domStarts i) s
       let s := [138, 139].foldl (fun s i => s.domStarts i) s
       let s := { s with aon := { s.aon with stage := .links } }
       (List.range 8).foldl (fun s k =>
         let s := s.when (s.flacon.hasPort k) fun s => [edgeOf k, 128 + k, 120 + k].foldl (fun s i => s.domStarts i) s
         s.when (bits s.flacon.portMask k k == 1 && s.flacon.hasPort k) fun s => (s.setFld F.PRT_CFG_enable k 1).startBringUp k) s)

/-- The registers that start-up loads from the flacon and from retained memory (R5, R17, R348; R10's boot values). -/
def State.loadBoot (s : State) : State :=
  let s := (s.showClusters.showSeams.showBoot.showFeeds).showGasps
  let s := (((s.setFld F.PRT_NODE_ID_node 0 s.flacon.node).setFld F.DEV_ID_stepping 0 s.flacon.stepping).setFld F.DEV_ID_ports_fitted 0
    s.flacon.fitted)
  let s := { s with vendorId := s.flacon.vendor, options := s.flacon.options }
  let st := (s.readPhys .fw 0 dumpBase 64)
  let s := st.s
  let h := if st.st = .ok then st.data else []
  let magic := h.take 8 == asciiBytes "ULKDUMP1"
  if magic then s.showDump (leNat ((h.drop 0xC).take 4) % 4) (leNat ((h.drop 0x30).take 8)) else s.showDump 0 0

/-- ENUMERATION_READY: registers are loaded, Configuration Request Retry Status ends, firmware confirms the image; the device is in service (R427,
R462 stage 7). -/
def execEnumerationReady (s : State) : Out :=
  checked true
    (if s.aon.stage ≠ .links ∨ s.aon.resetPin then s
     else
       let s := (s.onFlacon fun f => { f with confirmed := true, attempts := 0 }).loadBoot
       let s := s.setFld F.SEC_BOOT_confirmed 0 1
       let s := [0, 1].foldl (fun s h => s.onHost h fun p => { p with crs := false }) s
       { s with aon := { s.aon with stage := .running } })

end Sys2Proof.Machine
end

