-- ==== Sys2Proof/Machine/Console.lean ====
section
/-! DEFINITION. Machine/Console.lean: the Diari monitor on the serial console (R464 to R470), the monitor level (R466), the digest ring of a watch
(R476). -/
namespace Sys2Proof.Machine

/-! ## Text (R465) -/

/-- Send a line to the console. -/
def State.say (s : State) (t : List Byte) : State := s.emit (.console t)

/-- The ASCII code of a hexadecimal digit. -/
def hexDigit (n : Nat) : Byte := BitVec.ofNat 8 (if n < 10 then 48 + n else 87 + n)

/-- A word in hexadecimal, with 0x and all its digits. -/
def hexWord (w : Word) : List Byte := asciiBytes "0x" ++ (List.range 16).map fun i => hexDigit (w.toNat / 16 ^ (15 - i) % 16)

/-- A data line: a name and a word; the spec gives the data lines no form (DESIGN CHOICE, log 69). -/
def State.sayWord (s : State) (name : String) (w : Word) : State := s.say (asciiBytes name ++ asciiBytes " " ++ hexWord w)

/-- End a response: OK, or ERR and a reason; then the prompt. -/
def State.sayEnd (s : State) (t : String) : State := (s.say (asciiBytes t)).say (asciiBytes "> ")

/-- Answer ERR and a reason. -/
def State.sayErr (s : State) (why : String) : State := s.sayEnd ("ERR " ++ why)

/-- The tokens of a line: separated by spaces. -/
def tokens (line : List Byte) : List (List Byte) :=
  let step (acc : List (List Byte) × List Byte) (b : Byte) : List (List Byte) × List Byte :=
    if b = 32#8 then (if acc.2.isEmpty then acc else (acc.1 ++ [acc.2], [])) else (acc.1, acc.2 ++ [b])
  let r := line.foldl step ([], [])
  if r.2.isEmpty then r.1 else r.1 ++ [r.2]

/-- The value of a digit in base `b`. -/
def digitOf (b : Nat) (c : Byte) : Option Nat :=
  let n := c.toNat
  let v := if 48 ≤ n ∧ n ≤ 57 then n - 48 else if 97 ≤ n ∧ n ≤ 102 then n - 87 else if 65 ≤ n ∧ n ≤ 70 then n - 55 else 99
  if v < b then some v else none

/-- The number that digits of base `b` make, underscores left out; none where there is no digit or another character. -/
def numberIn (b : Nat) (t : List Byte) : Option Nat :=
  let ds := t.filter fun c => c != 95#8
  if ds.isEmpty then none else ds.foldl (fun a c => a.bind fun n => (digitOf b c).map fun d => n * b + d) (some 0)

/-- The number that a token is: decimal, or hexadecimal with 0x (R465). -/
def number (t : List Byte) : Option Nat :=
  if t.take 2 == asciiBytes "0x" then numberIn 16 (t.drop 2) else numberIn 10 t

/-! ## Level and confidence (R466, R469) -/

/-- The monitor level: 0 CLOSED, 1 READ, 2 FULL. -/
def State.monLevel (s : State) : Nat := s.fld F.MON_CFG_level 0

/-- Whether the monitor runs: stage 4 of start-up onward, device reset included (R464). -/
def State.monOn (s : State) : Bool :=
  s.aon.powered &&
    match s.aon.stage with
    | .off | .aon | .recovery => false
    | .rom => s.aon.resetPin
    | .firmware | .training | .links | .running => true

/-- Run a command of the monitor that needs a level: nothing where the monitor does not run or a transfer holds the line; ERR LEVEL below the
level. -/
def State.monitor (s : State) (level : Nat) (f : State → State) : State :=
  if !s.monOn || s.console.xfer.isSome then s else if s.monLevel < level then s.sayErr "LEVEL" else f s

/-- Whether a word of memory belongs to a confidential composition's core, partition or granule (R469). -/
def State.secret (s : State) (a : Nat) : Bool := ((s.holderOf a).map fun b => s.confidential b.comp).getD false

/-- The name of a status of R160. -/
def statusName (st : MemStatus) : String :=
  match st with
  | .ok => "OK"
  | .decode => "DECODE"
  | .islandOff => "ISLAND_OFF"
  | .poison => "POISON"
  | .integrity => "INTEGRITY"
  | .absent => "ABSENT"
  | .exportRefused => "EXPORT_REFUSED"
  | .keyRefused => "KEY_REFUSED"
  | .epochNack => "EPOCH_NACK"

/-! ## The commands (R467) -/

/-- `ver`: DEV_ID, SEC_BOOT, the level. -/
def State.monVer (s : State) : State :=
  (((s.sayWord "DEV_ID" (s.regView .DEV_ID 0)).sayWord "SEC_BOOT" (s.regView .SEC_BOOT 0)).sayWord "LEVEL" (BitVec.ofNat 64 s.monLevel)).sayEnd "OK"

/-- The islands that a command names: one, or all. -/
def islandsFor (id : Option Nat) : List Nat :=
  match id with
  | some i => [i]
  | none => List.range 148

/-- Whether an optional island exists. -/
def islandOk (id : Option Nat) : Bool := (id.map fun i => decide (i < 148)).getD true

/-- `isl`: state, clock, generation tag and temperature; of a cluster, whether it is bound (R467, R469). -/
def State.monIsl (s : State) (id : Option Nat) : State :=
  if !islandOk id then s.sayErr "ARG"
  else
    ((islandsFor id).foldl (fun s i =>
      let d := s.dom i
      let s := (s.sayWord "ISLAND" (BitVec.ofNat 64 i)).sayWord "STATE" (BitVec.ofNat 64 (domCode d))
      let s := (s.sayWord "MHZ" (BitVec.ofNat 64 d.mhz)).sayWord "GEN" (BitVec.ofNat 64 (s.fld F.FLT_ISL_STAT_gen i))
      let s := s.sayWord "TEMP" (BitVec.ofNat 64 d.temp)
      s.when (decide (i < 84)) fun s => s.sayWord "BOUND" (BitVec.ofNat 64 (s.clusterBound i).toNat)) s).sayEnd "OK"

/-- `ctr`: the counters of R471 and R472 (R467, R469). -/
def State.monCtr (s : State) (id : Option Nat) : State :=
  if !islandOk id then s.sayErr "ARG"
  else
    ((islandsFor id).foldl (fun s i =>
      let s := (s.sayWord "ISLAND" (BitVec.ofNat 64 i)).sayWord "MON_ACT" (s.regView .MON_ACT i)
      (s.sayWord "MON_ERR_A" (s.regView .MON_ERR_A i)).sayWord "MON_ERR_B" (s.regView .MON_ERR_B i)) s).sayEnd "OK"

/-- `gasp`: the newest last-gasp record, or a slot's, as its bytes. -/
def State.monGasp (s : State) (slot : Option Nat) : State :=
  let i := slot.getD s.flacon.gaspLast
  if 1024 ≤ i then s.sayErr "ARG"
  else
    match s.flacon.gasps.find i with
    | some body => (s.say body).sayEnd "OK"
    | none => s.sayErr "EMPTY"

/-- `tw`: the statistics of a watch. -/
def State.monTw (s : State) (w : Nat) : State :=
  if 8 ≤ w then s.sayErr "ARG"
  else
    let regs : List (String × RegName × Nat) :=
      [("MIN", .MON_TW_MIN, w), ("MAX", .MON_TW_MAX, w), ("SUM", .MON_TW_SUM, w), ("CNT", .MON_TW_CNT, w), ("SPEC", .MON_TW_SPEC, w), ("ZERO", .MON_TW_ZERO, w)]
    let s := regs.foldl (fun s p => s.sayWord p.1 (s.regView p.2.1 p.2.2)) s
    ((List.range 32).foldl (fun s b => s.sayWord "HIST" (s.regView .MON_TW_HIST (64 * w + b))) s).sayEnd "OK"

/-- The accesses of the monitor: management firmware's, in class BEST (R468). -/
def Who.mon : Who := { Who.fw with cls := clsBest }

/-- Read one word as the monitor does: a register as a physical function, memory with selector 0 (R468). A word of a partner's memory that no read has
brought here is what the partner answers. -/
def State.monRead (s : State) (a : Nat) : State × MemStatus × Word :=
  match region a with
  | .regBlock off => (s.clearRc (.fn 0) off 8, .ok, s.regRead (.fn 0) off 8)
  | .remote k _ =>
    if s.remoteHere .fw a 8 then (s.remoteDrop .fw a 8, .ok, BitVec.ofNat 64 (leNat (s.remoteBytes .fw a 8)))
    else if s.portReach Who.mon k = .ok then let q := s.free 64; (q.2, .ok, q.1)
    else (s, s.portReach Who.mon k, 0#64)
  | _ =>
    let r := s.readPhys Who.mon 0 a 8
    (r.s, r.st, BitVec.ofNat 64 (leNat r.data))

/-- Read `n` words from `a` and say them; a failed one ends the command. `n` counts. -/
def State.peekWords (s : State) (a : Nat) : Nat → State
  | 0 => s.sayEnd "OK"
  | n + 1 =>
    let r := s.monRead a
    if r.2.1 = .ok then (r.1.say (hexWord r.2.2)).peekWords (a + 8) n else r.1.sayErr (statusName r.2.1)

/-- `peek` (R467 to R469). -/
def State.monPeek (s : State) (a n : Nat) : State :=
  if n = 0 ∨ 64 < n then s.sayErr "ARG"
  else if a % 8 ≠ 0 then s.sayErr "ALIGN"
  else if (List.range n).any fun i => s.secret (a + 8 * i) then s.sayErr "CONFIDENTIAL"
  else s.peekWords a n

/-- Whether an offset of the register blocks lies in the SEC block (R350, R468). -/
def inSec (off : Nat) : Bool := off / 0x100000 == 12

/-- `poke` (R467 to R469). -/
def State.monPoke (s : State) (a : Nat) (v : Word) : State :=
  if a % 8 ≠ 0 then s.sayErr "ALIGN"
  else if s.secret a then s.sayErr "CONFIDENTIAL"
  else
    match region a with
    | .regBlock off => if inSec off then s.sayErr "LEVEL" else (s.regWrite (.fn 0) off 8 v).sayEnd "OK"
    | _ =>
      let r := s.writeAny Who.mon 0 a (leBytes 8 v.toNat)
      if r.st = .ok then r.s.sayEnd "OK" else r.s.sayErr (statusName r.st)

/-- A write of TIM_SIL_CFG with its enable (R315). -/
def State.silCfg (s : State) (i : Nat) (v : Word) : State :=
  match execSillageEnable i v s with
  | .next t => t
  | _ => s

/-- `sil`: a register of a sillage buffer (R467). -/
def State.monSil (s : State) (i : Nat) (what : SilReg) (v : Word) : State :=
  if 16 ≤ i then s.sayErr "ARG"
  else
    (match what with
     | .cfg => s.silCfg i v
     | .filt => s.writeReg .TIM_SIL_FILT i v.toNat (2 ^ 64 - 1)
     | .rd => s.writeReg .TIM_SIL_RD i v.toNat (2 ^ 64 - 1)).sayEnd "OK"

/-! ## The crash-dump transfer (R470) -/

/-- One step of the CRC-32 of IEEE 802.3, least significant bit first. -/
def crc32Bit (c : Nat) : Nat := if c % 2 = 1 then (c / 2) ^^^ 0xEDB88320 else c / 2

/-- One byte of it. -/
def crc32Byte (c b : Nat) : Nat := (List.range 8).foldl (fun c _ => crc32Bit c) (c ^^^ b)

/-- The CRC-32 of bytes. -/
def crc32 (data : List Byte) : Nat := (data.foldl (fun c b => crc32Byte c b.toNat) 0xFFFFFFFF) ^^^ 0xFFFFFFFF

/-- The frame of block `k`: its offset, 4,096 bytes of the dump padded with zeros past its length, the CRC-32. -/
def State.dumpFrame (s : State) (k : Nat) : List Byte :=
  let length := s.word (dumpBase + 0x30)
  let n := min 4096 (length - k * 4096)
  let r := s.readPhys Who.fw 0 (dumpBase + k * 4096) n
  let body := leBytes 8 (k * 4096) ++ ((if r.st = .ok then r.data else []) ++ zeros 4096).take 4096
  body ++ leBytes 4 (crc32 body)

/-- The number of blocks. -/
def State.dumpBlocks (s : State) : Nat := (s.word (dumpBase + 0x30) + 4095) / 4096

/-- The state with the transfer in progress replaced. -/
def State.setXfer (s : State) (x : Option DumpXfer) : State := { s with console := { s.console with xfer := x } }

/-- End a transfer: copy_busy clears, the line is text again (R470). -/
def State.endXfer (s : State) (t : String) : State := ((s.setXfer none).setFld F.FLT_DUMP_STATUS_copy_busy 0 0).sayEnd t

/-- Send block `k`. -/
def State.sendBlock (s : State) (k resends : Nat) : State :=
  (s.say (s.dumpFrame k)).setXfer (some { block := k, resends := resends, at_ := s.aon.dt })

/-- Go to block `k`, or end where the last has gone. -/
def State.nextBlock (s : State) (k : Nat) : State := if k < s.dumpBlocks then s.sendBlock k 0 else s.endXfer "OK"

/-- `dump`: EMPTY, BUSY, or the transfer's first line and block. -/
def State.monDump (s : State) : State :=
  if s.dumpState = 0 then s.sayErr "EMPTY"
  else if s.fld F.FLT_DUMP_STATUS_copy_busy 0 = 1 then s.sayErr "BUSY"
  else
    let s := s.setFld F.FLT_DUMP_STATUS_copy_busy 0 1
    (s.say (asciiBytes "DUMP " ++ hexWord (BitVec.ofNat 64 (s.word (dumpBase + 0x30))))).nextBlock 0

/-- Resend the block sent last; the third resend in a row ends the transfer with LINK (R470 step 5). -/
def State.resendBlock (s : State) (x : DumpXfer) : State := if 3 ≤ x.resends + 1 then s.endXfer "ERR LINK" else s.sendBlock x.block (x.resends + 1)

/-! ## The rows -/

/-- VER. -/
def execVer (s : State) : Out := checked true (s.monitor 0 State.monVer)

/-- ISL. -/
def execIsl (id : Option Nat) (s : State) : Out := checked true (s.monitor 0 fun s => s.monIsl id)

/-- CTR. -/
def execCtr (id : Option Nat) (s : State) : Out := checked true (s.monitor 0 fun s => s.monCtr id)

/-- GASP. -/
def execGasp (slot : Option Nat) (s : State) : Out := checked true (s.monitor 0 fun s => s.monGasp slot)

/-- TW. -/
def execTw (w : Nat) (s : State) : Out := checked true (s.monitor 1 fun s => s.monTw w)

/-- PEEK. -/
def execPeek (addr n : Nat) (s : State) : Out := checked true (s.monitor 1 fun s => s.monPeek addr n)

/-- POKE. -/
def execPoke (addr : Nat) (v : Word) (s : State) : Out := checked true (s.monitor 2 fun s => s.monPoke addr v)

/-- SIL. -/
def execSil (i : Nat) (what : SilReg) (v : Word) (s : State) : Out := checked true (s.monitor 2 fun s => s.monSil i what v)

/-- DUMP. -/
def execDump (s : State) : Out := checked true (s.monitor 1 State.monDump)

/-- The register that the second argument of `sil` names. -/
def silArg (t : List Byte) : Option SilReg :=
  if t == asciiBytes "cfg" then some .cfg else if t == asciiBytes "filt" then some .filt else if t == asciiBytes "rd" then some .rd else none

/-- Run a tokenized line (R467). A number that a command needs and does not get is answered ERR ARG (DESIGN CHOICE, log 69). -/
def State.runLine (s : State) (ts : List (List Byte)) : State :=
  let bad (level : Nat) : State := s.monitor level fun s => s.sayErr "ARG"
  let opt (args : List (List Byte)) (f : Option Nat → State → State) : State :=
    match args with
    | [] => s.monitor 0 (f none)
    | [t] => match number t with
      | some n => s.monitor 0 (f (some n))
      | none => bad 0
    | _ => bad 0
  match ts with
  | [] => s.sayEnd "OK"
  | c :: args =>
    if c == asciiBytes "ver" then s.monitor 0 State.monVer
    else if c == asciiBytes "isl" then opt args fun id s => s.monIsl id
    else if c == asciiBytes "ctr" then opt args fun id s => s.monCtr id
    else if c == asciiBytes "gasp" then opt args fun id s => s.monGasp id
    else if c == asciiBytes "dump" then s.monitor 1 State.monDump
    else if c == asciiBytes "tw" then
      match args.map number with
      | [some w] => s.monitor 1 fun s => s.monTw w
      | _ => bad 1
    else if c == asciiBytes "peek" then
      match args.map number with
      | [some a] => s.monitor 1 fun s => s.monPeek a 1
      | [some a, some n] => s.monitor 1 fun s => s.monPeek a n
      | _ => bad 1
    else if c == asciiBytes "poke" then
      match args.map number with
      | [some a, some v] => s.monitor 2 fun s => s.monPoke a (BitVec.ofNat 64 v)
      | _ => bad 2
    else if c == asciiBytes "sil" then
      match args with
      | [i, w, v] =>
        match number i, silArg w, number v with
        | some i, some w, some v => s.monitor 2 fun s => s.monSil i w (BitVec.ofNat 64 v)
        | _, _, _ => bad 2
      | _ => bad 2
    else s.sayErr "UNKNOWN"

/-- Run the lines held during a transfer, once it is over; an unfinished one stays for its end (R465). `fuel` counts lines. -/
def State.runHeld (s : State) (fuel : Nat) : State :=
  match fuel with
  | 0 => s
  | k + 1 =>
    let held := s.console.held
    if s.console.xfer.isSome || !held.contains 13#8 then s
    else
      let line := held.takeWhile fun b => b != 13#8
      ({ s with console := { s.console with held := held.drop (line.length + 1) } }.runLine (tokens line)).runHeld k

/-- DUMP_ACK_BYTE: a byte from the host after a frame: A the next block, N the block again, X the end with ABORTED; others are ignored (R470). -/
def execDumpAckByte (b : Byte) (s : State) : Out :=
  checked true
    (match s.console.xfer with
     | none => s
     | some x =>
       if b = 0x41#8 then (s.nextBlock (x.block + 1)).runHeld 256
       else if b = 0x4E#8 then (s.resendBlock x).runHeld 256
       else if b = 0x58#8 then (s.endXfer "ERR ABORTED").runHeld 256
       else s)

/-- DUMP_RESEND_TIMEOUT: 100 ms of silence after a frame: the block again (R470). -/
def execDumpResendTimeout (s : State) : Out :=
  checked true
    (match s.console.xfer with
     | none => s
     | some x => if s.aon.dt < x.at_ + us 100000 then s else (s.resendBlock x).runHeld 256)

/-- CONSOLE_LINE: a line arrives, ended by CR; LF is ignored: an overlong one is answered ERR LONG, an unknown command ERR UNKNOWN, one above the level
ERR LEVEL; during a transfer its bytes are held, up to 256 (R464 to R467). -/
def execConsoleLine (line : List Byte) (s : State) : Out :=
  checked true
    (if !s.monOn then s
     else
       let body := line.filter fun b => b != 10#8
       if s.console.xfer.isSome then { s with console := { s.console with held := (s.console.held ++ body ++ [13#8]).take 256 } }
       else
         let body := s.console.held ++ body
         let s := { s with console := { s.console with held := [] } }
         if 256 < body.length then s.sayErr "LONG" else s.runLine (tokens body))

/-! ## The level and digest rings -/

/-- MON_LEVEL_WRITE: MON_CFG level is set by a physical function's driver or by management firmware for a session that holds MAINTAIN; 3 is stored as
2 (R466, R478). -/
def execMonLevelWrite (who : Accessor) (v : Word) (s : State) : Out :=
  checked (accOk who)
    (let ok := match who with
       | .fn f => f % 64 == 0
       | .fw => true
       | .cp _ => false
     if ok then s.setFld F.MON_CFG_level 0 (min 2 (F.MON_CFG_level.of v)) else s)

/-- TW_DIG_ENABLE: a write of MON_TW_DIG: enabling empties the ring, and is refused as for a sillage buffer (R315, R476, R478). -/
def execTwDigEnable (w : Nat) (v : Word) (s : State) : Out :=
  checked (decide (w < 8))
    (let s := s.writeReg .MON_TW_DIG w v.toNat (2 ^ 64 - 1)
     if F.MON_TW_DIG_enable.of v = 0 then s.setFld F.MON_TW_DIG_enable w 0
     else
       let a := s.fld F.MON_TW_DIG_base w * 4096
       let n := 32 * (4096 * 2 ^ s.fld F.MON_TW_DIG_size w)
       if inPlainMemory a n && !s.meetsBound a n && !s.meetsWindow a n then
         (((s.setFld F.MON_TW_DIG_enable w 1).setReg .MON_TW_DIGWR w 0#64).setReg .MON_TW_DIGRD w 0#64).setReg .MON_TW_DIGLOST w 0#64
       else s.setFld F.MON_TW_DIG_enable w 0)

end Sys2Proof.Machine
end

