-- ==== Sys2Proof/Machine/Management.lean ====
section
/-! DEFINITION. Machine/Management.lean: attestation (R429, R430), the management network (R431, R432), the I3C target (R484). -/
namespace Sys2Proof.Machine

/-! ## Attestation (R429, R430) -/

/-- Whether a channel carries requests: the DOE mailbox of a host port that is up, an open session. -/
def State.chanUp (s : State) (ch : SpdmChan) : Bool :=
  match ch with
  | .doe h => s.hostUp h && s.aon.stage == .running
  | .session i => s.sessions.contains i

/-- Whether a channel exists. -/
def chanOk (ch : SpdmChan) : Bool :=
  match ch with
  | .doe h => decide (h < 2)
  | .session i => decide (i < 8)

/-- Answer an SPDM request. -/
def State.spdm (s : State) (ch : SpdmChan) (a : SpdmAnswer) : State := if s.chanUp ch then s.emit (.spdm ch a) else s

/-- GET_VERSION: version 1.2 only. -/
def execGetVersion (ch : SpdmChan) (s : State) : Out := checked (chanOk ch) (s.spdm ch (.version 0x12))

/-- GET_CAPABILITIES: CERT_CAP, CHAL_CAP, MEAS_CAP with signature, and nothing else. -/
def execGetCapabilities (ch : SpdmChan) (s : State) : Out := checked (chanOk ch) (s.spdm ch (.capabilities true true true))

/-- NEGOTIATE_ALGORITHMS: ECDSA P-256, SHA-256, and nothing else. -/
def execNegotiateAlgorithms (ch : SpdmChan) (s : State) : Out := checked (chanOk ch) (s.spdm ch .algorithms)

/-- The certificate chain of a slot: 0 Thrumric's, 1 the operator's where one is installed (R423, R429). -/
def State.chainOf (s : State) (slot : Nat) : Option (List Byte) :=
  match slot with
  | 0 => some (Config.thrumricChain 0)
  | 1 => if s.flacon.certificate.isEmpty then none else some s.flacon.certificate
  | _ => none

/-- GET_DIGESTS: the digest of each slot that holds a chain. -/
def execGetDigests (ch : SpdmChan) (s : State) : Out :=
  checked (chanOk ch) (s.spdm ch (.digests (([0, 1].filterMap s.chainOf).map Config.sha256)))

/-- GET_CERTIFICATE: the chain of a slot; of an empty one an error. -/
def execGetCertificate (ch : SpdmChan) (slot : Nat) (s : State) : Out :=
  checked (chanOk ch)
    (match s.chainOf slot with
     | some chain => s.spdm ch (.certificate slot chain)
     | none => s.spdm ch .unsupportedRequest)

/-- CHALLENGE: signed with IDS, over the requester's nonce and the responder's. -/
def execChallenge (ch : SpdmChan) (nonce : List Byte) (s : State) : Out :=
  checked (chanOk ch)
    (if !s.chanUp ch then s
     else
       let q := s.freeBytes 32
       q.2.spdm ch (.challengeAuth q.1 (Config.sign 0 (nonce ++ q.1))))

/-- The contents of CONFIG that measurement 4 covers, in an order of the model's (DESIGN CHOICE, log 70). -/
def Flacon.config (f : Flacon) : List Byte :=
  leBytes 8 f.vendor ++ leBytes 8 f.options ++ leBytes 2 f.node ++ leBytes 1 f.portMask ++ f.clusters.flatMap (leBytes 8) ++
    f.seams.flatMap (fun (m : SeamMap) => leBytes 1 m.n ++ leBytes 8 m.states ++ m.order.flatMap (leBytes 1)) ++ f.certificate

/-- The value of a measurement index (R430), none where the device has none. -/
def State.measurement (s : State) (ix : Nat) : Option (List Byte) :=
  if 1 ≤ ix ∧ ix ≤ 3 then some (s.measures.get ix [])
  else if ix = 4 then some (Config.sha256 s.flacon.config)
  else if ix = 5 then some (Config.sha256 s.flacon.anchors.flatten)
  else if ix = 6 then some (Config.publicKey 1)
  else if 0x10 ≤ ix ∧ ix < 0x50 then
    let c := ix - 0x10
    some (leBytes 8 (s.regView .CMP_STATUS c).toNat ++ leBytes 8 (s.regView .SEC_COMP_CFG c).toNat ++
      leBytes 4 (s.installCount (s.fld F.SEC_COMP_CFG_ctx_sel c)))
  else none

/-- GET_MEASUREMENTS: a value of R430, with a signature by IDS over the nonce and the value where it is asked for. -/
def execGetMeasurements (ch : SpdmChan) (ix : Nat) (sgn : Bool) (nonce : List Byte) (s : State) : Out :=
  checked (chanOk ch)
    (match s.measurement ix with
     | some v => s.spdm ch (.measurements ix v (if sgn then some (Config.sign 0 (nonce ++ v)) else none))
     | none => s.spdm ch .unsupportedRequest)

/-- SPDM_UNSUPPORTED: any other request is answered ERROR with UnsupportedRequest. -/
def execSpdmUnsupported (ch : SpdmChan) (_code : Nat) (s : State) : Out := checked (chanOk ch) (s.spdm ch .unsupportedRequest)

/-! ## The management network (R431, R432) -/

/-- Whether the management network is up: from the end of stage 4 of start-up (R431, R462). -/
def State.mgmtUp (s : State) : Bool := s.aon.powered && (s.aon.stage == .training || s.aon.stage == .links || s.aon.stage == .running)

/-- MON_MGMT shows how many sessions are open. -/
def State.showSessions (s : State) : State := s.setFld F.MON_MGMT_sessions 0 s.sessions.length

/-- The roles of a client: none where its chain leads to no trust anchor, it does not prove its key, or no credential entry holds its key's digest (R432).
Every role includes OBSERVE. -/
def State.rolesOf (s : State) (c : ClientHello) : Option Nat :=
  let known := s.flacon.anchors.any fun a => Config.verifySig a c.key c.chain
  if !known || !Config.verifySig c.key c.chain c.proof then none
  else (s.flacon.credentials.find? fun e => e.digest == Config.sha256 c.key).map fun e => e.roles ||| 1

/-- MGMT_SESSION_OPEN: a handshake of TLS 1.3 with mutual authentication: a session with the roles of its credential entry; a failed one counts
(R431, R432). At most 8 sessions are open. -/
def execMgmtSessionOpen (c : ClientHello) (s : State) : Out :=
  checked true
    (if !s.mgmtUp then s
     else
       match (List.range 8).find? fun i => !s.sessions.contains i with
       | none => s
       | some i =>
         match (if c.tls13 && c.suite && c.group && c.scheme then s.rolesOf c else none) with
         | some r => { s with sessions := s.sessions ++ [i], roles := s.roles.put i r }.showSessions
         | none => s.bump F.MON_MGMT_tls_fail 0 1)

/-- Whether a session is open and holds a role: bit 0 OBSERVE, 1 OPERATE, 2 MAINTAIN, 3 ADMIN. -/
def State.sessionRole (s : State) (sess bit : Nat) : Bool := s.sessions.contains sess && bits (s.roles.get sess 0) bit bit == 1

/-- The role that a write of a register needs (R432); none where the table of roles grants its write to nobody. -/
def writeRole (r : RegName) : Option Nat :=
  match r with
  | .CMP_CTL | .CMP_MAP | .CMP_SLICE | .CMP_TWIN | .CMP_TWIN_LOG | .SCH_COMP_CFG | .SCH_MIX_CFG | .SCH_MIX_AREA | .SCH_MIX_BUDGET | .SEC_COMP_CFG
  | .PWR_COMP_CFG => some 1
  | .PRT_CFG | .PRT_STATUS | .PRT_LOS_STATUS | .PRT_ERR_STK | .PRT_CTL | .PRT_RT_ADDR | .PRT_RT_DATA => some 1
  | .MEM_RSV_CFG | .MEM_RSV_STAT | .SCH_CYC_CFG | .SCH_CYC_START | .SCH_CYC_ENT | .PWR_TARGET_DT | .PWR_TARGET => some 1
  | .SEC_SLOT_SEL | .SEC_SLOT_CTL | .SEC_UNWRAP | .MEM_PXW_BASE | .MEM_PXW_CFG => some 1
  | .SEC_FW_LOAD | .SEC_FW_CTL | .FLT_RESET | .FLT_DUMP_CTL | .FLT_DUMP_HOST | .FLT_DUMP_STATUS | .MON_CFG => some 2
  | _ => none

/-- Answer a session's request: a status byte, 0 done, 1 refused, and the data; the form is the model's (DESIGN CHOICE, log 71). -/
def State.reply (s : State) (sess status : Nat) (body : List Byte) : State := s.emit (.mgmt sess (leBytes 1 status ++ body))

/-- MGMT_REGISTER_ACCESS: a session reads (`w` none) a register as a physical function does, or writes one that its role grants (R431, R432). -/
def execMgmtRegisterAccess (sess off : Nat) (w : Option Word) (s : State) : Out :=
  checked (decide (sess < 8))
    (if !s.sessions.contains sess then s
     else if off % 8 ≠ 0 then s.reply sess 1 []
     else
       match w with
       | none => (s.clearRc (.fn 0) off 8).reply sess 0 (leBytes 8 (s.regRead (.fn 0) off 8).toNat)
       | some v =>
         let role := (RegName.locate off).bind fun p => writeRole p.1
         if (role.map fun b => s.sessionRole sess b).getD false then (s.regWrite (.fn 0) off 8 v).reply sess 0 [] else s.reply sess 1 [])

/-- The flacon after an administrative change; none where it is refused: over 8 anchors or 32 credentials, or no ADMIN credential left (R421, R432). -/
def Flacon.admin (f : Flacon) (a : AdminChange) : Option Flacon :=
  match a with
  | .anchors l => if l.length ≤ 8 then some { f with anchors := l } else none
  | .credentials l => if decide (l.length ≤ 32) && l.any fun c => bits c.roles 3 3 == 1 then some { f with credentials := l } else none
  | .certificate chain => some { f with certificate := chain }
  | .nodeId n => if n < 65536 then some { f with node := n } else none

/-- MGMT_ADMIN_WRITE: a session that holds ADMIN changes the trust anchors, the credentials, the operator certificate or the node identity, in one
atomic write (R422, R432). -/
def execMgmtAdminWrite (sess : Nat) (a : AdminChange) (s : State) : Out :=
  checked (decide (sess < 8))
    (if !s.sessions.contains sess then s
     else if !s.sessionRole sess 3 then s.reply sess 1 []
     else
       match s.flacon.admin a with
       | some f => (s.onFlacon fun _ => f).reply sess 0 []
       | none => s.reply sess 1 [])

/-- MGMT_DRYDOWN_REQUEST: a drydown request of a session that holds OPERATE: cause POLICY (R455). -/
def execMgmtDrydownRequest (sess : Nat) (s : State) : Out :=
  checked (decide (sess < 8))
    (if !s.sessions.contains sess then s
     else if s.sessionRole sess 1 then (s.startDrydown dryPolicy).reply sess 0 []
     else s.reply sess 1 [])

/-- MGMT_CRASH_DUMP_RETRIEVAL: a session that holds MAINTAIN retrieves the held crash dump (R419, R432). -/
def execMgmtCrashDumpRetrieval (sess : Nat) (s : State) : Out :=
  checked (decide (sess < 8))
    (if !s.sessions.contains sess then s
     else if !s.sessionRole sess 2 || s.dumpState == 0 then s.reply sess 1 []
     else s.reply sess 0 s.dumpBytes)

/-! ## The I3C target (R460, R484) -/

/-- The state with AON's own state changed. -/
def State.onAon (s : State) (f : Aon → Aon) : State := { s with aon := f s.aon }

/-- I3C_DYNAMIC_ADDRESS_ASSIGN: the target answers at this address from now on; at 0x3A until then. -/
def execI3cDynamicAddressAssign (a : Nat) (s : State) : Out :=
  checked (decide (a < 128)) (if s.aon.powered then s.onAon fun x => { x with i3cAddr := a } else s)

/-- I3C_PRIVATE_WRITE: two bytes set a PWR block offset, little-endian; a write of any other length is not acknowledged. -/
def execI3cPrivateWrite (bytes : List Byte) (s : State) : Out :=
  checked true (if s.aon.powered && bytes.length == 2 then s.onAon fun x => { x with i3cOff := leNat bytes } else s)

/-- I3C_PRIVATE_READ: the 8 bytes of the PWR register at the offset set, little-endian. -/
def execI3cPrivateRead (s : State) : Out :=
  checked true (if s.aon.powered then s.emit (.i3c (leBytes 8 (s.regRead (.fn 0) (0xD00000 + s.aon.i3cOff / 8 * 8) 8).toNat)) else s)

end Sys2Proof.Machine
end

