-- ==== Sys2Proof/Machine/Dispatch.lean ====
section
/-! DEFINITION. Machine/Dispatch.lean: one arm for each command, each one call of its meaning. -/
namespace Sys2Proof.Machine

/-- The effect of a command on everything but the queue of waiting commands. -/
def exec (i : Instr) (s : State) : Host.Outcome State Fault Refusal :=
  match i with
  | .registerWrite who off size v => Sys2Proof.Machine.execRegisterWrite who off size v s
  | .rcFieldRead who off size => Sys2Proof.Machine.execRcFieldRead who off size s
  | .gateRequest idx retain => Sys2Proof.Machine.execGateRequest idx retain s
  | .gateDrainEnd idx => Sys2Proof.Machine.execGateDrainEnd idx s
  | .gatingFailed idx fifos => Sys2Proof.Machine.execGatingFailed idx fifos s
  | .domainWake idx => Sys2Proof.Machine.execDomainWake idx s
  | .wakeCreditsComplete idx => Sys2Proof.Machine.execWakeCreditsComplete idx s
  | .wakeCreditTimeout idx missing => Sys2Proof.Machine.execWakeCreditTimeout idx missing s
  | .clockChange idx mhz => Sys2Proof.Machine.execClockChange idx mhz s
  | .requestAtBoundary q => Sys2Proof.Machine.execRequestAtBoundary q s
  | .stationInstructionStart n r u => Sys2Proof.Machine.execStationInstructionStart n r u s
  | .stationInstructionComplete n r u => Sys2Proof.Machine.execStationInstructionComplete n r u s
  | .queueDeadlock n r => Sys2Proof.Machine.execQueueDeadlock n r s
  | .readAheadTile n r k => Sys2Proof.Machine.execReadAheadTile n r k s
  | .parkedPullWake n r => Sys2Proof.Machine.execParkedPullWake n r s
  | .preemptionRequest n r => Sys2Proof.Machine.execPreemptionRequest n r s
  | .tileBoundaryReached n r => Sys2Proof.Machine.execTileBoundaryReached n r s
  | .tileBudgetExpire n r => Sys2Proof.Machine.execTileBudgetExpire n r s
  | .coreResumeFill n r slot => Sys2Proof.Machine.execCoreResumeFill n r slot s
  | .icacheLineFill n r va ok => Sys2Proof.Machine.execIcacheLineFill n r va ok s
  | .setupRelease n r => Sys2Proof.Machine.execSetupRelease n r s
  | .seqNop q w => Sys2Proof.Machine.execSeqNop q w s
  | .seqAdd q p ops => Sys2Proof.Machine.execSeqAdd q p ops s
  | .seqSub q p ops => Sys2Proof.Machine.execSeqSub q p ops s
  | .seqMul q p ops => Sys2Proof.Machine.execSeqMul q p ops s
  | .seqMulhu q p ops => Sys2Proof.Machine.execSeqMulhu q p ops s
  | .seqAnd q p ops => Sys2Proof.Machine.execSeqAnd q p ops s
  | .seqOr q p ops => Sys2Proof.Machine.execSeqOr q p ops s
  | .seqXor q p ops => Sys2Proof.Machine.execSeqXor q p ops s
  | .seqShl q p ops => Sys2Proof.Machine.execSeqShl q p ops s
  | .seqShr q p ops => Sys2Proof.Machine.execSeqShr q p ops s
  | .seqSra q p ops => Sys2Proof.Machine.execSeqSra q p ops s
  | .seqMin q p ops => Sys2Proof.Machine.execSeqMin q p ops s
  | .seqMax q p ops => Sys2Proof.Machine.execSeqMax q p ops s
  | .seqMinu q p ops => Sys2Proof.Machine.execSeqMinu q p ops s
  | .seqMaxu q p ops => Sys2Proof.Machine.execSeqMaxu q p ops s
  | .seqDivu q p ops => Sys2Proof.Machine.execSeqDivu q p ops s
  | .seqRemu q p ops => Sys2Proof.Machine.execSeqRemu q p ops s
  | .seqAddi q p ops => Sys2Proof.Machine.execSeqAddi q p ops s
  | .seqAndi q p ops => Sys2Proof.Machine.execSeqAndi q p ops s
  | .seqOri q p ops => Sys2Proof.Machine.execSeqOri q p ops s
  | .seqXori q p ops => Sys2Proof.Machine.execSeqXori q p ops s
  | .seqShli q p ops => Sys2Proof.Machine.execSeqShli q p ops s
  | .seqShri q p ops => Sys2Proof.Machine.execSeqShri q p ops s
  | .seqSrai q p ops => Sys2Proof.Machine.execSeqSrai q p ops s
  | .seqMovi q p ops => Sys2Proof.Machine.execSeqMovi q p ops s
  | .seqMovhi q p ops => Sys2Proof.Machine.execSeqMovhi q p ops s
  | .seqCmp q c p ops => Sys2Proof.Machine.execSeqCmp q c p ops s
  | .seqCmpi q c p ops => Sys2Proof.Machine.execSeqCmpi q c p ops s
  | .seqPand q p ops => Sys2Proof.Machine.execSeqPand q p ops s
  | .seqPor q p ops => Sys2Proof.Machine.execSeqPor q p ops s
  | .seqPxor q p ops => Sys2Proof.Machine.execSeqPxor q p ops s
  | .seqPnot q p ops => Sys2Proof.Machine.execSeqPnot q p ops s
  | .seqSel q p ops => Sys2Proof.Machine.execSeqSel q p ops s
  | .seqBr q p ops => Sys2Proof.Machine.execSeqBr q p ops s
  | .seqCall q p ops => Sys2Proof.Machine.execSeqCall q p ops s
  | .seqJr q p ops => Sys2Proof.Machine.execSeqJr q p ops s
  | .seqLoop q p ops => Sys2Proof.Machine.execSeqLoop q p ops s
  | .seqLd q z p ops => Sys2Proof.Machine.execSeqLd q z p ops s
  | .seqSt q z p ops => Sys2Proof.Machine.execSeqSt q z p ops s
  | .seqAmoAddD q p ops => Sys2Proof.Machine.execSeqAmoAddD q p ops s
  | .seqPull q p ops => Sys2Proof.Machine.execSeqPull q p ops s
  | .seqDone q p ops => Sys2Proof.Machine.execSeqDone q p ops s
  | .seqLive q p ops => Sys2Proof.Machine.execSeqLive q p ops s
  | .seqCsrr q p ops => Sys2Proof.Machine.execSeqCsrr q p ops s
  | .seqCsrw q p ops => Sys2Proof.Machine.execSeqCsrw q p ops s
  | .seqWait q p ops => Sys2Proof.Machine.execSeqWait q p ops s
  | .seqUntil q p ops => Sys2Proof.Machine.execSeqUntil q p ops s
  | .seqTdef q p ops => Sys2Proof.Machine.execSeqTdef q p ops s
  | .seqTscale q p ops => Sys2Proof.Machine.execSeqTscale q p ops s
  | .seqQdef q p ops => Sys2Proof.Machine.execSeqQdef q p ops s
  | .seqQfree q p ops => Sys2Proof.Machine.execSeqQfree q p ops s
  | .seqSdef q p ops => Sys2Proof.Machine.execSeqSdef q p ops s
  | .seqSrew q p ops => Sys2Proof.Machine.execSeqSrew q p ops s
  | .seqSpos q p ops => Sys2Proof.Machine.execSeqSpos q p ops s
  | .cpNext q p ops => Sys2Proof.Machine.execCpNext q p ops s
  | .cpSleep q p ops => Sys2Proof.Machine.execCpSleep q p ops s
  | .cpIssue q p ops => Sys2Proof.Machine.execCpIssue q p ops s
  | .cpFsig q p ops => Sys2Proof.Machine.execCpFsig q p ops s
  | .cpAcct q p ops => Sys2Proof.Machine.execCpAcct q p ops s
  | .cpWakeRead c => Sys2Proof.Machine.execCpWakeRead c s
  | .ldTile n r p ops now => Sys2Proof.Machine.execLdTile n r p ops now s
  | .stTile n r p ops now => Sys2Proof.Machine.execStTile n r p ops now s
  | .xfTr n r f p ops now => Sys2Proof.Machine.execXfTr n r f p ops now s
  | .xfCvt n r f p ops now => Sys2Proof.Machine.execXfCvt n r f p ops now s
  | .xfSpx n r p ops now => Sys2Proof.Machine.execXfSpx n r p ops now s
  | .xfGth n r p ops now => Sys2Proof.Machine.execXfGth n r p ops now s
  | .mma n r f p ops now => Sys2Proof.Machine.execMma n r f p ops now s
  | .mmaOut n r f p ops now => Sys2Proof.Machine.execMmaOut n r f p ops now s
  | .mmaClr n r p ops now => Sys2Proof.Machine.execMmaClr n r p ops now s
  | .mmaAddF32 n r p ops now => Sys2Proof.Machine.execMmaAddF32 n r p ops now s
  | .vadd n r f p ops now => Sys2Proof.Machine.execVadd n r f p ops now s
  | .vsub n r f p ops now => Sys2Proof.Machine.execVsub n r f p ops now s
  | .vmul n r f p ops now => Sys2Proof.Machine.execVmul n r f p ops now s
  | .vmax n r f p ops now => Sys2Proof.Machine.execVmax n r f p ops now s
  | .vmin n r f p ops now => Sys2Proof.Machine.execVmin n r f p ops now s
  | .vfma n r f p ops now => Sys2Proof.Machine.execVfma n r f p ops now s
  | .vfmaRescale n r p ops now => Sys2Proof.Machine.execVfmaRescale n r p ops now s
  | .vexp n r p ops now => Sys2Proof.Machine.execVexp n r p ops now s
  | .vrcp n r p ops now => Sys2Proof.Machine.execVrcp n r p ops now s
  | .vrsqrt n r p ops now => Sys2Proof.Machine.execVrsqrt n r p ops now s
  | .vtanh n r p ops now => Sys2Proof.Machine.execVtanh n r p ops now s
  | .vonl n r p ops now => Sys2Proof.Machine.execVonl n r p ops now s
  | .vnorm n r f p ops now => Sys2Proof.Machine.execVnorm n r f p ops now s
  | .vrsi n r p ops now => Sys2Proof.Machine.execVrsi n r p ops now s
  | .redAdd n r f p ops now => Sys2Proof.Machine.execRedAdd n r f p ops now s
  | .redMax n r f p ops now => Sys2Proof.Machine.execRedMax n r f p ops now s
  | .redMin n r f p ops now => Sys2Proof.Machine.execRedMin n r f p ops now s
  | .redAmax n r f p ops now => Sys2Proof.Machine.execRedAmax n r f p ops now s
  | .sndTile n r p ops now => Sys2Proof.Machine.execSndTile n r p ops now s
  | .sndRaddF32 n r p ops now => Sys2Proof.Machine.execSndRaddF32 n r p ops now s
  | .rcvTile n r p ops now => Sys2Proof.Machine.execRcvTile n r p ops now s
  | .rcvRaddF32 n r p ops now => Sys2Proof.Machine.execRcvRaddF32 n r p ops now s
  | .raddContribution n r tq count behind => Sys2Proof.Machine.execRaddContribution n r tq count behind s
  | .reserve n r rq => Sys2Proof.Machine.execReserve n r rq s
  | .grant n r st ok => Sys2Proof.Machine.execGrant n r st ok s
  | .tile n r tq seg data => Sys2Proof.Machine.execTile n r tq seg data s
  | .sendFailed n r => Sys2Proof.Machine.execSendFailed n r s
  | .recvReservationTimeout n r tq => Sys2Proof.Machine.execRecvReservationTimeout n r tq s
  | .barSync n r p ops now => Sys2Proof.Machine.execBarSync n r p ops now s
  | .barArrive n r p ops now => Sys2Proof.Machine.execBarArrive n r p ops now s
  | .barWait n r p ops now => Sys2Proof.Machine.execBarWait n r p ops now s
  | .barrierArrival c lane m => Sys2Proof.Machine.execBarrierArrival c lane m s
  | .barrierRelease n r m => Sys2Proof.Machine.execBarrierRelease n r m s
  | .flagSet n r p ops now => Sys2Proof.Machine.execFlagSet n r p ops now s
  | .flagAdd n r p ops now => Sys2Proof.Machine.execFlagAdd n r p ops now s
  | .flagWait n r p ops now => Sys2Proof.Machine.execFlagWait n r p ops now s
  | .flagNotify n m => Sys2Proof.Machine.execFlagNotify n m s
  | .flagReread n r => Sys2Proof.Machine.execFlagReread n r s
  | .fenceMem n r p ops now => Sys2Proof.Machine.execFenceMem n r p ops now s
  | .fenWait n r p ops now => Sys2Proof.Machine.execFenWait n r p ops now s
  | .syncTimeout n r => Sys2Proof.Machine.execSyncTimeout n r s
  | .memoryReply isl entry gen st data => Sys2Proof.Machine.execMemoryReply isl entry gen st data s
  | .zeroFillEnd z => Sys2Proof.Machine.execZeroFillEnd z s
  | .remoteRequestTimeout entry => Sys2Proof.Machine.execRemoteRequestTimeout entry s
  | .exportWindowWrite k w v => Sys2Proof.Machine.execExportWindowWrite k w v s
  | .ledgerCopyFail b => Sys2Proof.Machine.execLedgerCopyFail b s
  | .ledgerRebuildDone stack part => Sys2Proof.Machine.execLedgerRebuildDone stack part s
  | .pressurePublish pub occ cap => Sys2Proof.Machine.execPressurePublish pub occ cap s
  | .publisherStale pub => Sys2Proof.Machine.execPublisherStale pub s
  | .reservationAdmission idx v => Sys2Proof.Machine.execReservationAdmission idx v s
  | .reservationRelease idx => Sys2Proof.Machine.execReservationRelease idx s
  | .guaranteeWindow samples => Sys2Proof.Machine.execGuaranteeWindow samples s
  | .dmaChainStart who x addr ctx => Sys2Proof.Machine.execDmaChainStart who x addr ctx s
  | .descriptorFetchDone x st => Sys2Proof.Machine.execDescriptorFetchDone x st s
  | .descriptorComplete x => Sys2Proof.Machine.execDescriptorComplete x s
  | .eventPulse m => Sys2Proof.Machine.execEventPulse m s
  | .watchSlotRetry x => Sys2Proof.Machine.execWatchSlotRetry x s
  | .indexLineArrive e line st => Sys2Proof.Machine.execIndexLineArrive e line st s
  | .indexHaltRecovery e => Sys2Proof.Machine.execIndexHaltRecovery e s
  | .dmaResume who x => Sys2Proof.Machine.execDmaResume who x s
  | .dmaSkip who x => Sys2Proof.Machine.execDmaSkip who x s
  | .dmaAbort who x => Sys2Proof.Machine.execDmaAbort who x s
  | .tlxPoolWrite idx v => Sys2Proof.Machine.execTlxPoolWrite idx v s
  | .translationWalkDone u tag va => Sys2Proof.Machine.execTranslationWalkDone u tag va s
  | .invalidateBroadcast u m => Sys2Proof.Machine.execInvalidateBroadcast u m s
  | .invalidateAck u tag => Sys2Proof.Machine.execInvalidateAck u tag s
  | .invalidateTimeout u tag => Sys2Proof.Machine.execInvalidateTimeout u tag s
  | .dlogEnable c v => Sys2Proof.Machine.execDlogEnable c v s
  | .dlogFlip c => Sys2Proof.Machine.execDlogFlip c s
  | .dlogFlipDone c => Sys2Proof.Machine.execDlogFlipDone c s
  | .injectionRetry entry => Sys2Proof.Machine.execInjectionRetry entry s
  | .seamCreditStall seg ch east => Sys2Proof.Machine.execSeamCreditStall seg ch east s
  | .seamRetryWindow seg => Sys2Proof.Machine.execSeamRetryWindow seg s
  | .seamFlitReplay seg ch good => Sys2Proof.Machine.execSeamFlitReplay seg ch good s
  | .seamRepair seg ch => Sys2Proof.Machine.execSeamRepair seg ch s
  | .portEnable k v => Sys2Proof.Machine.execPortEnable k v s
  | .portDisable k v => Sys2Proof.Machine.execPortDisable k v s
  | .feedRecheck k wl => Sys2Proof.Machine.execFeedRecheck k wl s
  | .linkSignalDetect k => Sys2Proof.Machine.execLinkSignalDetect k s
  | .bringupStepDone k b => Sys2Proof.Machine.execBringupStepDone k b s
  | .bringupStepTimeout k => Sys2Proof.Machine.execBringupStepTimeout k s
  | .feedWavelengthFail k w => Sys2Proof.Machine.execFeedWavelengthFail k w s
  | .laneFail k tx lanes => Sys2Proof.Machine.execLaneFail k tx lanes s
  | .lossOfSignal k lanes => Sys2Proof.Machine.execLossOfSignal k lanes s
  | .frameReceive k fr => Sys2Proof.Machine.execFrameReceive k fr s
  | .replay k p => Sys2Proof.Machine.execReplay k p s
  | .replayRepeat k => Sys2Proof.Machine.execReplayRepeat k s
  | .heartbeatSend k => Sys2Proof.Machine.execHeartbeatSend k s
  | .status k m => Sys2Proof.Machine.execStatus k m s
  | .heartbeatTimeout k => Sys2Proof.Machine.execHeartbeatTimeout k s
  | .retrainBackoff k => Sys2Proof.Machine.execRetrainBackoff k s
  | .rekeyStart k => Sys2Proof.Machine.execRekeyStart k s
  | .rekey k m data => Sys2Proof.Machine.execRekey k m data s
  | .rekeyAck k m => Sys2Proof.Machine.execRekeyAck k m s
  | .rekeyDeadline k => Sys2Proof.Machine.execRekeyDeadline k s
  | .read k m => Sys2Proof.Machine.execRead k m s
  | .prepare k m data => Sys2Proof.Machine.execPrepare k m data s
  | .commit k m => Sys2Proof.Machine.execCommit k m s
  | .readResp k m data => Sys2Proof.Machine.execReadResp k m data s
  | .prepAck k m => Sys2Proof.Machine.execPrepAck k m s
  | .commitAck k m => Sys2Proof.Machine.execCommitAck k m s
  | .mirror k m data => Sys2Proof.Machine.execMirror k m data s
  | .mirrorAck k m => Sys2Proof.Machine.execMirrorAck k m s
  | .goingAwaySend k => Sys2Proof.Machine.execGoingAwaySend k s
  | .prtRetrain k => Sys2Proof.Machine.execPrtRetrain k s
  | .prtDown k => Sys2Proof.Machine.execPrtDown k s
  | .prtRekey k => Sys2Proof.Machine.execPrtRekey k s
  | .prtRtDataAccess w => Sys2Proof.Machine.execPrtRtDataAccess w s
  | .referenceFirstLock => Sys2Proof.Machine.execReferenceFirstLock s
  | .replicaAlign skews => Sys2Proof.Machine.execReplicaAlign skews s
  | .referenceLost => Sys2Proof.Machine.execReferenceLost s
  | .referenceRelock => Sys2Proof.Machine.execReferenceRelock s
  | .ppsInEdge => Sys2Proof.Machine.execPpsInEdge s
  | .ppsInTimeout => Sys2Proof.Machine.execPpsInTimeout s
  | .ppsOutRise => Sys2Proof.Machine.execPpsOutRise s
  | .ppsOutFall => Sys2Proof.Machine.execPpsOutFall s
  | .timOwdRead k => Sys2Proof.Machine.execTimOwdRead k s
  | .timedLaunchFire c lane => Sys2Proof.Machine.execTimedLaunchFire c lane s
  | .sillageRecord h => Sys2Proof.Machine.execSillageRecord h s
  | .sillageEnable idx v => Sys2Proof.Machine.execSillageEnable idx v s
  | .create c => Sys2Proof.Machine.execCreate c s
  | .rebind c => Sys2Proof.Machine.execRebind c s
  | .park c => Sys2Proof.Machine.execPark c s
  | .resume c => Sys2Proof.Machine.execResume c s
  | .release c => Sys2Proof.Machine.execRelease c s
  | .promote c => Sys2Proof.Machine.execPromote c s
  | .epochAdvance c => Sys2Proof.Machine.execEpochAdvance c s
  | .drainDeadline c => Sys2Proof.Machine.execDrainDeadline c s
  | .mapChangeEnd c => Sys2Proof.Machine.execMapChangeEnd c s
  | .sliceEnd => Sys2Proof.Machine.execSliceEnd s
  | .clusterRepair cl spillOk => Sys2Proof.Machine.execClusterRepair cl spillOk s
  | .twinEnable v => Sys2Proof.Machine.execTwinEnable v s
  | .twinSyncDone => Sys2Proof.Machine.execTwinSyncDone s
  | .twinLost => Sys2Proof.Machine.execTwinLost s
  | .promoteRetry c => Sys2Proof.Machine.execPromoteRetry c s
  | .doorbell f d v => Sys2Proof.Machine.execDoorbell f d v s
  | .commandRecordArrive q => Sys2Proof.Machine.execCommandRecordArrive q s
  | .commandWaitSatisfied q => Sys2Proof.Machine.execCommandWaitSatisfied q s
  | .commandCompletion q => Sys2Proof.Machine.execCommandCompletion q s
  | .nop q => Sys2Proof.Machine.execNop q s
  | .launch q => Sys2Proof.Machine.execLaunch q s
  | .copyH2d q => Sys2Proof.Machine.execCopyH2d q s
  | .copyD2h q => Sys2Proof.Machine.execCopyD2h q s
  | .fill q => Sys2Proof.Machine.execFill q s
  | .tableSync q => Sys2Proof.Machine.execTableSync q s
  | .invalidate q => Sys2Proof.Machine.execInvalidate q s
  | .ctxCreate q => Sys2Proof.Machine.execCtxCreate q s
  | .ctxDestroy q => Sys2Proof.Machine.execCtxDestroy q s
  | .destroySquash ctx => Sys2Proof.Machine.execDestroySquash ctx s
  | .qCreate q => Sys2Proof.Machine.execQCreate q s
  | .qDestroy q => Sys2Proof.Machine.execQDestroy q s
  | .fAlloc q => Sys2Proof.Machine.execFAlloc q s
  | .fFree q => Sys2Proof.Machine.execFFree q s
  | .fArm q => Sys2Proof.Machine.execFArm q s
  | .ctxAbort f v => Sys2Proof.Machine.execCtxAbort f v s
  | .launchAbortSquash c lane => Sys2Proof.Machine.execLaunchAbortSquash c lane s
  | .evrEnable f v => Sys2Proof.Machine.execEvrEnable f v s
  | .perstAssert h => Sys2Proof.Machine.execPerstAssert h s
  | .hotReset h => Sys2Proof.Machine.execHotReset h s
  | .hostLinkDown h => Sys2Proof.Machine.execHostLinkDown h s
  | .functionLevelReset f => Sys2Proof.Machine.execFunctionLevelReset f s
  | .mbxDoorbell f v body => Sys2Proof.Machine.execMbxDoorbell f v body s
  | .mbxAck f v => Sys2Proof.Machine.execMbxAck f v s
  | .mailboxInboundTaken c => Sys2Proof.Machine.execMailboxInboundTaken c s
  | .mailboxOutboundMessage c ty payload => Sys2Proof.Machine.execMailboxOutboundMessage c ty payload s
  | .engineCharge q => Sys2Proof.Machine.execEngineCharge q s
  | .quantumPreemption c lane => Sys2Proof.Machine.execQuantumPreemption c lane s
  | .launchResume c ctx lane => Sys2Proof.Machine.execLaunchResume c ctx lane s
  | .spanHang q => Sys2Proof.Machine.execSpanHang q s
  | .cycleBankSwitch => Sys2Proof.Machine.execCycleBankSwitch s
  | .cyclicWindowOpen idx => Sys2Proof.Machine.execCyclicWindowOpen idx s
  | .cyclicWindowClose idx => Sys2Proof.Machine.execCyclicWindowClose idx s
  | .windowPreempt idx => Sys2Proof.Machine.execWindowPreempt idx s
  | .schCycStartWrite v => Sys2Proof.Machine.execSchCycStartWrite v s
  | .mixerEnable c v => Sys2Proof.Machine.execMixerEnable c v s
  | .mixerStepForm c => Sys2Proof.Machine.execMixerStepForm c s
  | .mixerStepEnd c => Sys2Proof.Machine.execMixerStepEnd c s
  | .pendingFaultWrite f => Sys2Proof.Machine.execPendingFaultWrite f s
  | .fltRingEnable f v => Sys2Proof.Machine.execFltRingEnable f v s
  | .overflowClear f => Sys2Proof.Machine.execOverflowClear f s
  | .watchdogExpire e => Sys2Proof.Machine.execWatchdogExpire e s
  | .engineReset e => Sys2Proof.Machine.execEngineReset e s
  | .islandReset idx => Sys2Proof.Machine.execIslandReset idx s
  | .halfReset h => Sys2Proof.Machine.execHalfReset h s
  | .deviceReset => Sys2Proof.Machine.execDeviceReset s
  | .ladderStepTimeout => Sys2Proof.Machine.execLadderStepTimeout s
  | .collectionTimeout => Sys2Proof.Machine.execCollectionTimeout s
  | .quarantineReplay ctx portUse => Sys2Proof.Machine.execQuarantineReplay ctx portUse s
  | .quarantineOutcome ctx o => Sys2Proof.Machine.execQuarantineOutcome ctx o s
  | .fltResetWrite v => Sys2Proof.Machine.execFltResetWrite v s
  | .dumpTimeout => Sys2Proof.Machine.execDumpTimeout s
  | .dumpCopy h => Sys2Proof.Machine.execDumpCopy h s
  | .dumpCopyDone => Sys2Proof.Machine.execDumpCopyDone s
  | .dumpRelease => Sys2Proof.Machine.execDumpRelease s
  | .bootRom => Sys2Proof.Machine.execBootRom s
  | .recoveryImageLoad img => Sys2Proof.Machine.execRecoveryImageLoad img s
  | .fwSwitch => Sys2Proof.Machine.execFwSwitch s
  | .fwCommit => Sys2Proof.Machine.execFwCommit s
  | .fwLoad v => Sys2Proof.Machine.execFwLoad v s
  | .fwLoadDone => Sys2Proof.Machine.execFwLoadDone s
  | .getVersion ch => Sys2Proof.Machine.execGetVersion ch s
  | .getCapabilities ch => Sys2Proof.Machine.execGetCapabilities ch s
  | .negotiateAlgorithms ch => Sys2Proof.Machine.execNegotiateAlgorithms ch s
  | .getDigests ch => Sys2Proof.Machine.execGetDigests ch s
  | .getCertificate ch slot => Sys2Proof.Machine.execGetCertificate ch slot s
  | .challenge ch nonce => Sys2Proof.Machine.execChallenge ch nonce s
  | .getMeasurements ch ix signed nonce => Sys2Proof.Machine.execGetMeasurements ch ix signed nonce s
  | .spdmUnsupported ch code => Sys2Proof.Machine.execSpdmUnsupported ch code s
  | .mgmtSessionOpen c => Sys2Proof.Machine.execMgmtSessionOpen c s
  | .mgmtRegisterAccess sess off w => Sys2Proof.Machine.execMgmtRegisterAccess sess off w s
  | .mgmtAdminWrite sess a => Sys2Proof.Machine.execMgmtAdminWrite sess a s
  | .mgmtDrydownRequest sess => Sys2Proof.Machine.execMgmtDrydownRequest sess s
  | .generate v => Sys2Proof.Machine.execGenerate v s
  | .unwrap v => Sys2Proof.Machine.execUnwrap v s
  | .retire v => Sys2Proof.Machine.execRetire v s
  | .retireScrub v => Sys2Proof.Machine.execRetireScrub v s
  | .retireDrainEnd slot => Sys2Proof.Machine.execRetireDrainEnd slot s
  | .scrubGranuleDone g => Sys2Proof.Machine.execScrubGranuleDone g s
  | .secCompCfgWrite c v => Sys2Proof.Machine.execSecCompCfgWrite c v s
  | .feedFail b dv => Sys2Proof.Machine.execFeedFail b dv s
  | .feedQualify b dv => Sys2Proof.Machine.execFeedQualify b dv s
  | .feedGood b dv => Sys2Proof.Machine.execFeedGood b dv s
  | .singleFeedTimeout => Sys2Proof.Machine.execSingleFeedTimeout s
  | .holdupExhausted => Sys2Proof.Machine.execHoldupExhausted s
  | .pwrTargetCommit v => Sys2Proof.Machine.execPwrTargetCommit v s
  | .powerTargetFire => Sys2Proof.Machine.execPowerTargetFire s
  | .powerWindow watts => Sys2Proof.Machine.execPowerWindow watts s
  | .thermalThreshold idx temp => Sys2Proof.Machine.execThermalThreshold idx temp s
  | .throttleStep => Sys2Proof.Machine.execThrottleStep s
  | .tripRecover idx temp => Sys2Proof.Machine.execTripRecover idx temp s
  | .drydownStart cause => Sys2Proof.Machine.execDrydownStart cause s
  | .drydownPark => Sys2Proof.Machine.execDrydownPark s
  | .drydownTwinWaitEnd => Sys2Proof.Machine.execDrydownTwinWaitEnd s
  | .drydownPorts => Sys2Proof.Machine.execDrydownPorts s
  | .drydownParked => Sys2Proof.Machine.execDrydownParked s
  | .leaveParked => Sys2Proof.Machine.execLeaveParked s
  | .domWake idx => Sys2Proof.Machine.execDomWake idx s
  | .domGate idx => Sys2Proof.Machine.execDomGate idx s
  | .domRetain idx => Sys2Proof.Machine.execDomRetain idx s
  | .reloadCp idx => Sys2Proof.Machine.execReloadCp idx s
  | .reloadCpDone => Sys2Proof.Machine.execReloadCpDone s
  | .repair idx => Sys2Proof.Machine.execRepair idx s
  | .devResetNAssert => Sys2Proof.Machine.execDevResetNAssert s
  | .devResetNRelease => Sys2Proof.Machine.execDevResetNRelease s
  | .i3cPrivateWrite bytes => Sys2Proof.Machine.execI3cPrivateWrite bytes s
  | .i3cPrivateRead => Sys2Proof.Machine.execI3cPrivateRead s
  | .firmwareStart => Sys2Proof.Machine.execFirmwareStart s
  | .memoryTrainingDone failed => Sys2Proof.Machine.execMemoryTrainingDone failed s
  | .enumerationReady => Sys2Proof.Machine.execEnumerationReady s
  | .consoleLine line => Sys2Proof.Machine.execConsoleLine line s
  | .ver => Sys2Proof.Machine.execVer s
  | .isl id => Sys2Proof.Machine.execIsl id s
  | .ctr id => Sys2Proof.Machine.execCtr id s
  | .gasp slot => Sys2Proof.Machine.execGasp slot s
  | .tw w => Sys2Proof.Machine.execTw w s
  | .peek addr n => Sys2Proof.Machine.execPeek addr n s
  | .poke addr v => Sys2Proof.Machine.execPoke addr v s
  | .sil idx what v => Sys2Proof.Machine.execSil idx what v s
  | .dump => Sys2Proof.Machine.execDump s
  | .dumpAckByte b => Sys2Proof.Machine.execDumpAckByte b s
  | .dumpResendTimeout => Sys2Proof.Machine.execDumpResendTimeout s
  | .monLevelWrite who v => Sys2Proof.Machine.execMonLevelWrite who v s
  | .twEnable w v => Sys2Proof.Machine.execTwEnable w v s
  | .twClear w => Sys2Proof.Machine.execTwClear w s
  | .twDigEnable w v => Sys2Proof.Machine.execTwDigEnable w v s
  | .twinLogEnable v => Sys2Proof.Machine.execTwinLogEnable v s
  | .ctxEvrRdWrite f v => Sys2Proof.Machine.execCtxEvrRdWrite f v s
  | .perstRelease h => Sys2Proof.Machine.execPerstRelease h s
  | .hostLinkUp h => Sys2Proof.Machine.execHostLinkUp h s
  | .seqUntilDtReached q => Sys2Proof.Machine.execSeqUntilDtReached q s
  | .cpSleepDtReached c => Sys2Proof.Machine.execCpSleepDtReached c s
  | .i3cDynamicAddressAssign a => Sys2Proof.Machine.execI3cDynamicAddressAssign a s
  | .mgmtCrashDumpRetrieval sess => Sys2Proof.Machine.execMgmtCrashDumpRetrieval sess s

end Sys2Proof.Machine
end

