-- ==== Sys2Proof/Machine/Tick.lean ====
section
/-! DEFINITION. Machine/Tick.lean: what happens on its own at a cycle of the AON clock (R293) and at the ports (R275). -/
namespace Sys2Proof.Machine

/-- The ticks by which the master counter of device time advances in one AON cycle: ten, once it runs (R293). -/
def aonCycle : Nat := 10

/-- What ports do on their own: each agent goes on with the requests that wait, and each port sends one DATA frame of what waits on it, if the credits
of its class allow (R255, R275, R284, R286, R288); see DESIGN CHOICE, log 9. -/
def State.drainPorts (s : State) : State := (List.range 8).foldl (fun (s : State) (k : Nat) => (s.serveAgent k).sendData k) s

/-- The master counter of device time advances by one AON cycle where it runs (R293). -/
def State.advanceTime (s : State) : State :=
  if s.aon.dtRuns then { s with aon := { s.aon with dt := s.aon.dt + aonCycle } } else s

/-- One 200 MHz AON cycle with nothing commanded: device time advances (R293) and waiting frames leave (R275); see DESIGN CHOICE, log 9. -/
def State.tick (s : State) : State := s.advanceTime.drainPorts

end Sys2Proof.Machine
end

