-- ==== Sys2Proof/Safety.lean ====
section
/-! DEFINITION. Safety.lean: what counts as a safe run, and the words in which the statements speak: a command that goes on, the executor of an
instruction, the file it leaves, the rows of one shape. -/
namespace Sys2Proof.Machine

/-- Command `c` goes on at `s`, and the state it leads to has `P`. -/
def leads (c : Instr) (s : State) (P : State → Prop) : Prop := ∃ t, exec c s = .next t ∧ P t

/-- No command stops the block at `s`: a safe run takes well-formed commands only. -/
def safeAt (s : State) : Prop := ∀ c : Instr, c.wellFormed = true → ∃ t, exec c s = .next t

/-! ## Registers -/

/-- Whether copy `i` of a register exists: one for each function where each has its own, else as many as its table row gives; of MON_TW_HIST the 32
bins of each watch (R350, R478). -/
def RegName.hasCopy (r : RegName) (i : Nat) : Bool :=
  decide (i < (if r.row.perFn then 128 else r.row.count)) && (r != .MON_TW_HIST || decide (i % 64 < 32))

/-! ## Instructions of a sequencer -/

/-- The executor takes its next instruction (R76, R84, R96). -/
def State.issues (s : State) (q : Seqr) : Bool :=
  match q with
  | .core n r => s.canIssue n r
  | .cp p => s.cpCanIssue p

/-- The state with the executor's registers g, p and pc replaced, and nothing else. -/
def State.setFile (s : State) (q : Seqr) (f : SeqFile) : State :=
  match q with
  | .core n r => s.setCore n r { s.core n r with file := f }
  | .cp p => s.setCp p { s.cp p with file := f }

/-- The registers after an instruction of effect `g`: under a false predicate only pc advances (R76). -/
def SeqFile.after (f : SeqFile) (p : Pred) (g : SeqFile → SeqFile) : SeqFile := if f.holds p then g f else f.adv

/-- The registers after rd receives `v` and pc advances to the next word. -/
def SeqFile.result (f : SeqFile) (o : Ops) (v : Word) : SeqFile := (f.wg (rdOf o) v).adv

/-- The registers after pd receives `v` and pc advances to the next word. -/
def SeqFile.truth (f : SeqFile) (o : Ops) (v : Bool) : SeqFile := (f.wp (pdOf o) v).adv

/-- The RR operations of R88 with what each writes to rd, from ra and rb. -/
def rrRows : List ((Seqr → Pred → Ops → Instr) × (Word → Word → Word)) :=
  [(.seqAdd, fun a b => a + b), (.seqSub, fun a b => a - b), (.seqMul, fun a b => a * b),
   (.seqMulhu, fun a b => BitVec.ofNat 64 (a.toNat * b.toNat / 2 ^ 64)),
   (.seqAnd, fun a b => a &&& b), (.seqOr, fun a b => a ||| b), (.seqXor, fun a b => a ^^^ b),
   (.seqShl, fun a b => a <<< (b.toNat % 64)), (.seqShr, fun a b => a >>> (b.toNat % 64)),
   (.seqSra, fun a b => a.sshiftRight (b.toNat % 64)),
   (.seqMin, fun a b => if a.slt b then a else b), (.seqMax, fun a b => if a.slt b then b else a),
   (.seqMinu, fun a b => if a.ult b then a else b), (.seqMaxu, fun a b => if a.ult b then b else a),
   (.seqDivu, fun a b => if b = 0#64 then BitVec.allOnes 64 else a / b), (.seqRemu, fun a b => if b = 0#64 then a else a % b)]

/-- The RI operations of R88: the bits that must be zero, and what each writes to rd, from ra and the sign-extended immediate. -/
def riRows : List ((Seqr → Pred → Ops → Instr) × (Ops → Bool) × (Word → Word → Word)) :=
  [(.seqAddi, fun _ => true, fun a i => a + i), (.seqAndi, fun _ => true, fun a i => a &&& i), (.seqOri, fun _ => true, fun a i => a ||| i),
   (.seqXori, fun _ => true, fun a i => a ^^^ i),
   (.seqShli, fun o => ob o 37 6 == 0, fun a i => a <<< (i.toNat % 64)), (.seqShri, fun o => ob o 37 6 == 0, fun a i => a >>> (i.toNat % 64)),
   (.seqSrai, fun o => ob o 37 6 == 0, fun a i => a.sshiftRight (i.toNat % 64)),
   (.seqMovi, fun o => raOf o == 0, fun _ i => i),
   (.seqMovhi, fun o => ob o 37 32 == 0, fun a i => (a &&& 0xFFFFFFFF#64) ||| (i <<< 32))]

/-- The PL operations of R88: the bits that must be zero, and what each writes to pd, from pa and pb. -/
def plRows : List ((Seqr → Pred → Ops → Instr) × (Ops → Bool) × (Bool → Bool → Bool)) :=
  [(.seqPand, fun o => ob o 38 0 == 0, fun a b => a && b), (.seqPor, fun o => ob o 38 0 == 0, fun a b => a || b),
   (.seqPxor, fun o => ob o 38 0 == 0, fun a b => xor a b), (.seqPnot, fun o => ob o 38 0 == 0 && ob o 41 39 == 0, fun a _ => !a)]

/-- The setup operations of R91 to R94 with their opcode and the operand codes of the objects they set up. -/
def setupRows : List ((Seqr → Pred → Ops → Instr) × Nat × (Ops → Nat)) :=
  [(.seqTdef, 0x80, fun o => encOG o 0x00 0x3F true), (.seqTscale, 0x81, fun o => encOG o 0x00 0x3F true),
   (.seqQdef, 0x82, fun o => encOG o 0x40 0x4F true), (.seqQfree, 0x83, fun o => encOG o 0x40 0x4F false), (.seqSdef, 0x84, encSdef),
   (.seqSrew, 0x85, fun o => encOG o 0x70 0x7F true), (.seqSpos, 0x86, fun o => encOG o 0x70 0x7F true)]

/-- The command-processor operations of R97, with the check of their zero bits. -/
def cpRows : List ((Seqr → Pred → Ops → Instr) × (Ops → Nat)) :=
  [(.cpNext, fun o => encRRuse o true false false), (.cpSleep, fun o => encRRuse o true true false),
   (.cpIssue, fun o => encRRuse o true true false), (.cpFsig, fun o => encRRuse o true true true),
   (.cpAcct, fun o => encRRuse o false true true)]

/-- A form of station instruction, with its unit and opcode. -/
abbrev StationRow : Type := (Nat → Nat → Pred → Ops → Bool → Instr) × Nat × Nat

/-- The station instructions that have one format each (R104, R109, R113, R117, R122, R127). -/
def plainRows : List StationRow :=
  [(.ldTile, 1, 0x00), (.stTile, 2, 0x00), (.xfSpx, 3, 0x18), (.xfGth, 3, 0x20), (.mmaClr, 4, 0x28), (.mmaAddF32, 4, 0x29),
   (.vfmaRescale, 5, 0x05), (.vexp, 5, 0x08), (.vrcp, 5, 0x09), (.vrsqrt, 5, 0x0A), (.vtanh, 5, 0x0B), (.vonl, 5, 0x10), (.vrsi, 5, 0x18),
   (.sndTile, 7, 0x00), (.sndRaddF32, 7, 0x08), (.rcvTile, 8, 0x00), (.rcvRaddF32, 8, 0x08),
   (.barSync, 9, 0x00), (.barArrive, 9, 0x01), (.barWait, 9, 0x02), (.flagSet, 9, 0x08), (.flagAdd, 9, 0x09), (.flagWait, 9, 0x0A),
   (.fenceMem, 9, 0x10), (.fenWait, 9, 0x18)]

/-- `n` forms of an instruction at opcodes from `op` on. -/
def formRows (n u op : Nat) (c : Nat → Nat → Nat → Pred → Ops → Bool → Instr) : List StationRow :=
  (List.range n).map fun f => (fun n r p o b => c n r f p o b, u, op + f)

/-- The instructions with a suffix, at opcodes 0x40 apart (R117, R120). -/
def suffixRows (f : Nat) : List StationRow :=
  [(fun n r p o b => .vadd n r f p o b, 5, 0x40 * f), (fun n r p o b => .vsub n r f p o b, 5, 0x40 * f + 1),
   (fun n r p o b => .vmul n r f p o b, 5, 0x40 * f + 2), (fun n r p o b => .vmax n r f p o b, 5, 0x40 * f + 3),
   (fun n r p o b => .vmin n r f p o b, 5, 0x40 * f + 4), (fun n r p o b => .vfma n r f p o b, 5, 0x40 * f + 5),
   (fun n r p o b => .redAdd n r f p o b, 6, 0x40 * f), (fun n r p o b => .redMax n r f p o b, 6, 0x40 * f + 1),
   (fun n r p o b => .redMin n r f p o b, 6, 0x40 * f + 2), (fun n r p o b => .redAmax n r f p o b, 6, 0x40 * f + 3)]

/-- The station instructions with the unit and opcode of each form (R99, R101, R104, R109, R113, R114, R117, R120, R122, R127). -/
def stationRows : List StationRow :=
  List.flatten
    [plainRows, formRows 6 3 0 (fun n r f => .xfTr n r f), formRows 15 3 0x08 (fun n r f => .xfCvt n r f),
     formRows 9 4 0 (fun n r f => .mma n r f), formRows 4 4 0x10 (fun n r f => .mma n r (9 + f)),
     formRows 5 4 0x20 (fun n r f => .mmaOut n r f), (List.range 3).flatMap suffixRows, formRows 5 5 0x11 (fun n r f => .vnorm n r f)]

/-- The station instruction that a resident dispatches (R71, R85). -/
def Res.stationIns (x : Res) (u op : Nat) (o : Ops) : StIns :=
  { u := u, op := op, ops := o, sc := x.scalarsOf o, pc := x.file.pc, seq := x.seqNo }

/-- Whether a resident dispatches an instruction to a station: the sequencer finds no fault in it, its predicate holds, and the station's queue
has room (R71, R76, R85, R95). -/
def State.dispatches (s : State) (n r u op : Nat) (p : Pred) (o : Ops) : Bool :=
  let x := s.core n r
  s.canIssue n r && x.stationFault (s.shared x.comp) u op o == 0 && x.file.holds p &&
    decide ((x.sq.filter fun i => i.u == u).length < queueDepth (s.shared x.comp) u)

/-- The state after the dispatch: the instruction stands last in the station's queue, the sequencer waits for nothing, and pc has advanced. -/
def State.dispatched (s : State) (n r u op : Nat) (o : Ops) : State :=
  let x := s.core n r
  s.setCore n r { x with sq := x.sq ++ [x.stationIns u op o], seqNo := x.seqNo + 1, file := x.file.adv, wait := .none, actAt := s.aon.dt }

/-- Whether the station of a unit holds nothing, so that an instruction dispatched to it is its head. -/
def State.stationIdle (s : State) (n r u : Nat) : Bool := ((s.core n r).headOf u).isNone && ((s.core n r).oldest u).isNone

/-- The state in which command processor `i` has put the oldest record of queue `q` in its place and remembers it (R97, DESIGN CHOICE, log 49). -/
def State.takenRecord (s : State) (i : Nat) (q : QRef) : State :=
  let a := recordPlace (s.cp i).fwData i q
  let t := (s.writePhys .fw 0 a (s.recordAt q (s.ring q).rd).raw).s
  let t := t.setCp i { t.cp i with taken := (a, q) :: ((t.cp i).taken.filter fun e => e.1 != a) }
  match q with
  | .queue k => t.onCtx (t.ring q).ctx fun x => { x with lastQ := k }
  | .admin _ => t

/-- Whether an instruction at the head of its station, one of units 1 to 6, starts: no role fault, nothing holds it, its tokens are there, its stream
has a tile with no held fault, its handles are set, and the unit's own checks pass (R43 to R45, R52, R54, R72, R73, R80, R100, R102). -/
def State.startable (s : State) (n r : Nat) (i : StIns) : Bool :=
  let x := s.core n r
  let ks := x.tileStream i
  let ah := if i.u = 1 then (match ks with
    | some (j, st) => x.aheadFor j st.p
    | none => none) else none
  let hs := x.handlesFor i ah
  x.roleFault i == 0 && !x.gated i && !x.hazards i && !x.startedFull (s.shared x.comp) i.u && ((ah.isSome || x.dstReady i) && i.srcs.all fun c => x.srcReady i c) &&
    streamFault i ks == 0 && (ks.bind fun p => p.2.held.find p.2.p).isNone && !x.handleUnset hs && s.unitFault n r i hs == 0

/-- The state after an instruction of units 1 to 6 has started (R43, R102). -/
def State.begun (s : State) (n r : Nat) (i : StIns) : State :=
  let x := s.core n r
  let ks := x.tileStream i
  let ah := if i.u = 1 then (match ks with
    | some (j, st) => x.aheadFor j st.p
    | none => none) else none
  s.setCore n r (x.begin i (x.handlesFor i ah) ah (s.dtOf (n / 8)))

/-- The state after the oldest started instruction of unit `u` has completed with effect `e` (R44, R48, R49, R474). -/
def State.completed (s : State) (n r : Nat) (t : Started) : State :=
  let e := s.workOutcome n r t
  ((e.s.onCore n r fun x => x.finish t).watchTile n r t.ins (t.hs.getD 0 none)).afterDone n r

end Sys2Proof.Machine
end

