-- ==== Sys2Proof/Certificates/Slice0/Obligations.lean ====
section
/-! DEFINITION. Certificates/Slice0/Obligations.lean: the statements for the provers. Each says what its docstring and its entry in
OBLIGATIONS.json say. -/

open Sys2Proof Sys2Proof.Machine

/-- A step takes the command at the front; on an empty queue one AON cycle passes, which is the model's choice (DESIGN CHOICE, log 9). -/
def Obligations.StepTakesFront : Prop :=
  (∀ (c : Instr) (rest : List Instr) (s : State), step { s with pending := c :: rest } = exec c { s with pending := rest }) ∧
  (∀ s : State, s.pending = [] → step s = .next (s.advanceTime.drainPorts))

/-- A command goes on exactly where the objects that it names exist. -/
def Obligations.CommandsGoOn : Prop :=
  ∀ (c : Instr) (s : State),
    (c.named = true → ∃ t, exec c s = .next t) ∧ (c.named = false → exec c s = .fault .noSuchObject)

/-- Decoding an encoded well-formed instruction command gives it back. -/
def Obligations.WordRoundTrip : Prop :=
  ∀ (c : Instr) (w : Word) (q : Seqr) (now : Bool), c.wellFormed = true → c.word = some w → c.executor = some (q, now) →
    (∀ v, c ≠ .seqNop q v) → Instr.ofWord q now w = c

/-- Encoding the command that a word decodes to gives the word. -/
def Obligations.WordKept : Prop :=
  ∀ (q : Seqr) (now : Bool) (w : Word), (Instr.ofWord q now w).word = some w ∧
    (q.named = true → (Instr.ofWord q now w).wellFormed = true)

/-- A few words decode to what they stand for. -/
def Obligations.WordExamples : Prop :=
  (∃ o, Instr.ofWord (.core 0 0) false 0x0100184400000000#64 = .seqAdd (.core 0 0) ⟨0, false⟩ o ∧ rdOf o = 3 ∧ raOf o = 1 ∧ rbOf o = 2) ∧
  (∃ o, Instr.ofWord (.cp 3) false 0x02A5283FFFFFFFFF#64 = .seqMovi (.cp 3) ⟨2, true⟩ o ∧ rdOf o = 5 ∧ raOf o = 0 ∧ immOf o = -1) ∧
  (∃ o, Instr.ofWord (.core 671 1) false 0x053001C0FFFFFFFC#64 = .seqLoop (.core 671 1) ⟨0, false⟩ o ∧ raOf o = 7 ∧ offOf o = -4) ∧
  (∃ o, Instr.ofWord (.core 8 0) true 0x5400020001FF0000#64 = .vadd 8 0 1 ⟨0, false⟩ o true ∧ dstOf o = 2 ∧ s1Of o = 0 ∧ s2Of o = 1)

/-- RR and RI operations write rd and advance pc; the rest of the state is unchanged. -/
def Obligations.ScalarArithmetic : Prop :=
  (∀ e ∈ rrRows, ∀ (q : Seqr) (p : Pred) (o : Ops) (s : State), q.named = true → s.issues q = true → ob o 32 0 = 0 →
    exec (e.1 q p o) s =
      .next (s.setFile q ((s.fileOf q).after p fun f => f.result o (e.2 (f.rg (raOf o)) (f.rg (rbOf o)))))) ∧
  (∀ e ∈ riRows, ∀ (q : Seqr) (p : Pred) (o : Ops) (s : State), q.named = true → s.issues q = true → e.2.1 o = true →
    exec (e.1 q p o) s =
      .next (s.setFile q ((s.fileOf q).after p fun f => f.result o (e.2.2 (f.rg (raOf o)) (w64 (immOf o))))))

/-- Compares, predicate operations, select and nop. -/
def Obligations.ScalarTruth : Prop :=
  (∀ (q : Seqr) (c : Cond) (p : Pred) (o : Ops) (s : State), q.named = true → s.issues q = true → ob o 44 43 = 0 → ob o 32 0 = 0 →
    exec (.seqCmp q c p o) s =
      .next (s.setFile q ((s.fileOf q).after p fun f => f.truth o (condHolds c (f.rg (raOf o)) (f.rg (rbOf o)))))) ∧
  (∀ (q : Seqr) (c : Cond) (p : Pred) (o : Ops) (s : State), q.named = true → s.issues q = true → ob o 44 43 = 0 → ob o 37 33 = 0 →
    exec (.seqCmpi q c p o) s =
      .next (s.setFile q ((s.fileOf q).after p fun f => f.truth o (condHolds c (f.rg (raOf o)) (w64 (imm33Of o)))))) ∧
  (∀ e ∈ plRows, ∀ (q : Seqr) (p : Pred) (o : Ops) (s : State), q.named = true → s.issues q = true → e.2.1 o = true →
    exec (e.1 q p o) s =
      .next (s.setFile q ((s.fileOf q).after p fun f => f.truth o (e.2.2 (f.rp (ob o 44 42)) (f.rp (ob o 41 39)))))) ∧
  (∀ (q : Seqr) (p : Pred) (o : Ops) (s : State), q.named = true → s.issues q = true → ob o 29 0 = 0 →
    exec (.seqSel q p o) s =
      .next (s.setFile q ((s.fileOf q).after p fun f => f.result o (if f.rp (ob o 32 30) then f.rg (raOf o) else f.rg (rbOf o))))) ∧
  (∀ (q : Seqr) (p : Pred) (s : State), q.named = true → s.issues q = true → p.psel < 8 →
    exec (.seqNop q (wordOf 0 0 p 0#48)) s = .next (s.setFile q (s.fileOf q).adv))

/-- Branches. -/
def Obligations.ScalarBranches : Prop :=
  (∀ (q : Seqr) (p : Pred) (o : Ops) (s : State), q.named = true → s.issues q = true → encBR o false false true = 0 →
    exec (.seqBr q p o) s = .next (s.setFile q ((s.fileOf q).after p fun f => f.jump (offOf o)))) ∧
  (∀ (q : Seqr) (p : Pred) (o : Ops) (s : State), q.named = true → s.issues q = true → encBR o true false true = 0 →
    exec (.seqCall q p o) s =
      .next (s.setFile q ((s.fileOf q).after p fun f => (f.wg (rdOf o) (BitVec.ofNat 64 (f.pc + 8))).jump (offOf o)))) ∧
  (∀ (q : Seqr) (p : Pred) (o : Ops) (s : State), q.named = true → s.issues q = true → encBR o false true false = 0 →
    ((s.fileOf q).rg (raOf o)).toNat % 8 = 0 →
    exec (.seqJr q p o) s =
      .next (s.setFile q ((s.fileOf q).after p fun f => { f with pc := (f.rg (raOf o)).toNat % 2 ^ 52 }))) ∧
  (∀ (q : Seqr) (p : Pred) (o : Ops) (s : State), q.named = true → s.issues q = true → encBR o false true true = 0 →
    exec (.seqLoop q p o) s =
      .next (s.setFile q ((s.fileOf q).after p fun f =>
        let v := f.rg (raOf o) - 1#64
        let g := f.wg (raOf o) v
        if v = 0#64 then g.adv else g.jump (offOf o))))

/-- The hard-wired g0 and p0, and the frame of a register write. -/
def Obligations.ScalarFileFrame : Prop :=
  (∀ f : SeqFile, f.rg 0 = 0#64 ∧ f.rp 0 = true ∧ (∀ v, f.wg 0 v = f) ∧ (∀ b, f.wp 0 b = f)) ∧
  (∀ (f : SeqFile) (i j : Nat) (v : Word), f.g.length = 32 → 0 < i → i < 32 →
    (f.wg i v).rg j = (if j = i then v else f.rg j) ∧ (f.wg i v).pc = f.pc ∧ (f.wg i v).p = f.p) ∧
  (∀ (f : SeqFile) (i j : Nat) (b : Bool), f.p.length = 8 → 0 < i → i < 8 →
    (f.wp i b).rp j = (if j = i then b else f.rp j) ∧ (f.wp i b).pc = f.pc ∧ (f.wp i b).g = f.g)

/-- Where an encoding traps. -/
def Obligations.IllegalEncodings : Prop :=
  (∀ e ∈ rrRows, ∀ (n r : Nat) (p : Pred) (o : Ops) (s : State), coreNamed n r = true → s.canIssue n r = true → ob o 32 0 ≠ 0 →
    exec (e.1 (.core n r) p o) s = .next (s.seqFault n r fIllegalIns)) ∧
  (∀ e ∈ cpRows, ∀ (n r : Nat) (p : Pred) (o : Ops) (s : State), coreNamed n r = true → s.canIssue n r = true → e.2 o = 0 →
    exec (e.1 (.core n r) p o) s = .next (s.seqFault n r fPrivileged)) ∧
  (∀ e ∈ rrRows, ∀ (i : Nat) (p : Pred) (o : Ops) (s : State), i < 16 → s.cpCanIssue i = true → ob o 32 0 ≠ 0 →
    exec (e.1 (.cp i) p o) s = .next (s.cpFault i fIllegalIns)) ∧
  (∀ e ∈ [Instr.seqPull, Instr.seqDone, Instr.seqLive, Instr.seqWait, Instr.seqTdef, Instr.seqTscale, Instr.seqQdef, Instr.seqQfree,
      Instr.seqSdef, Instr.seqSrew, Instr.seqSpos],
    ∀ (i : Nat) (p : Pred) (o : Ops) (s : State), i < 16 → s.cpCanIssue i = true →
    exec (e (.cp i) p o) s = .next (s.cpFault i fIllegalIns))

/-- Scalar accesses. -/
def Obligations.ScalarAccesses : Prop :=
  (∀ (n r : Nat) (z : Size) (p : Pred) (o : Ops) (s : State), coreNamed n r = true → s.canIssue n r = true → (s.core n r).file.holds p = true →
    let x := s.core n r
    let q := s.vread (s.scalarWho n r) (s.scalarSpace n r false) (x.file.ea o) (sizeBytes z) needR
    x.file.ea o % sizeBytes z = 0 → q.wait = false → q.fail = none →
    exec (.seqLd (.core n r) z p o) s = .next (q.s.endSeq n r fun f => f.result o (BitVec.ofNat 64 (leNat q.data)))) ∧
  (∀ (n r : Nat) (z : Size) (p : Pred) (o : Ops) (s : State), coreNamed n r = true → s.canIssue n r = true → (s.core n r).file.holds p = true →
    let x := s.core n r
    let q := s.vwrite (s.scalarWho n r) (s.scalarSpace n r true) (x.file.ea o) (leBytes (sizeBytes z) (x.file.rg (rdOf o)).toNat) needW
    let c := q.s.commitOwner (ownerCore n)
    x.file.ea o % sizeBytes z = 0 → q.wait = false → q.fail = none →
    (s.spaceRemote (s.scalarSpace n r true) (x.file.ea o) needW = false →
      exec (.seqSt (.core n r) z p o) s = .next (q.s.endSeq n r SeqFile.adv)) ∧
    (s.spaceRemote (s.scalarSpace n r true) (x.file.ea o) needW = true → c.groupsClosed (ownerCore n) = false →
      exec (.seqSt (.core n r) z p o) s = .next (c.holdSeq n r (stCode z) o true))) ∧
  (∀ (n r : Nat) (z : Size) (p : Pred) (o : Ops) (s : State), coreNamed n r = true → s.goesOn n r (stCode z) o = true → (s.core n r).sent = true →
    s.groupsClosed (ownerCore n) = true → s.groupsPoisoned (ownerCore n) = false →
    exec (.seqSt (.core n r) z p o) s = .next ((s.freeClosed (ownerCore n)).endSeq n r SeqFile.adv)) ∧
  (∀ (n r : Nat) (p : Pred) (o : Ops) (s : State), coreNamed n r = true → s.canIssue n r = true → (s.core n r).file.holds p = true →
    let x := s.core n r
    let q := s.atomicAt (s.scalarWho n r) false (.store n) (.scalar r) (s.ctxTag x.ctx) (x.file.ea o) 8 fun v => v + (x.file.rg (rdOf o)).toNat
    x.file.ea o % 8 = 0 → q.wait = false → q.fail = none →
    exec (.seqAmoAddD (.core n r) p o) s = .next (q.s.endSeq n r fun f => f.result o (BitVec.ofNat 64 q.old))) ∧
  (∀ (n r : Nat) (z : Size) (p : Pred) (o : Ops) (s : State), coreNamed n r = true → s.canIssue n r = true → (s.core n r).file.holds p = true →
    ((s.core n r).file.ea o % sizeBytes z ≠ 0 →
      exec (.seqLd (.core n r) z p o) s = .next (s.seqFault n r fScalarAlign) ∧
      exec (.seqSt (.core n r) z p o) s = .next (s.seqFault n r fScalarAlign)) ∧
    ((s.core n r).file.ea o % 8 ≠ 0 → exec (.seqAmoAddD (.core n r) p o) s = .next (s.seqFault n r fScalarAlign))) ∧
  (∀ (i v : Nat) (z : Size) (p : Pred) (o : Ops) (s t : State), i < 16 → s.cpCanIssue i = true → (s.cp i).file.holds p = true →
    (s.cp i).file.ea o % sizeBytes z = 0 → s.cpRead i ((s.cp i).file.ea o) (sizeBytes z) = .done t v →
    (isRemote ((s.cp i).file.ea o) && (t.openGroup (ownerCp i)).isSome) = false →
    exec (.seqLd (.cp i) z p o) s = .next (t.endCp i fun f => f.result o (BitVec.ofNat 64 v))) ∧
  (∀ (i v : Nat) (z : Size) (p : Pred) (o : Ops) (s t : State), i < 16 → s.cpCanIssue i = true → (s.cp i).file.holds p = true →
    (s.cp i).file.ea o % sizeBytes z = 0 →
    s.cpWrite i ((s.cp i).file.ea o) (sizeBytes z) ((s.cp i).file.rg (rdOf o)).toNat = .done t v →
    (isRemote ((s.cp i).file.ea o) && (t.openGroup (ownerCp i)).isSome) = false →
    exec (.seqSt (.cp i) z p o) s = .next (t.endCp i SeqFile.adv))

/-- CSRs. -/
def Obligations.ControlRegisters : Prop :=
  (∀ (n r : Nat) (p : Pred) (o : Ops) (s t : State) (v : Word), coreNamed n r = true → s.canIssue n r = true → (s.core n r).file.holds p = true →
    encCsr o true false = 0 → s.coreCsr n r (ob o 11 0) = some (v, t) →
    exec (.seqCsrr (.core n r) p o) s = .next (t.onCore n r fun x => { x with file := x.file.result o v })) ∧
  (∀ (n r : Nat) (s : State),
    let x := s.core n r
    s.coreCsr n r 0 = some (BitVec.ofNat 64 x.file.pc, s) ∧
    (x.rank = none → s.coreCsr n r 1 = some (BitVec.allOnes 64, s)) ∧ (∀ k, x.rank = some k → s.coreCsr n r 1 = some (BitVec.ofNat 64 k, s)) ∧
    s.coreCsr n r 2 = some (BitVec.ofNat 64 (s.boundCores x.comp), s) ∧
    (∃ t, s.coreCsr n r 3 = some (BitVec.ofNat 64 (s.readDt (n / 8)).1, t)) ∧
    s.coreCsr n r 4 = some (BitVec.ofNat 64 x.live, s) ∧
    (x.item = none → s.coreCsr n r 5 = some (BitVec.allOnes 64, s)) ∧ (∀ k, x.item = some k → s.coreCsr n r 5 = some (BitVec.ofNat 64 k, s)) ∧
    s.coreCsr n r 6 = some (BitVec.ofNat 64 x.sflags, s) ∧ s.coreCsr n r 7 = some (BitVec.ofNat 64 x.sclass, s) ∧
    s.coreCsr n r 8 = some (BitVec.ofNat 64 x.srseed, s)) ∧
  (∀ (n r : Nat) (p : Pred) (o : Ops) (s : State), coreNamed n r = true → s.canIssue n r = true → (s.core n r).file.holds p = true →
    encCsr o false true = 0 →
    let v := (s.core n r).file.rg (raOf o)
    (ob o 11 0 = 4 → exec (.seqCsrw (.core n r) p o) s =
      .next (s.onCore n r fun x => { x with live := v.toNat &&& s.liveMask x.comp, file := x.file.adv })) ∧
    (ob o 11 0 = 6 → exec (.seqCsrw (.core n r) p o) s =
      .next (s.onCore n r fun x => { x.clearFlags v.toNat with file := x.file.adv })) ∧
    (ob o 11 0 = 7 → (v.toNat % 4 ≠ 0 ∨ s.ctxRt (s.core n r).ctx = true) → exec (.seqCsrw (.core n r) p o) s =
      .next (s.onCore n r fun x => { x with sclass := v.toNat % 4, file := x.file.adv })) ∧
    (ob o 11 0 = 7 → v.toNat % 4 = 0 → s.ctxRt (s.core n r).ctx = false → exec (.seqCsrw (.core n r) p o) s = .next (s.seqFault n r fIllegalOp)) ∧
    (ob o 11 0 ∉ [4, 6, 7] → exec (.seqCsrw (.core n r) p o) s = .next (s.pass n r))) ∧
  (∀ (n r : Nat) (p : Pred) (o : Ops) (s : State), coreNamed n r = true → s.canIssue n r = true → (s.core n r).file.holds p = true →
    encRRuse o false true false = 0 →
    exec (.seqLive (.core n r) p o) s = .next (s.onCore n r fun x =>
      { x with live := (x.file.rg (raOf o)).toNat &&& s.liveMask x.comp, file := x.file.adv })) ∧
  (∀ (i : Nat) (p : Pred) (o : Ops) (s t : State) (v : Word), i < 16 → s.cpCanIssue i = true → (s.cp i).file.holds p = true →
    encCS o true false = 0 → s.cpCsr i (ob o 11 0) = some (v, t) →
    exec (.seqCsrr (.cp i) p o) s = .next (t.setCp i { t.cp i with file := (t.cp i).file.result o v })) ∧
  (∀ (i : Nat) (p : Pred) (o : Ops) (s : State), i < 16 → s.cpCanIssue i = true → encCS o false true = 0 →
    exec (.seqCsrw (.cp i) p o) s = .next (s.cpFault i fIllegalOp)) ∧
  (∀ (i : Nat) (w : Wake) (rest : List Wake) (s : State), i < 16 → (s.cp i).wakes = w :: rest →
    exec (.cpWakeRead i) s = .next (s.takeWake i).2 ∧ ((s.takeWake i).2.cp i).wakes = rest)

/-- Waits and held setups. -/
def Obligations.SequencerWaits : Prop :=
  (∀ (n r : Nat) (p : Pred) (o : Ops) (s : State), coreNamed n r = true → s.canIssue n r = true → (s.core n r).file.holds p = true → encW o = 0 →
    let x := s.core n r
    (x.stationsDone (ob o 9 0) x.seqNo = true → exec (.seqWait (.core n r) p o) s = .next (s.pass n r)) ∧
    (x.stationsDone (ob o 9 0) x.seqNo = false →
      exec (.seqWait (.core n r) p o) s = .next (s.setCore n r { x with wait := .stations (ob o 9 0) x.seqNo }))) ∧
  (∀ (n r : Nat) (p : Pred) (o : Ops) (s : State), coreNamed n r = true → s.canIssue n r = true → (s.core n r).file.holds p = true →
    encRRuse o false true false = 0 →
    let t := ((s.core n r).file.rg (raOf o)).toNat
    (t ≤ s.dtOf (n / 8) → exec (.seqUntil (.core n r) p o) s = .next (s.pass n r)) ∧
    (s.dtOf (n / 8) < t → exec (.seqUntil (.core n r) p o) s = .next (s.setCore n r { s.core n r with wait := .dt t }))) ∧
  (∀ (n r t : Nat) (s : State), coreNamed n r = true → (s.core n r).wait = .dt t → (s.core n r).status = .running → t ≤ s.dtOf (n / 8) →
    exec (.seqUntilDtReached (.core n r)) s =
      .next (s.setCore n r { s.core n r with wait := .none, file := (s.core n r).file.adv })) ∧
  (∀ (i : Nat) (p : Pred) (o : Ops) (s : State), i < 16 → s.cpCanIssue i = true → (s.cp i).file.holds p = true →
    encRRuse o false true false = 0 →
    let t := ((s.cp i).file.rg (raOf o)).toNat
    (t ≤ s.dtOf (cpIsl i) → exec (.seqUntil (.cp i) p o) s = .next (s.cpPass i)) ∧
    (s.dtOf (cpIsl i) < t → exec (.seqUntil (.cp i) p o) s = .next (s.setCp i { s.cp i with until_ := some t }))) ∧
  (∀ (i t : Nat) (s : State), i < 16 → (s.cp i).until_ = some t → t ≤ s.dtOf (cpIsl i) →
    exec (.seqUntilDtReached (.cp i)) s = .next (s.setCp i { s.cp i with until_ := none, file := (s.cp i).file.adv })) ∧
  (∀ e ∈ setupRows, ∀ (n r : Nat) (p : Pred) (o : Ops) (s : State), coreNamed n r = true → s.canIssue n r = true →
    e.2.2 o = 0 →
    (s.setupFault n r e.2.1 o = 0 → (s.core n r).file.holds p = true → (s.core n r).setupHeld e.2.1 o = false →
      exec (e.1 (.core n r) p o) s = .next (s.setupEffect n r e.2.1 o)) ∧
    (s.setupFault n r e.2.1 o = 0 → (s.core n r).file.holds p = true → (s.core n r).setupHeld e.2.1 o = true →
      exec (e.1 (.core n r) p o) s = .next (s.setCore n r { s.core n r with wait := .setup e.2.1 o })) ∧
    (s.setupFault n r e.2.1 o ≠ 0 → exec (e.1 (.core n r) p o) s = .next (s.seqFault n r (s.setupFault n r e.2.1 o)))) ∧
  (∀ (n r opc : Nat) (o : Ops) (s : State), coreNamed n r = true → (s.core n r).wait = .setup opc o → (s.core n r).status = .running →
    (s.core n r).setupHeld opc o = false →
    exec (.setupRelease n r) s = .next ((s.setCore n r { s.core n r with wait := .none }).setupEffect n r opc o))

/-- The effects of the setup instructions. -/
def Obligations.SetupEffects : Prop :=
  ∀ (n r : Nat) (o : Ops) (s : State),
    let x := s.core n r
    let a := ob o 39 35
    let w := (x.file.rg a).toNat
    let k := dstOf o % 16
    let g (i : Nat) : Nat := (x.file.rg (a + i)).toNat
    let kept := x.fills.filter (fun f => f.tq != k)
    ((handleRec w).ok (s.spLimit x.comp) = true → x.handleBusy (dstOf o) = false →
      s.setupEffect n r 0x80 o =
        s.setCore n r { x with handles := x.handles.put (dstOf o) (handleRec w), file := x.file.adv, actAt := s.aon.dt }) ∧
    (∀ h, x.handles.find (dstOf o) = some h → f32Finite w = true → x.handleBusy (dstOf o) = false →
      s.setupEffect n r 0x81 o =
        s.setCore n r { x with handles := x.handles.put (dstOf o) { h with scale := w }, file := x.file.adv, actAt := s.aon.dt }) ∧
    (x.queueOk k (queueRec w) = true →
      s.setupEffect n r 0x82 o =
        s.setCore n r { x with queues := x.queues.put k (queueRec w), fills := kept, file := x.file.adv, actAt := s.aon.dt }) ∧
    (∀ t, x.tq k = some t → t.allEmpty = true → x.isTarget k = false →
      s.setupEffect n r 0x83 o =
        s.setCore n r { x with queues := x.queues.del k, fills := kept, file := x.file.adv, actAt := s.aon.dt }) ∧
    (((s.setupEffect n r 0x84 o).core n r).streams.find k = some (streamRec g) ∧ (streamRec g).p = 0) ∧
    (∀ st, x.streams.find k = some st →
      ((s.setupEffect n r 0x85 o).core n r).streams.find k = some { st with p := w, held := [] }) ∧
    (∀ st, x.streams.find k = some st →
      s.setupEffect n r 0x86 o = s.setCore n r { x with file := (x.file.wg a (BitVec.ofNat 64 st.p)).adv, actAt := s.aon.dt })

/-- seq.pull and seq.done. -/
def Obligations.WorkItems : Prop :=
  (∀ (n r i : Nat) (p : Pred) (s : State) (l : Launch), coreNamed n r = true → s.canIssue n r = true → (s.core n r).file.holds p = true →
    s.launchOf n r = some l → (s.core n r).item = none → (s.core n r).leaveReq = false → l.closed = false →
    let c := s.claimItem n r l
    let t := c.s.onCore n r fun x => { x with item := some i }
    let va := l.itemsVa + i * l.itemBytes
    let q := t.vread (t.scalarWho n r) (t.scalarSpace n r false) va l.itemBytes needR
    c.wait = false → c.fail = none → c.item = some i → q.wait = false → q.fail = none →
    exec (.seqPull (.core n r) p 0#48) s =
      .next (q.s.endSeq n r fun f => (f.pulled i va l.argsVa (wordsOf (l.itemBytes / 8) q.data)).adv)) ∧
  (∀ (n r i : Nat) (p : Pred) (s : State) (l : Launch), coreNamed n r = true → s.canIssue n r = true → (s.core n r).file.holds p = true →
    s.launchOf n r = some l → (s.core n r).item = some i → exec (.seqPull (.core n r) p 0#48) s = .next (s.pullRecord n r 0#48 l i)) ∧
  (∀ (n r : Nat) (p : Pred) (s : State) (l : Launch), coreNamed n r = true → s.canIssue n r = true → (s.core n r).file.holds p = true →
    s.launchOf n r = some l → (s.core n r).item = none → (s.core n r).leaveReq = false → l.closed = false →
    let c := s.claimItem n r l
    let d := c.s.headerStep n r l hDone 8 id
    c.wait = false → c.fail = none → c.item = none → d.fail = none →
    exec (.seqPull (.core n r) p 0#48) s =
      .next (if d.old = l.count then d.s.leaveLaunch n r else d.s.onCore n r fun x => { x with wait := .parked })) ∧
  (∀ (n r : Nat) (s : State) (l : Launch), coreNamed n r = true → (s.core n r).status = .running → (s.core n r).wait = .parked →
    s.launchOf n r = some l → ((s.core n r).leaveReq = true ∨ s.pullReleased l = true) →
    exec (.parkedPullWake n r) s = .next (s.corePull n r 0#48)) ∧
  (∀ (n r : Nat) (p : Pred) (s : State), coreNamed n r = true → s.canIssue n r = true → (s.core n r).file.holds p = true →
    (s.core n r).item = none → exec (.seqDone (.core n r) p 0#48) s = .next (s.seqFault n r fNoItem)) ∧
  (∀ (n r i : Nat) (p : Pred) (s : State) (l : Launch), coreNamed n r = true → s.canIssue n r = true → (s.core n r).file.holds p = true →
    (s.core n r).item = some i → s.launchOf n r = some l → (s.core n r).sq = [] → (s.core n r).started = [] → (s.core n r).replay = [] →
    let x := s.core n r
    let c := s.publish n r
    let d := (c.freeClosed (ownerCore n)).headerStep n r l hDone 8 fun v => v + 1
    let t := (d.s.endSeq n r SeqFile.adv).onCore n r fun x => { x with item := none }
    c.groupsClosed (ownerCore n) = true → c.groupsPoisoned (ownerCore n) = false → d.wait = false → d.fail = none →
    exec (.seqDone (.core n r) p 0#48) s =
      .next (if d.old + 1 = l.count then (t.recordDone x.comp x.lane l).wakeAllParked x.comp x.lane else t))

/-- cp.next, cp.sleep, cp.issue, cp.fsig, cp.acct. -/
def Obligations.CommandProcessorOps : Prop :=
  (∀ (i : Nat) (p : Pred) (o : Ops) (s : State), i < 16 → s.cpCanIssue i = true → (s.cp i).file.holds p = true →
    encRRuse o true false false = 0 →
    let t := s.setCp i { s.cp i with aliveAt := s.aon.dt }
    (t.choose i = none → exec (.cpNext (.cp i) p o) s = .next (t.cpResult i o 0#64)) ∧
    (∀ r, t.choose i = some r → ∃ u, exec (.commandRecordArrive r) (t.takenRecord i r) = .next u ∧
      exec (.cpNext (.cp i) p o) s = .next (u.cpResult i o (BitVec.ofNat 64 (recordPlace (t.cp i).fwData i r))))) ∧
  (∀ (i : Nat) (p : Pred) (o : Ops) (s : State), i < 16 → s.cpCanIssue i = true → (s.cp i).file.holds p = true →
    encRRuse o true true false = 0 →
    let t := s.setCp i { s.cp i with aliveAt := s.aon.dt }
    let d := ((s.cp i).file.rg (raOf o)).toNat
    (∀ w rest, (s.cp i).wakes = w :: rest → exec (.cpSleep (.cp i) p o) s = .next (t.cpResult i o (BitVec.ofNat 64 w.kind))) ∧
    ((s.cp i).wakes = [] → d ≠ 0 → d ≤ s.dtOf (cpIsl i) → exec (.cpSleep (.cp i) p o) s = .next (t.cpResult i o 3#64)) ∧
    ((s.cp i).wakes = [] → (d = 0 ∨ s.dtOf (cpIsl i) < d) →
      exec (.cpSleep (.cp i) p o) s = .next (t.setCp i { t.cp i with sleep := some (rdOf o, d) }))) ∧
  (∀ (i rd d : Nat) (s : State), i < 16 → (s.cp i).sleep = some (rd, d) → d ≠ 0 → d ≤ s.dtOf (cpIsl i) →
    exec (.cpSleepDtReached i) s =
      .next (s.setCp i { s.cp i with sleep := none, file := ((s.cp i).file.wg rd 3#64).adv })) ∧
  (∀ (i raw : Nat) (k : QRef) (p : Pred) (o : Ops) (s t u : State), i < 16 → s.cpCanIssue i = true → (s.cp i).file.holds p = true →
    encRRuse o true true false = 0 →
    let a := ((s.cp i).file.rg (raOf o)).toNat
    s.cpRead i a 64 = .done u raw → u.recordQueue i a raw = some k → (u.runnable k 1).isSome = true →
    (u.issue k = (t, .issued) → exec (.cpIssue (.cp i) p o) s = .next (t.cpResult i o 0#64)) ∧
    (∀ st, u.issue k = (t, .refused st) → exec (.cpIssue (.cp i) p o) s = .next (t.cpResult i o (BitVec.ofNat 64 st)))) ∧
  (∀ (i : Nat) (p : Pred) (o : Ops) (s : State), i < 16 → s.cpCanIssue i = true → (s.cp i).file.holds p = true →
    encRRuse o true true true = 0 →
    let id := ((s.cp i).file.rg (raOf o)).toNat
    let q := s.signal id ((s.cp i).file.rg (rbOf o)).toNat false 0 (s.dtOf (cpIsl i))
    id < 2 ^ 32 → exec (.cpFsig (.cp i) p o) s = .next ((q.1.recheckFence id).cpResult i o (BitVec.ofNat 64 q.2))) ∧
  (∀ (i : Nat) (p : Pred) (o : Ops) (s : State) (c : Ctx), i < 16 → s.cpCanIssue i = true → (s.cp i).file.holds p = true →
    encRRuse o false true true = 0 →
    let ctx := ((s.cp i).file.rg (raOf o)).toNat
    let t := s.charge ctx ((s.cp i).file.rg (rbOf o)).toNat
    t.ctxs.find ctx = some c → exec (.cpAcct (.cp i) p o) s = .next ((t.boundPasses c.comp).cpPass i))

/-- The dispatch of station instructions. -/
def Obligations.StationDispatch : Prop :=
  ∀ e ∈ stationRows, ∀ (n r : Nat) (p : Pred) (o : Ops) (s : State), coreNamed n r = true →
    (s.dispatches n r e.2.1 e.2.2 p o = true → exec (e.1 n r p o false) s = .next (s.dispatched n r e.2.1 e.2.2 o)) ∧
    (s.canIssue n r = true → (s.core n r).stationFault (s.shared (s.core n r).comp) e.2.1 e.2.2 o = 0 → (s.core n r).file.holds p = false →
      exec (e.1 n r p o false) s = .next (s.pass n r)) ∧
    (s.canIssue n r = true → (s.core n r).stationFault (s.shared (s.core n r).comp) e.2.1 e.2.2 o ≠ 0 →
      exec (e.1 n r p o false) s = .next (s.seqFault n r ((s.core n r).stationFault (s.shared (s.core n r).comp) e.2.1 e.2.2 o)))

/-- Units 1 to 6: dispatch, start and completion at once. -/
def Obligations.StationWork : Prop :=
  ∀ e ∈ stationRows, e.2.1 ≤ 6 → ∀ (n r : Nat) (p : Pred) (o : Ops) (s : State) (t : Started), coreNamed n r = true →
    s.dispatches n r e.2.1 e.2.2 p o = true → s.stationIdle n r e.2.1 = true → (s.core n r).replay = [] →
    let i := (s.core n r).stationIns e.2.1 e.2.2 o
    let d := s.dispatched n r e.2.1 e.2.2 o
    let b := d.begun n r i
    d.startable n r i = true → (b.core n r).oldest e.2.1 = some t → (b.workOutcome n r t).fail = none → (b.workOutcome n r t).ready = true →
    t.ins = i ∧ exec (e.1 n r p o true) s = .next (b.completed n r t)

/-- Station events. -/
def Obligations.StationSteps : Prop :=
  (∀ (n r u : Nat) (s : State) (i : StIns), coreNamed n r = true → 2 ≤ u → u ≤ 6 → (s.core n r).status = .running → (s.dom (n / 8)).state = .on →
    (s.core n r).headOf u = some i → i.u = u → s.startable n r i = true →
    exec (.stationInstructionStart n r u) s = .next (s.begun n r i)) ∧
  (∀ (n r u : Nat) (s : State) (t : Started), coreNamed n r = true → 1 ≤ u → u ≤ 6 → (s.dom (n / 8)).state = .on →
    (s.core n r).oldest u = some t → (s.workOutcome n r t).fail = none → (s.workOutcome n r t).ready = true →
    exec (.stationInstructionComplete n r u) s = .next (s.completed n r t)) ∧
  (∀ (n r k q : Nat) (s : State) (st : Stream) (t : TQueue) (h : Handle), coreNamed n r = true → k < 16 →
    (s.core n r).streams.find k = some st → (s.core n r).status = .running → (s.dom (n / 8)).state = .on →
    let p := s.prefetch n r k st
    let x := p.core n r
    (x.ahead.all fun a => a.st != k || a.arrived) = true →
    ∀ v, x.streams.find k = some v → v.write = false → v.target = some q → x.tq q = some t → t.tok t.head = .empty →
    x.handles.find t.head = some h → tileFits h v 0 = 0 →
    let j := x.aheadNext k v
    let a : Ahead := { st := k, k := j, tq := q, h := t.head, arrived := false }
    let u := p.onCore n r fun x =>
      { x.setTq q { (t.setTok t.head .filling) with head := t.next t.head } with ahead := x.ahead ++ [a], actAt := p.aon.dt }
    let w := u.loadTile (.ahead n r k j) n r k v j 0 h
    j < v.total → j < v.p + v.depth → v.held.find j = none → w.fail = none → w.short = false →
    exec (.readAheadTile n r k) s =
      .next (w.s.onCore n r fun x =>
        { x with ahead := x.ahead.map fun b => if b = a then { b with arrived := true } else b, actAt := p.aon.dt })) ∧
  (∀ (n r k : Nat) (s : State) (st : Stream), coreNamed n r = true → k < 16 →
    (s.core n r).streams.find k = some st → (s.core n r).status = .running → (s.dom (n / 8)).state = .on →
    let p := s.prefetch n r k st
    ((p.core n r).ahead.all fun a => a.st != k || a.arrived) = true → (p.core n r).aheadQueue k = none →
    exec (.readAheadTile n r k) s = .next p) ∧
  (∀ (n r : Nat) (s : State) (i : StIns) (rest : List StIns), coreNamed n r = true → (s.core n r).stuck = true → (s.core n r).fault = none →
    (s.core n r).sq = i :: rest → (s.core n r).actAt + us 1 ≤ s.aon.dt →
    let f : ProgFault := { code := fQueueDeadlock, unit := 0, pc := i.pc, pos := 0, cause := 0, addr := 0 }
    exec (.queueDeadlock n r) s =
      .next ((s.setCore n r { s.core n r with fault := some f, status := .faulting, wait := .none }).finishFault n r)) ∧
  (∀ (n r : Nat) (s : State), coreNamed n r = true → ((s.core n r).stuck = false ∨ s.aon.dt < (s.core n r).actAt + us 1) →
    exec (.queueDeadlock n r) s = .next s)

/-- SYNC. -/
def Obligations.SyncOps : Prop :=
  ∀ (n r : Nat) (p : Pred) (o : Ops) (s : State), coreNamed n r = true → s.stationIdle n r 9 = true →
    let at_ (op : Nat) : State := s.dispatched n r 9 op o
    let i (op : Nat) : StIns := (s.core n r).stationIns 9 op o
    let own := ownerCore n
    (s.dispatches n r 9 0x10 p o = true → ((at_ 0x10).core n r).storesDone (i 0x10) = true →
      ((at_ 0x10).publish n r).groupsClosed own = true → ((at_ 0x10).publish n r).groupsPoisoned own = false →
      exec (.fenceMem n r p o true) s = .next ((((at_ 0x10).publish n r).freeClosed own).syncPass n r (i 0x10))) ∧
    (∀ f, s.dispatches n r 9 0x18 p o = true → (at_ 0x18).fence ((i 0x18).val 0) = some f → (i 0x18).val 0 < 2 ^ 32 →
      ((at_ 0x18).ctxs.find ((at_ 0x18).core n r).ctx).map (·.fn) = some f.fn → f.abandoned = false → (i 0x18).val 1 ≤ f.value →
      exec (.fenWait n r p o true) s = .next ((at_ 0x18).syncPass n r (i 0x18))) ∧
    (∀ u pa leaf, s.dispatches n r 9 0x09 p o = true → (at_ 0x09).flagAt n r ((i 0x09).val 0) true = .here u pa leaf →
      let q := u.atomicAt (u.scalarWho n r) true (.store n) (.scalar r) (u.ctxTag (u.core n r).ctx) ((i 0x09).val 0) 8
        fun v => (v + (i 0x09).val 1) % 2 ^ 64
      q.wait = false → q.fail = none → exec (.flagAdd n r p o true) s = .next (q.s.syncPass n r (i 0x09))) ∧
    (∀ u pa leaf, s.dispatches n r 9 0x08 p o = true → (at_ 0x08).flagAt n r ((i 0x08).val 0) true = .here u pa leaf →
      ((at_ 0x08).core n r).storesDone (i 0x08) = true →
      let c := u.publish n r
      let d := c.freeClosed own
      let q := d.atomicAt (d.scalarWho n r) true (.store n) (.scalar r) (d.ctxTag (d.core n r).ctx) ((i 0x08).val 0) 8 fun _ => (i 0x08).val 1
      c.groupsClosed own = true → c.groupsPoisoned own = false → q.wait = false → q.fail = none →
      exec (.flagSet n r p o true) s = .next (q.s.syncPass n r (i 0x08))) ∧
    (∀ u pa leaf, s.dispatches n r 9 0x0A p o = true → (at_ 0x0A).flagAt n r ((i 0x0A).val 0) false = .here u pa leaf →
      let w := (at_ 0x0A).scalarWho n r
      u.sleepWait w (leafSel leaf) pa = none →
      let v := ((u.unhold w.own pa).placeWatch n r (memIsl pa - 84)).syncWait n r (i 0x0A)
      let q := v.readPhys w (leafSel leaf) pa 8
      q.st = .ok → flagCond (bits (modOf o) 1 0) (leNat q.data) ((i 0x0A).val 1) = true →
      exec (.flagWait n r p o true) s = .next ((q.s.dropWatch n r).syncPass n r (i 0x0A))) ∧
    (∀ l, s.dispatches n r 9 0x02 p o = true → (at_ 0x02).launchOf n r = some l → l.fixed = true → l.broken = false →
      ((at_ 0x02).core n r).passed (bits (modOf o) 1 0) = true →
      exec (.barWait n r p o true) s =
        .next (((at_ 0x02).onCore n r fun x => { x with arrived := x.arrived.set (bits (modOf o) 1 0) none }).syncPass n r (i 0x02))) ∧
    (∀ l op, op ≤ 1 → s.dispatches n r 9 op p o = true → (at_ op).launchOf n r = some l → l.fixed = true → l.broken = false →
      ((at_ op).core n r).syncOn ≠ some (i op).seq → ((at_ op).core n r).arrived.getD (bits (modOf o) 1 0) none = none →
      ((at_ op).core n r).storesDone (i op) = true →
      let c := (at_ op).publish n r
      let d := (c.freeClosed own).coreArrive n r (bits (modOf o) 1 0) l
      c.writesVisible n r (i op) = true → c.groupsPoisoned own = false →
      (op = 1 → exec (.barArrive n r p o true) s = .next (d.syncPass n r (i 1))) ∧
      (op = 0 → exec (.barSync n r p o true) s = .next (d.syncWait n r (i 0))))

/-- R11, for reads and writes. -/
def Obligations.AccessesThatDoNotFit : Prop :=
  ∀ (who : Accessor) (off size : Nat) (v : Word) (s : State), who.named = true →
    (((size ≠ 4 ∧ size ≠ 8) ∨ off % size ≠ 0) →
      exec (.registerWrite who off size v) s = .next { s with lastAccess := some { unsupported := true, value := 0#64 } } ∧
      exec (.rcFieldRead who off size) s = .next { s with lastAccess := some { unsupported := true, value := 0#64 } }) ∧
    ((size = 4 ∨ size = 8) → off % size = 0 → msixPlace off = .none → s.locate who (off / 8 * 8) = none →
      exec (.registerWrite who off size v) s = .next { s with lastAccess := some { unsupported := false, value := 0#64 } } ∧
      exec (.rcFieldRead who off size) s = .next { s with lastAccess := some { unsupported := false, value := 0#64 } })

/-- Writes of plain registers, of the registers whose write does more, and of the MSI-X table. -/
def Obligations.RegisterWrites : Prop :=
  (∀ (who : Accessor) (off size : Nat) (v : Word) (s : State) (x : RegRef), who.named = true → accessFits off size = true →
    msixPlace off = .none → s.locate who (off / 8 * 8) = some x → x.wr = true →
    let wm := accessMask off size
    let w := if off % 8 = 0 then v.toNat else v.toNat * 2 ^ 32 % 2 ^ 64
    let t := s.answer false 0#64
    (x.r ∉ [RegName.SCH_CTX_CFG, .FLT_CTX_OVF, .MEM_PXW_BASE, .SCH_CYC_CFG, .CTX_ADMIN] →
      exec (.registerWrite who off size v) s = .next (t.writeReg x.r x.i w wm)) ∧
    (x.r = .MEM_PXW_BASE → wm &&& F.MEM_PXW_BASE_base.mask ≠ 0 →
      exec (.registerWrite who off size v) s = .next ((t.writeReg x.r x.i w wm).setFld F.MEM_PXW_CFG_enable x.i 0)) ∧
    (x.r = .SCH_CYC_CFG → exec (.registerWrite who off size v) s = .next (t.writeReg x.r x.i w wm).cyclicOff) ∧
    (x.r = .CTX_ADMIN →
      exec (.registerWrite who off size v) s = .next ((t.writeReg x.r x.i w wm).adminEnabled x.i (s.fld F.CTX_ADMIN_enable x.i)))) ∧
  (∀ (s : State) (r : RegName) (i v wm : Nat), v < 2 ^ 64 → wm < 2 ^ 64 → (∀ w, storedWord r w = w) →
    let free (b : Nat) : Bool := wm.testBit b && !(rowFields r).testBit b &&
      !(s.lockedFields r i ((v &&& wm) ||| ((s.reg r i).toNat - ((s.reg r i).toNat &&& wm)))).testBit b
    ∀ b, b < 64 → ((s.writeReg r i v wm).reg r i).getLsbD b =
      if free b && r.row.w1c.testBit b && v.testBit b then false
      else if free b && r.row.rw.testBit b then v.testBit b
      else (s.reg r i).getLsbD b) ∧
  (∀ (s : State) (r q : RegName) (i j v wm : Nat), r.hasCopy i = true → q.hasCopy j = true → (r, i) ≠ (q, j) → (s.writeReg r i v wm).reg q j = s.reg q j) ∧
  (∀ (who : Accessor) (off size j : Nat) (v : Word) (s : State), who.named = true → accessFits off size = true → msixPlace off = .table j →
    exec (.registerWrite who off size v) s =
      .next ((s.answer false 0#64).writeMsix (accFn who) j (if off % 8 = 0 then v.toNat else v.toNat * 2 ^ 32 % 2 ^ 64) (accessMask off size)))

/-- Reads. -/
def Obligations.RegisterReads : Prop :=
  (∀ (who : Accessor) (off size : Nat) (s : State), who.named = true → accessFits off size = true →
    exec (.rcFieldRead who off size) s = .next ((s.clearRc who off size).answer false (s.regRead who off size))) ∧
  (∀ (who : Accessor) (off size : Nat) (s : State) (x : RegRef), s.locate who (off / 8 * 8) = some x → x.r ∉ [RegName.TIM_OWD, .TIM_OWD_AUX] →
    let gone := x.r.row.rc &&& accessMask off size
    (s.clearRc who off size).reg x.r x.i = BitVec.ofNat 64 ((s.reg x.r x.i).toNat - ((s.reg x.r x.i).toNat &&& gone)) ∧
    ∀ b, b < 64 → gone.testBit b = true → ((s.clearRc who off size).reg x.r x.i).getLsbD b = false) ∧
  (∀ (who : Accessor) (off : Nat) (s : State) (x : RegRef), off % 8 = 0 → msixPlace off = .none → s.locate who off = some x →
    s.regRead who off 8 = s.regView x.r x.i ∧
    s.regRead who off 4 = BitVec.ofNat 64 ((s.regView x.r x.i).toNat % 2 ^ 32) ∧
    (msixPlace (off + 4) = .none → s.regRead who (off + 4) 4 = BitVec.ofNat 64 ((s.regView x.r x.i).toNat / 2 ^ 32)))

/-- Gating. -/
def Obligations.DomainGating : Prop :=
  (∀ (i : Nat) (retain : Bool) (s : State), i < 148 → domKind i ≠ .seam → (s.dom i).state = .on → (s.dom i).trans = .none →
    (s.dom i).queue = [] → (s.dom i).tripped = false → s.ladderOn.contains i = false →
    let toward : DomState := if retain && (domKind i == .nm || domKind i == .fmp) then .retain else .off
    (toward = .retain ∨ s.gateRefusal i = none →
      leads (.gateRequest i retain) s fun t => t.dom i = { s.dom i with trans := .gating toward s.aon.dt, last := some ⟨toward, s.aon.dt, false⟩ } ∧
        (∀ j, j ≠ i → t.dom j = s.dom j) ∧ { t with doms := s.doms } = s) ∧
    (toward = .off → s.gateRefusal i ≠ none →
      leads (.gateRequest i retain) s fun t => t.dom i = { s.dom i with last := some ⟨.off, s.aon.dt, false⟩ } ∧
        (∀ j, j ≠ i → t.dom j = s.dom j) ∧ { t with doms := s.doms } = s)) ∧
  (∀ (i : Nat) (s : State), i < 148 → s.dependentOn i = true → s.gateRefusal i = some domDependent) ∧
  (∀ (i a : Nat) (toward : DomState) (s : State), i < 148 → (s.dom i).trans = .gating toward a → s.islBusy i = false →
    let t := (s.powerOff i toward).dropTlbs i
    exec (.gateDrainEnd i) s =
      .next (((t.when (!((t.dom i).queue.any fun q => q.byCtl)) fun u => u.domResult i domOk).serveDom i).serveWaiting) ∧
    (s.powerOff i toward = let u := s.setDom i { s.dom i with state := toward, trans := .none, floor := 0, skew := 0 }
      if toward = .off then u.loseContents i else u)) ∧
  (∀ (i a fifos : Nat) (toward : DomState) (s : State), i < 148 → (s.dom i).trans = .gating toward a → a + us 10 ≤ s.aon.dt →
    ((depsOf i).all fun j => s.domOn j) = true →
    let t := ((s.setDom i { s.dom i with trans := .none, state := .on }).seamWakeOver i).reportDev 255 4 (engineCode 7 i) 0 0 (leBytes 8 fifos)
    exec (.gatingFailed i fifos) s =
      .next (((t.when (!((t.dom i).queue.any fun q => q.byCtl)) fun u => u.domResult i domFailed).serveDom i).serveWaiting))

/-- Waking and clocks. -/
def Obligations.DomainWaking : Prop :=
  (∀ (i : Nat) (s : State), i < 148 → domKind i ≠ .seam → (s.dom i).state ≠ .on → (s.dom i).trans = .none →
    (s.dom i).queue = [] → (s.dom i).tripped = false → s.ladderOn.contains i = false → ((depsOf i).all fun j => s.domOn j) = true →
    leads (.domainWake i) s fun t =>
      ((s.dom i).gateBefore s.aon.dt = none →
        t.dom i = { s.dom i with trans := .waking (s.dom i).state s.aon.dt, last := some ⟨.on, s.aon.dt, false⟩ }) ∧
      (∀ g, (s.dom i).gateBefore s.aon.dt = some g →
        t.dom i = { s.dom i with trans := .waking (s.dom i).state s.aon.dt, last := some ⟨.on, s.aon.dt, false⟩, queue := [{ g with byCtl := false }] }) ∧
      (∀ j, j ≠ i → t.dom j = s.dom j) ∧ { t with doms := s.doms } = s) ∧
  (∀ (i a : Nat) (o : DomState) (s : State), i < 148 → (s.dom i).trans = .waking o a → ((depsOf i).all fun j => s.domOn j) = true →
    exec (.wakeCreditsComplete i) s =
      .next ((((s.comeOn i).when (!(((s.comeOn i).dom i).queue.any fun q => q.byCtl)) fun u => u.domResult i domOk).serveDom i).serveWaiting) ∧
    ((s.comeOn i).dom i).state = .on ∧ ((s.comeOn i).dom i).trans = .none) ∧
  (∀ (i a missing : Nat) (o : DomState) (s : State), i < 148 → (s.dom i).trans = .waking o a → a + us 1 ≤ s.aon.dt →
    let t := ((s.setDom i { s.dom i with state := o, trans := .none }).seamWakeOver i).reportDev 255 4 (engineCode 7 i) 0 1 (leBytes 8 missing)
    let u := if (t.dom i).queue.any (fun q => q.byCtl) then t.failWakes .retain i else t.domResult i domFailed
    exec (.wakeCreditTimeout i missing) s =
      .next (((List.range 148).foldl (fun s j => if (depsOf j).contains i then s.failWakes .on j else s) u).serveDom i)) ∧
  (∀ (i mhz : Nat) (s : State), i < 148 → (s.dom i).state = .on → clockOffered i mhz = true →
    exec (.clockChange i mhz) s = .next (s.setDom i { s.dom i with mhz := mhz }))

/-- DOM_WAKE, DOM_GATE, DOM_RETAIN. -/
def Obligations.DomainRequests : Prop :=
  ∀ e ∈ ([(.domWake, 1, .on), (.domGate, 2, .off), (.domRetain, 3, .retain)] : List ((Nat → Instr) × Nat × DomState)),
  ∀ (i : Nat) (s : State), i < 256 →
    let t := s.setFld F.PWR_DOM_STATUS_island 0 i
    let bad : Prop := 148 ≤ i ∨ domKind i = .seam ∨ (e.2.2 = .retain ∧ domKind i ≠ .nm ∧ domKind i ≠ .fmp)
    let held : Bool := t.dry || (t.dom i).tripped || t.ladderOn.contains i ||
      (e.2.2 == .on && (depsOf i).any fun j => (t.dom j).state != .on && t.ladderOn.contains j)
    (s.fld F.PWR_DOM_STATUS_busy 0 = 1 → exec (e.1 i) s = .next s) ∧
    (s.fld F.PWR_DOM_STATUS_busy 0 ≠ 1 → bad → exec (e.1 i) s = .next (t.setFld F.PWR_DOM_STATUS_result 0 domInvalid)) ∧
    (s.fld F.PWR_DOM_STATUS_busy 0 ≠ 1 → ¬ bad → held = true → exec (e.1 i) s = .next (t.setFld F.PWR_DOM_STATUS_result 0 domProtected)) ∧
    (s.fld F.PWR_DOM_STATUS_busy 0 ≠ 1 → ¬ bad → held = false →
      let u := (t.setFld F.PWR_DOM_STATUS_busy 0 1).setFld F.PWR_DOM_STATUS_result 0 0
      exec (e.1 i) s = .next (State.requestDom { u with power := { u.power with domReq := some e.2.1 } } i e.2.2 true))

/-- The register map. -/
def Obligations.RegisterPlaces : Prop :=
  (∀ (r : RegName) (i : Nat), r.hasCopy i = true → r.row.perFn = false → r.row.scope ≠ .none →
    (r ∈ [RegName.FAB_ERR_CNT, .FAB_ERR_STK] → i ≠ 2 ∧ i ≠ 3) →
    (r.row.base + r.row.stride * i) % 8 = 0 ∧ r.row.base + r.row.stride * i < 0xF00000 ∧
      RegName.locate (r.row.base + r.row.stride * i) = some (r, i)) ∧
  (∀ r : RegName, r.row.perFn = true → r.row.base % 8 = 0 ∧ (r.row.scope ≠ .none → RegName.locate r.row.base = some (r, 0))) ∧
  (∀ (r q : RegName) (i j : Nat), r.hasCopy i = true → q.hasCopy j = true → r.key i = q.key j → r = q ∧ i = j)

/-- R159. -/
def Obligations.UnmappedIsDecode : Prop :=
  (∀ (q : MemReq) (s : State), q.owner.named = true → q.fabErr = .none → s.domOn (ownerIsl q.owner) = true →
    s.outst.find (entryKey (ownerIsl q.owner) q.entry) = none → s.ownerRoom q.owner = true → s.seamHeld (ownerIsl q.owner) (memIsl q.addr) = false →
    (region q.addr = .unmapped ∨ (0x01A800000000 ≤ q.addr ∧ q.addr ≤ 0x01BFFFFFFFFF) ∨ (region q.addr = .dump ∧ q.owner ≠ .fw)) →
    let key := entryKey (ownerIsl q.owner) q.entry
    let o : Outstanding :=
      { req := q, gen := s.fld F.FLT_ISL_STAT_gen (ownerIsl q.owner), resent := false, at_ := s.aon.dt, remote := false, old := false, discarded := false }
    exec (.requestAtBoundary q) s = .next (State.putReply { s with outst := s.outst.put key o } key .decode [])) ∧
  (∀ (s : State) (sel a : Nat), region a = .dump → s.domOn (memIsl a) = true → s.judge .fw sel a ≠ .decode)

/-- Requests and replies. -/
def Obligations.RequestsAndReplies : Prop :=
  (∀ (q : MemReq) (s : State), q.owner.named = true → s.domOn (ownerIsl q.owner) = true → s.ownerRoom q.owner = true → reqShapeOk q = true →
    let key := entryKey (ownerIsl q.owner) q.entry
    s.outst.find key = none →
    ∃ o : Outstanding, o.req = q ∧ o.gen = s.fld F.FLT_ISL_STAT_gen (ownerIsl q.owner) ∧ o.resent = false ∧ o.at_ = s.aon.dt ∧
      o.old = false ∧ o.discarded = false ∧
      exec (.requestAtBoundary q) s = .next (State.inject { s with outst := s.outst.put key o } key q)) ∧
  (∀ (q : MemReq) (key : Nat) (s : State), (∀ k off, region q.addr ≠ .remote k off) → q.fabErr = .none →
    s.intoSleep (ownerIsl q.owner) q.addr = false → s.seamHeld (ownerIsl q.owner) (memIsl q.addr) = false →
    s.inject key q = (s.performLocal q).s.putReply key (s.performLocal q).st (s.performLocal q).data) ∧
  (∀ (q : MemReq) (c : Nat) (s : State), q.comp = some c → s.accepts (s.holderOf q.addr) c q.epoch = false →
    ((∃ st p, region q.addr = .near st p) ∨ (∃ g, region q.addr = .far g) ∨
      ((∃ n, region q.addr = .scratch n) ∧ ownerActor q.owner = .dma)) →
    s.performLocal q = ⟨s, .epochNack, []⟩) ∧
  (∀ (r : Reply) (s : State), (r.isl < 148 ∨ r.isl = 255) → r.entry < 65536 →
    (s.replies.find? fun v => v.isl == r.isl && v.entry == r.entry && v.gen == r.gen && v.st == r.st && v.data == r.data) = some r →
    let key := entryKey r.isl r.entry
    let arrives := exec (.memoryReply r.isl r.entry r.gen r.st r.data) s
    let rest : State := { s with replies := s.replies.erase r }
    ((s.nextReply r.src r.isl ≠ some r ∨ s.seamHeld r.src r.isl = true) → arrives = .next s) ∧
    (s.nextReply r.src r.isl = some r → s.seamHeld r.src r.isl = false →
      (∀ o : Outstanding, s.outst.find key = some o → r.gen = s.fld F.FLT_ISL_STAT_gen r.isl → o.gen = r.gen →
        let done : State := { rest with outst := rest.outst.del key, nacked := rest.nacked.del key }
        ((r.st ≠ .epochNack ∨ o.resent = true ∨ o.req.comp = none) → o.discarded = false →
          arrives = .next ((done.completeReq o.req r.st r.data).afterEntry o.req.owner)) ∧
        ((r.st ≠ .epochNack ∨ o.resent = true ∨ o.req.comp = none) → o.discarded = true →
          arrives = .next (done.afterEntry o.req.owner)) ∧
        (∀ c, r.st = .epochNack → o.resent = false → o.req.comp = some c →
          arrives = .next (State.inject { rest with outst := rest.outst.put key { o with req := { o.req with epoch := s.epochOf c }, resent := true } }
            key { o.req with epoch := s.epochOf c }))) ∧
      ((s.outst.find key = none ∨ ∃ o, s.outst.find key = some o ∧ o.gen ≠ r.gen) →
        arrives = .next (rest.bumpEvent F.FLT_ISL_STAT_late (some F.FLT_ISL_STAT_late_sat) r.isl r.isl)))) ∧
  (∀ (isl entry gen : Nat) (st : MemStatus) (data : List Byte) (s : State), (isl < 148 ∨ isl = 255) → s.replies = [] →
    exec (.memoryReply isl entry gen st data) s =
      .next (s.bumpEvent F.FLT_ISL_STAT_late (some F.FLT_ISL_STAT_late_sat) isl isl)) ∧
  (∀ (entry t : Nat) (s : State) (o : Outstanding), entry < 2 ^ 24 → s.nacked.find entry = some t → s.outst.find entry = some o → t ≤ s.aon.dt →
    let u : State := { s with nacked := s.nacked.del entry }
    exec (.injectionRetry entry) s = .next (if u.intoSleep (ownerIsl o.req.owner) o.req.addr then u.putReply entry .islandOff []
      else u.perform entry o.req)) ∧
  (∀ (entry : Nat) (s : State) (o : Outstanding), entry < 2 ^ 24 → s.outst.find entry = some o → o.remote = true → o.at_ + us 50 ≤ s.aon.dt →
    exec (.remoteRequestTimeout entry) s = .next (s.finishEntry entry .absent []))

/-- The tag, the poison mark and the seal of a line. -/
def Obligations.LineSelectors : Prop :=
  (∀ (s : State) (l k : Nat) (data : List Byte), data.length = 64 →
    let w := s.writeLine (64 * l) data k
    w.st = .ok ∧ w.s.tagOf l = k ∧ w.s.readLine (64 * l) 64 k = ⟨w.s, .ok, data⟩ ∧
    (∀ a, a < 64 * l ∨ 64 * l + 64 ≤ a → w.s.byte a = s.byte a) ∧
    (∀ i n j, i < 64 → i + n ≤ 64 → j ≠ k → (w.s.readLine (64 * l + i) n j).data = zeros n ∧ (w.s.readLine (64 * l + i) n j).st = .ok ∧
      (w.s.readLine (64 * l + i) n j).s.mem = w.s.mem)) ∧
  (∀ (s : State) (a n : Nat) (data : List Byte), s.poison.get (a / 64) false = true → data.length ≠ 64 →
    s.readLine a n (s.tagOf (a / 64)) = ⟨s, .poison, []⟩ ∧ s.writeLine a data (s.tagOf (a / 64)) = ⟨s, .poison, []⟩) ∧
  (∀ (s : State) (a n : Nat), isFar a = true → s.tagOf (a / 64) ≠ 0 → s.poison.get (a / 64) false = false →
    s.seals.get (a / 64) 0 ≠ s.installCount (s.tagOf (a / 64)) →
    (s.readLine a n (s.tagOf (a / 64))).st = .integrity ∧ (s.readLine a n (s.tagOf (a / 64))).data = [])

/-- R173. -/
def Obligations.PartialWrites : Prop :=
  (∀ (s : State) (l i k : Nat) (data : List Byte), data.length < 64 → i < 64 → i + data.length ≤ 64 → s.poison.get l false = false →
    let w := s.writeLine (64 * l + i) data k
    (s.tagOf l ≠ k → w.st = .ok ∧ w.s.tagOf l = k ∧
      ∀ j, j < 64 → w.s.byte (64 * l + j) = if i ≤ j ∧ j < i + data.length then data.getD (j - i) 0#8 else 0#8) ∧
    (s.tagOf l = k → s.sealOk (64 * l + i) k = true → w.st = .ok ∧ w.s.tagOf l = k ∧
      ∀ j, j < 64 → w.s.byte (64 * l + j) = if i ≤ j ∧ j < i + data.length then data.getD (j - i) 0#8 else s.byte (64 * l + j)) ∧
    (s.tagOf l = k → s.sealOk (64 * l + i) k = false →
      w.st = .integrity ∧ w.s.mem = s.mem ∧ w.s.tags = s.tags ∧ w.s.seals = s.seals ∧ w.s.poison = s.poison)) ∧
  (∀ (s : State) (l k : Nat) (data : List Byte), data.length = 64 →
    let w := s.writeLine (64 * l) data k
    w.st = .ok ∧ w.s.tagOf l = k ∧ w.s.poison.get l false = false ∧ ∀ j, j < 64 → w.s.byte (64 * l + j) = data.getD j 0#8)

/-- Fills, exports, ledger copies. -/
def Obligations.FillsAndLedgerCopies : Prop :=
  (∀ (st p : Nat) (s : State), st < 24 → p < 6 → s.zeroFills.contains (.part st p) = true →
    leads (.zeroFillEnd (.part st p)) s fun t => t.zeroFills = s.zeroFills.erase (.part st p) ∧
      ∀ a, partBase st p ≤ a → a < partBase st p + 0x10000000 → t.byte a = 0#8 ∧ t.tagOf (a / 64) = 0) ∧
  (∀ (n : Nat) (s : State), n < 672 → s.zeroFills.contains (.core n) = true → s.domOn (n / 8) = true →
    let t : State := { s with zeroFills := s.zeroFills.erase (.core n) }
    let u : State := { t.wipe (scratchBase n) (scratchBase n + 0x140000) with coreReady := s.coreReady.put n true }
    (s.coreOwner.find n = none → exec (.zeroFillEnd (.core n)) s = .next u) ∧
    (∀ b, s.coreOwner.find n = some b → exec (.zeroFillEnd (.core n)) s = .next ((u.startReady b.comp 0).startReady b.comp 1))) ∧
  (∀ (k w : Nat) (v : Word) (s : State), k < 8 → w < 16 →
    let i := 16 * k + w
    let t := s.setReg .MEM_PXW_CFG i (BitVec.ofNat 64 (v.toNat / 64 * 64))
    let same := s.fld F.MEM_PXW_CFG_enable i = 1 →
      F.MEM_PXW_CFG_roff.of v = s.fld F.MEM_PXW_CFG_roff i ∧ F.MEM_PXW_CFG_size.of v = s.fld F.MEM_PXW_CFG_size i
    (F.MEM_PXW_CFG_enable.of v = 0 → exec (.exportWindowWrite k w v) s = .next t) ∧
    (F.MEM_PXW_CFG_enable.of v = 1 → same → t.exportOk k w = true → exec (.exportWindowWrite k w v) s = .next t) ∧
    (F.MEM_PXW_CFG_enable.of v = 1 → ¬ (same ∧ t.exportOk k w = true) →
      exec (.exportWindowWrite k w v) s = .next (t.setFld F.MEM_PXW_CFG_enable i 0))) ∧
  (∀ (b : Bool) (s : State),
    let lost := s.ledgerLost ||| (if b then 2 else 1)
    let t := (State.setFld { s with ledgerLost := lost } F.MEM_LEDGER_CFG_state 0 (ledgerState lost)).reportDev 255 0xA (engineCode 7 255) 0
      (ledgerState lost) []
    lost ≠ s.ledgerLost →
    (lost ≠ 3 → exec (.ledgerCopyFail b) s = .next t) ∧
    (lost = 3 → exec (.ledgerCopyFail b) s = .next (t.ledger.foldl (fun s e => if e.2.state = 4 then s else s.closeGroup e.1 true) t))) ∧
  (∀ (stack part : Nat) (s : State), stack < 24 → part < 6 → s.ledgerLost = 1 → s.partFree stack part = true → s.otherHalf stack = true →
    let t := (s.setFld F.MEM_LEDGER_CFG_stack_a 0 stack).setFld F.MEM_LEDGER_CFG_part_a 0 part
    let u := (State.setFld { t with ledgerLost := 0 } F.MEM_LEDGER_CFG_state 0 0).wipe (partBase stack part) (partBase stack part + 0x400000)
    exec (.ledgerRebuildDone stack part) s = .next (u.ledger.foldl (fun s e => s.ledgerCopies e.1 e.2.bytes) u)) ∧
  (∀ (i : Nat) (s : State) (g : Group), i < 65536 → s.ledger.find i = some g →
    ((∃ t rest, g.unacked = t :: rest ∧ t + us 50 ≤ s.aon.dt) ∨ ((g.state = 2 ∨ g.state = 3) ∧ g.dtCommit + us 50 ≤ s.aon.dt)) →
    exec (.remoteRequestTimeout (2 ^ 24 + i)) s = .next (if g.state = 3 then s.alternateLost i else s.primaryLost i))

/-- R190. -/
def Obligations.StalePublishers : Prop :=
  ∀ (pub : Nat) (s : State), pub < 64 →
    ((∀ p, s.pressure.find pub = some p → p.2 + 512 ≤ s.aon.dt) →
      leads (.publisherStale pub) s fun t => t.pressure.find pub = some (7, s.aon.dt) ∧ ∀ c ∈ pubCodes pub, t.fld F.MEM_RES_STATUS_level c = 7) ∧
    (∀ p, s.pressure.find pub = some p → s.aon.dt < p.2 + 512 → exec (.publisherStale pub) s = .next s)

/-- Pressure and reservations. -/
def Obligations.ReservationRows : Prop :=
  (∀ (pub occ cap : Nat) (s : State), pub < 64 → 0 < cap →
    exec (.pressurePublish pub occ cap) s = .next (s.setLevel pub (min 7 (8 * occ / cap)))) ∧
  (∀ (i : Nat) (v : Word) (s : State), i < 256 →
    let code := F.MEM_RSV_CFG_resource.of v
    let rate := F.MEM_RSV_CFG_rate.of v
    let t := State.setReg { s with rsvNew := (s.aon.dt, (s.rsvNow.filter fun j => j != i) ++ [i]) } .MEM_RSV_CFG i
      (BitVec.ofNat 64 (v.toNat &&& 0x1CFFFFFCFFFF0000))
    let within : Prop := F.MEM_RSV_CFG_class.of v < 2 ∧ resourceOk code = true ∧
      s.rsvSum code + rate ≤ s.fld F.MEM_RES_STATUS_derated code * 9 / 10 ∧
      (F.MEM_RSV_CFG_transit.of v = 1 ∨ s.holds (F.MEM_RSV_CFG_composition.of v) code = true)
    (s.rsvLive i = true → exec (.reservationAdmission i v) s = .next s) ∧
    (s.rsvLive i = false → F.MEM_RSV_CFG_valid.of v = 1 → within →
      exec (.reservationAdmission i v) s =
        .next ((((t.setFld F.MEM_RSV_CFG_valid i 1).setFld F.MEM_RSV_CFG_state i 1).setFld F.MEM_RSV_CFG_granted i rate).regrant code)) ∧
    (s.rsvLive i = false → F.MEM_RSV_CFG_valid.of v = 1 → ¬ within →
      exec (.reservationAdmission i v) s = .next (t.setFld F.MEM_RSV_CFG_state i 3))) ∧
  (∀ (i : Nat) (s : State), i < 256 →
    let free (s : State) : State := ((s.setFld F.MEM_RSV_CFG_valid i 0).setFld F.MEM_RSV_CFG_state i 0).setFld F.MEM_RSV_CFG_granted i 0
    let release (s : State) : State :=
      if resourceOk (s.fld F.MEM_RSV_CFG_resource i) then (free s).regrant (s.fld F.MEM_RSV_CFG_resource i) else free s
    let t : State := { s with rsvNew := (s.rsvNew.1, s.rsvNew.2.filter fun j => j != i) }
    let back := t.rsvNow.foldl (fun s j => s.unAdmit j) t
    exec (.reservationRelease i) s = .next (t.rsvNow.foldl (fun s j => s.admitRsv j) (release back)) ∧
      (t.rsvNow = [] → exec (.reservationRelease i) s = .next (release t))) ∧
  (∀ (ws : List WindowSample) (s : State), (ws.all fun w => decide (w.entry < 256)) = true →
    (s.windowsJudged < s.aon.dt / 20000 →
      exec (.guaranteeWindow ws) s = .next ((List.range 256).foldl (fun s i =>
        match ws.find? fun w => w.entry == i with
        | some w => s.judgeWindow w
        | none => if s.rsvLive i then s.setFld F.MEM_RSV_STAT_delivered i 0 else s) { s with windowsJudged := s.aon.dt / 20000 })) ∧
    (s.aon.dt / 20000 ≤ s.windowsJudged → exec (.guaranteeWindow ws) s = .next s)) ∧
  (∀ (w : WindowSample) (s : State), s.rsvLive w.entry = false → s.judgeWindow w = s)

/-- The sum that R195 bounds stays bounded. -/
def Obligations.ReservationsNeverOvercommit : Prop :=
  ∀ (i : Nat) (v : Word) (s t : State), i < 256 →
    (∀ code, resourceOk code = true → s.rsvSum code ≤ s.fld F.MEM_RES_STATUS_derated code * 9 / 10) →
    exec (.reservationAdmission i v) s = .next t →
    ∀ code, resourceOk code = true → t.rsvSum code ≤ t.fld F.MEM_RES_STATUS_derated code * 9 / 10

/-- Chains. -/
def Obligations.DmaChains : Prop :=
  (∀ (who : Accessor) (x : Nat) (addr : Word) (ctx : Nat) (s : State), x < 1344 → s.chState x = chIdle → s.domOn (x / 16) = true →
    let c : DmaCh := { DmaCh.init with ctx := if ctx = noCtx then none else some ctx, own := ctx == noCtx, starter := whoCp who }
    ((∀ f, who ≠ .fn f) → leads (.dmaChainStart who x addr ctx) s fun t =>
      t = (s.setChan x c).fetchDescr x (F.DMA_CH_HEAD_addr.of addr) (ctx == noCtx) ∧ t.chState x = chRunning ∧ t.reg .DMA_CH_POS x = 0#64 ∧
      t.fld F.DMA_CH_HEAD_addr x = F.DMA_CH_HEAD_addr.of addr ∧
      t.chan x = { c with fetching := true, movedAt := s.aon.dt, headPhys := ctx == noCtx }) ∧
    (accPf who = true → mayStart who = false →
      exec (.dmaChainStart who x addr ctx) s = .next (s.setFld F.DMA_CH_HEAD_addr x (F.DMA_CH_HEAD_addr.of addr)))) ∧
  (∀ (x : Nat) (st : MemStatus) (s : State), x < 1344 → (s.chan x).fetching = true → s.chState x = chRunning → (s.chan x).stopped = false →
    let t := s.setChan x { s.chan x with fetching := false }
    let a := s.fld F.DMA_CH_HEAD_addr x
    (st ≠ .ok → exec (.descriptorFetchDone x st) s = .next ((t.latchFail x a false (s.chan x).headPhys).haltChan x haltFetch a 0)) ∧
    (∀ u, st = .ok → s.readDescr x a (s.chan x).headPhys = (u, none) → exec (.descriptorFetchDone x st) s = .next u) ∧
    (∀ u b, st = .ok → s.readDescr x a (s.chan x).headPhys = (u, some (some b)) →
      let h := u.fld F.DMA_CH_HEAD_addr x
      let v := u.setChan x { u.chan x with descr := some ⟨h, b⟩, fetching := false }
      exec (.descriptorFetchDone x st) s =
        .next (if v.descrOk (v.chan x) ⟨h, b⟩ then v.startDescr x ⟨h, b⟩ else v.haltChan x haltFormat h (v.reg .DMA_CH_POS x).toNat))) ∧
  (∀ (x : Nat) (s u : State) (d : Descr) (r : Option (List Byte)), x < 1344 → (s.chan x).fetching = false → (s.chan x).stopped = false →
    (s.chan x).descr = some d → s.mayFetchNext x d = true → s.readDescr x (d.u 0x68 8) d.phys = (u, some r) →
    exec (.descriptorFetchDone x .ok) s = .next (u.setChan x { u.chan x with ahead := some r })) ∧
  (∀ (x : Nat) (s m : State) (d : Descr), x < 1344 → (s.chan x).descr = some d → s.chState x = chRunning →
    (s.chan x).fetching = false → (s.chan x).stopped = false → s.poisonedAt x = none →
    let k := (s.chan x).issued
    let c := (m.issuedTo x d d.total).commitOwner (ownerDma x)
    let e := c.freeClosed (ownerDma x)
    (s.movePieces x d (s.sources x d) (d.total - k) k = (m, .done) → c.groupsClosed (ownerDma x) = true → c.poisonedAt x = none →
      exec (.descriptorComplete x) s =
        .next (((((e.incrDone x).serialDone x).when (d.flag 0) fun s => s.pulse x 0 0 0 0).dmaTrace x 2 (d.u 0x60 4) (d.u 0x64 2)).nextDescr x)) ∧
    (∀ j, s.movePieces x d (s.sources x d) (d.total - k) k = (m, .waits j) → exec (.descriptorComplete x) s = .next (m.issuedTo x d j))) ∧
  (∀ (p : Nat) (s : State) (u : Pulse) (rest : List Pulse), p < 16 → s.pulses = u :: rest → u.cp = p →
    (s.domOn (cpIsl p) = true → (s.cp p).reload = false → (s.cp p).wakes.length < 1024 →
      exec (.eventPulse ⟨p, none⟩) s =
        .next (State.giveWake { s with pulses := rest } p (.event u.x u.status u.cause u.done u.dt u.head u.pos))) ∧
    (∀ seg, exec (.eventPulse ⟨p, some seg⟩) s = .next (State.syncLost { s with pulses := rest } seg))) ∧
  (∀ (x : Nat) (s : State) (d : Descr), x < 1344 → (s.chan x).descr = some d → s.chState x = chWaiting → (s.chan x).slotWait = true →
    exec (.watchSlotRetry x) s = .next (s.armWatch x d))

/-- Halts and actions. -/
def Obligations.DmaHalts : Prop :=
  (∀ (x : Nat) (s : State) (d : Descr), x < 1344 → (s.chan x).descr = some d →
    s.chState x = chRunning → (s.chan x).fetching = false → (s.chan x).stopped = false →
    let n := (s.chan x).issued
    (∀ m k cause addr write, s.poisonedAt x = none → s.movePieces x d (s.sources x d) (d.total - n) n = (m, .failed k cause addr write) →
      exec (.descriptorComplete x) s = .next (((m.issuedTo x d k).latchFail x addr write d.phys).haltChan x cause addr k)) ∧
    (∀ k a, s.poisonedAt x = some (k, a) → exec (.descriptorComplete x) s = .next ((s.latchFail x a true d.phys).haltChan x 3 a k))) ∧
  (∀ (e line x : Nat) (st : MemStatus) (s : State) (d : Descr), e < 84 → s.fld F.DMA_ENG_STATUS_index_halt e = 0 → s.idxFor e line = some x →
    (s.chan x).descr = some d →
    let q := s.vread (s.chanWho x (.indexLine e line) clsBulk) (s.chanSpace x d.phys .index) line 256 needR
    (st ≠ .ok → s.serialOf e = [] → exec (.indexLineArrive e line st) s = .next (s.indexFail e line)) ∧
    (st ≠ .ok → s.serialOf e ≠ [] → exec (.indexLineArrive e line st) s =
      .next (((s.latchFail x line false d.phys).serialDone x).haltChan x haltIndex line (s.chan x).issued)) ∧
    (st = .ok → q.wait = false → q.fail = none → exec (.indexLineArrive e line st) s =
      .next (q.s.keepLine e ⟨s.chComp x, if d.phys then none else some (s.chanTag x), line, q.data⟩))) ∧
  (∀ (e : Nat) (s : State), e < 84 → s.fld F.DMA_ENG_STATUS_index_halt e = 1 →
    let hit := (chansOf e).filter fun x => s.chState x == chEngineHalt
    let comps := (List.range 64).filter fun c => hit.any fun x => s.chComp x == c
    let t := comps.foldl (fun s' c => (s'.report e 3 c (engineCode 3 e) noCtx (s.fld F.DMA_ENG_STATUS_line e) 0 0 [] (.engine e)).1) s
    exec (.indexHaltRecovery e) s = .next ((hit.foldl (fun s x =>
      if (s.chanOwner.find x).map (·.phase) = some .leaving then s.setChState x chDraining else s.enterHalted x haltIndex) t).setFld
        F.DMA_ENG_STATUS_index_halt e 0)) ∧
  (∀ (who : Accessor) (x : Nat) (s : State), x < 1344 → s.chState x = chHalted → s.mayAct who x = true →
    (∀ d, (s.chan x).descr = some d → s.keyStands x = false → s.descrOk (s.chan x) d = true →
      exec (.dmaResume who x) s = .next (s.startDescr x d)) ∧
    (∀ d, (s.chan x).descr = some d → s.keyStands x = true →
      exec (.dmaResume who x) s = .next (s.haltChan x 7 (s.fld F.DMA_CH_FAIL_addr x) (s.reg .DMA_CH_POS x).toNat)) ∧
    ((s.chan x).descr = none → exec (.dmaResume who x) s = .next (s.fetchDescr x (s.fld F.DMA_CH_HEAD_addr x) (s.chan x).headPhys)) ∧
    exec (.dmaSkip who x) s = .next ((((s.incrDone x).serialDone x).pulse x 1 (s.fld F.DMA_CH_STATUS_cause x) 0 0).nextDescr x)) ∧
  (∀ (who : Accessor) (x : Nat) (s : State), x < 1344 → s.chState x ∈ [chHalted, chRunning, chWaiting] → s.mayAct who x = true →
    let t := (s.setChan x { s.chan x with waitRecord := none }).stopIssue x .abort
    (t.chanQuiet x = false → exec (.dmaAbort who x) s = .next t) ∧
    (t.chanQuiet x = true → leads (.dmaAbort who x) s fun u => u = t.abortNow x ∧ u.chState x = chIdle ∧ u.chan x = DmaCh.init)) ∧
  (∀ (f x : Nat) (s : State), x < 1344 → s.mayAct (.fn f) x = false →
    exec (.dmaResume (.fn f) x) s = .next s ∧ exec (.dmaSkip (.fn f) x) s = .next s ∧ exec (.dmaAbort (.fn f) x) s = .next s)

/-- LINEAR pieces. -/
def Obligations.LinearPieces : Prop :=
  ∀ d : Descr, d.type = 1 → 1 ≤ d.len →
    let src := d.u 8 8
    let dst := d.u 0x10 8
    1 ≤ d.total ∧ (d.piece 0 0).dst = some dst ∧
    (∀ b, (d.piece (d.total - 1) 0).dst = some b → b + (d.piece (d.total - 1) 0).len = dst + d.len) ∧
    ∀ k, k < d.total → ∃ b, (d.piece k 0).dst = some b ∧ (d.piece k 0).src = some (src + (b - dst)) ∧ dst ≤ b ∧
      1 ≤ (d.piece k 0).len ∧ b / 4096 = (b + (d.piece k 0).len - 1) / 4096 ∧
      (k + 1 < d.total → (d.piece (k + 1) 0).dst = some (b + (d.piece k 0).len) ∧ (b + (d.piece k 0).len) % 4096 = 0)

/-- Translation. -/
def Obligations.TranslationRows : Prop :=
  (∀ (i : Nat) (v : Word) (s : State), i < 8 →
    let t := s.writeReg .TLX_POOL i v.toNat (2 ^ 64 - 1)
    let z := t.setFld F.TLX_POOL_enable i 1
    (F.TLX_POOL_enable.of v = 1 → s.poolOn i = false → t.poolAllowed i = true →
      exec (.tlxPoolWrite i v) s = .next ((z.when (i == 0) fun u => (u.wipe (u.poolBase 0) (u.poolBase 0 + 0x80000)).store (u.poolBase 0) (leBytes 8 (2 ^ 63 + 2 ^ 62))).showPools)) ∧
    (F.TLX_POOL_enable.of v = 1 → (s.poolOn i = true ∨ t.poolAllowed i = false) → exec (.tlxPoolWrite i v) s = .next t) ∧
    (F.TLX_POOL_enable.of v = 0 → s.poolOn i = true → i ≠ 0 → (t.tables.any fun x => spansMeet x.addr 1 (t.poolBase i) 0x10000000) = false →
      exec (.tlxPoolWrite i v) s = .next ((t.setFld F.TLX_POOL_enable i 0).setFld F.TLX_POOL_free i 0))) ∧
  (∀ (u : TlbUnit) (tag va : Nat) (s : State), u.named = true → tag < 65536 → s.domOn (unitIsl u) = true →
    let h := unitHalf u
    let hits := s.misses.filter fun m => m.unit == u && m.tag == tag && m.page == va / 65536 && m.walking
    hits ≠ [] →
    (s.walkIn h tag va = none →
      exec (.translationWalkDone u tag va) s = .next ((hits.foldl (fun s m => s.missFails m va) (s.cacheWalk h tag va)).startWalks)) ∧
    (∀ e, s.walkIn h tag va = some e →
      let t := ((s.cacheWalk h tag va).fillTlb (.half h) e).when (hits.any fun m => m.tile.isNone) fun s => s.fillTlb u e
      exec (.translationWalkDone u tag va) s = .next (State.startWalks { t with misses := t.misses.filter fun m => !hits.contains m }))) ∧
  (∀ (u : TlbUnit) (tag : Nat) (s : State), u.named = true → tag < 65536 →
    ((s.invals.any fun v => v.tag == tag && v.units.contains u && !v.heard.contains u) = true →
      let t := (s.dropTag u tag).markOld u tag
      (exec (.invalidateBroadcast u ⟨tag, none⟩) s =
        .next { t with invals := t.invals.map fun v => if v.tag = tag ∧ v.units.contains u then { v with heard := u :: v.heard } else v }) ∧
      ∀ seg, exec (.invalidateBroadcast u ⟨tag, some seg⟩) s = .next (s.syncLost seg)) ∧
    (∀ v, (s.invals.find? fun v => v.tag == tag && v.units.contains u) = some v →
      ((s.dom (unitIsl u)).state ≠ .on → exec (.invalidateAck u tag) s = .next (s.unitAcks u tag)) ∧
      ((s.dom (unitIsl u)).state = .on → v.heard.contains u = true → s.oldInFlight u tag v.at_ = false →
        exec (.invalidateAck u tag) s = .next ((s.settleUnit u tag).unitAcks u tag))) ∧
    ((s.invals.any fun v => v.tag == tag && v.units.contains u && decide (v.at_ + us 1000 ≤ s.aon.dt)) = true →
      exec (.invalidateTimeout u tag) s =
        .next ((s.reportDev (unitIsl u) 0x12 (engineCode 6 (unitNumber u)) 0 tag []).toLadder (.unit u)))) ∧
  (∀ (u : TlbUnit) (tag : Nat) (s : State) (e : TlbUnit × TlbEntry), e ∈ (s.dropTag u tag).tlbs → ¬ (e.1 = u ∧ e.2.tag = tag)) ∧
  (∀ (c : Nat) (v : Word) (s : State), c < 64 →
    let t := s.writeReg .TLX_DLOG_CFG c v.toNat (2 ^ 64 - 1)
    (F.TLX_DLOG_CFG_enable.of v = 1 → s.fld F.TLX_DLOG_CFG_enable c = 0 → t.dlogAllowed c = true →
      exec (.dlogEnable c v) s = .next ((t.emptyFilter c).setFld F.TLX_DLOG_CFG_enable c 1)) ∧
    (F.TLX_DLOG_CFG_enable.of v = 0 → exec (.dlogEnable c v) s = .next (t.setFld F.TLX_DLOG_CFG_enable c 0))) ∧
  (∀ (c : Nat) (s : State), c < 64 →
    (s.fld F.TLX_DLOG_CFG_flip_busy c = 0 → s.fld F.TLX_DLOG_CFG_enable c = 1 →
      leads (.dlogFlip c) s fun t => (∀ e ∈ t.dlogFilter, e.2.1 ≠ c) ∧ t.fld F.TLX_DLOG_CFG_flip_busy c = 1 ∧
        t.fld F.TLX_DLOG_CFG_gen c = s.fld F.TLX_DLOG_CFG_gen c) ∧
    (s.fld F.TLX_DLOG_CFG_flip_busy c = 1 →
      leads (.dlogFlipDone c) s fun t => t.fld F.TLX_DLOG_CFG_flip_busy c = 0 ∧
        t.fld F.TLX_DLOG_CFG_gen c = 1 - s.fld F.TLX_DLOG_CFG_gen c ∧ { t with regs := s.regs } = s))

/-- Bring-up. -/
def Obligations.PortBringUp : Prop :=
  (∀ (k : Nat) (v : Word) (s : State), k < 8 → F.PRT_CFG_enable.of v = 1 →
    let t := (s.writePrtCfg k v).setFld F.PRT_CFG_enable k 1
    exec (.portEnable k v) s = .next (if s.ptState k = ptOff ∨ s.ptState k = ptRefused then t.startBringUp k else t)) ∧
  (∀ (k : Nat) (v : Word) (s : State), k < 8 → F.PRT_CFG_enable.of v = 0 →
    let t := (s.writePrtCfg k v).setFld F.PRT_CFG_enable k 0
    (t.ptState k = ptUp → exec (.portDisable k v) s = .next (t.startAway k 2)) ∧
    (t.ptState k ≠ ptUp → leads (.portDisable k v) s fun u => u = t.portOff k ∧ u.ptState k = ptOff ∧ (u.port k).step = 0)) ∧
  (∀ (k wl : Nat) (s : State), k < 8 → s.ptState k = ptDark → s.fld F.PRT_CFG_enable k = 1 →
    (s.aon.dt = (s.port k).startAt ∨ (s.port k).startAt + us 1000 ≤ s.aon.dt) →
    let t := (s.setFld F.PRT_LOS_STATUS_feed_wl k wl).setFld F.PRT_LOS_STATUS_feed_los k (if wl % 256 = 255 then 1 else 0)
    let u := t.onPort k fun p => { p with step := 1, startAt := t.aon.dt }
    exec (.feedRecheck k wl) s = .next (if wl % 256 = 255 then u else u.setPtState k ptSearch)) ∧
  (∀ (k : Nat) (s : State), k < 8 →
    ((s.ptState k = ptSearch ∧ (s.port k).step = 2) ∨
      (s.ptState k = ptGone ∧ s.domOn (120 + k) = true ∧ s.fld F.PRT_LOS_STATUS_feed_los k = 0)) →
    let t := (s.setFld F.PRT_LOS_STATUS_los k 0).setFld F.PRT_LOS_STATUS_rx_lane k 0
    let u := t.setPtState k ptTrain
    exec (.linkSignalDetect k) s = .next (u.onPort k fun p => { p with step := 3, sigAt := u.aon.dt })) ∧
  (∀ (k : Nat) (b : BringUp) (s : State), k < 8 → s.ptState k ≠ ptDark →
    let to_ (n : Nat) : State := s.onPort k fun p => { p with step := n }
    (b.ok = true →
      ((s.port k).step = 1 → s.domOn (120 + k) = true → exec (.bringupStepDone k b) s = .next (to_ 2)) ∧
      ((s.port k).step = 3 → exec (.bringupStepDone k b) s = .next (s.startTraining k)) ∧
      ((s.port k).step = 4 → exec (.bringupStepDone k b) s = .next (s.lanesTrained k b)) ∧
      ((s.port k).step = 5 → exec (.bringupStepDone k b) s = .next ((to_ 6).setPtState k ptAuth)) ∧
      ((s.port k).step = 6 → exec (.bringupStepDone k b) s = .next (s.authenticated k b)) ∧
      ((s.port k).step = 7 → exec (.bringupStepDone k b) s = .next (s.portUpNow k) ∧ (s.portUpNow k).ptState k = ptUp)) ∧
    (b.ok = false → (s.port k).step ≠ 0 → (s.port k).step ≠ 2 →
      exec (.bringupStepDone k b) s = .next (s.portDown k (if (s.port k).step = 6 then pcAuth else pcStep)))) ∧
  (∀ (k : Nat) (s : State), k < 8 → 3 ≤ (s.port k).step → (s.port k).sigAt + stepBound (s.port k).step ≤ s.aon.dt →
    exec (.bringupStepTimeout k) s = .next (s.portDown k pcStep)) ∧
  (∀ (k t : Nat) (s : State), k < 8 → (s.port k).retryAt = some t → s.ptState k = ptDown → s.fld F.PRT_CFG_auto_retrain k = 1 → t ≤ s.aon.dt →
    exec (.retrainBackoff k) s = .next (s.searchAgain k)) ∧
  (∀ (k : Nat) (s : State), k < 8 → s.ptState k ≠ ptOff →
    exec (.prtRetrain k) s = .next ((if s.sessionOn k then s.lossSteps k else s).searchAgain k))

/-- Failures of a port. -/
def Obligations.PortFailures : Prop :=
  (∀ (k w : Nat) (s : State), k < 8 → w < 8 →
    let t := s.setFeed k (s.fld F.PRT_LOS_STATUS_feed_wl k ||| 2 ^ w)
    (t.fld F.PRT_LOS_STATUS_feed_los k = 0 → exec (.feedWavelengthFail k w) s = .next (t.lanesChanged k true pcLanes)) ∧
    (t.fld F.PRT_LOS_STATUS_feed_los k = 1 → (t.ptState k = ptOff ∨ t.ptState k = ptRefused) → exec (.feedWavelengthFail k w) s = .next t) ∧
    (t.fld F.PRT_LOS_STATUS_feed_los k = 1 → t.ptState k ≠ ptOff → t.ptState k ≠ ptRefused →
      let u := (t.when (t.ptState k == ptUp) fun t => t.onPort k fun p => { p with downAt := t.aon.dt }).setPtState k ptDark
      exec (.feedWavelengthFail k w) s = .next (u.onPort k fun p => { p with step := 1, startAt := u.aon.dt, retryAt := none }))) ∧
  (∀ (k lanes : Nat) (tx : Bool) (s : State), k < 8 →
    let t := s.onPort k fun p =>
      if tx then { p with txBad := (p.txBad ||| lanes) % 2 ^ 32 } else { p with rxBad := (p.rxBad ||| lanes) % 2 ^ 32 }
    exec (.laneFail k tx lanes) s = .next (t.lanesChanged k tx pcLanes)) ∧
  (∀ (k lanes : Nat) (s : State), k < 8 → s.ptState k = ptUp →
    let t := s.setFld F.PRT_LOS_STATUS_rx_lane k (s.fld F.PRT_LOS_STATUS_rx_lane k ||| lanes)
    ((t.judgeLanes k false).2 = true → exec (.lossOfSignal k lanes) s = .next (t.judgeLanes k false).1) ∧
    ((t.judgeLanes k false).2 = false → exec (.lossOfSignal k lanes) s =
      .next (((t.setFld F.PRT_LOS_STATUS_los k 1).setFld F.PRT_LOS_STATUS_los_stk k 1).portDown k pcLos))) ∧
  (∀ (k : Nat) (s : State), k < 8 → s.ptState k = ptUp →
    (s.fld F.PRT_LOS_STATUS_los k = 0 → (s.port k).heardAt + us 16 ≤ s.aon.dt →
      exec (.heartbeatTimeout k) s = .next (s.portDown k pcHeartbeat)) ∧
    ((2 ^ 40 - 2 ^ 20 ≤ (s.reg .PRT_TX_CTR k).toNat ∨ 2 ^ 40 - 2 ^ 20 ≤ (s.port k).expect) →
      exec (.rekeyDeadline k) s = .next (s.portDown k pcRekey))) ∧
  (∀ (k : Nat) (s : State), k < 8 → exec (.prtDown k) s = .next (s.portDown k pcOperator)) ∧
  (∀ (k cause : Nat) (s : State),
    ((s.ptState k = ptOff ∨ s.ptState k = ptDown) → s.portDown k cause = s) ∧
    (s.ptState k ≠ ptOff → s.ptState k ≠ ptDown →
      let a := ((s.setPtState k ptDown).setFld F.PRT_STATUS_cause k cause).bump F.PRT_STATUS_downs k 1
      let b := (a.lossSteps k).onPort k fun p => { p with step := 0 }
      s.portDown k cause = (((b.portEvent k cause).reportDev (120 + k) 8 (engineCode 4 k) 0 cause []).armRetrain k))) ∧
  (∀ (k : Nat) (s : State), k < 8 → s.ptState k = ptUp →
    ((s.port k).away = 1 → ((s.remoteBusy k = false ∧ (s.port k).waiting = [] ∧ s.tx.get k [] = []) ∨ (s.port k).awayAt + us 50 ≤ s.aon.dt) →
      let t := s.absentOnPort k
      let u := t.sendFrame k 3 (msgSegs (t.fld F.PRT_STATUS_peer_node k) [{ msg := t.awayMessage k, data := [], cls := 0 }])
      exec (.goingAwaySend k) s = .next (u.onPort k fun p => { p with away := 2, awayAt := u.aon.dt })) ∧
    ((s.port k).away = 2 →
      let t := (s.heartbeat k).portGone k
      exec (.goingAwaySend k) s = .next (if t.fld F.PRT_CFG_enable k = 0 then t.portOff k else t)))

/-- Frames. -/
def Obligations.PortFrames : Prop :=
  (∀ (k : Nat) (f : Frame) (s : State), k < 8 → s.sessionOn k = true → s.domOn (120 + k) = true →
    let t := s.fecCount k f
    ((0 < f.uncorrected ∨ frameFormed f = false) → exec (.frameReceive k f) s = .next (t.askReplay k)) ∧
    (f.uncorrected = 0 → frameFormed f = true → f.ftype ≠ 4 →
      ((t.port k).expected f.phase = none → exec (.frameReceive k f) s = .next (t.askReplay k)) ∧
      (∀ e, (t.port k).expected f.phase = some e →
        (f.ctr < e → exec (.frameReceive k f) s = .next t) ∧
        (e ≤ f.ctr → f.tagOk = false → exec (.frameReceive k f) s = .next (t.tagFailed k)) ∧
        (e < f.ctr → f.tagOk = true → exec (.frameReceive k f) s = .next (t.askReplay k)) ∧
        (f.ctr = e → f.tagOk = true → exec (.frameReceive k f) s = .next (t.acceptFrame k f)))) ∧
    (f.uncorrected = 0 → frameFormed f = true → f.ftype = 4 → t.ptState k = ptUp →
      exec (.frameReceive k f) s = .next ((t.portDown k pcPartnerReset).searchAgain k))) ∧
  (∀ (k ctr phase : Nat) (s : State), k < 8 → s.sessionOn k = true → s.domOn (120 + k) = true →
    let tx := s.fld F.PRT_STATUS_key_phase k
    (phase = tx → ctr = (s.reg .PRT_TX_CTR k).toNat → exec (.replay k ⟨phase, ctr⟩) s = .next s) ∧
    ((phase ≠ tx ∨ ctr ≠ (s.reg .PRT_TX_CTR k).toNat) →
      (∀ fs, (s.port k).resend tx ctr phase = some fs →
        exec (.replay k ⟨phase, ctr⟩) s = .next (fs.foldl (fun s f => s.emit (.frame k f.frame f.wire)) s)) ∧
      ((s.port k).resend tx ctr phase = none → exec (.replay k ⟨phase, ctr⟩) s = .next (s.portDown k pcReplay)))) ∧
  (∀ (p : Port) (tx ctr : Nat), (p.replay.all fun f => f.frame.phase == tx) = true →
    p.resend tx ctr tx = if p.replay.any fun f => f.frame.ctr == ctr then some (p.replay.dropWhile fun f => f.frame.ctr != ctr) else none) ∧
  (∀ (k ph c t : Nat) (s : State), k < 8 → s.sessionOn k = true → (s.port k).asked = some (ph, c, t) → t + us 2 ≤ s.aon.dt →
    exec (.replayRepeat k) s = .next ((s.onPort k fun p => { p with asked := some (ph, c, s.aon.dt) }).sendCtl k (replayMessage (ph, c)) [])) ∧
  (∀ (k : Nat) (s : State), k < 8 → s.sessionOn k = true → s.domOn (120 + k) = true → (s.port k).sentAt + 2000 ≤ s.aon.dt →
    exec (.heartbeatSend k) s = .next (s.heartbeat k)) ∧
  (∀ (k : Nat) (m : PortMsg) (s : State), k < 8 → s.sessionOn k = true →
    exec (.status k m) s = .next (s.onPort k fun p => { p with credits := creditsOf m.aux }))

/-- R274, over the whole of a frame's acceptance. -/
def Obligations.AcksRelease : Prop :=
  ∀ (k : Nat) (f : Frame) (s : State), k < 8 → s.sessionOn k = true → s.domOn (120 + k) = true → (f.ftype = 1 ∨ f.ftype = 2) →
    f.uncorrected = 0 → frameFormed f = true → (s.port k).expected f.phase = some f.ctr → f.tagOk = true →
    ((s.port k).replay.all fun g => g.frame.phase == s.fld F.PRT_STATUS_key_phase k) = true →
    leads (.frameReceive k f) s fun t =>
      (t.port k).replay = (s.port k).replay.filter fun g => decide ((g.frame.ctr + 2 ^ 32 - f.ack % 2 ^ 32) % 2 ^ 32 < 2 ^ 31)

/-- Agent messages. -/
def Obligations.PortMessages : Prop :=
  (∀ (k cls op : Nat) (m : PortMsg) (data : List Byte) (i : Instr) (s : State), k < 8 → s.portServes k = true →
    (op = 1 ∧ data = [] ∧ i = .read k ⟨cls, m⟩ ∨ op = 2 ∧ i = .prepare k ⟨cls, m⟩ data) →
    let q : Incoming := ⟨{ m with op := op }, data, cls, s.aon.dt⟩
    let t := s.onPort k fun p => { p with waiting := p.waiting ++ [q] }
    (s.port k).waiting = [] →
    (t.agentBlocked k q = none → exec i s = .next ((t.onPort k fun p => { p with waiting := [] }).agentServe k q)) ∧
    (∀ u, t.agentBlocked k q = some u → exec i s = .next u)) ∧
  (∀ (k cls : Nat) (m : PortMsg) (s : State), k < 8 → s.portServes k = true →
    let q : Incoming := ⟨{ m with op := 3 }, [], cls, s.aon.dt⟩
    ((s.port k).waiting.any fun w => w.msg.group == m.group) = false → s.agentBlocked k q = none →
    exec (.commit k ⟨cls, m⟩) s = .next ((s.agentServe k q).serveAgent k)) ∧
  (∀ (k : Nat) (q : Incoming) (s : State),
    let t : State := { s with heldAcc := s.heldAcc.filter fun h => h.own != Owner.agent k }
    let m := q.msg
    let c := t.exportCheck k m false
    let a := t.pxwAddr c.2 m.offset
    let w := agentWho k q.cls
    (m.op = 1 → c.1 ≠ 0 → s.agentServe k q = t.readResp k q.cls m c.1 [] []) ∧
    (m.op = 1 → c.1 = 0 → m.sealedReq = false →
      let r := t.readPhys w (t.pxwSel c.2) a m.length
      s.agentServe k q = r.s.readResp k q.cls m (statusMsg r.st) r.data []) ∧
    (m.op = 1 → c.1 = 0 → m.sealedReq = true → t.judge w 0 a = .ok →
      let ls := (List.range (m.length / 64)).map fun i => t.rawLine (a + 64 * i)
      s.agentServe k q = t.readResp k q.cls m 0 (ls.map (·.1)).flatten (ls.map (·.2)))) ∧
  (∀ (k : Nat) (q : Incoming) (s : State),
    let t : State := { s with heldAcc := s.heldAcc.filter fun h => h.own != Owner.agent k }
    let m := q.msg
    let c := t.exportCheck k m true
    let w : Staged := { group := m.group, offset := m.offset, sealedReq := m.sealedReq, metaWords := m.metaWords, data := q.data.take m.length }
    (m.op = 2 → c.1 ≠ 0 → s.agentServe k q = t.prepAck k q.cls m c.1) ∧
    (m.op = 2 → c.1 = 0 → s.agentServe k q = (t.onPort k fun p => { p with staged := p.staged ++ [w] }).prepAck k q.cls m 0)) ∧
  (∀ (k : Nat) (q : Incoming) (s : State), q.msg.op = 3 →
    let t : State := { s with heldAcc := s.heldAcc.filter fun h => h.own != Owner.agent k }
    let m := q.msg
    let ws := (t.port k).stagedFor m.group
    let ack (u : State) (st : Nat) : State := u.sendIn k q.cls { PortMsg.of 6 with status := st, tag := m.tag, group := m.group } []
    (ws ≠ [] → s.agentServe k q = ack ((ws.foldl (fun s w => s.publishStaged k q.cls w) t).onPort k fun p =>
      { p with staged := p.staged.filter fun w => w.group != m.group, published := p.published ++ [m.group] }) 0) ∧
    (ws = [] → s.agentServe k q = ack t (if (t.port k).published.contains m.group then 0 else 7))) ∧
  (∀ (k : Nat) (q : Incoming) (s : State), q.msg.op = 2 → (s.exportCheck k q.msg true).1 = 0 → (s.port k).openGroups.contains q.msg.group = false →
    512 ≤ (s.port k).openGroups.length → s.agentBlocked k q = some s) ∧
  (∀ (k off : Nat) (m : PortMsg) (data : List Byte) (s : State) (o : Outstanding), k < 8 → s.outst.find m.tag = some o →
    region o.req.addr = .remote k off →
    (msgStatus m.status ≠ .ok → exec (.readResp k m data) s = .next (s.finishEntry m.tag (msgStatus m.status) [])) ∧
    (msgStatus m.status = .ok → o.req.sel = 0 → exec (.readResp k m data) s = .next (s.finishEntry m.tag .ok data)) ∧
    (∀ d, msgStatus m.status = .ok → o.req.sel ≠ 0 → s.unsealData o.req.sel k off data m.metaWords = some d →
      exec (.readResp k m data) s = .next (s.finishEntry m.tag .ok d))) ∧
  (∀ (k i : Nat) (m : PortMsg) (s : State) (g : Group), k < 8 → s.groupOf m.group = some (i, g) → g.port = k → g.state ≠ 3 →
    (m.status = 0 → exec (.prepAck k m) s = .next (s.setGroup i { g with acked := g.acked + 1, unacked := g.unacked.drop 1 })) ∧
    (m.status = 6 → exec (.prepAck k m) s = .next (s.primaryLost i)) ∧
    (m.status ≠ 0 → m.status ≠ 6 → exec (.prepAck k m) s = .next (s.prepareRefused g (msgStatus m.status))) ∧
    (g.state = 2 → m.status = 0 → exec (.commitAck k m) s = .next (s.closeGroup i false)) ∧
    (g.state = 2 → m.status ≠ 0 → exec (.commitAck k m) s = .next (s.primaryLost i))) ∧
  (∀ (k : Nat) (m : PortMsg) (s : State), k < 8 → s.groupOf m.group = none →
    exec (.prepAck k m) s = .next (s.lateAtPort k) ∧ exec (.commitAck k m) s = .next (s.lateAtPort k))

/-- Rekey, routes, seams. -/
def Obligations.RekeyRoutesAndSeams : Prop :=
  (∀ (k : Nat) (s : State), k < 8 → s.ptState k = ptUp → (s.port k).rekey = none →
    let q := s.free 64
    let priv := q.1.toNat
    let t := (q.2.onPort k fun p => { p with rekey := some { priv := priv, txNext := none, acked := false } }).sendCtl k
      { PortMsg.of 0x32 with ndata := 1, length := 128 } (rekeyData priv)
    (2 ^ 39 ≤ (s.reg .PRT_TX_CTR k).toNat → exec (.rekeyStart k) s = .next t) ∧ exec (.prtRekey k) s = .next t) ∧
  (∀ (k : Nat) (m : PortMsg) (data : List Byte) (s : State), k < 8 → s.ptState k = ptUp →
    let ok := Config.verifySig (leBytes 2 (s.fld F.PRT_STATUS_peer_node k)) (data.take 64) ((data.drop 64).take 64)
    let t := s.startRekey k
    (ok = false → exec (.rekey k m data) s = .next (s.portDown k pcRekey)) ∧
    (∀ priv acked, ok = true → (t.port k).rekey = some { priv := priv, txNext := none, acked := acked } →
      exec (.rekey k m data) s = .next (((t.newPhase k priv (data.take 64)).sendCtl k
          { PortMsg.of 0x33 with tag := m.tag, ndata := 1, length := 128 } (rekeyData priv)).settleRekey k))) ∧
  (∀ (k priv : Nat) (peer : List Byte) (s : State),
    let p := s.port k
    let u := (s.newPhase k priv peer).port k
    u.phase = 1 - p.phase ∧ u.expect = 0 ∧ u.old = some p.expect ∧ u.rxOld = p.rxKey ∧ u.txKey = p.txKey ∧
      u.rxKey = some (linkKey (Config.ecdh priv peer) (s.fld F.PRT_STATUS_peer_node k))) ∧
  (∀ (k : Nat) (m : PortMsg) (s : State) (r : Rekey) (key : LinkKey), k < 8 → s.ptState k = ptUp → (s.port k).rekey = some r → m.status = 0 →
    let u := s.onPort k fun p => { p with rekey := some { r with acked := true } }
    (r.txNext = none → exec (.rekeyAck k m) s = .next u) ∧
    (r.txNext = some key →
      let t := (u.setFld F.PRT_STATUS_key_phase k (1 - u.fld F.PRT_STATUS_key_phase k)).setReg .PRT_TX_CTR k 0#64
      exec (.rekeyAck k m) s = .next (t.onPort k fun p => { p with rekey := none, txKey := some key }))) ∧
  (∀ (w : Option Word) (s : State),
    let i := s.fld F.PRT_RT_ADDR_index 0
    leads (.prtRtDataAccess w) s fun t =>
      (∀ v, w = some v → t.route.get i 15 = (if 8 ≤ F.PRT_RT_DATA_egress.of v then 15 else F.PRT_RT_DATA_egress.of v) ∧
        ∀ j, j ≠ i → t.route.get j 15 = s.route.get j 15) ∧
      (w = none → t.route = s.route ∧ t.lastAccess = some { unsupported := false, value := BitVec.ofNat 64 (s.route.get i 15) }) ∧
      t.fld F.PRT_RT_ADDR_index 0 = if s.fld F.PRT_RT_ADDR_autoinc 0 = 1 then (i + 1) % 65536 else i) ∧
  (∀ (seg ch : Nat) (east : Bool) (s : State), seg < 2 → ch < 21 → ch < s.seamN seg →
    let mesh := (if seg = 0 then 141 else 142) + if east then 4 else 0
    (s.dom mesh).state = .on → (s.dom mesh).trans = .none → s.stalls.contains (seg, mesh) = false → s.creditWaits seg ch mesh = true →
    let t : State := { s with stalls := s.stalls ++ [(seg, mesh)] }
    exec (.seamCreditStall seg ch east) s =
      .next (((t.setFld F.FAB_SEAM_STATUS_credit_stall seg 1).reportDev (136 + seg) 5 (engineCode 7 (136 + seg)) 0 ch []).askReset
        { step := 2, engine := none, island := mesh, hang := true })) ∧
  (∀ (seg ch : Nat) (good : Bool) (s : State), seg < 2 → ch < 21 → (s.flacon.seam seg).state ch = 0 → (s.seamFix.get seg []).contains ch = false →
    let key := seamKey seg ch
    let c := s.fabCount (136 + seg) false
    let t : State := { c with seamRetries := c.seamRetries.put key (c.seamWindow seg ch ++ [c.aon.dt]) }
    let n := t.seamFails.get key 0 + 1
    let z : State := { t with seamFails := t.seamFails.del key }
    (good = true → exec (.seamFlitReplay seg ch good) s = .next z) ∧
    (good = false → n < 8 → exec (.seamFlitReplay seg ch good) s = .next { t with seamFails := t.seamFails.put key n }) ∧
    (good = false → 8 ≤ n → exec (.seamFlitReplay seg ch good) s = .next ((z.fabCount (136 + seg) true).startSeamRepair seg ch))) ∧
  (∀ (seg : Nat) (s : State), seg < 2 → s.fld F.FAB_SEAM_CFG_retry_limit 0 ≠ 0 →
    exec (.seamRetryWindow seg) s =
      .next ((List.range 21).foldl
        (fun t ch => if s.fld F.FAB_SEAM_CFG_retry_limit 0 < (t.seamWindow seg ch).length then t.startSeamRepair seg ch else t) s)) ∧
  (∀ (seg ch : Nat) (s : State), seg < 2 → ch < 21 → (s.seamFix.get seg []).contains ch = true →
    let rest := (s.seamFix.get seg []).filter fun c => c != ch
    let t := s.onFlacon fun f => { f with seams := splice f.seams seg [(f.seam seg).repaired ch] }
    let u : State := { t with seamFix := t.seamFix.put seg rest, seamRetries := t.seamRetries.del (seamKey seg ch),
                              seamFails := t.seamFails.del (seamKey seg ch) }
    let w := if rest.isEmpty then u.setFld F.FAB_SEAM_STATUS_repair_busy seg 0 else u
    exec (.seamRepair seg ch) s = .next (w.showSeams.reportDev (136 + seg) 6 (engineCode 7 (136 + seg)) 0 ch []))

/-- R297. A second is 2,000,000,000 ticks. -/
def Obligations.PpsInput : Prop :=
  ∀ s : State, s.aon.powered = true → s.aon.dt < 2 ^ 64 → (s.reg .TIM_PPS_LATCH 0).toNat ≤ s.aon.dt →
    let d := s.aon.dt - (s.reg .TIM_PPS_LATCH 0).toNat
    (s.fld F.TIM_CFG_pps_in_en 0 = 1 →
      leads .ppsInEdge s fun t => (t.reg .TIM_PPS_LATCH 0).toNat = s.aon.dt ∧ t.fld F.TIM_STATUS_pps_seen 0 = 1 ∧
        ((s.aon.ppsEver = true ∧ (d < 1998000000 ∨ 2002000000 < d)) → t.fld F.TIM_STATUS_pps_err_stk 0 = 1) ∧
        (¬ (s.aon.ppsEver = true ∧ (d < 1998000000 ∨ 2002000000 < d)) →
          t.fld F.TIM_STATUS_pps_err_stk 0 = s.fld F.TIM_STATUS_pps_err_stk 0) ∧
        t.aon = { s.aon with ppsEver := true } ∧ { t with regs := s.regs, aon := s.aon } = s) ∧
    (2200000000 ≤ d → leads .ppsInTimeout s fun t => t.fld F.TIM_STATUS_pps_seen 0 = 0 ∧
      t.reg .TIM_PPS_LATCH 0 = s.reg .TIM_PPS_LATCH 0 ∧ { t with regs := s.regs } = s)

/-- Time and trace. -/
def Obligations.TimeRows : Prop :=
  (∀ s : State, s.aon.stage = .aon → s.aon.powered = true →
    leads .referenceFirstLock s fun t => t.aon = { s.aon with dt := 0, dtRuns := true, stage := .rom } ∧ t.fld F.TIM_STATUS_ref_ok 0 = 1) ∧
  (∀ s : State, s.aon.powered = true → s.fld F.TIM_STATUS_ref_ok 0 = 1 →
    leads .referenceLost s fun t => t.fld F.TIM_STATUS_ref_ok 0 = 0 ∧ t.fld F.TIM_STATUS_holdover 0 = 1 ∧ t.fld F.TIM_STATUS_ref_lost_stk 0 = 1 ∧
      t.aon = s.aon ∧ t.fld F.MON_EVT_reference 0 = 1) ∧
  (∀ s : State, s.fld F.TIM_STATUS_holdover 0 = 1 →
    leads .referenceRelock s fun t => t.fld F.TIM_STATUS_ref_ok 0 = 1 ∧ t.fld F.TIM_STATUS_holdover 0 = 0 ∧ { t with regs := s.regs } = s) ∧
  (∀ (skews : List Int) (s : State), s.aon.dtRuns = true →
    agree (((List.range 148).filter fun i => (s.dom i).state == .on).map fun i => skews.getD i (s.dom i).skew) = true →
    leads (.replicaAlign skews) s fun t => { t with doms := s.doms } = s ∧ ∀ i, i < 148 →
      ((s.dom i).state ≠ .on → t.dom i = s.dom i) ∧
      ((s.dom i).state = .on → t.dom i = { s.dom i with floor := s.dtOf i, skew := skews.getD i (s.dom i).skew } ∧ s.dtOf i ≤ t.dtOf i)) ∧
  (∀ s : State, s.aon.powered = true → s.aon.dtRuns = true → s.fld F.TIM_CFG_pps_out_en 0 = 1 →
    (s.aon.dt + 2000000000 - s.fld F.TIM_CFG_pps_out_phase 0) % 2000000000 < 10 →
    leads .ppsOutRise s fun t => t.ppsOut = true ∧ t.aon = { s.aon with ppsRose := some s.aon.dt }) ∧
  (∀ (a : Nat) (s : State), s.aon.ppsRose = some a → a + 200000000 ≤ s.aon.dt → leads .ppsOutFall s fun t => t.ppsOut = false) ∧
  (∀ (k : Nat) (s : State), k < 8 →
    leads (.timOwdRead k) s fun t => t.lastAccess = some { unsupported := false, value := s.reg .TIM_OWD k } ∧
      t.regView .TIM_OWD_AUX k = s.reg .TIM_OWD_AUX k ∧ t.regs = s.regs) ∧
  (∀ (h : Nat) (s : State) (r : SilRec) (rest : List SilRec), h < 2 → s.sil.get h [] = r :: rest →
    let t : State := { s with sil := s.sil.put h rest }
    exec (.sillageRecord h) s = .next ((List.range 16).foldl (fun s i => if s.silAccepts i r then s.silDeliver h i r else s) t)) ∧
  (∀ (i : Nat) (v : Word) (s : State), i < 16 →
    let t := s.writeReg .TIM_SIL_CFG i v.toNat (2 ^ 64 - 1)
    let a := t.fld F.TIM_SIL_CFG_base i * 4096
    let free : Bool := inPlainMemory a (32 * t.silCap i) && !t.meetsBound a (32 * t.silCap i) && !t.meetsWindow a (32 * t.silCap i)
    (F.TIM_SIL_CFG_enable.of v = 0 → exec (.sillageEnable i v) s = .next (t.setFld F.TIM_SIL_CFG_enable i 0)) ∧
    (F.TIM_SIL_CFG_enable.of v = 1 → free = false → exec (.sillageEnable i v) s = .next (t.setFld F.TIM_SIL_CFG_enable i 0)) ∧
    (F.TIM_SIL_CFG_enable.of v = 1 → free = true → leads (.sillageEnable i v) s fun u =>
      u.fld F.TIM_SIL_CFG_enable i = 1 ∧ u.reg .TIM_SIL_WR i = 0#64 ∧ u.reg .TIM_SIL_RD i = 0#64 ∧ u.reg .TIM_SIL_LOST i = 0#64 ∧
        u.silLoss.find i = none))

/-- R313. -/
def Obligations.ConfidentialLeavesNoTrace : Prop :=
  ∀ (s : State) (isl kind comp status layer operator engine ctx arg : Nat), s.confidential comp = true →
    s.trace isl kind comp status layer operator engine ctx arg = s

/-- The commands of R332. -/
def Obligations.CompositionCommands : Prop :=
  (∀ e ∈ ([(.create, [0]), (.rebind, [2]), (.park, [2, 8]), (.resume, [5]), (.release, [2, 5, 8, 9]), (.promote, [9])] :
      List ((Nat → Instr) × List Nat)), ∀ (c : Nat) (s : State), c < 64 →
    (s.fld F.CMP_STATUS_busy c = 1 ∨ s.fld F.CMP_STATUS_state c ∉ e.2) →
    exec (e.1 c) s = .next (s.setFld F.CMP_STATUS_last_status c 6)) ∧
  (∀ (c : Nat) (s : State), c < 64 → s.cmpBlocked c [0] = false →
    let q := s.readMap c
    let r := MapRec.parse q.2
    let t := q.1.setComp c { Comp.init with heldCores := r.demand, heldChans := r.channels }
    (q.1.mapCheck c 1 q.2 ≠ 0 → exec (.create c) s = .next (q.1.setFld F.CMP_STATUS_last_status c (q.1.mapCheck c 1 q.2))) ∧
    (q.1.mapCheck c 1 q.2 = 0 → r.sliced = false → exec (.create c) s = .next (t.beginChange c 1 r 0 none 0)) ∧
    (q.1.mapCheck c 1 q.2 = 0 → r.sliced = true → exec (.create c) s =
      .next (t.beginChange c 1 (if r.demand ≤ t.freeCores.length then { r with cores := t.freeCores.take r.demand } else r.bare) 0 none 0))) ∧
  (∀ (c : Nat) (s : State), c < 64 → s.cmpBlocked c [2] = false →
    let q := s.readMap c
    let r := MapRec.parse q.2
    (q.1.mapCheck c 2 q.2 ≠ 0 → exec (.rebind c) s = .next (q.1.setFld F.CMP_STATUS_last_status c (q.1.mapCheck c 2 q.2))) ∧
    (q.1.mapCheck c 2 q.2 = 0 → r.sliced = false → exec (.rebind c) s = .next (q.1.beginChange c 2 r 0 none 0))) ∧
  (∀ (c : Nat) (s : State), c < 64 → s.cmpBlocked c [2, 8] = false →
    exec (.park c) s = .next (s.beginChange c 3 (s.recordOf c).bare 0 none 0)) ∧
  (∀ (c : Nat) (s : State), c < 64 → s.cmpBlocked c [5] = false → s.fld F.PWR_COMP_CFG_power_parked c = 0 →
    (s.resumeRecord c = none → exec (.resume c) s = .next (s.setFld F.CMP_STATUS_last_status c 4)) ∧
    (∀ r, s.resumeRecord c = some r → exec (.resume c) s = .next (s.beginChange c 4 r 0 none 0))) ∧
  (∀ (c : Nat) (s : State), c < 64 → s.cmpBlocked c [2, 5, 8, 9] = false →
    (s.hasCtx c = true → exec (.release c) s = .next (s.setFld F.CMP_STATUS_last_status c 7)) ∧
    (s.hasCtx c = false →
      let t := ((s.slots.filter fun e => e.2.owner == c && e.2.state == 1).map (·.1)).foldl (fun s k => s.startRetire k false) s
      exec (.release c) s = .next (t.beginChange c 5 { (t.recordOf c).bare with parts := [], far := [], ports := [] } 0 none 0))) ∧
  (∀ (c : Nat) (s : State), c < 64 → s.cmpBlocked c [9] = false →
    (s.promoteRecord c = none → exec (.promote c) s = .next (s.setFld F.CMP_STATUS_last_status c 4)) ∧
    (∀ r, s.promoteRecord c = some r →
      let t := (s.liveShadows c).beginChange c 6 r 0 none 0
      exec (.promote c) s = .next (t.setComp c { t.comp c with promoting := none, promoted := true })))

/-- Steps of a change. -/
def Obligations.MapChanges : Prop :=
  (∀ (c : Nat) (s : State) (h : MapChange), c < 64 → (s.comp c).change = some h → h.step = 3 → s.stepThreeOver c h = true →
    exec (.epochAdvance c) s = .next (s.advance c h)) ∧
  (∀ (c : Nat) (s : State) (h : MapChange), c < 64 → (s.comp c).change = some h → h.step = 5 → h.drainAt + s.drainTicks c ≤ s.aon.dt →
    s.leavingIdle c = false →
    let a := s.setComp c { s.comp c with change := some { h with step := 6, status := if h.status = 0 then 8 else h.status } }
    let b := (leaving a.coreOwner c).foldl (fun s n => [0, 1].foldl (fun s r => if s.busyFor c n r then s.squashCore n r true else s) s) a
    let d := (leaving b.chanOwner c).foldl (fun s x => s.squashReqs (ofChan x)) b
    exec (.drainDeadline c) s = .next ((d.outst.filter fun e => d.drains c e.2.req).foldl (fun s e => s.finishEntry e.1 .epochNack []) d)) ∧
  (∀ (c : Nat) (s : State) (h : MapChange), c < 64 → (s.comp c).change = some h → (h.step = 6 ∨ (h.step = 5 ∧ s.leavingIdle c = true)) →
    let a := (s.returnLeft c).setFld F.CMP_EPOCH_draining c 0
    let b := (((a.setFld F.CMP_STATUS_busy c 0).setFld F.CMP_STATUS_last_status c h.status).setCmpState c (endState h.cmd h.record)).showComp c
    let d := (b.setComp c { b.comp c with change := none, activeAt := b.aon.dt })
    let e := d.compEvent c (if h.cmd = 6 then 2 else 0) d.aon.dt
    let g := ((if h.cmd = 5 then e.detach c else e).settleFailing).afterChange c
    exec (.mapChangeEnd c) s = .next (if h.cmd = 7 then g.resumeSlices else g)) ∧
  (∀ (n r slot : Nat) (s : State) (b : Bound) (sv : Saved) (h : MapChange) (l : Launch), coreNamed n r = true →
    s.coreOwner.find n = some b → s.saved.find (savedKey b.comp (slot / 2) r) = some sv → (s.comp b.comp).change = some h →
    s.launches.find (laneKey b.comp r) = some l → b.phase = .preparing → h.step = 3 → slot % 2 = r → h.cmd = 4 →
    h.record.cores[slot / 2]? = some n → s.coreReadyNow n b.comp = true → sv.res.status ≠ .armed →
    let t := (s.fillCore n r b.comp sv).onCore n r fun x => { x with status := .stopped .inPlace }
    exec (.coreResumeFill n r slot) s = .next { t with saved := t.saved.del (savedKey b.comp (slot / 2) r) }) ∧
  (∀ s : State,
    let due := (List.range 64).filter fun c => s.cmpState c == 2 && s.fld F.CMP_STATUS_busy c == 0 && s.fld F.CMP_STATUS_sliced c == 1 &&
      decide ((s.comp c).activeAt + us (s.fld F.CMP_SLICE_slice_us c) ≤ s.aon.dt)
    exec .sliceEnd s = .next ((due.foldl (fun s c => s.parkNow c 7) s).resumeSlices)) ∧
  (∀ (cl : Nat) (spillOk : Bool) (s : State), cl < 84 → s.clState cl = 0 → s.failing.find cl = none →
    let spare := if spillOk then s.spareFor cl else none
    let t : State := { s with failing := s.failing.put cl spare }
    let held := (List.range 64).filter fun c => s.compHolds c cl
    exec (.clusterRepair cl spillOk) s =
      .next ((held.foldl (fun s c => s.repairComp c cl spare) (t.reportDev 255 0x14 (engineCode 7 cl) 0 cl [])).settleFailing)) ∧
  (∀ (c cl : Nat) (spare : Option Nat) (s : State),
    (s.fld F.CMP_STATUS_busy c = 1 →
      s.repairComp c cl spare = s.setComp c { s.comp c with repairs := (s.comp c).repairs ++ [(cl, spare)] }) ∧
    (s.fld F.CMP_STATUS_busy c ≠ 1 → s.repairComp c cl spare = s.repairNow c cl spare)) ∧
  (∀ (c t : Nat) (s : State), c < 64 → (s.comp c).promoting = some t → t + us 10000 ≤ s.aon.dt → s.cmpBlocked c [9] = false →
    let q := s.promote c
    exec (.promoteRetry c) s = .next (if q.2 then q.1 else q.1.setComp c { q.1.comp c with promoting := some q.1.aon.dt }))

/-- Twins. -/
def Obligations.TwinRows : Prop :=
  (∀ (v : Word) (s : State),
    let t := s.writeReg .CMP_TWIN 0 v.toNat (2 ^ 64 - 1)
    (F.CMP_TWIN_enable.of v = 0 → s.fld F.CMP_TWIN_enable 0 = 1 →
      exec (.twinEnable v) s = .next ((t.setFld F.CMP_TWIN_enable 0 0).stopMirror 0)) ∧
    (F.CMP_TWIN_enable.of v = 1 → s.fld F.CMP_TWIN_enable 0 = 0 → t.twinPort = false → exec (.twinEnable v) s = .next t) ∧
    (F.CMP_TWIN_enable.of v = 1 → s.fld F.CMP_TWIN_enable 0 = 0 → t.twinPort = true →
      let u := (((t.setFld F.CMP_TWIN_enable 0 1).setFld F.CMP_TWIN_state 0 1).setFld F.CMP_TWIN_unacked 0 0).setReg .CMP_TWIN_ACK 0 0#64
      exec (.twinEnable v) s = .next (State.copyToTwin { u with mirrorSeq := 0, mirrorHeld := [], twinLost := none }))) ∧
  (∀ s : State, s.fld F.CMP_TWIN_state 0 = 1 → s.fld F.CMP_TWIN_unacked 0 = 0 → s.mirrorHeld = [] →
    exec .twinSyncDone s = .next (s.setFld F.CMP_TWIN_state 0 2)) ∧
  (∀ (k : Nat) (m : PortMsg) (s : State), k < 8 → s.ptState k = ptUp → s.fld F.CMP_TWIN_enable 0 = 1 → k = s.fld F.CMP_TWIN_port 0 →
    (s.fld F.CMP_TWIN_state 0 = 1 ∨ s.fld F.CMP_TWIN_state 0 = 2) →
    (m.status = 6 → exec (.mirrorAck k m) s = .next (s.stopMirror 4)) ∧
    (m.status ≠ 6 →
      let left := min (s.fld F.CMP_TWIN_unacked 0) (s.mirrorSeq - s.mirrorHeld.length - (m.group + 1))
      let t := (s.setFld F.CMP_TWIN_unacked 0 left).setReg .CMP_TWIN_ACK 0
        (BitVec.ofNat 64 (max ((s.setFld F.CMP_TWIN_unacked 0 left).reg .CMP_TWIN_ACK 0).toNat m.group))
      let u : State := { t with twinAckAt := t.aon.dt }
      exec (.mirrorAck k m) s = .next ((u.releaseTwin fun w => decide (w.upto ≤ u.mirrorAcked)).sendHeld 4096))) ∧
  (∀ (k : Nat) (m : PortMsg) (data : List Byte) (s : State), k < 8 → s.portServes k = true → (s.port k).waiting = [] →
    let q : Incoming := ⟨{ m with op := 0x20 }, data, clsBulk, s.aon.dt⟩
    let t := s.onPort k fun p => { p with waiting := [q] }
    t.agentBlocked k q = none → exec (.mirror k m data) s = .next ((t.onPort k fun p => { p with waiting := [] }).agentServe k q)) ∧
  (∀ (k : Nat) (q : Incoming) (s : State), q.msg.op = 0x20 →
    let t : State := { s with heldAcc := s.heldAcc.filter fun h => h.own != Owner.agent k }
    let m := q.msg
    let c := bits m.aux 21 16
    let sel := bits m.aux 15 8
    let data := q.data.take m.length
    (t.fld F.PRT_CFG_role k ≠ roleTwin → s.agentServe k q = t.mirrorAck k m 1) ∧
    (t.fld F.PRT_CFG_role k = roleTwin → 2 ≤ (t.port k).away → s.agentServe k q = t.mirrorAck k m 6) ∧
    (t.fld F.PRT_CFG_role k = roleTwin → (t.port k).away < 2 → t.cmpState c ≠ 9 → s.agentServe k q = t.mirrorDrop k m (if (t.comp c).promoted then 6 else 4)) ∧
    (t.fld F.PRT_CFG_role k = roleTwin → (t.port k).away < 2 → t.cmpState c = 9 → t.selOwned sel c = true → bits m.aux 7 0 = 1 →
      let w := t.writePhys { agentWho k clsBulk with comp := some c, epoch := t.epochOf c } sel m.offset data
      s.agentServe k q = if w.st ≠ .ok then w.s.mirrorDrop k m (statusMsg w.st) else (w.s.twinLog m).mirrorAck k m 0) ∧
    (t.fld F.PRT_CFG_role k = roleTwin → (t.port k).away < 2 → t.cmpState c = 9 → t.selOwned sel c = true → bits m.aux 7 0 ∈ [2, 3, 4] →
      s.agentServe k q = ((t.keepShadow c (bits m.aux 7 0) m.offset data).twinLog m).mirrorAck k m 0)) ∧
  (∀ s : State, s.twinGone = true → s.twinLost ≠ some (s.port (s.fld F.CMP_TWIN_port 0)).downAt →
    let t : State := { s with twinLost := some (s.port (s.fld F.CMP_TWIN_port 0)).downAt }
    exec .twinLost s =
      .next ((if t.fld F.CMP_TWIN_state 0 = 1 ∨ t.fld F.CMP_TWIN_state 0 = 2 then t.primaryTwinLost else t).standbyTwinLost)) ∧
  (∀ (v : Word) (s : State), F.CMP_TWIN_LOG_enable.of v = 1 →
    let t := s.writeReg .CMP_TWIN_LOG 0 v.toNat (2 ^ 64 - 1)
    let a := t.fld F.CMP_TWIN_LOG_base 0 * 4096
    let n := 0x20000 * 2 ^ t.fld F.CMP_TWIN_LOG_size 0
    exec (.twinLogEnable v) s =
      .next (if inPlainMemory a n && !t.meetsBound a n && !t.meetsWindow a n then (t.setFld F.CMP_TWIN_LOG_enable 0 1).setReg .CMP_TWIN_LOGWR 0 0#64
             else t.setFld F.CMP_TWIN_LOG_enable 0 0))

/-- Events that reach a core. -/
def Obligations.CoreEvents : Prop :=
  (∀ (n r : Nat) (toward : StopTo) (s : State), coreNamed n r = true → (s.core n r).stopReq = some toward → (s.core n r).status = .running →
    leads (.preemptionRequest n r) s fun t => 
      let x := (s.core n r).discardAhead fun _ => true
      t.core n r = { x with status := .stopping toward, wait := x.stillBusy, stopReq := none, stopAt := s.dtOf (n / 8), overrun := false }) ∧
  (∀ (n r : Nat) (toward : StopTo) (s : State), coreNamed n r = true → (s.core n r).status = .stopping toward → (s.core n r).started = [] →
    (s.core n r).holdsBoundary = false →
    let b := (((s.boundaryDebt n r toward).dropWatch n r).withdraw n r).makeVisible n r
    (toward = .inPlace → exec (.tileBoundaryReached n r) s = .next (b.onCore n r fun x => x.halted .inPlace)) ∧
    (toward = .leave → exec (.tileBoundaryReached n r) s = .next (b.leaveLaunch n r)) ∧
    (∀ k half, toward = .slot k half → exec (.tileBoundaryReached n r) s =
      .next (((b.saveCore n r k half).onCore n r fun x => x.halted toward).settleSpill (b.core n r).comp (b.core n r).lane))) ∧
  (∀ (n r : Nat) (toward : StopTo) (s : State), coreNamed n r = true → (s.core n r).status = .stopping toward → (s.core n r).started ≠ [] →
    (s.core n r).stopAt + us (s.fld F.SCH_COMP_CFG_tile_budget_us (s.core n r).comp) ≤ s.dtOf (n / 8) →
    exec (.tileBudgetExpire n r) s = .next (s.setCore n r { s.core n r with overrun := true })) ∧
  (∀ (n r va : Nat) (ok : Bool) (s : State), coreNamed n r = true → s.canIssue n r = true →
    let x := s.core n r
    let tag := s.ctxTag x.ctx
    (x.file.pc % 8 ≠ 0 → exec (.icacheLineFill n r va ok) s = .next (s.seqFault n r fFetchAlign)) ∧
    (x.file.pc % 8 = 0 → (va / 64 ≠ x.file.pc / 64 ∨ s.lineIn n tag va = true) → exec (.icacheLineFill n r va ok) s = .next s) ∧
    (x.file.pc % 8 = 0 → va / 64 = x.file.pc / 64 → s.lineIn n tag va = false →
      (ok = false → exec (.icacheLineFill n r va ok) s = .next (s.seqFault n r fFetchFault)) ∧
      (ok = true →
        let a := x.file.pc / 64 * 64
        let q := s.vread (s.scalarWho n r) (.virt (.load n) (.fetch r) tag) a 64 needX
        (q.wait = true → exec (.icacheLineFill n r va ok) s = .next q.s) ∧
        (∀ m, q.wait = false → q.fail = some m → exec (.icacheLineFill n r va ok) s = .next (q.s.seqFault n r fFetchFault)) ∧
        (q.wait = false → q.fail = none → exec (.icacheLineFill n r va ok) s =
          .next { q.s with icache := q.s.icache.put n (installLine (q.s.lines n) ⟨tag, a, q.data⟩) })))) ∧
  (∀ (c lane cl : Nat) (s : State) (l : Launch), c < 64 → lane < 2 → cl < 84 → s.launches.find (laneKey c lane) = some l →
    (l.router (84 + cl)).arrivals = (l.inCluster cl).length → (l.router (84 + cl)).arrivals ≠ 0 → cl ∉ l.root.clusters →
    let routers := l.clBars.put (84 + cl) { l.router (84 + cl) with arrivals := 0 }
    (l.root.clusters.length + 1 = l.clusters.length → exec (.barrierArrival c lane ⟨cl, none⟩) s =
      .next (s.setLaunch c lane { l with clBars := routers, bars := [{ l.root with gen := l.root.gen + 1, clusters := [] }] })) ∧
    (l.root.clusters.length + 1 ≠ l.clusters.length → exec (.barrierArrival c lane ⟨cl, none⟩) s =
      .next (s.setLaunch c lane { l with clBars := routers, bars := [{ l.root with clusters := cl :: l.root.clusters }] }))) ∧
  (∀ (n r scope : Nat) (s : State) (l : Launch), coreNamed n r = true → scope < 2 → s.launchOf n r = some l →
    let t := s.onCore n r fun x => { x with released := x.released.set scope (l.generation scope n) }
    exec (.barrierRelease n r ⟨scope, none⟩) s = .next (t.recheckSync n r fun i => i.op == 0 || i.op == 2)) ∧
  (∀ (c lane cl n r scope seg : Nat) (s : State), c < 64 → lane < 2 → cl < 84 → coreNamed n r = true → scope < 2 →
    exec (.barrierArrival c lane ⟨cl, some seg⟩) s = .next (s.fabUnc seg 2) ∧
    exec (.barrierRelease n r ⟨scope, some seg⟩) s = .next (s.fabUnc seg 2) ∧
    exec (.flagNotify n ⟨r, some seg⟩) s = .next (s.fabUnc seg 2)) ∧
  (∀ (n r : Nat) (s : State) (i : StIns), coreNamed n r = true → (s.core n r).headOf 9 = some i → (s.core n r).status = .running →
    (s.core n r).syncOn = some i.seq → i.op = 0x0A →
    ((s.flagWatch.find (watchKey n r)).isSome = true → exec (.flagNotify n ⟨r, none⟩) s = .next (s.startSync n r i)) ∧
    ((s.flagWatch.find (watchKey n r)).isSome = false → exec (.flagReread n r) s = .next (s.startSync n r i))) ∧
  (∀ (n r : Nat) (s : State) (i : StIns), coreNamed n r = true → (s.core n r).headOf 9 = some i → (s.core n r).status = .running →
    (s.core n r).syncOn = some i.seq → (i.op = 0x0A ∨ i.op = 0x18) → s2Of i.ops ≠ 0xFF → i.val 2 ≤ s.dtOf (n / 8) →
    let t := s.startSync n r i
    ((t.core n r).syncOn = some i.seq → exec (.syncTimeout n r) s = .next ((t.dropWatch n r).syncFault n r i fSyncTimeout)) ∧
    ((t.core n r).syncOn ≠ some i.seq → exec (.syncTimeout n r) s = .next t))

/-- SEND and RECV. -/
def Obligations.SendAndReceive : Prop :=
  (∀ (n r : Nat) (s : State) (i : StIns) (l : Launch) (h : Handle), coreNamed n r = true → (s.core n r).status = .running →
    (s.dom (n / 8)).state = .on → (s.core n r).headOf 7 = some i → s.launchOf n r = some l → l.fixed = true → (s.core n r).roleFault i = 0 →
    s.destOk (s.core n r) l (i.val 0) (i.op == 8) = true → (s.core n r).srcReady i (s1Of i.ops) = true →
    (s.core n r).tile ((s.core n r).handleOf (s1Of i.ops) false) = some h →
    let room := ((s.core n r).started.filter fun t => t.ins.u == 7).length < 8
    let recv := (l.destCore (i.val 0)).any fun m => (s.core m r).recvQueue (destQueue (i.val 0))
    (i.op = 8 → h.format = 0 → recv = false → exec (.stationInstructionStart n r 7) s = .next (s.queuedFault n r i (i.fault fSendDest 0))) ∧
    (i.op = 8 → h.format = 0 → recv = true → room → exec (.stationInstructionStart n r 7) s =
      .next (s.setCore n r ((s.core n r).begin i ((s.core n r).handlesFor i none) none (s.dtOf (n / 8))))) ∧
    (i.op = 0 → (s.core n r).asked ≠ some i.seq → room →
      let t := s.setCore n r { s.core n r with asked := some i.seq, askedTwice := false, answer := none, askedAt := s.dtOf (n / 8) }
      exec (.stationInstructionStart n r 7) s = .next (if destRemote (i.val 0) then t.sendReserve n r i h else t))) ∧
  (∀ (n r : Nat) (s : State) (i : StIns), coreNamed n r = true → (s.core n r).status = .running → (s.dom (n / 8)).state = .on →
    (s.core n r).headOf 8 = some i → s.fixedLaunch n r = true → (s.core n r).roleFault i = 0 →
    (i.op = 0 → exec (.stationInstructionStart n r 8) s = .next (s.tryGrant 65 n r)) ∧
    (∀ h, i.op = 8 → 1 ≤ i.val 1 → i.val 1 ≤ 64 → (s.core n r).dstReady i = true →
      (s.core n r).tile (((s.core n r).handlesFor i none).getD 0 none) = some h → h.format = 0 →
      let x := (s.core n r).begin i ((s.core n r).handlesFor i none) none (s.dtOf (n / 8))
      let x := { x with started := x.started.map fun t => if t.ins.seq = i.seq then { t with k := i.val 1 } else t }
      exec (.stationInstructionStart n r 8) s = .next (((s.setCore n r x).feedRadd 65 n r).settleRecvs 9 n r))) ∧
  (∀ (n r : Nat) (s : State), coreNamed n r = true → (s.dom (n / 8)).state = .on →
    (∀ t, ((s.core n r).started.find? fun t => t.ins.u == 7 && !t.done && t.ins.op == 0 && destRemote (t.ins.val 0)) = some t →
      exec (.stationInstructionComplete n r 7) s = .next (s.sendDone n r t.ins.seq)) ∧
    exec (.stationInstructionComplete n r 8) s = .next (s.settleRecvs 9 n r)) ∧
  (∀ (n r tq count behind : Nat) (s : State), coreNamed n r = true →
    exec (.raddContribution n r tq count behind) s =
      .next (s.contribute n r tq (pickContributors ((s.contributors n r tq).drop behind) count))) ∧
  (∀ (n r tq : Nat) (c : Contributor) (s : State) (h : Handle), (s.core n r).raddHandle tq = some h →
    let d := (s.linearBytes c.n r c.h).1
    let x := s.core n r
    let t : State := { s.setCore n r { x with contribs := x.contribs ++ [(tq, 1, d)] } with freeCtr := s.freeCtr + 1 }
    let u : State := { s.setCore n r x with freeCtr := s.freeCtr + 1 }
    (h.rows = c.h.rows → h.rowBytes = c.h.rowBytes →
      s.contribute n r tq [c] = ((t.sendDone c.n r c.t.ins.seq).feedRadd 65 n r).settleRecvs 9 n r) ∧
    ((h.rows ≠ c.h.rows ∨ h.rowBytes ≠ c.h.rowBytes) →
      let v := (u.onCore c.n r fun y => y.unstart c.t).progFault c.n r (c.t.ins.fault fSendShape 0)
      s.contribute n r tq [c] = (v.feedRadd 65 n r).settleRecvs 9 n r)) ∧
  (∀ (n r : Nat) (q : Reservation) (s : State), coreNamed n r = true →
    (∀ k, q.port = some k → (s.port k).away = 0 → exec (.reserve n r q) s = .next (s.reserve n r q)) ∧
    (∀ k, q.port = some k → (s.port k).away ≠ 0 → exec (.reserve n r q) s = .next (s.answerGrant q 6 0)) ∧
    (∀ g, q.port = none → s.localRequest n r q = some g → g.port = none → exec (.reserve n r q) s = .next (s.reserve n r g))) ∧
  (∀ (n r : Nat) (q : Reservation) (s : State) (t : TQueue), s.accepts (s.coreOwner.find n) q.comp q.epoch = true →
    (s.core n r).tq q.tq = some t →
    (t.producer ≠ 8 → s.reserve n r q = s.answerGrant q 1 0) ∧
    (t.producer = 8 → (s.core n r).reqs.length < 64 →
      s.reserve n r q = (s.setCore n r { s.core n r with reqs := (s.core n r).reqs ++ [q] }).tryGrant 65 n r)) ∧
  (∀ (n r fuel : Nat) (s : State) (i : StIns) (qk : Nat × Bool) (t : TQueue) (g : Reservation) (h : Handle), coreNamed n r = true →
    (s.core n r).headOf 8 = some i → i.op = 0 → queueCode (dstOf i.ops) = some qk → (s.core n r).tq qk.1 = some t →
    ((s.core n r).reqs.find? fun g => g.tq == qk.1) = some g → (s.core n r).status = .running → t.tok t.head = .empty →
    (s.core n r).handles.find t.head = some h → g.rows = h.rows → g.rowBytes = h.rowBytes → g.format = h.format →
    let x := { s.core n r with reqs := (s.core n r).reqs.erase g }
    let x := x.begin i (x.handlesFor i none) none (s.dtOf (n / 8))
    s.tryGrant (fuel + 1) n r =
      (s.setCore n r { x with granted := x.granted ++ [{ req := g, h := t.head, got := 0, at_ := s.dtOf (n / 8) }] }).answerGrant g 0 0) ∧
  (∀ (n r : Nat) (s : State) (i : StIns) (h : Handle), coreNamed n r = true → (s.core n r).status = .running → (s.core n r).asking = some i →
    (s.core n r).tile ((s.core n r).handleOf (s1Of i.ops) false) = some h →
    let x := s.core n r
    let t := s.setCore n r { x.begin i (x.handlesFor i none) none (s.dtOf (n / 8)) with asked := none, answer := none }
    let q := t.linearBytes n r h
    let bad (c : Nat) : State := (s.onCore n r fun x => { x with asked := none, answer := none }).queuedFault n r i (i.fault c 0)
    (∀ st ok, destRemote (i.val 0) = true → exec (.grant n r st ok) s =
      .next (if st = .ok then (if ok then q.2.sendTiles 1040 (destPort (i.val 0)) (sendTag n r i.seq) 0 q.1 else bad fSendShape)
             else bad fSendDest)) ∧
    (∀ st ok, destRemote (i.val 0) = false →
      (x.answer = some 0 → exec (.grant n r st ok) s = .next t) ∧
      (x.answer = some 16 → exec (.grant n r st ok) s = .next (bad fSendShape)) ∧
      (x.answer = some 1 → exec (.grant n r st ok) s = .next (bad fSendDest)) ∧
      (x.answer = some 9 → exec (.grant n r st ok) s =
        .next (if x.askedTwice then bad fSendDest else s.setCore n r { x with askedTwice := true, answer := none })))) ∧
  (∀ (n r tq tag off : Nat) (data : List Byte) (poison : Bool) (s : State), coreNamed n r = true →
    let found := (s.core n r).granted.find? fun g => g.req.tq == tq && reqTag g.req == tag
    (found = none → exec (.tile n r tq ⟨tag, off, poison⟩ data) s =
      .next (s.setCore n r { s.core n r with droppedBytes := (s.core n r).droppedBytes + data.length })) ∧
    (∀ g, found = some g → poison = true → exec (.tile n r tq ⟨tag, off, poison⟩ data) s = .next (s.poisonedTile n r g)) ∧
    (∀ g h b, found = some g → poison = false → (s.core n r).handles.find g.h = some h → s.tileBytes g off data = some b →
      let d := b.take (h.linear - off)
      let t := s.putLinear (h.rows + 2) n r h off d
      (g.got + d.length < h.linear → exec (.tile n r tq ⟨tag, off, poison⟩ data) s = .next (t.onCore n r fun x =>
        { x with granted := x.granted.map fun v => if v = g then { v with got := g.got + d.length } else v })) ∧
      (h.linear ≤ g.got + d.length →
        let u := ((t.onCore n r fun x => { x with granted := x.granted.erase g }.recvDone g.h).settleRecvs 9 n r).tryGrant 65 n r
        exec (.tile n r tq ⟨tag, off, poison⟩ data) s =
          .next (if g.req.port.isNone then u.sendDone g.req.src g.req.srcR g.req.ins else u)))) ∧
  (∀ (g : Granted) (off : Nat) (data : List Byte) (s : State),
    (g.req.port.isSome = true → s.tileBytes g off data = some data) ∧
    (∀ v h, g.req.port = none → s.senderOf g.req = some v → (s.core g.req.src g.req.srcR).tile (v.hs.getD 1 none) = some h → off = g.got →
      s.tileBytes g off data = some (((s.linearBytes g.req.src g.req.srcR h).1.drop off).take data.length))) ∧
  (∀ (n r : Nat) (s : State), coreNamed n r = true →
    let late (k since : Nat) : Bool := decide (since + us 50 ≤ s.dtOf (n / 8)) && s.partnerLost k since
    let gone := (s.core n r).started.find? fun t =>
      t.ins.u == 7 && t.ins.op == 0 && !t.done && destRemote (t.ins.val 0) && late (destPort (t.ins.val 0)) t.at_
    (∀ t, gone = some t → exec (.sendFailed n r) s = .next ((s.sendDone n r t.ins.seq).progFault n r (t.ins.fault fSendFailed 0))) ∧
    (∀ i, gone = none → (s.core n r).asking = some i → destRemote (i.val 0) = true → late (destPort (i.val 0)) (s.core n r).askedAt = true →
      exec (.sendFailed n r) s =
        .next ((s.onCore n r fun x => { x with asked := none, answer := none }).queuedFault n r i (i.fault fSendFailed 0)))) ∧
  (∀ (n r tq : Nat) (s : State) (g : Granted) (t : Started), coreNamed n r = true →
    ((s.core n r).granted.find? fun g => g.req.tq == tq && g.req.port.isSome) = some g → g.at_ + us 50 ≤ s.dtOf (n / 8) →
    ((s.core n r).started.find? fun t => t.ins.u == 8 && t.hs.getD 0 none == some g.h) = some t →
    let x := ((s.core n r).setTok tq g.h .empty).unstart t
    exec (.recvReservationTimeout n r tq) s =
      .next ((s.setCore n r { x with granted := x.granted.erase g, abandoned := x.abandoned + 1, sq := t.ins :: x.sq }).tryGrant 65 n r))

/-- Scheduling. The cyclic table counts in microseconds, DT in ticks of half a nanosecond. -/
def Obligations.SchedulingRows : Prop :=
  (∀ (c lane : Nat) (s : State) (e : Nat × Launch), c < 64 → lane < 2 → s.dueLaunch c = some e → s.mayLaunch c = true → lane ∈ s.lanes c →
    s.laneFree c lane = true → s.closesBefore e.2.dt = false → s.opensBefore e.2.dt = false → s.targetBefore e.2.dt = false →
    exec (.timedLaunchFire c lane) s = .next (({ s with armed := s.armed.filter fun x => x != e }).runLaunch c lane e.2)) ∧
  (∀ (q : QRef) (s : State) (k : Cur), (s.ring q).cur = some k → k.charged + 2000000 ≤ s.aon.dt →
    exec (.engineCharge q) s = .next (s.chargeCur q)) ∧
  (∀ (c lane k k2 : Nat) (rest : List Nat) (s : State), c < 64 → lane < 2 → s.shared c = true →
    s.laneFree c 0 = false → s.laneFree c 1 = false → s.laneStopping c 0 = false → s.laneStopping c 1 = false →
    s.greaterPass c (s.quantumOver c) = some lane → s.freeSets c = k :: k2 :: rest →
    exec (.quantumPreemption c lane) s = .next (s.askSpill c lane k)) ∧
  (∀ (c ctx lane first : Nat) (s : State) (l : Launch) (x : Ctx), c < 64 → ctx < 40960 → lane < 2 →
    (s.suspended.find? fun l => l.ctx == ctx) = some l → l.state = .suspended first → s.mayLaunch c = true → s.ctxs.find ctx = some x →
    x.comp = c → lane ∈ s.lanes c → s.laneFree c lane = true →
    exec (.launchResume c ctx lane) s =
      .next (({ s with suspended := s.suspended.filter fun x => x != l }).resumeLaunch c lane first l)) ∧
  (∀ (v : Word) (s : State),
    let t := s.setReg .SCH_CYC_START 0 v
    (s.fld F.SCH_CYC_CFG_pending 0 = 1 → exec (.schCycStartWrite v) s = .next s) ∧
    (s.fld F.SCH_CYC_CFG_pending 0 ≠ 1 → s.aon.dt + 2 ^ 48 < v.toNat → exec (.schCycStartWrite v) s = .next t) ∧
    (s.fld F.SCH_CYC_CFG_pending 0 ≠ 1 → v.toNat ≤ s.aon.dt + 2 ^ 48 →
      exec (.schCycStartWrite v) s = .next (t.setFld F.SCH_CYC_CFG_pending 0 1))) ∧
  (∀ s : State, s.fld F.SCH_CYC_CFG_pending 0 = 1 → (s.reg .SCH_CYC_START 0).toNat ≤ s.aon.dt → s.openWindows = [] →
    leads .cycleBankSwitch s fun t => t.fld F.SCH_CYC_CFG_active 0 = 1 - s.fld F.SCH_CYC_CFG_active 0 ∧
      t.fld F.SCH_CYC_CFG_period 0 = s.fld F.SCH_CYC_CFG_next_period 0 ∧ t.fld F.SCH_CYC_CFG_pending 0 = 0 ∧
      t.cycleStart = (s.reg .SCH_CYC_START 0).toNat ∧ { t with regs := s.regs, cycleStart := s.cycleStart } = s) ∧
  (∀ (i o e : Nat) (s : State), i < 2048 → s.windowTimes i = some (o, e) → i ∉ s.openWindows → o ≤ s.aon.dt → s.aon.dt < e →
    s.closesBefore o = false → s.targetBefore o = false → s.fld F.PWR_TARGET_STATUS_dev_state 0 ≠ 2 →
    let c := s.fld F.SCH_CYC_ENT_composition i
    let t := s.setFld F.SCH_CYC_ENT_inert i 0
    let t : State := { t with openWindows := t.openWindows ++ [i], windowEnds := t.windowEnds.put i e }
    let t := (List.range 48).foldl (fun s code => if resourceOk code then s.regrant code else s) t
    (s.liveRt c = false → exec (.cyclicWindowOpen i) s = .next (s.setFld F.SCH_CYC_ENT_inert i 1)) ∧
    (s.liveRt c = true → exec (.cyclicWindowOpen i) s = .next ((t.boundaryRecord c o).resumeInPlace (some c)))) ∧
  (∀ (i e : Nat) (s : State), i < 2048 → s.windowEnds.find i = some e → e ≤ s.aon.dt → s.targetBefore e = false →
    let t := s.boundaryRecord (s.fld F.SCH_CYC_ENT_composition i) e
    let u : State := { t with openWindows := t.openWindows.filter (fun j => j != i), windowEnds := t.windowEnds.del i }
    exec (.cyclicWindowClose i) s = .next ((List.range 48).foldl (fun s code => if resourceOk code then s.regrant code else s) u)) ∧
  (∀ (i e : Nat) (s : State), i < 2048 → s.windowEnds.find i = some e →
    let c := s.fld F.SCH_CYC_ENT_composition i
    (s.windowEnds.any fun w => s.fld F.SCH_CYC_ENT_composition w.1 == c && decide (e < w.2)) = false →
    e ≤ s.aon.dt + us (s.fld F.SCH_COMP_CFG_tile_budget_us c) →
    exec (.windowPreempt i) s = .next (s.res.foldl (fun s x =>
      if x.2.comp = c ∧ x.2.status = .running ∧ x.2.stopReq.isNone then s.askStop (x.1 / 2) (x.1 % 2) .inPlace else s) s)) ∧
  (∀ (c : Nat) (v : Word) (s : State), c < 64 →
    let t := s.writeReg .SCH_MIX_CFG c v.toNat (2 ^ 64 - 1)
    (∀ x, F.SCH_MIX_CFG_enable.of v = 1 → s.fld F.SCH_MIX_CFG_enable c = 0 → t.ctxs.find (t.fld F.SCH_MIX_CFG_context c) = some x →
      x.comp = c → x.state = .live →
      exec (.mixerEnable c v) s = .next { t.setFld F.SCH_MIX_CFG_enable c 1 with mixers := t.mixers.put c Mixer.init }) ∧
    (F.SCH_MIX_CFG_enable.of v = 0 → (t.mixer c).busy = false →
      exec (.mixerEnable c v) s = .next { t.setFld F.SCH_MIX_CFG_enable c 0 with mixers := t.mixers.del c }) ∧
    (F.SCH_MIX_CFG_enable.of v = 0 → (t.mixer c).busy = true → exec (.mixerEnable c v) s = .next t)) ∧
  (∀ (c lane : Nat) (s : State) (x : Ctx), c < 64 → s.ctxs.find (s.fld F.SCH_MIX_CFG_context c) = some x → s.freeLane c = some lane →
    s.fld F.SCH_MIX_CFG_enable c = 1 → (s.mixer c).running = false → x.state = .live → s.mayLaunch c = true →
    exec (.mixerStepForm c) s = .next (s.formStep c lane (s.fld F.SCH_MIX_CFG_context c) x)) ∧
  (∀ (c st : Nat) (s : State) (m : Mixer), c < 64 → s.mixers.find c = some m → m.ended = some st →
    let a := match s.launches.find? fun e => e.1 / 2 == c && e.2.step with
      | some e => s.charge e.2.ctx ((s.aon.dt - e.2.since) * e.2.cores.length)
      | none => s
    let a : State := { a with mixers := a.mixers.put c { m with running := false, ended := none, contrib := [] } }
    exec (.mixerStepEnd c) s = .next (m.placed.foldl (fun s e => if m.contrib.contains e.1 then s.endContrib st e.1 e.2 else s) a))

/-- Host commands. `q` is the queue whose command is at hand. -/
def Obligations.HostCommands : Prop :=
  (∀ (f d : Nat) (v : Word) (s : State) (q : QRef), f < 128 → d < 4096 → s.hostUp (f / 64) = true → s.doorbellRing f d = some q →
    ((s.ringCtx q).any fun p => p.2.state != .live) = false →
    let x := s.ring q
    let t := s.setRing q { x with prod := v.toNat }
    let u := match q with
      | .queue _ => if s.ctxReady x.ctx then t else t.becomeReady x.ctx
      | .admin _ => t
    (∀ c, v.toNat < 2 ^ 32 → x.accepts v.toNat = true → s.ringComp q = some c →
      exec (.doorbell f d v) s = .next (u.giveWake (u.homeCp c) (.doorbell q))) ∧
    (∀ c, x.accepts v.toNat = false → s.ringComp q = some c → exec (.doorbell f d v) s =
      .next (s.report (cpIsl (s.homeCp c)) 0x11 c (engineCode 0 (s.homeCp c)) (match q with
        | .queue _ => x.ctx
        | .admin _ => noCtx) 0 0 (qNum q) [] .none).1)) ∧
  (∀ (q : QRef) (s : State), s.ringServed q = true → (s.ring q).cur = none → (s.ring q).rd ≠ (s.ring q).prod →
    s.hostUp (s.ringFn q / 64) = true →
    let x := s.ring q
    let c := s.recordAt q x.rd
    let t := (s.setRing q { x with cur := some (Cur.of c s.aon.dt) }).cmdTrace q c 1 0
    let u := t.onCur q fun k => { k with waiting := false, at_ := t.aon.dt, charged := t.aon.dt }
    (x.aborts.contains x.rd = true → exec (.commandRecordArrive q) s = .next (t.endCommand q 1 0 0)) ∧
    (∀ st, x.aborts.contains x.rd = false → t.takenStatus q c = some st → exec (.commandRecordArrive q) s = .next (t.endCommand q st 0 0)) ∧
    (x.aborts.contains x.rd = false → t.takenStatus q c = none →
      (t.waitNow c = .holds → exec (.commandRecordArrive q) s = .next (if c.opcode = 1 then u.preemptFor q else u)) ∧
      (t.waitNow c = .waits → exec (.commandRecordArrive q) s = .next (t.onCur q fun k => { k with waiting := true })) ∧
      (t.waitNow c = .abandoned → exec (.commandRecordArrive q) s = .next (t.endCommand q 2 0 0)))) ∧
  (∀ (q : QRef) (s : State) (k : Cur), (s.ring q).cur = some k →
    (k.waiting = true → k.ended = none → s.waitNow k.rec_ ≠ .waits → exec (.commandWaitSatisfied q) s = .next (s.settleTaken q k.rec_)) ∧
    (∀ st det res, k.ended = some (st, det, res) → ((s.ringCtx q).any fun p => p.2.state != .live) = false → s.suspected q = false →
      let t := if k.written then s else s.writeCompletion q st (if k.late then 2 else 0) det res
      let u := (((t.cpDebt q).chargeCur q).answerAborts q st).signalCmd q k.rec_ st
      exec (.commandCompletion q) s = .next ((u.cmdTrace q k.rec_ 2 st).retireCmd q))) ∧
  (∀ (q : QRef) (s : State) (k : Cur) (ctx : Nat) (x : Ctx) (l : Launch) (r : Nat), s.runnable q 1 = some k → s.ringCtx q = some (ctx, x) →
    k.started = false → s.readHeader q ctx x k.rec_ = .ok l → s.mixerQueue q = false → k.rec_.flag 3 = false → s.mayLaunch x.comp = true →
    s.freeLane x.comp = some r → exec (.launch q) s = .next ((s.startCmd q).runLaunch x.comp r l)) ∧
  (∀ (q : QRef) (s : State) (k : Cur), s.runnable q 0 = some k → exec (.nop q) s = .next ((s.startCmd q).endCommand q 0 0 0)) ∧
  (∀ (q : QRef) (s : State) (k : Cur), s.runnable q 2 = some k →
    exec (.copyH2d q) s = .next (s.moveUnit q k (fromHost (s.ringFn q / 64) k.rec_.a0) (toDevice q k.rec_ k.rec_.a1))) ∧
  (∀ (q : QRef) (s : State) (k : Cur), s.runnable q 3 = some k →
    exec (.copyD2h q) s = .next (s.moveUnit q k (fromDevice q k.rec_ k.rec_.a0) (toHost (s.ringFn q / 64) k.rec_.a1))) ∧
  (∀ (q : QRef) (s : State) (k : Cur), s.runnable q 4 = some k →
    exec (.fill q) s = .next (s.moveUnit q k
      (fun s _ _ n => (s, some ((List.range n).map fun i => (leBytes 8 k.rec_.a1).getD (i % 8) 0#8), none)) (toDevice q k.rec_ k.rec_.a0))) ∧
  (∀ (q : QRef) (s : State) (k : Cur), k.started = false →
    let t := s.startCmd q
    (s.runnable q 5 = some k → t.mayName q k.rec_.a0 = true → t.hostUp (s.ringFn q / 64) = true →
      let us := (List.range k.rec_.a2).map fun i =>
        (leNat (t.hostBytes (s.ringFn q / 64) (k.rec_.a1 + 16 * i) 8), leNat (t.hostBytes (s.ringFn q / 64) (k.rec_.a1 + 16 * i + 8) 8))
      let r := t.tableUpdates k.rec_.a0 false 0 us
      exec (.tableSync q) s = .next (if r.2.1 then r.1.startInval k.rec_.a0 (.command q r.2.2.1 r.2.2.2)
        else r.1.endCommand q r.2.2.1 r.2.2.2 0)) ∧
    (s.runnable q 6 = some k → exec (.invalidate q) s =
      .next (if t.mayName q k.rec_.a0 then t.startInval k.rec_.a0 (.command q 0 0) else t.endCommand q 4 0 0)) ∧
    (s.runnable q 0x41 = some k → exec (.ctxDestroy q) s =
      .next (if t.liveCtx (t.ringFn q) k.rec_.a0 then t.startDestroy k.rec_.a0 (some q) else t.endCommand q 4 0 0))) ∧
  (∀ (q : QRef) (s u : State) (k : Cur) (i tag : Nat), s.runnable q 0x40 = some k →
    let f := s.ringFn q
    let rt := k.rec_.a0 == 1
    let t := s.startCmd q
    let c := (t.compOf f).getD 0
    t.ctxRefusal f rt = none → lowestFree 40960 0 (t.ctxs.map (·.1)) = some i → t.freeTag = some tag → t.assignTag tag c rt = some u →
    let r := u.free 64
    let x : Ctx := { fn := f, comp := c, tag := tag, state := .live, rt := rt, prio := false, weight := 65536, pass := 0, time := 0, overrun := 0,
                     ovf := 0, ovfSat := false, srseed := r.1.toNat, sel := u.fld F.SEC_COMP_CFG_ctx_sel c, lastQ := 0, destroyBy := none,
                     destroyAt := 0, invalidating := false, guilty := false }
    let w : State := { r.2 with ctxs := r.2.ctxs.put i x, tagsUsed := tag :: r.2.tagsUsed }
    let w := (w.setComp c { w.comp c with exclusiveUsed := true }).showFn f
    exec (.ctxCreate q) s = .next ((w.mirrorCtx i).endCommand q 0 tag i)) ∧
  (∀ (q : QRef) (s : State) (k : Cur) (x : Ring), s.runnable q 0x43 = some k → (s.startCmd q).queues.find k.rec_.a0 = some x →
    let t := s.startCmd q
    (x.fn ≠ s.ringFn q → exec (.qDestroy q) s = .next (t.endCommand q 4 0 0)) ∧
    (x.fn = s.ringFn q → x.rd ≠ x.prod → exec (.qDestroy q) s = .next (t.endCommand q 19 0 0)) ∧
    (x.fn = s.ringFn q → x.rd = x.prod → exec (.qDestroy q) s = .next
      (((({ t with queues := t.queues.del k.rec_.a0 } : State).showFn (s.ringFn q)).mirrorCtx x.ctx).endCommand q 0 0 0))) ∧
  (∀ (q : QRef) (s : State) (k : Cur) (i d : Nat), s.runnable q 0x42 = some k →
    let f := s.ringFn q
    let t := s.startCmd q
    let bells := (t.queues.filter fun e => e.2.fn == f).map fun e => e.2.doorbell
    t.liveCtx f k.rec_.a2 = true → t.fld F.CTX_FN_STATUS_queues f < t.fld F.CTX_QUOTA_max_queues f →
    lowestFree 81920 0 (t.queues.map (·.1)) = some i →
    (((List.range (bells.length + 1)).map (· + 1)).find? fun d => decide (d < 4096) && !bells.contains d) = some d →
    let x : Ring := { Ring.init with fn := f, base := bits k.rec_.a0 63 12 * 4096, n := bits k.rec_.a0 3 0 + 4, cplBase := k.rec_.a1,
                                     ctx := k.rec_.a2, kind := bits k.rec_.a0 5 4, doorbell := d }
    exec (.qCreate q) s = .next (((({ t with queues := t.queues.put i x } : State).showFn f).mirrorCtx k.rec_.a2).endCommand q 0 d i)) ∧
  (∀ (q : QRef) (s : State) (k : Cur) (i : Nat), s.runnable q 0x44 = some k →
    let f := s.ringFn q
    let t := s.startCmd q
    t.liveCtx f k.rec_.a2 = true → t.fld F.CTX_FN_STATUS_fences f < t.fld F.CTX_QUOTA_max_fences f →
    lowestFree 262144 0 ((t.fences.filter fun e => e.2.taken).map (·.1)) = some i →
    let g := nextGen i (t.fences.get i Fence.init).gen
    let x : Fence := { gen := g, taken := true, abandoned := false, value := k.rec_.a0, last := 0, fn := f, ctx := k.rec_.a2,
                       tag := bits k.rec_.a1 47 0, vector := bits k.rec_.a1 58 48 }
    exec (.fAlloc q) s =
      .next (((({ t with fences := t.fences.put i x } : State).showFn f).mirrorFence i).endCommand q 0 0 (i + g * 2 ^ 18))) ∧
  (∀ (q : QRef) (s : State) (k : Cur) (x : Fence), s.runnable q 0x45 = some k →
    let f := s.ringFn q
    let t := s.startCmd q
    let busy := !x.abandoned && ((t.fn f).waiters.any (fun w => w.fence == k.rec_.a0) || t.fenceNamed f k.rec_.a0 q)
    t.fnFence f k.rec_.a0 = true → t.fence k.rec_.a0 = some x →
    (busy = true → exec (.fFree q) s = .next (t.endCommand q 19 0 0)) ∧
    (busy = false → exec (.fFree q) s =
      .next ((((t.setFence k.rec_.a0 { Fence.init with gen := x.gen }).showFn f).recheckFence k.rec_.a0).endCommand q 0 0 0))) ∧
  (∀ (q : QRef) (s : State) (k : Cur) (x : Fence), s.runnable q 0x46 = some k →
    let f := s.ringFn q
    let t := s.startCmd q
    let w : Waiter := { fence := k.rec_.a0, value := k.rec_.a1, tag := bits k.rec_.a2 47 0, vector := bits k.rec_.a2 58 48 }
    let u := t.setFn f { t.fn f with waiters := (t.fn f).waiters ++ [w] }
    t.fnFence f k.rec_.a0 = true → t.fence k.rec_.a0 = some x →
    (t.fns.map fun e => e.2.waiters.length).foldl (· + ·) 0 < 524288 →
    exec (.fArm q) s = .next ((if x.abandoned then u.deliverWaiters f k.rec_.a0 3 u.aon.dt fun v => v == w
      else if k.rec_.a1 ≤ x.value then u.deliverWaiters f k.rec_.a0 x.last u.aon.dt fun v => v == w
      else u).endCommand q 0 0 0)) ∧
  (∀ (f : Nat) (v : Word) (s : State) (x : Ring), f < 128 → s.queues.find (F.CTX_ABORT_queue.of v) = some x → x.fn = f →
    (s.fn f).aborts.length < 64 →
    let d := (F.CTX_ABORT_index.of v + 2 ^ 32 - x.rd) % 2 ^ 32
    d < (x.prod + 2 ^ 32 - x.rd) % 2 ^ 32 → (d ≠ 0 ∨ x.cur = none) →
    exec (.ctxAbort f v) s = .next ((s.setRing (.queue (F.CTX_ABORT_queue.of v)) { x with aborts := F.CTX_ABORT_index.of v :: x.aborts }).abortCookie
      f (F.CTX_ABORT_queue.of v) (F.CTX_ABORT_index.of v) 0)) ∧
  (∀ (c lane t : Nat) (s : State) (l : Launch), c < 64 → lane < 2 → s.launches.find (laneKey c lane) = some l → l.aborting = some t →
    t + us 200 ≤ s.aon.dt → exec (.launchAbortSquash c lane) s = .next (l.cores.foldl (fun s n =>
      if (s.core n lane).inLaunch && (s.core n lane).comp == c then s.squashCore n lane false else s) s)) ∧
  (∀ (ctx : Nat) (s : State) (x : Ctx), ctx < 40960 → s.ctxs.find ctx = some x → x.state = .destroying → x.invalidating = false →
    x.destroyAt + us 500 ≤ s.aon.dt → (∀ e ∈ s.launches, e.2.ctx ≠ ctx) →
    let t := (s.ctxQueues ctx).foldl (fun s i => s.setRing (.queue i) { s.ring (.queue i) with prod := (s.ring (.queue i)).rd, cur := none }) s
    let t := t.squashChans ctx
    exec (.destroySquash ctx) s = .next ((t.onCtx ctx fun c => { c with invalidating := true }).startInval x.tag (.destroy ctx))) ∧
  (∀ (f : Nat) (v : Word) (s : State), f < 128 →
    let t := s.writeReg .CTX_EVR_BASE f v.toNat (2 ^ 64 - 1)
    let u := ((t.setFld F.CTX_EVR_BASE_enable f 1).setReg .CTX_EVR_RD f 0#64).setReg .CTX_EVR_WR f 0#64
    (F.CTX_EVR_BASE_enable.of v = 1 → exec (.evrEnable f v) s = .next (u.drainCookies (u.fn f).cookies.length f)) ∧
    (F.CTX_EVR_BASE_enable.of v = 0 → exec (.evrEnable f v) s = .next (t.setFld F.CTX_EVR_BASE_enable f 0))) ∧
  (∀ (f : Nat) (v : Word) (s : State), f < 128 →
    let t := s.setFld F.CTX_EVR_RD_rd f (F.CTX_EVR_RD_rd.of v)
    (rdOk 32 (s.fld F.CTX_EVR_WR_wr f) (s.evrCap f) (F.CTX_EVR_RD_rd.of v) = true →
      exec (.ctxEvrRdWrite f v) s = .next (t.drainCookies (t.fn f).cookies.length f)) ∧
    (rdOk 32 (s.fld F.CTX_EVR_WR_wr f) (s.evrCap f) (F.CTX_EVR_RD_rd.of v) = false → exec (.ctxEvrRdWrite f v) s = .next s))

/-- Host ports and mailboxes. -/
def Obligations.HostPortsAndMailbox : Prop :=
  (∀ (h : Nat) (s : State), h < 2 →
    let resetAll (t : State) : State := (List.range 64).foldl (fun t i => t.functionReset (64 * h + i)) t
    let p := s.hosts.get h HostPort.init
    exec (.perstAssert h) s = .next (resetAll { s with hosts := s.hosts.put h { p with perst := true, up := false } }) ∧
    exec (.perstRelease h) s = .next { s with hosts := s.hosts.put h { p with perst := false } } ∧
    exec (.hotReset h) s = .next (resetAll s) ∧
    exec (.hostLinkDown h) s = .next (resetAll { s with hosts := s.hosts.put h { p with up := false } }) ∧
    (s.hostTrains h = true → exec (.hostLinkUp h) s = .next { s with hosts := s.hosts.put h { p with up := true } }) ∧
    (s.hostTrains h = false → exec (.hostLinkUp h) s = .next s) ∧
    exec (.functionLevelReset (64 * h)) s = .next (resetAll s) ∧
    (∀ i, 1 ≤ i → i < 64 → exec (.functionLevelReset (64 * h + i)) s = .next (s.functionReset (64 * h + i)))) ∧
  (∀ (f c : Nat) (s : State), f < 128 → s.compOf f = some c →
    let old := s.mailbox.get (2 * c) []
    (∀ (v : Word) (body : List Byte),
      let t : State := { s with mailbox := s.mailbox.put (2 * c) ((splice old 0 body).take 4096) }
      (8 ≤ F.MBX_DOORBELL_length.of v → F.MBX_DOORBELL_length.of v ≤ 4096 → s.fld F.MBX_STATUS_in_busy c = 0 →
        exec (.mbxDoorbell f v body) s = .next (t.setFld F.MBX_STATUS_in_busy c 1)) ∧
      (F.MBX_DOORBELL_length.of v < 8 ∨ 4096 < F.MBX_DOORBELL_length.of v → exec (.mbxDoorbell f v body) s = .next t)) ∧
    (∀ v : Word,
      let t := (s.setFld F.MBX_STATUS_out_valid c 0).setFld F.MBX_STATUS_out_length c 0
      let t : State := { t with mailbox := t.mailbox.del (2 * c + 1) }
      (F.MBX_ACK_ack.of v = 0 → exec (.mbxAck f v) s = .next s) ∧
      (F.MBX_ACK_ack.of v = 1 → s.mbxOut.get c [] = [] → exec (.mbxAck f v) s = .next t) ∧
      (∀ m rest, F.MBX_ACK_ack.of v = 1 → s.mbxOut.get c [] = m :: rest →
        exec (.mbxAck f v) s = .next (({ t with mbxOut := t.mbxOut.put c rest }).mbxPut c m.1 m.2)))) ∧
  (∀ (c : Nat) (s : State), c < 64 →
    let t := s.setFld F.MBX_STATUS_in_busy c 0
    (∀ f, s.fld F.MBX_STATUS_in_busy c = 1 → t.attached c = some f → exec (.mailboxInboundTaken c) s =
      .next (t.raise f { kind := 7, status := 1, payload := t.fld F.MBX_STATUS_out_length c, dt := t.aon.dt, vector := 0 })) ∧
    (s.fld F.MBX_STATUS_in_busy c = 1 → t.attached c = none → exec (.mailboxInboundTaken c) s = .next t)) ∧
  (∀ (c ty : Nat) (payload : List Byte) (s : State), c < 64 →
    (s.fld F.MBX_STATUS_out_valid c = 1 → exec (.mailboxOutboundMessage c ty payload) s =
      .next { s with mbxOut := s.mbxOut.put c (s.mbxOut.get c [] ++ [(ty, payload)]) }) ∧
    (s.fld F.MBX_STATUS_out_valid c = 0 →
      let n := min 4096 (8 + payload.length)
      let seq := s.mbxSeq.get c 0
      let body := (leBytes 2 ty ++ leBytes 2 n ++ leBytes 4 seq ++ payload).take 4096
      let t : State := { s with mailbox := s.mailbox.put (2 * c + 1) body, mbxSeq := s.mbxSeq.put c ((seq + 1) % 2 ^ 32) }
      let t := (t.setFld F.MBX_STATUS_out_valid c 1).setFld F.MBX_STATUS_out_length c n
      (∀ f, t.attached c = some f → exec (.mailboxOutboundMessage c ty payload) s =
        .next (t.raise f { kind := 7, status := 0, payload := n, dt := t.aon.dt, vector := 0 })) ∧
      (t.attached c = none → exec (.mailboxOutboundMessage c ty payload) s = .next t)))

/-- Faults, the ladder, and the dump. -/
def Obligations.FaultRows : Prop :=
  (∀ (f : Nat) (s : State), f < 128 →
    (s.fltFull f = true → exec (.pendingFaultWrite f) s = .next s) ∧
    (∀ m, s.fltFull f = false → (s.fn f).merge = some m →
      exec (.pendingFaultWrite f) s = .next ((s.setFn f { s.fn f with merge := none }).fltPut f m)) ∧
    (∀ r who rest, s.fltFull f = false → (s.fn f).merge = none → (s.fn f).stalled = (r, who) :: rest →
      exec (.pendingFaultWrite f) s =
        .next ((((s.setFn f { s.fn f with stalled := rest }).showStalled f).fltPut f r).recordGone who))) ∧
  (∀ (f : Nat) (v : Word) (s : State), f < 128 →
    let t := s.writeReg .FLT_RING_BASE f v.toNat (2 ^ 64 - 1)
    let u := ((t.setFld F.FLT_RING_BASE_enable f 1).setReg .FLT_RING_RD f 0#64).setFld F.FLT_RING_STATUS_wr f 0
    let u := (u.setFld F.FLT_RING_STATUS_lost f 0).setFld F.FLT_RING_STATUS_overflow f 0
    (F.FLT_RING_BASE_enable.of v = 1 → exec (.fltRingEnable f v) s = .next (u.setFn f { u.fn f with fltWr := 0 })) ∧
    (F.FLT_RING_BASE_enable.of v = 0 → exec (.fltRingEnable f v) s = .next (t.setFld F.FLT_RING_BASE_enable f 0))) ∧
  (∀ (f : Nat) (s : State), f < 128 → s.fld F.FLT_RING_STATUS_overflow f = 1 → exec (.overflowClear f) s =
    .next ((s.setFld F.FLT_RING_STATUS_overflow f 0).hostStore (f / 64) (s.fld F.FLT_RING_BASE_base f * 4096 + 8) (zeros 8))) ∧
  (∀ (e : Engine) (s : State), engineOk e = true →
    (s.hung e = false → exec (.watchdogExpire e) s = .next s) ∧
    (s.hung e = true → exec (.watchdogExpire e) s =
      .next ((s.report (engineIsl e) 0x0B (s.engineOwner e).1 (engineNo e) (s.engineOwner e).2 0 0 (watchClass e) [] .none).1.toLadder e))) ∧
  (∀ (v : Word) (s : State), s.fld F.FLT_LADDER_busy 0 = 0 →
    let i := F.FLT_RESET_island.of v
    (∀ e, F.FLT_RESET_step.of v = 1 → engineOf (F.FLT_RESET_engine.of v) = some e →
      exec (.fltResetWrite v) s = .next (s.askReset { step := 1, engine := some e, island := engineIsl e, hang := false })) ∧
    (∀ n, F.FLT_RESET_step.of v = n → 2 ≤ n → n ≤ 4 → i < 148 → (n = 3 → i ≠ 136 ∧ i ≠ 137) →
      exec (.fltResetWrite v) s = .next (s.askReset { step := n, engine := none, island := i, hang := false }))) ∧
  (∀ v (s : State), s.fld F.FLT_LADDER_busy 0 = 1 → exec (.fltResetWrite v) s = .next s) ∧
  (∀ (s : State) (r : LadderReq),
    let a := s.endCollection r
    let held := ((a.markHung r).holdSuspects r (a.suspectsOf r)).abortSteps r
    let b := (((s.endCollection r).endDump r true).markHung r).abortSteps r
    (∀ e d, engineOk e = true → s.inStepNo 1 = some r → r.engine = some d → sameEngine d e = true →
      exec (.engineReset e) s = .next (((held.resetEngine e).noteReset 1 r.island).completeStep r)) ∧
    (s.inStepNo 2 = some r → r.island < 148 → exec (.islandReset r.island) s = .next ((held.resetDomains r).completeStep r)) ∧
    (∀ h, h < 2 → s.inStepNo 3 = some r → (islEast r.island).toNat = h →
      exec (.halfReset h) s = .next (((b.resetDomains r).halfLost r).completeStep r)) ∧
    (s.inStepNo 4 = some r → exec .deviceReset s = .next ((s.endCollection r).endDump r true).deviceReset)) ∧
  (∀ (s : State) (r : LadderReq) (rest : List LadderReq), s.ladder.reqs = r :: rest →
    let extra := (if s.ladder.collecting then us 200 else 0) + if s.ladder.dumping.isSome then us 10000 else 0
    let a := (s.endCollection r).endDump r true
    (r.step < 4 → s.ladder.at_ + extra + stepTicks r.step ≤ s.aon.dt → exec .ladderStepTimeout s =
      .next ({ a with ladder := { a.ladder with reqs := { r with step := r.step + 1, engine := none } :: rest } }).beginStep) ∧
    (s.ladder.collecting = true → s.ladder.at_ + us 200 ≤ s.aon.dt →
      let l := s.collection r
      let q := s.free 16
      let t := q.2.writeCollected r (l.take (1 + q.1.toNat % (l.length + 1))) true
      exec .collectionTimeout s = .next { t with ladder := { t.ladder with collecting := false, at_ := t.aon.dt } }) ∧
    (∀ at_, s.ladder.dumping = some at_ → at_ + us 10000 ≤ s.aon.dt →
      let t := (s.endCollection r).endDump r false
      exec .dumpTimeout s = .next { t with ladder := { t.ladder with at_ := t.aon.dt } })) ∧
  (∀ (ctx : Nat) (s : State) (p : Suspect) (k : Cur), ctx < 40960 → (∀ x ∈ s.suspects, x.replay = none) →
    (∀ x ∈ s.waitingSuspects, ctx ≤ x.ctx) → (s.waitingSuspects.find? fun p => p.ctx == ctx) = some p → (s.ring p.q).cur = some k →
    (k.rec_.opcode = 1 → exec (.quarantineReplay ctx false) s = .next (s.startReplay p k)) ∧
    (k.rec_.opcode = 1 → exec (.quarantineReplay ctx true) s = .next (s.unresolved p)) ∧
    (∀ b, 2 ≤ k.rec_.opcode → k.rec_.opcode ≤ 4 → exec (.quarantineReplay ctx b) s = .next (s.startCopyReplay p))) ∧
  (∀ (ctx : Nat) (s : State) (p : Suspect) (k : Cur), ctx < 40960 → (s.suspects.find? fun p => p.ctx == ctx && p.replay.isSome) = some p →
    (s.ring p.q).cur = some k →
    (k.ended.isSome = true → p.hung = false → exec (.quarantineOutcome ctx .clean) s = .next (((s.verdict causeCleared ctx).judged p).hangCleared p)) ∧
    (p.hung = true → exec (.quarantineOutcome ctx .hang) s =
      .next (((((s.onCtx ctx fun c => { c with guilty := true }).verdict causeGuilty ctx).judged p).hangUnclear p).endAborted p))) ∧
  (∀ (h : Nat) (s : State), h < 2 → s.fld F.FLT_DUMP_STATUS_copy_busy 0 = 0 → s.dumpState ≠ 0 →
    exec (.dumpCopy h) s = .next { s.setFld F.FLT_DUMP_STATUS_copy_busy 0 1 with ladder := { s.ladder with copyTo := some h } }) ∧
  (∀ (h : Nat) (s : State), s.ladder.copyTo = some h →
    let t := s.hostStore h (s.fld F.FLT_DUMP_HOST_addr 0 * 4096) s.dumpBytes
    exec .dumpCopyDone s = .next { t.setFld F.FLT_DUMP_STATUS_copy_busy 0 0 with ladder := { t.ladder with copyTo := none } }) ∧
  (∀ s : State, s.fld F.FLT_DUMP_STATUS_copy_busy 0 = 0 →
    exec .dumpRelease s = .next ((s.dumpPut 0xC (leBytes 4 0)).setFld F.FLT_DUMP_STATUS_state 0 0)) ∧
  (∀ (s : State) (x : DumpXfer), s.console.xfer = some x →
    exec (.dumpAckByte 0x41#8) s = .next ((s.nextBlock (x.block + 1)).runHeld 256) ∧
    exec (.dumpAckByte 0x4E#8) s = .next ((s.resendBlock x).runHeld 256) ∧
    exec (.dumpAckByte 0x58#8) s = .next ((s.endXfer "ERR ABORTED").runHeld 256) ∧
    (x.at_ + us 100000 ≤ s.aon.dt → exec .dumpResendTimeout s = .next ((s.resendBlock x).runHeld 256))) ∧
  (∀ (n : Nat) (s : State), n < 8 → n ∈ s.sessions → s.sessionRole n 2 = true → s.dumpState ≠ 0 →
    exec (.mgmtCrashDumpRetrieval n) s = .next (s.reply n 0 s.dumpBytes)) ∧
  (∀ s : State, exec .devResetNAssert s = .next ((if s.aon.powered && s.aon.dtRuns then s.deviceReset else s).setPin true) ∧
    exec .devResetNRelease s = .next (s.setPin false)) ∧
  (∀ (q : QRef) (s : State) (k : Cur) (x : Nat), (s.ring q).cur = some k → k.started = true → k.ended = none → s.suspected q = false →
    k.rec_.opcode ≠ 1 → k.unitAt + spanMax (spanClass k.rec_.opcode) ≤ s.aon.dt → k.chan = some x →
    exec (.spanHang q) s = .next (s.spanHung q k (.chan x)))

/-- Boot, security, management. -/
def Obligations.SecurityRows : Prop :=
  (∀ s : State, s.aon.stage = .rom → s.aon.resetPin = false →
    let f := s.flacon
    let tired := !f.confirmed && f.attempts == 3
    let first := if tired then 1 - f.next else f.next
    (imageOk (f.image first) f.minSvn = true → exec .bootRom s = .next (s.startImage first tired)) ∧
    (imageOk (f.image first) f.minSvn = false → imageOk (f.image (1 - first)) f.minSvn = true →
      exec .bootRom s = .next ((s.onFlacon fun f => { f with next := 1 - first }).startImage (1 - first) true)) ∧
    (imageOk (f.image first) f.minSvn = false → imageOk (f.image (1 - first)) f.minSvn = false →
      exec .bootRom s = .next { s with aon := { s.aon with stage := .recovery } })) ∧
  (∀ (img : List Byte) (s : State), s.aon.stage = .recovery → imageOk img s.flacon.minSvn = true →
    exec (.recoveryImageLoad img) s = .next { s with flacon := s.flacon.setImage s.flacon.next img, aon := { s.aon with stage := .rom } }) ∧
  (∀ s : State, imageOk (s.flacon.image (1 - s.flacon.next)) s.flacon.minSvn = true →
    exec .fwSwitch s = .next (s.onFlacon fun f => { f with next := 1 - f.next, attempts := 0, confirmed := false }).showBoot) ∧
  (∀ s : State, imageOk (s.flacon.image (1 - s.flacon.next)) s.flacon.minSvn = false → exec .fwSwitch s = .next s) ∧
  (∀ s : State,
    let v := imgSvn (s.flacon.image (s.fld F.SEC_BOOT_booted 0))
    (s.fld F.SEC_BOOT_confirmed 0 = 1 → s.flacon.minSvn < v → exec .fwCommit s = .next (s.onFlacon fun f => { f with minSvn := v }).showBoot) ∧
    (v ≤ s.flacon.minSvn → exec .fwCommit s = .next s)) ∧
  (∀ (v : Word) (s : State),
    let target := 1 - s.fld F.SEC_BOOT_booted 0
    let t := (s.setFld F.SEC_FW_LOAD_addr 0 (F.SEC_FW_LOAD_addr.of v)).setFld F.SEC_BOOT_load_state 0 1
    let t : State := { t with fwTarget := some target }
    (s.fld F.SEC_BOOT_load_state 0 = 1 → exec (.fwLoad v) s = .next s) ∧
    (s.fld F.SEC_BOOT_load_state 0 ≠ 1 → t.flacon.next ≠ target → exec (.fwLoad v) s = .next t.showBoot)) ∧
  (∀ (k : Nat) (img : List Byte) (s : State), s.fwTarget = some k →
    let a := s.fld F.SEC_FW_LOAD_addr 0 * 4096
    let h := s.readStaged a 4096
    let n := (h.2.map imgLen).getD 0
    let q := h.1.readStaged a (n + 64)
    let t : State := { q.1 with fwTarget := none }
    4096 ≤ n → n ≤ 24 * 2 ^ 20 → q.2 = some img →
    (imageOk img t.flacon.minSvn = true →
      exec .fwLoadDone s = .next ((t.onFlacon fun f => f.setImage k img).setFld F.SEC_BOOT_load_state 0 2).showBoot) ∧
    (imageOk img t.flacon.minSvn = false →
      exec .fwLoadDone s = .next ((t.onFlacon fun f => f.setImage k []).setFld F.SEC_BOOT_load_state 0 3).showBoot)) ∧
  (∀ (ch : SpdmChan) (s : State), chanOk ch = true → s.chanUp ch = true →
    exec (.getVersion ch) s = .next (s.emit (.spdm ch (.version 0x12))) ∧
    exec (.getCapabilities ch) s = .next (s.emit (.spdm ch (.capabilities true true true))) ∧
    exec (.negotiateAlgorithms ch) s = .next (s.emit (.spdm ch .algorithms)) ∧
    exec (.getDigests ch) s = .next (s.emit (.spdm ch (.digests (([0, 1].filterMap s.chainOf).map Config.sha256)))) ∧
    (∀ slot chain, s.chainOf slot = some chain → exec (.getCertificate ch slot) s = .next (s.emit (.spdm ch (.certificate slot chain)))) ∧
    (∀ slot, s.chainOf slot = none → exec (.getCertificate ch slot) s = .next (s.emit (.spdm ch .unsupportedRequest))) ∧
    (∀ nonce,
      let q := s.freeBytes 32
      exec (.challenge ch nonce) s = .next (q.2.spdm ch (.challengeAuth q.1 (Config.sign 0 (nonce ++ q.1))))) ∧
    (∀ ix v sgn nonce, s.measurement ix = some v → exec (.getMeasurements ch ix sgn nonce) s =
      .next (s.emit (.spdm ch (.measurements ix v (if sgn then some (Config.sign 0 (nonce ++ v)) else none))))) ∧
    (∀ code, exec (.spdmUnsupported ch code) s = .next (s.emit (.spdm ch .unsupportedRequest)))) ∧
  (∀ (c : ClientHello) (s : State) (i : Nat), s.mgmtUp = true → ((List.range 8).find? fun i => !s.sessions.contains i) = some i →
    (∀ r, c.tls13 = true → c.suite = true → c.group = true → c.scheme = true → s.rolesOf c = some r → exec (.mgmtSessionOpen c) s =
      .next ({ s with sessions := s.sessions ++ [i], roles := s.roles.put i r } : State).showSessions) ∧
    (c.tls13 = false ∨ c.suite = false ∨ c.group = false ∨ c.scheme = false ∨ s.rolesOf c = none →
      exec (.mgmtSessionOpen c) s = .next (s.bump F.MON_MGMT_tls_fail 0 1))) ∧
  (∀ (n off : Nat) (s : State), n < 8 → n ∈ s.sessions → off % 8 = 0 →
    exec (.mgmtRegisterAccess n off none) s =
      .next ((s.clearRc (.fn 0) off 8).reply n 0 (leBytes 8 (s.regRead (.fn 0) off 8).toNat)) ∧
    (∀ p b v, RegName.locate off = some p → writeRole p.1 = some b → s.sessionRole n b = true →
      exec (.mgmtRegisterAccess n off (some v)) s = .next ((s.regWrite (.fn 0) off 8 v).reply n 0 [])) ∧
    (∀ p b v, RegName.locate off = some p → writeRole p.1 = some b → s.sessionRole n b = false →
      exec (.mgmtRegisterAccess n off (some v)) s = .next (s.reply n 1 []))) ∧
  (∀ (n : Nat) (s : State), n < 8 → n ∈ s.sessions →
    (∀ a f, s.sessionRole n 3 = true → s.flacon.admin a = some f → exec (.mgmtAdminWrite n a) s = .next ((s.onFlacon fun _ => f).reply n 0 [])) ∧
    (∀ a, s.sessionRole n 3 = false → exec (.mgmtAdminWrite n a) s = .next (s.reply n 1 [])) ∧
    (s.sessionRole n 1 = true → exec (.mgmtDrydownRequest n) s = .next ((s.startDrydown dryPolicy).reply n 0 [])) ∧
    (s.sessionRole n 1 = false → exec (.mgmtDrydownRequest n) s = .next (s.reply n 1 []))) ∧
  (∀ (v : Word) (s : State), s.slotBusy = false →
    let owner := F.SEC_SLOT_CTL_owner.of v
    (∀ r, s.installRefused owner = some r → exec (.generate v) s = .next (s.slotResult r) ∧ exec (.unwrap v) s = .next (s.slotResult r)) ∧
    (s.installRefused owner = none →
      exec (.generate v) s = .next ((s.free 256).2.install owner 0 (s.free 256).1.toNat) ∧
      (∀ b0 b,
        let a := s.fld F.SEC_UNWRAP_addr 0 * 64
        let h := s.readStaged a 0x90
        let q := h.1.readStaged a (0x90 + 72 * leNat ((b0.drop 6).take 1) + 64)
        h.2 = some b0 → bundleHead b0 = true → q.2 = some b →
        (∀ r, q.1.unwrapBundle b = .inl r → exec (.unwrap v) s = .next (q.1.slotResult r)) ∧
        (∀ k, q.1.unwrapBundle b = .inr k → exec (.unwrap v) s = .next (q.1.install owner k.2 k.1))))) ∧
  (∀ (v : Word) (s : State), exec (.retire v) s = .next (s.retireSel false) ∧ exec (.retireScrub v) s = .next (s.retireSel true)) ∧
  (∀ (slot : Nat) (s : State) (r : Retirement), slot < 256 → (s.retiring.find? fun r => r.slot == slot) = some r →
    ((s.outst.any fun e => e.2.req.sel == slot) = false ∨ r.at_ + us 500 ≤ s.aon.dt) → exec (.retireDrainEnd slot) s = .next (s.endRetire r)) ∧
  (∀ (g : Nat) (s : State), g < 1343 → (∀ e ∈ s.slots, e.2.state ≠ 3) → (∀ x ∈ s.scrubs, x.granule ≠ g) →
    exec (.scrubGranuleDone g) s = .next s) ∧
  (∀ (g : Nat) (s : State) (x : Scrub) (rest : List Scrub), g < 1343 → x.granule = g → s.scrubs = x :: rest → (∀ y ∈ rest, y.granule ≠ g) →
    let t := s.scrubOne x
    let u : State := { t with scrubs := t.scrubs.filter fun y => y.granule != g }
    let past := (u.slots.filter fun e => e.2.state == 3 && !(u.scrubs.any fun y => y.slot == some e.1)).map (·.1)
    exec (.scrubGranuleDone g) s = .next (if past.isEmpty then u else (past.foldl (fun s k => s.freeKeySlot k) u).settleSlots)) ∧
  (∀ (c : Nat) (v : Word) (s : State), c < 64 →
    let k := F.SEC_COMP_CFG_ctx_sel.of v
    let t := if !s.hasCtx c && s.selOwned k c then s.setFld F.SEC_COMP_CFG_ctx_sel c k else s
    (F.SEC_COMP_CFG_confidential.of v = 0 → exec (.secCompCfgWrite c v) s = .next (t.setFld F.SEC_COMP_CFG_confidential c 0)) ∧
    (F.SEC_COMP_CFG_confidential.of v = 1 → t.fld F.CMP_STATUS_state c = 0 → t.fld F.SEC_COMP_CFG_ctx_sel c ≠ 0 →
      t.selOwned (t.fld F.SEC_COMP_CFG_ctx_sel c) c = true →
      exec (.secCompCfgWrite c v) s = .next (t.setFld F.SEC_COMP_CFG_confidential c 1)) ∧
    (F.SEC_COMP_CFG_confidential.of v = 1 → t.fld F.SEC_COMP_CFG_ctx_sel c = 0 → exec (.secCompCfgWrite c v) s = .next t)) ∧
  (∀ s : State, s.aon.resetPin = false →
    (s.aon.stage = .firmware → exec .firmwareStart s = .next { s with aon := { s.aon with stage := .training } }) ∧
    (∀ failed, (∀ i ∈ failed, 84 ≤ i ∧ i < 120) → s.aon.stage = .training →
      let a := fabricIsls.foldl (fun s i => s.domStarts i) s
      let b := ((List.range 36).map (84 + ·)).foldl (fun s i => if failed.contains i then s.notTrained i else s.domStarts i) a
      let d := (b.domStarts 138).domStarts 139
      let e : State := { d with aon := { d.aon with stage := .links } }
      exec (.memoryTrainingDone failed) s = .next ((List.range 8).foldl (fun s k =>
        let s := if s.flacon.hasPort k then [edgeOf k, 128 + k, 120 + k].foldl (fun s i => s.domStarts i) s else s
        if bits s.flacon.portMask k k = 1 ∧ s.flacon.hasPort k = true then (s.setFld F.PRT_CFG_enable k 1).startBringUp k else s) e)) ∧
    (s.aon.stage = .links →
      let a := ((s.onFlacon fun f => { f with confirmed := true, attempts := 0 }).loadBoot).setFld F.SEC_BOOT_confirmed 0 1
      let b := (a.onHost 0 fun p => { p with crs := false }).onHost 1 fun p => { p with crs := false }
      exec .enumerationReady s = .next { b with aon := { b.aon with stage := .running } }))

/-- Power and monitoring. -/
def Obligations.PowerAndMonitor : Prop :=
  (∀ (b : Bool) (dv : Nat) (s : State), dv < 1024 →
    let failed := (s.setFeedState b 0 dv).setFld (if b then F.PWR_FEED_STATUS_backup_fail_stk else F.PWR_FEED_STATUS_main_fail_stk) 0 1
    let t := failed.powerEvent (if b then 3 else 2)
    (failVolts dv = false ∨ s.power.feed b = 0 → exec (.feedFail b dv) s = .next s) ∧
    (failVolts dv = true → s.power.feed b ≠ 0 → s.aon.powered = true → t.power.main = 0 → t.power.backup = 0 → t.power.bothFailed = none →
      exec (.feedFail b dv) s = .next t.bothFail) ∧
    (failVolts dv = true → s.power.feed b ≠ 0 → s.aon.powered = true → (t.power.main ≠ 0 ∨ t.power.backup ≠ 0) →
      exec (.feedFail b dv) s = .next (if t.power.active = b.toNat ∧ t.power.feed (!b) = 2 then t.switchFeed else t).noteSingle) ∧
    (goodVolts dv = true → s.power.feed b = 0 → exec (.feedQualify b dv) s =
      .next ((s.setFeedState b 1 dv).onPower fun p => if p.bothFailed.isSome then { p with carried := true } else p)) ∧
    (goodVolts dv = true → s.power.feed b = 1 → s.aon.powered = false →
      let u := (s.setFeedState b 2 dv)
      u.aon.powered = false → exec (.feedGood b dv) s = .next { u.pickFeed with
        aon := { u.aon with powered := true, stage := .aon, intKey := Config.integrityKey (u.freeCtr + 1) }, freeCtr := u.freeCtr + 1 }) ∧
    (goodVolts dv = true → s.power.feed b = 1 →
      let u := (s.setFeedState b 2 dv)
      u.aon.powered = true → u.power.bothFailed.isSome = true → exec (.feedGood b dv) s =
        .next ((u.onPower fun p => { p with bothFailed := none, carried := false }).deviceReset.pickFeed.noteSingle))) ∧
  (∀ s : State,
    (s.singleDue = true →
      let t := s.onPower fun p => { p with singleDone := true }
      let was := (t.fld F.PWR_TARGET_STATUS_target 0, t.fld F.PWR_TARGET_STATUS_slew 0)
      (t.fld F.PWR_POLICY_on_single 0 = 0 → exec .singleFeedTimeout s = .next t) ∧
      (t.fld F.PWR_POLICY_on_single 0 = 1 → t.devState < 2 →
        exec .singleFeedTimeout s = .next ((t.setTarget 240 was.2).onPower fun p => { p with beforeHold := some was })) ∧
      (t.fld F.PWR_POLICY_on_single 0 = 2 → exec .singleFeedTimeout s = .next (t.startDrydown dryFeed))) ∧
    (s.power.bothFailed.isSome = true → s.power.carried = false → exec .holdupExhausted s = .next s.powerLoss)) ∧
  (∀ (v : Word) (s : State), F.PWR_TARGET_commit.of v = 1 →
    let w := F.PWR_TARGET_watts.of v
    let slew := F.PWR_TARGET_slew.of v
    let dt := (s.reg .PWR_TARGET_DT 0).toNat
    let legal := w ≤ 3000 ∧ (240 ≤ w → 1 ≤ slew ∧ slew ≤ 200)
    let others := s.power.targets.filter fun t => t.dt != dt
    (¬ legal → exec (.pwrTargetCommit v) s = .next (s.setFld F.PWR_TARGET_STATUS_last_result 0 1)) ∧
    (legal → s.aon.dt + 2 ^ 48 < dt → exec (.pwrTargetCommit v) s = .next (s.setFld F.PWR_TARGET_STATUS_last_result 0 2)) ∧
    (legal → dt = 0 → exec (.pwrTargetCommit v) s =
      .next ((s.fireTarget { dt := s.aon.dt, watts := w, slew := slew }).setFld F.PWR_TARGET_STATUS_last_result 0 0)) ∧
    (legal → dt ≤ s.aon.dt + 2 ^ 48 → dt ≠ 0 → 16 ≤ others.length →
      exec (.pwrTargetCommit v) s = .next (s.setFld F.PWR_TARGET_STATUS_last_result 0 3)) ∧
    (legal → dt ≤ s.aon.dt + 2 ^ 48 → dt ≠ 0 → others.length < 16 → exec (.pwrTargetCommit v) s =
      .next ((s.onPower fun p => { p with targets := others ++ [{ dt := dt, watts := w, slew := slew }] }).showTargets.setFld
        F.PWR_TARGET_STATUS_last_result 0 0))) ∧
  (∀ (s : State) (t : Target), s.nextTarget = some t → s.aon.dtRuns = true → t.dt ≤ s.aon.dt →
    let a := (s.onPower fun p => { p with targets := p.targets.erase t }).showTargets
    (s.aon.dt ≤ t.dt + 4 → a.aon = s.aon → exec .powerTargetFire s = .next (a.fireTarget t)) ∧
    (t.dt + 4 < s.aon.dt → a.aon = s.aon → exec .powerTargetFire s =
      .next ((a.lateRecord 255 0xFF (engineCode 0 0) noCtx (s.aon.dt - t.dt)).fireTarget t)) ∧
    (t.watts < 240 → exec (.drydownStart 3) s = .next (a.startDrydown dryTarget))) ∧
  (∀ (watts : Nat) (s : State), watts < 65536 → (s.aon.stage ≠ .running ∨ s.power.bothFailed.isSome = true) →
    exec (.powerWindow watts) s = .next s) ∧
  (∀ (watts : Nat) (s : State), watts < 65536 → s.aon.stage = .running → s.power.bothFailed = none →
    let a := (s.setFld F.PWR_MEAS_avg_w 0 watts).setReg .PWR_ENERGY 0 ((s.setFld F.PWR_MEAS_avg_w 0 watts).reg .PWR_ENERGY 0 + BitVec.ofNat 64 watts)
    let line := a.ceiling
    let target := a.fld F.PWR_TARGET_STATUS_target 0
    let b := a.setFld F.PWR_TARGET_STATUS_ceiling 0 line
    let d := if line = target ∧ 100 * watts ≤ 102 * target then b.setFld F.PWR_TARGET_STATUS_reached 0 1 else b
    let d := d.onPower fun p => { p with packageHot := decide (3000 < watts) || (p.packageHot && decide (2950 ≤ watts)) }
    let e := d.setFld F.PWR_THERM_throttling 0 (if d.power.packageHot || !d.power.hot.isEmpty then 1 else 0)
    (2 ≤ e.devState → exec (.powerWindow watts) s = .next e) ∧
    (e.devState < 2 → line < watts → exec (.powerWindow watts) s = .next e.lowerDraw.judgeHolding) ∧
    (e.devState < 2 → watts ≤ line → exec (.powerWindow watts) s =
      .next (if e.mayRaise watts then (e.setFld F.PWR_TARGET_STATUS_unreachable 0 0).raiseDraw else e).judgeHolding)) ∧
  (∀ (i temp : Nat) (s : State), i < 148 → temp < 256 →
    let t := (s.setDom i { s.dom i with temp := temp }).showHottest
    ((t.dom i).tripped = false → 95 ≤ temp → exec (.thermalThreshold i temp) s = .next (t.trip i)) ∧
    ((t.dom i).tripped = false → temp < 95 → domKind i ≠ .cl → exec (.thermalThreshold i temp) s = .next (t.derateIsl i)) ∧
    ((t.dom i).tripped = true → temp < 85 → s.aon.stage = .running →
      let u := (t.setDom i { t.dom i with tripped := false }).derateIsl i
      u.aon.stage = .running → u.devState < 2 → u.inService i = true →
      exec (.tripRecover i temp) s = .next (u.requestDom i .on false)) ∧
    ((t.dom i).tripped = false → exec (.tripRecover i temp) s = .next t)) ∧
  (∀ s : State,
    let hot := s.power.hot.filter fun i => s.domOn i && decide (89 ≤ (s.dom i).temp)
    let all := if s.power.packageHot then s.boundOn else []
    exec .throttleStep s = .next (s.lowerClocks (hot ++ all.filter fun i => !hot.contains i) 600)) ∧
  (∀ s : State, exec (.drydownStart 1) s = .next ((s.setFld F.PWR_POLICY_drydown 0 1).startDrydown dryPolicy) ∧
    (s.singleDue = true → s.fld F.PWR_POLICY_on_single 0 = 2 →
      exec (.drydownStart 2) s = .next ((s.onPower fun p => { p with singleDone := true }).startDrydown dryFeed))) ∧
  (∀ s : State, s.devState = 2 →
    (s.power.dryStep = 1 → s.finishOver = true → exec .drydownPark s = .next (((List.range 64).foldl (fun s c => s.powerPark c) s).dryTo 3)) ∧
    (s.power.dryStep = 3 → s.allParked = true → (s.fld F.CMP_TWIN_state 0 ≠ 2 ∨ s.fld F.CMP_TWIN_unacked 0 = 0 ∨
      s.power.dryAt + us 2000 ≤ s.aon.dt) → exec .drydownTwinWaitEnd s = .next (s.dryTo 4)) ∧
    (s.power.dryStep = 4 → exec .drydownPorts s = .next (((List.range 8).foldl (fun s k => s.startAway k 1) s).dryTo 5)) ∧
    (s.power.dryStep = 5 → s.power.dryAt + us 56 ≤ s.aon.dt →
      let a := ((parkOrder.foldl (fun s i => s.parkDom i) s).dryTo 6).setFld F.PWR_TARGET_STATUS_dev_state 0 3
      let t := a.onPower fun p => { p with held := [] }
      a.power.held = [] → exec .drydownParked s = .next (if t.leavesAtOnce [] then t.leavePark else t))) ∧
  (∀ s : State,
    let t := s.setFld F.PWR_POLICY_drydown 0 0
    (t.devState = 3 → exec .leaveParked s = .next t.leavePark) ∧ (t.devState ≠ 3 → exec .leaveParked s = .next t)) ∧
  (∀ (i : Nat) (s : State), i < 256 →
    (s.fld F.PWR_DOM_STATUS_svc_busy 0 = 1 → exec (.reloadCp i) s = .next (s.svcResult svcBusy) ∧ exec (.repair i) s = .next s) ∧
    (s.fld F.PWR_DOM_STATUS_svc_busy 0 = 0 → (i < 140 ∨ 147 < i) → exec (.reloadCp i) s = .next (s.svcResult svcInvalid)) ∧
    (s.fld F.PWR_DOM_STATUS_svc_busy 0 = 0 → 140 ≤ i → i ≤ 147 →
      let t := (s.setFld F.PWR_DOM_STATUS_svc_busy 0 1).onPower fun p => { p with svc := some (1, i) }
      exec (.reloadCp i) s = .next ((cpsOf i).foldl (fun s p => s.setCp p { s.cp p with reload := true }) t)) ∧
    (s.fld F.PWR_DOM_STATUS_svc_busy 0 = 0 → i < 84 → s.clState i = 0 → s.failing.find i = none → exec (.repair i) s =
      .next ((s.repairCluster i true).svcResult (if (s.spareFor i).isSome then svcOk else svcNoSpare)))) ∧
  (∀ (s : State) (n i : Nat), s.power.svc = some (n, i) →
    let img := s.flacon.image s.flacon.next
    let ok := imageOk img s.flacon.minSvn
    let a : State := if ok then { s with measures := s.measures.put 3 ((img.drop 48).take 32) } else s
    let t := (cpsOf i).foldl (fun s p =>
      (s.resetCp p).setCp p { (s.resetCp p).cp p with wakes := (s.cp p).wakes, taken := (s.cp p).taken, reload := false }) a
    exec .reloadCpDone s =
      .next (((t.svcResult (if ok then svcOk else svcInvalid)).setFld F.PWR_DOM_STATUS_svc_busy 0 0).onPower fun p => { p with svc := none })) ∧
  (∀ (line : List Byte) (s : State),
    let body := line.filter fun b => b != 10#8
    (s.monOn = false → exec (.consoleLine line) s = .next s) ∧
    (s.monOn = true → s.console.xfer.isSome = true → exec (.consoleLine line) s =
      .next { s with console := { s.console with held := (s.console.held ++ body ++ [13#8]).take 256 } }) ∧
    (s.monOn = true → s.console.xfer = none →
      let t : State := { s with console := { s.console with held := [] } }
      (256 < (s.console.held ++ body).length → exec (.consoleLine line) s = .next (t.sayErr "LONG")) ∧
      ((s.console.held ++ body).length ≤ 256 → exec (.consoleLine line) s = .next (t.runLine (tokens (s.console.held ++ body)))))) ∧
  (∀ s : State, exec .ver s = .next (s.monitor 0 State.monVer) ∧ (∀ d, exec (.isl d) s = .next (s.monitor 0 fun s => s.monIsl d)) ∧
    (∀ d, exec (.ctr d) s = .next (s.monitor 0 fun s => s.monCtr d)) ∧ (∀ d, exec (.gasp d) s = .next (s.monitor 0 fun s => s.monGasp d)) ∧
    (∀ w, exec (.tw w) s = .next (s.monitor 1 fun s => s.monTw w)) ∧ (∀ a n, exec (.peek a n) s = .next (s.monitor 1 fun s => s.monPeek a n)) ∧
    (∀ a v, exec (.poke a v) s = .next (s.monitor 2 fun s => s.monPoke a v)) ∧
    (∀ i x v, exec (.sil i x v) s = .next (s.monitor 2 fun s => s.monSil i x v)) ∧ exec .dump s = .next (s.monitor 1 State.monDump)) ∧
  (∀ (v : Word) (s : State),
    exec (.monLevelWrite .fw v) s = .next (s.setFld F.MON_CFG_level 0 (min 2 (F.MON_CFG_level.of v))) ∧
    (∀ f, f < 128 → f % 64 ≠ 0 → exec (.monLevelWrite (.fn f) v) s = .next s)) ∧
  (∀ s : State, s.aon.powered = true →
    (∀ bytes, bytes.length = 2 → exec (.i3cPrivateWrite bytes) s = .next { s with aon := { s.aon with i3cOff := leNat bytes } }) ∧
    exec .i3cPrivateRead s = .next (s.emit (.i3c (leBytes 8 (s.regRead (.fn 0) (0xD00000 + s.aon.i3cOff / 8 * 8) 8).toNat))) ∧
    (∀ a, a < 128 → exec (.i3cDynamicAddressAssign a) s = .next { s with aon := { s.aon with i3cAddr := a } })) ∧
  (∀ (w : Nat) (v : Word) (s : State), w < 8 → exec (.twClear w) s = .next (s.watchClear w) ∧
    (F.MON_TW_CFG_clear.of v = 0 → F.MON_TW_CFG_enable.of v = 0 → s.fld F.MON_TW_CFG_enable w = 0 →
      exec (.twEnable w v) s = .next (s.setReg .MON_TW_CFG w (BitVec.ofNat 64 (F.MON_TW_CFG_freeze.of v * 2 ^ 62 +
        F.MON_TW_CFG_dig_en.of v * 2 ^ 60 + bits v.toNat 59 21 * 2 ^ 21 + bits (s.reg .MON_TW_CFG w).toNat 20 0)))) ∧
    (F.MON_TW_CFG_clear.of v = 0 → F.MON_TW_CFG_enable.of v = 1 → s.fld F.MON_TW_CFG_enable w = 0 → s.watchAllowed w v = true →
      let t := s.setReg .MON_TW_CFG w (BitVec.ofNat 64 (2 ^ 63 + F.MON_TW_CFG_freeze.of v * 2 ^ 62 + F.MON_TW_CFG_dig_en.of v * 2 ^ 60 +
        bits v.toNat 59 21 * 2 ^ 21 + bits (s.reg .MON_TW_CFG w).toNat 20 0))
      exec (.twEnable w v) s = .next { t with twCtx := t.twCtx.put w (bits (t.reg .SCH_CTX_SEL 0).toNat 15 0) }) ∧
    (let t := s.writeReg .MON_TW_DIG w v.toNat (2 ^ 64 - 1)
     let a := t.fld F.MON_TW_DIG_base w * 4096
     let n := 32 * (4096 * 2 ^ t.fld F.MON_TW_DIG_size w)
     (F.MON_TW_DIG_enable.of v = 0 → exec (.twDigEnable w v) s = .next (t.setFld F.MON_TW_DIG_enable w 0)) ∧
     (F.MON_TW_DIG_enable.of v = 1 → inPlainMemory a n = true → t.meetsBound a n = false → t.meetsWindow a n = false →
       exec (.twDigEnable w v) s = .next ((((t.setFld F.MON_TW_DIG_enable w 1).setReg .MON_TW_DIGWR w 0#64).setReg .MON_TW_DIGRD w 0#64).setReg
         .MON_TW_DIGLOST w 0#64)) ∧
     (F.MON_TW_DIG_enable.of v = 1 → (inPlainMemory a n = false ∨ t.meetsBound a n = true ∨ t.meetsWindow a n = true) →
       exec (.twDigEnable w v) s = .next (t.setFld F.MON_TW_DIG_enable w 0))))

/-- The values are those of the register tables; the stage of start-up at reset is the model's (DESIGN CHOICE, log 1). -/
def Obligations.ResetState : Prop :=
  let s := State.reset
  s.pending = [] ∧ Memory.wf s.mem = true ∧ s.mem = [] ∧ s.outst = [] ∧
  (∀ i, i < 148 → (s.dom i).state = .off) ∧ (∀ c, c < 64 → s.cmpState c = 0 ∧ s.fld F.CMP_STATUS_busy c = 0 ∧ (s.comp c).record = none) ∧
  (∀ n r, coreNamed n r = true → s.coreOwner.find n = none ∧ (s.core n r).status = .idle) ∧ s.slots = [] ∧ (∀ i, s.route.get i 15 = 15) ∧
  (∀ c, c < 64 → s.fld F.CMP_SLICE_slice_us c = 10000 ∧ s.fld F.SCH_COMP_CFG_tile_budget_us c = 100 ∧ s.fld F.SCH_COMP_CFG_quantum_us c = 2000 ∧
    s.fld F.SCH_MIX_CFG_max_items c = 1 ∧ s.fld F.SCH_MIX_CFG_enable c = 0 ∧ s.fld F.PWR_COMP_CFG_park_order c = 128) ∧
  (∀ f, f < 128 → s.fld F.CTX_QUOTA_max_contexts f = 320 ∧ s.fld F.CTX_QUOTA_max_queues f = 640 ∧ s.fld F.CTX_QUOTA_max_fences f = 2048) ∧
  (∀ i, i < 256 → s.fld F.MEM_RSV_CFG_valid i = 0 ∧ s.fld F.MEM_RSV_CFG_rank i = 255) ∧
  (∀ k, k < 8 → s.fld F.PRT_CFG_enable k = 0 ∧ s.fld F.PRT_CFG_auto_retrain k = 1 ∧ s.fld F.PRT_CFG_allow_degraded k = 1) ∧
  s.fld F.TLX_PIN_STATUS_fw_entries 0 = 64 ∧ s.fld F.FAB_SEAM_CFG_credit_timeout 0 = 20000 ∧ s.fld F.FAB_SEAM_CFG_retry_limit 0 = 1000 ∧
  s.fld F.FLT_WD_CFG_core_ms 0 = 100 ∧ s.fld F.FLT_WD_CFG_dma_ms 0 = 10 ∧ s.fld F.FLT_WD_CFG_cp_ms 0 = 10 ∧ s.fld F.SEC_SLOT_SEL_slot 0 = 1 ∧
  s.fld F.PWR_TARGET_STATUS_target 0 = 3000 ∧ s.fld F.PWR_TARGET_STATUS_ceiling 0 = 3000 ∧ s.fld F.PWR_TARGET_STATUS_slew 0 = 200 ∧
  (∀ w, w < 8 → s.fld F.MON_TW_CFG_enable w = 0 ∧ s.fld F.MON_TW_CFG_core_any w = 1 ∧ s.fld F.MON_TW_CFG_q_any w = 1 ∧
    s.fld F.MON_TW_CFG_ctx_any w = 1)
end

