-- ==== Sys2Proof/Laws/SMap.lean ====
section
/-! SUPPORT. Laws/SMap.lean: what a look-up finds after each operation of the sparse map, and that each keeps the canonical form. -/
namespace Sys2Proof

variable {β : Type}

/-! ## Looking up after an update -/

theorem SMap.find_cons (j k : Nat) (v : β) (m : SMap β) :
    SMap.find ((j, v) :: m) k = if k = j then some v else SMap.find m k := rfl

@[simp] theorem SMap.find_nil (k : Nat) : SMap.find ([] : SMap β) k = none := rfl

@[simp] theorem SMap.find_put_same (m : SMap β) (k : Nat) (v : β) : SMap.find (SMap.put m k v) k = some v := by
  induction m with
  | nil => simp [SMap.put, SMap.find]
  | cons e m ih =>
    obtain ⟨j, w⟩ := e
    simp only [SMap.put]
    split
    · simp [SMap.find]
    · split
      · simp [SMap.find]
      · next _ h2 => simp [SMap.find, h2, ih]

theorem SMap.find_put_ne {i k : Nat} (h : i ≠ k) (m : SMap β) (v : β) : SMap.find (SMap.put m k v) i = SMap.find m i := by
  induction m with
  | nil => simp [SMap.put, SMap.find, h]
  | cons e m ih =>
    obtain ⟨j, w⟩ := e
    simp only [SMap.put]
    split
    · simp [SMap.find, h]
    · split
      · next h2 => subst h2; simp [SMap.find, h]
      · simp [SMap.find, ih]

@[simp] theorem SMap.find_del_same (m : SMap β) (k : Nat) : SMap.find (SMap.del m k) k = none := by
  induction m with
  | nil => rfl
  | cons e m ih =>
    obtain ⟨j, w⟩ := e
    simp only [SMap.del]
    split
    · exact ih
    · next h => simp [SMap.find, ih, Ne.symm h]

theorem SMap.find_del_ne {i k : Nat} (h : i ≠ k) (m : SMap β) : SMap.find (SMap.del m k) i = SMap.find m i := by
  induction m with
  | nil => rfl
  | cons e m ih =>
    obtain ⟨j, w⟩ := e
    simp only [SMap.del]
    split
    · next h2 => subst h2; simp [SMap.find, ih, h]
    · simp [SMap.find, ih]

theorem SMap.get_put_same (m : SMap β) (k : Nat) (v d : β) : SMap.get (SMap.put m k v) k d = v := by simp [SMap.get]

theorem SMap.get_put_ne {i k : Nat} (h : i ≠ k) (m : SMap β) (v d : β) : SMap.get (SMap.put m k v) i d = SMap.get m i d := by
  simp [SMap.get, SMap.find_put_ne h]

theorem SMap.get_set_same [DecidableEq β] (m : SMap β) (d : β) (k : Nat) (v : β) : SMap.get (SMap.set m d k v) k d = v := by
  unfold SMap.set
  split
  · next h => simp [SMap.get, h]
  · simp [SMap.get]

theorem SMap.get_set_ne [DecidableEq β] {i k : Nat} (h : i ≠ k) (m : SMap β) (d : β) (v : β) (e : β) :
    SMap.get (SMap.set m d k v) i e = SMap.get m i e := by
  unfold SMap.set
  split
  · simp [SMap.get, SMap.find_del_ne h]
  · simp [SMap.get, SMap.find_put_ne h]

/-! ## The canonical form -/

theorem SMap.above_mono {m : SMap β} {a b : Nat} (h : a ≤ b) (hm : SMap.above m b = true) : SMap.above m a = true := by
  cases m with
  | nil => rfl
  | cons e m =>
    obtain ⟨j, w⟩ := e
    simp only [SMap.above, Bool.and_eq_true, decide_eq_true_eq] at hm ⊢
    exact ⟨by omega, hm.2⟩

theorem SMap.above_put {m : SMap β} {b k : Nat} (v : β) (hk : b ≤ k) (hm : SMap.above m b = true) :
    SMap.above (SMap.put m k v) b = true := by
  induction m generalizing b with
  | nil => simp [SMap.put, SMap.above]; omega
  | cons e m ih =>
    obtain ⟨j, w⟩ := e
    simp only [SMap.above, Bool.and_eq_true, decide_eq_true_eq] at hm
    simp only [SMap.put]
    split
    · next h => simp only [SMap.above, Bool.and_eq_true, decide_eq_true_eq]; exact ⟨by omega, by omega, hm.2⟩
    · split
      · next h => subst h; simp only [SMap.above, Bool.and_eq_true, decide_eq_true_eq]; exact hm
      · simp only [SMap.above, Bool.and_eq_true, decide_eq_true_eq]; exact ⟨hm.1, ih (by omega) hm.2⟩

theorem SMap.above_filter {m : SMap β} {b : Nat} (p : Nat × β → Bool) (hm : SMap.above m b = true) :
    SMap.above (m.filter p) b = true := by
  induction m generalizing b with
  | nil => rfl
  | cons e m ih =>
    obtain ⟨j, w⟩ := e
    simp only [SMap.above, Bool.and_eq_true, decide_eq_true_eq] at hm
    by_cases hp : p (j, w) = true
    · rw [List.filter_cons_of_pos hp]
      simp only [SMap.above, Bool.and_eq_true, decide_eq_true_eq]
      exact ⟨hm.1, ih hm.2⟩
    · rw [List.filter_cons_of_neg hp]
      exact SMap.above_mono (by omega) (ih hm.2)

theorem SMap.del_eq_filter (m : SMap β) (k : Nat) : SMap.del m k = m.filter fun e => !decide (e.1 = k) := by
  induction m with
  | nil => rfl
  | cons e m ih =>
    obtain ⟨j, w⟩ := e
    by_cases h : j = k <;> simp [SMap.del, h, ih]

theorem SMap.mem_put {m : SMap β} {k : Nat} {v : β} {e : Nat × β} (h : e ∈ SMap.put m k v) : e = (k, v) ∨ e ∈ m := by
  induction m with
  | nil => simpa [SMap.put] using h
  | cons f m ih =>
    obtain ⟨j, w⟩ := f
    simp only [SMap.put] at h
    split at h
    · simpa using h
    · split at h
      · rcases List.mem_cons.1 h with h | h
        · exact .inl h
        · exact .inr (List.mem_cons_of_mem _ h)
      · rcases List.mem_cons.1 h with h | h
        · exact .inr (by simp [h])
        · rcases ih h with h | h
          · exact .inl h
          · exact .inr (List.mem_cons_of_mem _ h)

theorem SMap.wf_nil [DecidableEq β] (d : β) : SMap.wf ([] : SMap β) d = true := rfl

theorem SMap.wf_filter [DecidableEq β] {m : SMap β} {d : β} (p : Nat × β → Bool) (h : SMap.wf m d = true) :
    SMap.wf (m.filter p) d = true := by
  simp only [SMap.wf, Bool.and_eq_true, List.all_eq_true] at h ⊢
  exact ⟨SMap.above_filter p h.1, fun e he => h.2 e (List.mem_filter.1 he).1⟩

theorem SMap.wf_del [DecidableEq β] {m : SMap β} {d : β} (k : Nat) (h : SMap.wf m d = true) : SMap.wf (SMap.del m k) d = true := by
  rw [SMap.del_eq_filter]; exact SMap.wf_filter _ h

theorem SMap.wf_clear [DecidableEq β] {m : SMap β} {d : β} (lo hi : Nat) (h : SMap.wf m d = true) :
    SMap.wf (SMap.clear m lo hi) d = true := SMap.wf_filter _ h

theorem SMap.wf_put [DecidableEq β] {m : SMap β} {d v : β} (k : Nat) (hv : v ≠ d) (h : SMap.wf m d = true) :
    SMap.wf (SMap.put m k v) d = true := by
  simp only [SMap.wf, Bool.and_eq_true, List.all_eq_true, decide_eq_true_eq] at h ⊢
  refine ⟨SMap.above_put v (Nat.zero_le k) h.1, fun e he => ?_⟩
  rcases SMap.mem_put he with rfl | he
  · exact hv
  · exact h.2 e he

theorem SMap.wf_set [DecidableEq β] {m : SMap β} {d : β} (k : Nat) (v : β) (h : SMap.wf m d = true) :
    SMap.wf (SMap.set m d k v) d = true := by
  unfold SMap.set
  split
  · exact SMap.wf_del k h
  · next hv => exact SMap.wf_put k hv h

end Sys2Proof
end

