-- ==== Sys2Proof/Laws/Memory.lean ====
section
/-! SUPPORT. Laws/Memory.lean: what a byte reads after each memory operation, and that every operation that changes memory keeps the canonical
form `Memory.wf`: a store, a wipe, a domain losing its contents, a device reset. -/
namespace Sys2Proof.Machine

/-! ## The canonical form is kept -/

theorem memPut_wf {m : List Host.Cell} (a : Nat) (data : List Byte) (h : Memory.wf m = true) : Memory.wf (memPut m a data) = true := by
  induction data generalizing m a with
  | nil => exact h
  | cons b bs ih => exact ih (a + 1) (SMap.wf_set a b h)

theorem store_wf {s : State} (a : Nat) (data : List Byte) (h : Memory.wf s.mem = true) : Memory.wf (s.store a data).mem = true :=
  memPut_wf a data h

theorem wipe_wf {s : State} (lo hi : Nat) (h : Memory.wf s.mem = true) : Memory.wf (s.wipe lo hi).mem = true := SMap.wf_clear lo hi h

theorem reset_mem_wf : Memory.wf State.reset.mem = true := rfl

theorem markLine_mem (s : State) (l sel : Nat) : (s.markLine l sel).mem = s.mem := rfl

theorem losePair_wf {s : State} (i : Nat) (h : Memory.wf s.mem = true) : Memory.wf (s.losePair i).mem = true := SMap.wf_filter _ h

theorem setReg_keeps_mem (s : State) (r : RegName) (i : Nat) (w : Word) : (s.setReg r i w).mem = s.mem := rfl

/-- A fold whose steps leave memory alone leaves memory alone. -/
theorem foldl_mem {α : Type} (f : State → α → State) (h : ∀ s a, (f s a).mem = s.mem) (l : List α) (s : State) :
    (l.foldl f s).mem = s.mem := by
  induction l generalizing s with
  | nil => rfl
  | cons a l ih => rw [List.foldl_cons, ih, h]

theorem deviceReset_mem (s : State) : s.deviceReset.mem = s.mem.filter fun e => retained e.1 := by
  unfold State.deviceReset
  rw [foldl_mem _ (fun s g => foldl_mem _ (fun s i => setReg_keeps_mem s g i _) _ s)]

theorem deviceReset_wf {s : State} (h : Memory.wf s.mem = true) : Memory.wf s.deviceReset.mem = true := by
  rw [deviceReset_mem]; exact SMap.wf_filter _ h

theorem powerLoss_wf (s : State) : Memory.wf s.powerLoss.mem = true := rfl

/-! ## Reading back -/

theorem memPut_get (m : List Host.Cell) (a : Nat) (data : List Byte) (i : Nat) :
    SMap.get (memPut m a data) i 0#8 = if a ≤ i ∧ i < a + data.length then data.getD (i - a) 0#8 else SMap.get m i 0#8 := by
  induction data generalizing m a with
  | nil => simp only [memPut, List.length_nil]; rw [if_neg (by omega)]
  | cons b bs ih =>
    simp only [memPut, ih, List.length_cons]
    by_cases h1 : i = a
    · subst h1
      rw [if_neg (by omega), if_pos (by omega), SMap.get_set_same]
      simp
    · rw [SMap.get_set_ne h1]
      by_cases h2 : a + 1 ≤ i ∧ i < a + 1 + bs.length
      · rw [if_pos h2, if_pos (by omega), show i - a = (i - (a + 1)) + 1 by omega]
        simp
      · rw [if_neg h2, if_neg (by omega)]

theorem byte_store (s : State) (a : Nat) (data : List Byte) (i : Nat) :
    (s.store a data).byte i = if a ≤ i ∧ i < a + data.length then data.getD (i - a) 0#8 else s.byte i := memPut_get s.mem a data i

theorem byte_store_outside {s : State} {a i : Nat} {data : List Byte} (h : i < a ∨ a + data.length ≤ i) :
    (s.store a data).byte i = s.byte i := by rw [byte_store, if_neg (by omega)]

theorem bytes_store (s : State) (a : Nat) (data : List Byte) : (s.store a data).bytes a data.length = data := by
  apply List.ext_getElem
  · simp [State.bytes]
  · intro i h1 h2
    simp only [State.bytes, List.getElem_map, List.getElem_range, byte_store]
    rw [if_pos (by omega), show a + i - a = i by omega]
    simp [List.getD_eq_getElem?_getD, h2]

theorem byte_markLine (s : State) (l sel i : Nat) : (s.markLine l sel).byte i = s.byte i := rfl

end Sys2Proof.Machine
end

