-- ==== Sys2Proof/Laws/State.lean ====
section
/-! SUPPORT. Laws/State.lean: what each update of the state leaves as it was, one lemma per field, and what its readers read after it. -/
namespace Sys2Proof.Machine

variable (s : State)

/-! ## `State.setReg` -/

@[simp] theorem setReg_pending (r : RegName) (i : Nat) (w : Word) : (s.setReg r i w).pending = s.pending := rfl
@[simp] theorem setReg_aon (r : RegName) (i : Nat) (w : Word) : (s.setReg r i w).aon = s.aon := rfl
@[simp] theorem setReg_doms (r : RegName) (i : Nat) (w : Word) : (s.setReg r i w).doms = s.doms := rfl
@[simp] theorem setReg_mem (r : RegName) (i : Nat) (w : Word) : (s.setReg r i w).mem = s.mem := rfl
@[simp] theorem setReg_tags (r : RegName) (i : Nat) (w : Word) : (s.setReg r i w).tags = s.tags := rfl
@[simp] theorem setReg_poison (r : RegName) (i : Nat) (w : Word) : (s.setReg r i w).poison = s.poison := rfl
@[simp] theorem setReg_seals (r : RegName) (i : Nat) (w : Word) : (s.setReg r i w).seals = s.seals := rfl
@[simp] theorem setReg_metas (r : RegName) (i : Nat) (w : Word) : (s.setReg r i w).metas = s.metas := rfl
@[simp] theorem setReg_hostMem (r : RegName) (i : Nat) (w : Word) : (s.setReg r i w).hostMem = s.hostMem := rfl
@[simp] theorem setReg_zeroFills (r : RegName) (i : Nat) (w : Word) : (s.setReg r i w).zeroFills = s.zeroFills := rfl
@[simp] theorem setReg_outst (r : RegName) (i : Nat) (w : Word) : (s.setReg r i w).outst = s.outst := rfl
@[simp] theorem setReg_replies (r : RegName) (i : Nat) (w : Word) : (s.setReg r i w).replies = s.replies := rfl
@[simp] theorem setReg_stalls (r : RegName) (i : Nat) (w : Word) : (s.setReg r i w).stalls = s.stalls := rfl
@[simp] theorem setReg_nacked (r : RegName) (i : Nat) (w : Word) : (s.setReg r i w).nacked = s.nacked := rfl
@[simp] theorem setReg_heldAcc (r : RegName) (i : Nat) (w : Word) : (s.setReg r i w).heldAcc = s.heldAcc := rfl
@[simp] theorem setReg_coreOwner (r : RegName) (i : Nat) (w : Word) : (s.setReg r i w).coreOwner = s.coreOwner := rfl
@[simp] theorem setReg_coreReady (r : RegName) (i : Nat) (w : Word) : (s.setReg r i w).coreReady = s.coreReady := rfl
@[simp] theorem setReg_icache (r : RegName) (i : Nat) (w : Word) : (s.setReg r i w).icache = s.icache := rfl
@[simp] theorem setReg_res (r : RegName) (i : Nat) (w : Word) : (s.setReg r i w).res = s.res := rfl
@[simp] theorem setReg_accs (r : RegName) (i : Nat) (w : Word) : (s.setReg r i w).accs = s.accs := rfl
@[simp] theorem setReg_saved (r : RegName) (i : Nat) (w : Word) : (s.setReg r i w).saved = s.saved := rfl
@[simp] theorem setReg_launches (r : RegName) (i : Nat) (w : Word) : (s.setReg r i w).launches = s.launches := rfl
@[simp] theorem setReg_armed (r : RegName) (i : Nat) (w : Word) : (s.setReg r i w).armed = s.armed := rfl
@[simp] theorem setReg_suspended (r : RegName) (i : Nat) (w : Word) : (s.setReg r i w).suspended = s.suspended := rfl
@[simp] theorem setReg_cps (r : RegName) (i : Nat) (w : Word) : (s.setReg r i w).cps = s.cps := rfl
@[simp] theorem setReg_chans (r : RegName) (i : Nat) (w : Word) : (s.setReg r i w).chans = s.chans := rfl
@[simp] theorem setReg_chanOwner (r : RegName) (i : Nat) (w : Word) : (s.setReg r i w).chanOwner = s.chanOwner := rfl
@[simp] theorem setReg_watches (r : RegName) (i : Nat) (w : Word) : (s.setReg r i w).watches = s.watches := rfl
@[simp] theorem setReg_rsvNew (r : RegName) (i : Nat) (w : Word) : (s.setReg r i w).rsvNew = s.rsvNew := rfl
@[simp] theorem setReg_windowsJudged (r : RegName) (i : Nat) (w : Word) : (s.setReg r i w).windowsJudged = s.windowsJudged := rfl
@[simp] theorem setReg_indexSerial (r : RegName) (i : Nat) (w : Word) : (s.setReg r i w).indexSerial = s.indexSerial := rfl
@[simp] theorem setReg_idxLines (r : RegName) (i : Nat) (w : Word) : (s.setReg r i w).idxLines = s.idxLines := rfl
@[simp] theorem setReg_pulses (r : RegName) (i : Nat) (w : Word) : (s.setReg r i w).pulses = s.pulses := rfl
@[simp] theorem setReg_ledger (r : RegName) (i : Nat) (w : Word) : (s.setReg r i w).ledger = s.ledger := rfl
@[simp] theorem setReg_groupSeq (r : RegName) (i : Nat) (w : Word) : (s.setReg r i w).groupSeq = s.groupSeq := rfl
@[simp] theorem setReg_ledgerLost (r : RegName) (i : Nat) (w : Word) : (s.setReg r i w).ledgerLost = s.ledgerLost := rfl
@[simp] theorem setReg_remoteBuf (r : RegName) (i : Nat) (w : Word) : (s.setReg r i w).remoteBuf = s.remoteBuf := rfl
@[simp] theorem setReg_tx (r : RegName) (i : Nat) (w : Word) : (s.setReg r i w).tx = s.tx := rfl
@[simp] theorem setReg_ports (r : RegName) (i : Nat) (w : Word) : (s.setReg r i w).ports = s.ports := rfl
@[simp] theorem setReg_route (r : RegName) (i : Nat) (w : Word) : (s.setReg r i w).route = s.route := rfl
@[simp] theorem setReg_seamRetries (r : RegName) (i : Nat) (w : Word) : (s.setReg r i w).seamRetries = s.seamRetries := rfl
@[simp] theorem setReg_seamFails (r : RegName) (i : Nat) (w : Word) : (s.setReg r i w).seamFails = s.seamFails := rfl
@[simp] theorem setReg_seamFix (r : RegName) (i : Nat) (w : Word) : (s.setReg r i w).seamFix = s.seamFix := rfl
@[simp] theorem setReg_seamWakes (r : RegName) (i : Nat) (w : Word) : (s.setReg r i w).seamWakes = s.seamWakes := rfl
@[simp] theorem setReg_failing (r : RegName) (i : Nat) (w : Word) : (s.setReg r i w).failing = s.failing := rfl
@[simp] theorem setReg_vendorId (r : RegName) (i : Nat) (w : Word) : (s.setReg r i w).vendorId = s.vendorId := rfl
@[simp] theorem setReg_options (r : RegName) (i : Nat) (w : Word) : (s.setReg r i w).options = s.options := rfl
@[simp] theorem setReg_owdAux (r : RegName) (i : Nat) (w : Word) : (s.setReg r i w).owdAux = s.owdAux := rfl
@[simp] theorem setReg_tlbs (r : RegName) (i : Nat) (w : Word) : (s.setReg r i w).tlbs = s.tlbs := rfl
@[simp] theorem setReg_misses (r : RegName) (i : Nat) (w : Word) : (s.setReg r i w).misses = s.misses := rfl
@[simp] theorem setReg_nonLeafs (r : RegName) (i : Nat) (w : Word) : (s.setReg r i w).nonLeafs = s.nonLeafs := rfl
@[simp] theorem setReg_pinned (r : RegName) (i : Nat) (w : Word) : (s.setReg r i w).pinned = s.pinned := rfl
@[simp] theorem setReg_tables (r : RegName) (i : Nat) (w : Word) : (s.setReg r i w).tables = s.tables := rfl
@[simp] theorem setReg_invals (r : RegName) (i : Nat) (w : Word) : (s.setReg r i w).invals = s.invals := rfl
@[simp] theorem setReg_invalWait (r : RegName) (i : Nat) (w : Word) : (s.setReg r i w).invalWait = s.invalWait := rfl
@[simp] theorem setReg_dlogFilter (r : RegName) (i : Nat) (w : Word) : (s.setReg r i w).dlogFilter = s.dlogFilter := rfl
@[simp] theorem setReg_comps (r : RegName) (i : Nat) (w : Word) : (s.setReg r i w).comps = s.comps := rfl
@[simp] theorem setReg_partOwner (r : RegName) (i : Nat) (w : Word) : (s.setReg r i w).partOwner = s.partOwner := rfl
@[simp] theorem setReg_farOwner (r : RegName) (i : Nat) (w : Word) : (s.setReg r i w).farOwner = s.farOwner := rfl
@[simp] theorem setReg_mixers (r : RegName) (i : Nat) (w : Word) : (s.setReg r i w).mixers = s.mixers := rfl
@[simp] theorem setReg_ctxs (r : RegName) (i : Nat) (w : Word) : (s.setReg r i w).ctxs = s.ctxs := rfl
@[simp] theorem setReg_tagsUsed (r : RegName) (i : Nat) (w : Word) : (s.setReg r i w).tagsUsed = s.tagsUsed := rfl
@[simp] theorem setReg_queues (r : RegName) (i : Nat) (w : Word) : (s.setReg r i w).queues = s.queues := rfl
@[simp] theorem setReg_fences (r : RegName) (i : Nat) (w : Word) : (s.setReg r i w).fences = s.fences := rfl
@[simp] theorem setReg_fns (r : RegName) (i : Nat) (w : Word) : (s.setReg r i w).fns = s.fns := rfl
@[simp] theorem setReg_hosts (r : RegName) (i : Nat) (w : Word) : (s.setReg r i w).hosts = s.hosts := rfl
@[simp] theorem setReg_mailbox (r : RegName) (i : Nat) (w : Word) : (s.setReg r i w).mailbox = s.mailbox := rfl
@[simp] theorem setReg_slots (r : RegName) (i : Nat) (w : Word) : (s.setReg r i w).slots = s.slots := rfl
@[simp] theorem setReg_flacon (r : RegName) (i : Nat) (w : Word) : (s.setReg r i w).flacon = s.flacon := rfl
@[simp] theorem setReg_measures (r : RegName) (i : Nat) (w : Word) : (s.setReg r i w).measures = s.measures := rfl
@[simp] theorem setReg_retiring (r : RegName) (i : Nat) (w : Word) : (s.setReg r i w).retiring = s.retiring := rfl
@[simp] theorem setReg_scrubs (r : RegName) (i : Nat) (w : Word) : (s.setReg r i w).scrubs = s.scrubs := rfl
@[simp] theorem setReg_fwTarget (r : RegName) (i : Nat) (w : Word) : (s.setReg r i w).fwTarget = s.fwTarget := rfl
@[simp] theorem setReg_roles (r : RegName) (i : Nat) (w : Word) : (s.setReg r i w).roles = s.roles := rfl
@[simp] theorem setReg_twinWait (r : RegName) (i : Nat) (w : Word) : (s.setReg r i w).twinWait = s.twinWait := rfl
@[simp] theorem setReg_mirrorSeq (r : RegName) (i : Nat) (w : Word) : (s.setReg r i w).mirrorSeq = s.mirrorSeq := rfl
@[simp] theorem setReg_mirrorHeld (r : RegName) (i : Nat) (w : Word) : (s.setReg r i w).mirrorHeld = s.mirrorHeld := rfl
@[simp] theorem setReg_twinAckAt (r : RegName) (i : Nat) (w : Word) : (s.setReg r i w).twinAckAt = s.twinAckAt := rfl
@[simp] theorem setReg_twinLost (r : RegName) (i : Nat) (w : Word) : (s.setReg r i w).twinLost = s.twinLost := rfl
@[simp] theorem setReg_mirrorDrops (r : RegName) (i : Nat) (w : Word) : (s.setReg r i w).mirrorDrops = s.mirrorDrops := rfl
@[simp] theorem setReg_shadows (r : RegName) (i : Nat) (w : Word) : (s.setReg r i w).shadows = s.shadows := rfl
@[simp] theorem setReg_lastSliced (r : RegName) (i : Nat) (w : Word) : (s.setReg r i w).lastSliced = s.lastSliced := rfl
@[simp] theorem setReg_mbxOut (r : RegName) (i : Nat) (w : Word) : (s.setReg r i w).mbxOut = s.mbxOut := rfl
@[simp] theorem setReg_logWr (r : RegName) (i : Nat) (w : Word) : (s.setReg r i w).logWr = s.logWr := rfl
@[simp] theorem setReg_outputs (r : RegName) (i : Nat) (w : Word) : (s.setReg r i w).outputs = s.outputs := rfl
@[simp] theorem setReg_sil (r : RegName) (i : Nat) (w : Word) : (s.setReg r i w).sil = s.sil := rfl
@[simp] theorem setReg_silLoss (r : RegName) (i : Nat) (w : Word) : (s.setReg r i w).silLoss = s.silLoss := rfl
@[simp] theorem setReg_sessions (r : RegName) (i : Nat) (w : Word) : (s.setReg r i w).sessions = s.sessions := rfl
@[simp] theorem setReg_lastAccess (r : RegName) (i : Nat) (w : Word) : (s.setReg r i w).lastAccess = s.lastAccess := rfl
@[simp] theorem setReg_twCtx (r : RegName) (i : Nat) (w : Word) : (s.setReg r i w).twCtx = s.twCtx := rfl
@[simp] theorem setReg_mbxSeq (r : RegName) (i : Nat) (w : Word) : (s.setReg r i w).mbxSeq = s.mbxSeq := rfl
@[simp] theorem setReg_openWindows (r : RegName) (i : Nat) (w : Word) : (s.setReg r i w).openWindows = s.openWindows := rfl
@[simp] theorem setReg_windowEnds (r : RegName) (i : Nat) (w : Word) : (s.setReg r i w).windowEnds = s.windowEnds := rfl
@[simp] theorem setReg_cycleStart (r : RegName) (i : Nat) (w : Word) : (s.setReg r i w).cycleStart = s.cycleStart := rfl
@[simp] theorem setReg_pressure (r : RegName) (i : Nat) (w : Word) : (s.setReg r i w).pressure = s.pressure := rfl
@[simp] theorem setReg_flagWatch (r : RegName) (i : Nat) (w : Word) : (s.setReg r i w).flagWatch = s.flagWatch := rfl
@[simp] theorem setReg_rsvNacked (r : RegName) (i : Nat) (w : Word) : (s.setReg r i w).rsvNacked = s.rsvNacked := rfl
@[simp] theorem setReg_ladderOn (r : RegName) (i : Nat) (w : Word) : (s.setReg r i w).ladderOn = s.ladderOn := rfl
@[simp] theorem setReg_ladder (r : RegName) (i : Nat) (w : Word) : (s.setReg r i w).ladder = s.ladder := rfl
@[simp] theorem setReg_suspects (r : RegName) (i : Nat) (w : Word) : (s.setReg r i w).suspects = s.suspects := rfl
@[simp] theorem setReg_console (r : RegName) (i : Nat) (w : Word) : (s.setReg r i w).console = s.console := rfl
@[simp] theorem setReg_power (r : RegName) (i : Nat) (w : Word) : (s.setReg r i w).power = s.power := rfl
@[simp] theorem setReg_freeCtr (r : RegName) (i : Nat) (w : Word) : (s.setReg r i w).freeCtr = s.freeCtr := rfl

@[simp] theorem setReg_read_dom (r : RegName) (i : Nat) (w : Word) (j : Nat) : (s.setReg r i w).dom j = s.dom j := rfl
@[simp] theorem setReg_read_core (r : RegName) (i : Nat) (w : Word) (m t : Nat) : (s.setReg r i w).core m t = s.core m t := rfl
@[simp] theorem setReg_read_cp (r : RegName) (i : Nat) (w : Word) (q : Nat) : (s.setReg r i w).cp q = s.cp q := rfl
@[simp] theorem setReg_read_chan (r : RegName) (i : Nat) (w : Word) (y : Nat) : (s.setReg r i w).chan y = s.chan y := rfl
@[simp] theorem setReg_read_port (r : RegName) (i : Nat) (w : Word) (j : Nat) : (s.setReg r i w).port j = s.port j := rfl
@[simp] theorem setReg_read_fn (r : RegName) (i : Nat) (w : Word) (g : Nat) : (s.setReg r i w).fn g = s.fn g := rfl
@[simp] theorem setReg_read_comp (r : RegName) (i : Nat) (w : Word) (j : Nat) : (s.setReg r i w).comp j = s.comp j := rfl
@[simp] theorem setReg_read_byte (r : RegName) (i : Nat) (w : Word) (b : Nat) : (s.setReg r i w).byte b = s.byte b := rfl

/-! ## `State.setFld` -/

@[simp] theorem setFld_pending (f : Fld) (i v : Nat) : (s.setFld f i v).pending = s.pending := rfl
@[simp] theorem setFld_aon (f : Fld) (i v : Nat) : (s.setFld f i v).aon = s.aon := rfl
@[simp] theorem setFld_doms (f : Fld) (i v : Nat) : (s.setFld f i v).doms = s.doms := rfl
@[simp] theorem setFld_mem (f : Fld) (i v : Nat) : (s.setFld f i v).mem = s.mem := rfl
@[simp] theorem setFld_tags (f : Fld) (i v : Nat) : (s.setFld f i v).tags = s.tags := rfl
@[simp] theorem setFld_poison (f : Fld) (i v : Nat) : (s.setFld f i v).poison = s.poison := rfl
@[simp] theorem setFld_seals (f : Fld) (i v : Nat) : (s.setFld f i v).seals = s.seals := rfl
@[simp] theorem setFld_metas (f : Fld) (i v : Nat) : (s.setFld f i v).metas = s.metas := rfl
@[simp] theorem setFld_hostMem (f : Fld) (i v : Nat) : (s.setFld f i v).hostMem = s.hostMem := rfl
@[simp] theorem setFld_zeroFills (f : Fld) (i v : Nat) : (s.setFld f i v).zeroFills = s.zeroFills := rfl
@[simp] theorem setFld_outst (f : Fld) (i v : Nat) : (s.setFld f i v).outst = s.outst := rfl
@[simp] theorem setFld_replies (f : Fld) (i v : Nat) : (s.setFld f i v).replies = s.replies := rfl
@[simp] theorem setFld_stalls (f : Fld) (i v : Nat) : (s.setFld f i v).stalls = s.stalls := rfl
@[simp] theorem setFld_nacked (f : Fld) (i v : Nat) : (s.setFld f i v).nacked = s.nacked := rfl
@[simp] theorem setFld_heldAcc (f : Fld) (i v : Nat) : (s.setFld f i v).heldAcc = s.heldAcc := rfl
@[simp] theorem setFld_coreOwner (f : Fld) (i v : Nat) : (s.setFld f i v).coreOwner = s.coreOwner := rfl
@[simp] theorem setFld_coreReady (f : Fld) (i v : Nat) : (s.setFld f i v).coreReady = s.coreReady := rfl
@[simp] theorem setFld_icache (f : Fld) (i v : Nat) : (s.setFld f i v).icache = s.icache := rfl
@[simp] theorem setFld_res (f : Fld) (i v : Nat) : (s.setFld f i v).res = s.res := rfl
@[simp] theorem setFld_accs (f : Fld) (i v : Nat) : (s.setFld f i v).accs = s.accs := rfl
@[simp] theorem setFld_saved (f : Fld) (i v : Nat) : (s.setFld f i v).saved = s.saved := rfl
@[simp] theorem setFld_launches (f : Fld) (i v : Nat) : (s.setFld f i v).launches = s.launches := rfl
@[simp] theorem setFld_armed (f : Fld) (i v : Nat) : (s.setFld f i v).armed = s.armed := rfl
@[simp] theorem setFld_suspended (f : Fld) (i v : Nat) : (s.setFld f i v).suspended = s.suspended := rfl
@[simp] theorem setFld_cps (f : Fld) (i v : Nat) : (s.setFld f i v).cps = s.cps := rfl
@[simp] theorem setFld_chans (f : Fld) (i v : Nat) : (s.setFld f i v).chans = s.chans := rfl
@[simp] theorem setFld_chanOwner (f : Fld) (i v : Nat) : (s.setFld f i v).chanOwner = s.chanOwner := rfl
@[simp] theorem setFld_watches (f : Fld) (i v : Nat) : (s.setFld f i v).watches = s.watches := rfl
@[simp] theorem setFld_rsvNew (f : Fld) (i v : Nat) : (s.setFld f i v).rsvNew = s.rsvNew := rfl
@[simp] theorem setFld_windowsJudged (f : Fld) (i v : Nat) : (s.setFld f i v).windowsJudged = s.windowsJudged := rfl
@[simp] theorem setFld_indexSerial (f : Fld) (i v : Nat) : (s.setFld f i v).indexSerial = s.indexSerial := rfl
@[simp] theorem setFld_idxLines (f : Fld) (i v : Nat) : (s.setFld f i v).idxLines = s.idxLines := rfl
@[simp] theorem setFld_pulses (f : Fld) (i v : Nat) : (s.setFld f i v).pulses = s.pulses := rfl
@[simp] theorem setFld_ledger (f : Fld) (i v : Nat) : (s.setFld f i v).ledger = s.ledger := rfl
@[simp] theorem setFld_groupSeq (f : Fld) (i v : Nat) : (s.setFld f i v).groupSeq = s.groupSeq := rfl
@[simp] theorem setFld_ledgerLost (f : Fld) (i v : Nat) : (s.setFld f i v).ledgerLost = s.ledgerLost := rfl
@[simp] theorem setFld_remoteBuf (f : Fld) (i v : Nat) : (s.setFld f i v).remoteBuf = s.remoteBuf := rfl
@[simp] theorem setFld_tx (f : Fld) (i v : Nat) : (s.setFld f i v).tx = s.tx := rfl
@[simp] theorem setFld_ports (f : Fld) (i v : Nat) : (s.setFld f i v).ports = s.ports := rfl
@[simp] theorem setFld_route (f : Fld) (i v : Nat) : (s.setFld f i v).route = s.route := rfl
@[simp] theorem setFld_seamRetries (f : Fld) (i v : Nat) : (s.setFld f i v).seamRetries = s.seamRetries := rfl
@[simp] theorem setFld_seamFails (f : Fld) (i v : Nat) : (s.setFld f i v).seamFails = s.seamFails := rfl
@[simp] theorem setFld_seamFix (f : Fld) (i v : Nat) : (s.setFld f i v).seamFix = s.seamFix := rfl
@[simp] theorem setFld_seamWakes (f : Fld) (i v : Nat) : (s.setFld f i v).seamWakes = s.seamWakes := rfl
@[simp] theorem setFld_failing (f : Fld) (i v : Nat) : (s.setFld f i v).failing = s.failing := rfl
@[simp] theorem setFld_vendorId (f : Fld) (i v : Nat) : (s.setFld f i v).vendorId = s.vendorId := rfl
@[simp] theorem setFld_options (f : Fld) (i v : Nat) : (s.setFld f i v).options = s.options := rfl
@[simp] theorem setFld_owdAux (f : Fld) (i v : Nat) : (s.setFld f i v).owdAux = s.owdAux := rfl
@[simp] theorem setFld_tlbs (f : Fld) (i v : Nat) : (s.setFld f i v).tlbs = s.tlbs := rfl
@[simp] theorem setFld_misses (f : Fld) (i v : Nat) : (s.setFld f i v).misses = s.misses := rfl
@[simp] theorem setFld_nonLeafs (f : Fld) (i v : Nat) : (s.setFld f i v).nonLeafs = s.nonLeafs := rfl
@[simp] theorem setFld_pinned (f : Fld) (i v : Nat) : (s.setFld f i v).pinned = s.pinned := rfl
@[simp] theorem setFld_tables (f : Fld) (i v : Nat) : (s.setFld f i v).tables = s.tables := rfl
@[simp] theorem setFld_invals (f : Fld) (i v : Nat) : (s.setFld f i v).invals = s.invals := rfl
@[simp] theorem setFld_invalWait (f : Fld) (i v : Nat) : (s.setFld f i v).invalWait = s.invalWait := rfl
@[simp] theorem setFld_dlogFilter (f : Fld) (i v : Nat) : (s.setFld f i v).dlogFilter = s.dlogFilter := rfl
@[simp] theorem setFld_comps (f : Fld) (i v : Nat) : (s.setFld f i v).comps = s.comps := rfl
@[simp] theorem setFld_partOwner (f : Fld) (i v : Nat) : (s.setFld f i v).partOwner = s.partOwner := rfl
@[simp] theorem setFld_farOwner (f : Fld) (i v : Nat) : (s.setFld f i v).farOwner = s.farOwner := rfl
@[simp] theorem setFld_mixers (f : Fld) (i v : Nat) : (s.setFld f i v).mixers = s.mixers := rfl
@[simp] theorem setFld_ctxs (f : Fld) (i v : Nat) : (s.setFld f i v).ctxs = s.ctxs := rfl
@[simp] theorem setFld_tagsUsed (f : Fld) (i v : Nat) : (s.setFld f i v).tagsUsed = s.tagsUsed := rfl
@[simp] theorem setFld_queues (f : Fld) (i v : Nat) : (s.setFld f i v).queues = s.queues := rfl
@[simp] theorem setFld_fences (f : Fld) (i v : Nat) : (s.setFld f i v).fences = s.fences := rfl
@[simp] theorem setFld_fns (f : Fld) (i v : Nat) : (s.setFld f i v).fns = s.fns := rfl
@[simp] theorem setFld_hosts (f : Fld) (i v : Nat) : (s.setFld f i v).hosts = s.hosts := rfl
@[simp] theorem setFld_mailbox (f : Fld) (i v : Nat) : (s.setFld f i v).mailbox = s.mailbox := rfl
@[simp] theorem setFld_slots (f : Fld) (i v : Nat) : (s.setFld f i v).slots = s.slots := rfl
@[simp] theorem setFld_flacon (f : Fld) (i v : Nat) : (s.setFld f i v).flacon = s.flacon := rfl
@[simp] theorem setFld_measures (f : Fld) (i v : Nat) : (s.setFld f i v).measures = s.measures := rfl
@[simp] theorem setFld_retiring (f : Fld) (i v : Nat) : (s.setFld f i v).retiring = s.retiring := rfl
@[simp] theorem setFld_scrubs (f : Fld) (i v : Nat) : (s.setFld f i v).scrubs = s.scrubs := rfl
@[simp] theorem setFld_fwTarget (f : Fld) (i v : Nat) : (s.setFld f i v).fwTarget = s.fwTarget := rfl
@[simp] theorem setFld_roles (f : Fld) (i v : Nat) : (s.setFld f i v).roles = s.roles := rfl
@[simp] theorem setFld_twinWait (f : Fld) (i v : Nat) : (s.setFld f i v).twinWait = s.twinWait := rfl
@[simp] theorem setFld_mirrorSeq (f : Fld) (i v : Nat) : (s.setFld f i v).mirrorSeq = s.mirrorSeq := rfl
@[simp] theorem setFld_mirrorHeld (f : Fld) (i v : Nat) : (s.setFld f i v).mirrorHeld = s.mirrorHeld := rfl
@[simp] theorem setFld_twinAckAt (f : Fld) (i v : Nat) : (s.setFld f i v).twinAckAt = s.twinAckAt := rfl
@[simp] theorem setFld_twinLost (f : Fld) (i v : Nat) : (s.setFld f i v).twinLost = s.twinLost := rfl
@[simp] theorem setFld_mirrorDrops (f : Fld) (i v : Nat) : (s.setFld f i v).mirrorDrops = s.mirrorDrops := rfl
@[simp] theorem setFld_shadows (f : Fld) (i v : Nat) : (s.setFld f i v).shadows = s.shadows := rfl
@[simp] theorem setFld_lastSliced (f : Fld) (i v : Nat) : (s.setFld f i v).lastSliced = s.lastSliced := rfl
@[simp] theorem setFld_mbxOut (f : Fld) (i v : Nat) : (s.setFld f i v).mbxOut = s.mbxOut := rfl
@[simp] theorem setFld_logWr (f : Fld) (i v : Nat) : (s.setFld f i v).logWr = s.logWr := rfl
@[simp] theorem setFld_outputs (f : Fld) (i v : Nat) : (s.setFld f i v).outputs = s.outputs := rfl
@[simp] theorem setFld_sil (f : Fld) (i v : Nat) : (s.setFld f i v).sil = s.sil := rfl
@[simp] theorem setFld_silLoss (f : Fld) (i v : Nat) : (s.setFld f i v).silLoss = s.silLoss := rfl
@[simp] theorem setFld_sessions (f : Fld) (i v : Nat) : (s.setFld f i v).sessions = s.sessions := rfl
@[simp] theorem setFld_lastAccess (f : Fld) (i v : Nat) : (s.setFld f i v).lastAccess = s.lastAccess := rfl
@[simp] theorem setFld_twCtx (f : Fld) (i v : Nat) : (s.setFld f i v).twCtx = s.twCtx := rfl
@[simp] theorem setFld_mbxSeq (f : Fld) (i v : Nat) : (s.setFld f i v).mbxSeq = s.mbxSeq := rfl
@[simp] theorem setFld_openWindows (f : Fld) (i v : Nat) : (s.setFld f i v).openWindows = s.openWindows := rfl
@[simp] theorem setFld_windowEnds (f : Fld) (i v : Nat) : (s.setFld f i v).windowEnds = s.windowEnds := rfl
@[simp] theorem setFld_cycleStart (f : Fld) (i v : Nat) : (s.setFld f i v).cycleStart = s.cycleStart := rfl
@[simp] theorem setFld_pressure (f : Fld) (i v : Nat) : (s.setFld f i v).pressure = s.pressure := rfl
@[simp] theorem setFld_flagWatch (f : Fld) (i v : Nat) : (s.setFld f i v).flagWatch = s.flagWatch := rfl
@[simp] theorem setFld_rsvNacked (f : Fld) (i v : Nat) : (s.setFld f i v).rsvNacked = s.rsvNacked := rfl
@[simp] theorem setFld_ladderOn (f : Fld) (i v : Nat) : (s.setFld f i v).ladderOn = s.ladderOn := rfl
@[simp] theorem setFld_ladder (f : Fld) (i v : Nat) : (s.setFld f i v).ladder = s.ladder := rfl
@[simp] theorem setFld_suspects (f : Fld) (i v : Nat) : (s.setFld f i v).suspects = s.suspects := rfl
@[simp] theorem setFld_console (f : Fld) (i v : Nat) : (s.setFld f i v).console = s.console := rfl
@[simp] theorem setFld_power (f : Fld) (i v : Nat) : (s.setFld f i v).power = s.power := rfl
@[simp] theorem setFld_freeCtr (f : Fld) (i v : Nat) : (s.setFld f i v).freeCtr = s.freeCtr := rfl

@[simp] theorem setFld_read_dom (f : Fld) (i v : Nat) (j : Nat) : (s.setFld f i v).dom j = s.dom j := rfl
@[simp] theorem setFld_read_core (f : Fld) (i v : Nat) (m t : Nat) : (s.setFld f i v).core m t = s.core m t := rfl
@[simp] theorem setFld_read_cp (f : Fld) (i v : Nat) (q : Nat) : (s.setFld f i v).cp q = s.cp q := rfl
@[simp] theorem setFld_read_chan (f : Fld) (i v : Nat) (y : Nat) : (s.setFld f i v).chan y = s.chan y := rfl
@[simp] theorem setFld_read_port (f : Fld) (i v : Nat) (j : Nat) : (s.setFld f i v).port j = s.port j := rfl
@[simp] theorem setFld_read_fn (f : Fld) (i v : Nat) (g : Nat) : (s.setFld f i v).fn g = s.fn g := rfl
@[simp] theorem setFld_read_comp (f : Fld) (i v : Nat) (j : Nat) : (s.setFld f i v).comp j = s.comp j := rfl
@[simp] theorem setFld_read_byte (f : Fld) (i v : Nat) (b : Nat) : (s.setFld f i v).byte b = s.byte b := rfl

/-! ## `State.setDom` -/

@[simp] theorem setDom_pending (i : Nat) (d : Dom) : (s.setDom i d).pending = s.pending := rfl
@[simp] theorem setDom_aon (i : Nat) (d : Dom) : (s.setDom i d).aon = s.aon := rfl
@[simp] theorem setDom_regs (i : Nat) (d : Dom) : (s.setDom i d).regs = s.regs := rfl
@[simp] theorem setDom_mem (i : Nat) (d : Dom) : (s.setDom i d).mem = s.mem := rfl
@[simp] theorem setDom_tags (i : Nat) (d : Dom) : (s.setDom i d).tags = s.tags := rfl
@[simp] theorem setDom_poison (i : Nat) (d : Dom) : (s.setDom i d).poison = s.poison := rfl
@[simp] theorem setDom_seals (i : Nat) (d : Dom) : (s.setDom i d).seals = s.seals := rfl
@[simp] theorem setDom_metas (i : Nat) (d : Dom) : (s.setDom i d).metas = s.metas := rfl
@[simp] theorem setDom_hostMem (i : Nat) (d : Dom) : (s.setDom i d).hostMem = s.hostMem := rfl
@[simp] theorem setDom_zeroFills (i : Nat) (d : Dom) : (s.setDom i d).zeroFills = s.zeroFills := rfl
@[simp] theorem setDom_outst (i : Nat) (d : Dom) : (s.setDom i d).outst = s.outst := rfl
@[simp] theorem setDom_replies (i : Nat) (d : Dom) : (s.setDom i d).replies = s.replies := rfl
@[simp] theorem setDom_stalls (i : Nat) (d : Dom) : (s.setDom i d).stalls = s.stalls := rfl
@[simp] theorem setDom_nacked (i : Nat) (d : Dom) : (s.setDom i d).nacked = s.nacked := rfl
@[simp] theorem setDom_heldAcc (i : Nat) (d : Dom) : (s.setDom i d).heldAcc = s.heldAcc := rfl
@[simp] theorem setDom_coreOwner (i : Nat) (d : Dom) : (s.setDom i d).coreOwner = s.coreOwner := rfl
@[simp] theorem setDom_coreReady (i : Nat) (d : Dom) : (s.setDom i d).coreReady = s.coreReady := rfl
@[simp] theorem setDom_icache (i : Nat) (d : Dom) : (s.setDom i d).icache = s.icache := rfl
@[simp] theorem setDom_res (i : Nat) (d : Dom) : (s.setDom i d).res = s.res := rfl
@[simp] theorem setDom_accs (i : Nat) (d : Dom) : (s.setDom i d).accs = s.accs := rfl
@[simp] theorem setDom_saved (i : Nat) (d : Dom) : (s.setDom i d).saved = s.saved := rfl
@[simp] theorem setDom_launches (i : Nat) (d : Dom) : (s.setDom i d).launches = s.launches := rfl
@[simp] theorem setDom_armed (i : Nat) (d : Dom) : (s.setDom i d).armed = s.armed := rfl
@[simp] theorem setDom_suspended (i : Nat) (d : Dom) : (s.setDom i d).suspended = s.suspended := rfl
@[simp] theorem setDom_cps (i : Nat) (d : Dom) : (s.setDom i d).cps = s.cps := rfl
@[simp] theorem setDom_chans (i : Nat) (d : Dom) : (s.setDom i d).chans = s.chans := rfl
@[simp] theorem setDom_chanOwner (i : Nat) (d : Dom) : (s.setDom i d).chanOwner = s.chanOwner := rfl
@[simp] theorem setDom_watches (i : Nat) (d : Dom) : (s.setDom i d).watches = s.watches := rfl
@[simp] theorem setDom_rsvNew (i : Nat) (d : Dom) : (s.setDom i d).rsvNew = s.rsvNew := rfl
@[simp] theorem setDom_windowsJudged (i : Nat) (d : Dom) : (s.setDom i d).windowsJudged = s.windowsJudged := rfl
@[simp] theorem setDom_indexSerial (i : Nat) (d : Dom) : (s.setDom i d).indexSerial = s.indexSerial := rfl
@[simp] theorem setDom_idxLines (i : Nat) (d : Dom) : (s.setDom i d).idxLines = s.idxLines := rfl
@[simp] theorem setDom_pulses (i : Nat) (d : Dom) : (s.setDom i d).pulses = s.pulses := rfl
@[simp] theorem setDom_ledger (i : Nat) (d : Dom) : (s.setDom i d).ledger = s.ledger := rfl
@[simp] theorem setDom_groupSeq (i : Nat) (d : Dom) : (s.setDom i d).groupSeq = s.groupSeq := rfl
@[simp] theorem setDom_ledgerLost (i : Nat) (d : Dom) : (s.setDom i d).ledgerLost = s.ledgerLost := rfl
@[simp] theorem setDom_remoteBuf (i : Nat) (d : Dom) : (s.setDom i d).remoteBuf = s.remoteBuf := rfl
@[simp] theorem setDom_tx (i : Nat) (d : Dom) : (s.setDom i d).tx = s.tx := rfl
@[simp] theorem setDom_ports (i : Nat) (d : Dom) : (s.setDom i d).ports = s.ports := rfl
@[simp] theorem setDom_route (i : Nat) (d : Dom) : (s.setDom i d).route = s.route := rfl
@[simp] theorem setDom_seamRetries (i : Nat) (d : Dom) : (s.setDom i d).seamRetries = s.seamRetries := rfl
@[simp] theorem setDom_seamFails (i : Nat) (d : Dom) : (s.setDom i d).seamFails = s.seamFails := rfl
@[simp] theorem setDom_seamFix (i : Nat) (d : Dom) : (s.setDom i d).seamFix = s.seamFix := rfl
@[simp] theorem setDom_seamWakes (i : Nat) (d : Dom) : (s.setDom i d).seamWakes = s.seamWakes := rfl
@[simp] theorem setDom_failing (i : Nat) (d : Dom) : (s.setDom i d).failing = s.failing := rfl
@[simp] theorem setDom_vendorId (i : Nat) (d : Dom) : (s.setDom i d).vendorId = s.vendorId := rfl
@[simp] theorem setDom_options (i : Nat) (d : Dom) : (s.setDom i d).options = s.options := rfl
@[simp] theorem setDom_owdAux (i : Nat) (d : Dom) : (s.setDom i d).owdAux = s.owdAux := rfl
@[simp] theorem setDom_tlbs (i : Nat) (d : Dom) : (s.setDom i d).tlbs = s.tlbs := rfl
@[simp] theorem setDom_misses (i : Nat) (d : Dom) : (s.setDom i d).misses = s.misses := rfl
@[simp] theorem setDom_nonLeafs (i : Nat) (d : Dom) : (s.setDom i d).nonLeafs = s.nonLeafs := rfl
@[simp] theorem setDom_pinned (i : Nat) (d : Dom) : (s.setDom i d).pinned = s.pinned := rfl
@[simp] theorem setDom_tables (i : Nat) (d : Dom) : (s.setDom i d).tables = s.tables := rfl
@[simp] theorem setDom_invals (i : Nat) (d : Dom) : (s.setDom i d).invals = s.invals := rfl
@[simp] theorem setDom_invalWait (i : Nat) (d : Dom) : (s.setDom i d).invalWait = s.invalWait := rfl
@[simp] theorem setDom_dlogFilter (i : Nat) (d : Dom) : (s.setDom i d).dlogFilter = s.dlogFilter := rfl
@[simp] theorem setDom_comps (i : Nat) (d : Dom) : (s.setDom i d).comps = s.comps := rfl
@[simp] theorem setDom_partOwner (i : Nat) (d : Dom) : (s.setDom i d).partOwner = s.partOwner := rfl
@[simp] theorem setDom_farOwner (i : Nat) (d : Dom) : (s.setDom i d).farOwner = s.farOwner := rfl
@[simp] theorem setDom_mixers (i : Nat) (d : Dom) : (s.setDom i d).mixers = s.mixers := rfl
@[simp] theorem setDom_ctxs (i : Nat) (d : Dom) : (s.setDom i d).ctxs = s.ctxs := rfl
@[simp] theorem setDom_tagsUsed (i : Nat) (d : Dom) : (s.setDom i d).tagsUsed = s.tagsUsed := rfl
@[simp] theorem setDom_queues (i : Nat) (d : Dom) : (s.setDom i d).queues = s.queues := rfl
@[simp] theorem setDom_fences (i : Nat) (d : Dom) : (s.setDom i d).fences = s.fences := rfl
@[simp] theorem setDom_fns (i : Nat) (d : Dom) : (s.setDom i d).fns = s.fns := rfl
@[simp] theorem setDom_hosts (i : Nat) (d : Dom) : (s.setDom i d).hosts = s.hosts := rfl
@[simp] theorem setDom_mailbox (i : Nat) (d : Dom) : (s.setDom i d).mailbox = s.mailbox := rfl
@[simp] theorem setDom_slots (i : Nat) (d : Dom) : (s.setDom i d).slots = s.slots := rfl
@[simp] theorem setDom_flacon (i : Nat) (d : Dom) : (s.setDom i d).flacon = s.flacon := rfl
@[simp] theorem setDom_measures (i : Nat) (d : Dom) : (s.setDom i d).measures = s.measures := rfl
@[simp] theorem setDom_retiring (i : Nat) (d : Dom) : (s.setDom i d).retiring = s.retiring := rfl
@[simp] theorem setDom_scrubs (i : Nat) (d : Dom) : (s.setDom i d).scrubs = s.scrubs := rfl
@[simp] theorem setDom_fwTarget (i : Nat) (d : Dom) : (s.setDom i d).fwTarget = s.fwTarget := rfl
@[simp] theorem setDom_roles (i : Nat) (d : Dom) : (s.setDom i d).roles = s.roles := rfl
@[simp] theorem setDom_twinWait (i : Nat) (d : Dom) : (s.setDom i d).twinWait = s.twinWait := rfl
@[simp] theorem setDom_mirrorSeq (i : Nat) (d : Dom) : (s.setDom i d).mirrorSeq = s.mirrorSeq := rfl
@[simp] theorem setDom_mirrorHeld (i : Nat) (d : Dom) : (s.setDom i d).mirrorHeld = s.mirrorHeld := rfl
@[simp] theorem setDom_twinAckAt (i : Nat) (d : Dom) : (s.setDom i d).twinAckAt = s.twinAckAt := rfl
@[simp] theorem setDom_twinLost (i : Nat) (d : Dom) : (s.setDom i d).twinLost = s.twinLost := rfl
@[simp] theorem setDom_mirrorDrops (i : Nat) (d : Dom) : (s.setDom i d).mirrorDrops = s.mirrorDrops := rfl
@[simp] theorem setDom_shadows (i : Nat) (d : Dom) : (s.setDom i d).shadows = s.shadows := rfl
@[simp] theorem setDom_lastSliced (i : Nat) (d : Dom) : (s.setDom i d).lastSliced = s.lastSliced := rfl
@[simp] theorem setDom_mbxOut (i : Nat) (d : Dom) : (s.setDom i d).mbxOut = s.mbxOut := rfl
@[simp] theorem setDom_logWr (i : Nat) (d : Dom) : (s.setDom i d).logWr = s.logWr := rfl
@[simp] theorem setDom_outputs (i : Nat) (d : Dom) : (s.setDom i d).outputs = s.outputs := rfl
@[simp] theorem setDom_sil (i : Nat) (d : Dom) : (s.setDom i d).sil = s.sil := rfl
@[simp] theorem setDom_silLoss (i : Nat) (d : Dom) : (s.setDom i d).silLoss = s.silLoss := rfl
@[simp] theorem setDom_sessions (i : Nat) (d : Dom) : (s.setDom i d).sessions = s.sessions := rfl
@[simp] theorem setDom_lastAccess (i : Nat) (d : Dom) : (s.setDom i d).lastAccess = s.lastAccess := rfl
@[simp] theorem setDom_twCtx (i : Nat) (d : Dom) : (s.setDom i d).twCtx = s.twCtx := rfl
@[simp] theorem setDom_mbxSeq (i : Nat) (d : Dom) : (s.setDom i d).mbxSeq = s.mbxSeq := rfl
@[simp] theorem setDom_openWindows (i : Nat) (d : Dom) : (s.setDom i d).openWindows = s.openWindows := rfl
@[simp] theorem setDom_windowEnds (i : Nat) (d : Dom) : (s.setDom i d).windowEnds = s.windowEnds := rfl
@[simp] theorem setDom_cycleStart (i : Nat) (d : Dom) : (s.setDom i d).cycleStart = s.cycleStart := rfl
@[simp] theorem setDom_pressure (i : Nat) (d : Dom) : (s.setDom i d).pressure = s.pressure := rfl
@[simp] theorem setDom_flagWatch (i : Nat) (d : Dom) : (s.setDom i d).flagWatch = s.flagWatch := rfl
@[simp] theorem setDom_rsvNacked (i : Nat) (d : Dom) : (s.setDom i d).rsvNacked = s.rsvNacked := rfl
@[simp] theorem setDom_ladderOn (i : Nat) (d : Dom) : (s.setDom i d).ladderOn = s.ladderOn := rfl
@[simp] theorem setDom_ladder (i : Nat) (d : Dom) : (s.setDom i d).ladder = s.ladder := rfl
@[simp] theorem setDom_suspects (i : Nat) (d : Dom) : (s.setDom i d).suspects = s.suspects := rfl
@[simp] theorem setDom_console (i : Nat) (d : Dom) : (s.setDom i d).console = s.console := rfl
@[simp] theorem setDom_power (i : Nat) (d : Dom) : (s.setDom i d).power = s.power := rfl
@[simp] theorem setDom_freeCtr (i : Nat) (d : Dom) : (s.setDom i d).freeCtr = s.freeCtr := rfl

@[simp] theorem setDom_read_reg (i : Nat) (d : Dom) (q : RegName) (j : Nat) : (s.setDom i d).reg q j = s.reg q j := rfl
@[simp] theorem setDom_read_fld (i : Nat) (d : Dom) (F : Fld) (j : Nat) : (s.setDom i d).fld F j = s.fld F j := rfl
@[simp] theorem setDom_read_core (i : Nat) (d : Dom) (m t : Nat) : (s.setDom i d).core m t = s.core m t := rfl
@[simp] theorem setDom_read_cp (i : Nat) (d : Dom) (q : Nat) : (s.setDom i d).cp q = s.cp q := rfl
@[simp] theorem setDom_read_chan (i : Nat) (d : Dom) (y : Nat) : (s.setDom i d).chan y = s.chan y := rfl
@[simp] theorem setDom_read_port (i : Nat) (d : Dom) (j : Nat) : (s.setDom i d).port j = s.port j := rfl
@[simp] theorem setDom_read_fn (i : Nat) (d : Dom) (g : Nat) : (s.setDom i d).fn g = s.fn g := rfl
@[simp] theorem setDom_read_comp (i : Nat) (d : Dom) (j : Nat) : (s.setDom i d).comp j = s.comp j := rfl
@[simp] theorem setDom_read_byte (i : Nat) (d : Dom) (b : Nat) : (s.setDom i d).byte b = s.byte b := rfl

/-! ## `State.setCore` -/

@[simp] theorem setCore_pending (n r : Nat) (x : Res) : (s.setCore n r x).pending = s.pending := rfl
@[simp] theorem setCore_aon (n r : Nat) (x : Res) : (s.setCore n r x).aon = s.aon := rfl
@[simp] theorem setCore_regs (n r : Nat) (x : Res) : (s.setCore n r x).regs = s.regs := rfl
@[simp] theorem setCore_doms (n r : Nat) (x : Res) : (s.setCore n r x).doms = s.doms := rfl
@[simp] theorem setCore_mem (n r : Nat) (x : Res) : (s.setCore n r x).mem = s.mem := rfl
@[simp] theorem setCore_tags (n r : Nat) (x : Res) : (s.setCore n r x).tags = s.tags := rfl
@[simp] theorem setCore_poison (n r : Nat) (x : Res) : (s.setCore n r x).poison = s.poison := rfl
@[simp] theorem setCore_seals (n r : Nat) (x : Res) : (s.setCore n r x).seals = s.seals := rfl
@[simp] theorem setCore_metas (n r : Nat) (x : Res) : (s.setCore n r x).metas = s.metas := rfl
@[simp] theorem setCore_hostMem (n r : Nat) (x : Res) : (s.setCore n r x).hostMem = s.hostMem := rfl
@[simp] theorem setCore_zeroFills (n r : Nat) (x : Res) : (s.setCore n r x).zeroFills = s.zeroFills := rfl
@[simp] theorem setCore_outst (n r : Nat) (x : Res) : (s.setCore n r x).outst = s.outst := rfl
@[simp] theorem setCore_replies (n r : Nat) (x : Res) : (s.setCore n r x).replies = s.replies := rfl
@[simp] theorem setCore_stalls (n r : Nat) (x : Res) : (s.setCore n r x).stalls = s.stalls := rfl
@[simp] theorem setCore_nacked (n r : Nat) (x : Res) : (s.setCore n r x).nacked = s.nacked := rfl
@[simp] theorem setCore_heldAcc (n r : Nat) (x : Res) : (s.setCore n r x).heldAcc = s.heldAcc := rfl
@[simp] theorem setCore_coreOwner (n r : Nat) (x : Res) : (s.setCore n r x).coreOwner = s.coreOwner := rfl
@[simp] theorem setCore_coreReady (n r : Nat) (x : Res) : (s.setCore n r x).coreReady = s.coreReady := rfl
@[simp] theorem setCore_icache (n r : Nat) (x : Res) : (s.setCore n r x).icache = s.icache := rfl
@[simp] theorem setCore_accs (n r : Nat) (x : Res) : (s.setCore n r x).accs = s.accs := rfl
@[simp] theorem setCore_saved (n r : Nat) (x : Res) : (s.setCore n r x).saved = s.saved := rfl
@[simp] theorem setCore_launches (n r : Nat) (x : Res) : (s.setCore n r x).launches = s.launches := rfl
@[simp] theorem setCore_armed (n r : Nat) (x : Res) : (s.setCore n r x).armed = s.armed := rfl
@[simp] theorem setCore_suspended (n r : Nat) (x : Res) : (s.setCore n r x).suspended = s.suspended := rfl
@[simp] theorem setCore_cps (n r : Nat) (x : Res) : (s.setCore n r x).cps = s.cps := rfl
@[simp] theorem setCore_chans (n r : Nat) (x : Res) : (s.setCore n r x).chans = s.chans := rfl
@[simp] theorem setCore_chanOwner (n r : Nat) (x : Res) : (s.setCore n r x).chanOwner = s.chanOwner := rfl
@[simp] theorem setCore_watches (n r : Nat) (x : Res) : (s.setCore n r x).watches = s.watches := rfl
@[simp] theorem setCore_rsvNew (n r : Nat) (x : Res) : (s.setCore n r x).rsvNew = s.rsvNew := rfl
@[simp] theorem setCore_windowsJudged (n r : Nat) (x : Res) : (s.setCore n r x).windowsJudged = s.windowsJudged := rfl
@[simp] theorem setCore_indexSerial (n r : Nat) (x : Res) : (s.setCore n r x).indexSerial = s.indexSerial := rfl
@[simp] theorem setCore_idxLines (n r : Nat) (x : Res) : (s.setCore n r x).idxLines = s.idxLines := rfl
@[simp] theorem setCore_pulses (n r : Nat) (x : Res) : (s.setCore n r x).pulses = s.pulses := rfl
@[simp] theorem setCore_ledger (n r : Nat) (x : Res) : (s.setCore n r x).ledger = s.ledger := rfl
@[simp] theorem setCore_groupSeq (n r : Nat) (x : Res) : (s.setCore n r x).groupSeq = s.groupSeq := rfl
@[simp] theorem setCore_ledgerLost (n r : Nat) (x : Res) : (s.setCore n r x).ledgerLost = s.ledgerLost := rfl
@[simp] theorem setCore_remoteBuf (n r : Nat) (x : Res) : (s.setCore n r x).remoteBuf = s.remoteBuf := rfl
@[simp] theorem setCore_tx (n r : Nat) (x : Res) : (s.setCore n r x).tx = s.tx := rfl
@[simp] theorem setCore_ports (n r : Nat) (x : Res) : (s.setCore n r x).ports = s.ports := rfl
@[simp] theorem setCore_route (n r : Nat) (x : Res) : (s.setCore n r x).route = s.route := rfl
@[simp] theorem setCore_seamRetries (n r : Nat) (x : Res) : (s.setCore n r x).seamRetries = s.seamRetries := rfl
@[simp] theorem setCore_seamFails (n r : Nat) (x : Res) : (s.setCore n r x).seamFails = s.seamFails := rfl
@[simp] theorem setCore_seamFix (n r : Nat) (x : Res) : (s.setCore n r x).seamFix = s.seamFix := rfl
@[simp] theorem setCore_seamWakes (n r : Nat) (x : Res) : (s.setCore n r x).seamWakes = s.seamWakes := rfl
@[simp] theorem setCore_failing (n r : Nat) (x : Res) : (s.setCore n r x).failing = s.failing := rfl
@[simp] theorem setCore_vendorId (n r : Nat) (x : Res) : (s.setCore n r x).vendorId = s.vendorId := rfl
@[simp] theorem setCore_options (n r : Nat) (x : Res) : (s.setCore n r x).options = s.options := rfl
@[simp] theorem setCore_owdAux (n r : Nat) (x : Res) : (s.setCore n r x).owdAux = s.owdAux := rfl
@[simp] theorem setCore_tlbs (n r : Nat) (x : Res) : (s.setCore n r x).tlbs = s.tlbs := rfl
@[simp] theorem setCore_misses (n r : Nat) (x : Res) : (s.setCore n r x).misses = s.misses := rfl
@[simp] theorem setCore_nonLeafs (n r : Nat) (x : Res) : (s.setCore n r x).nonLeafs = s.nonLeafs := rfl
@[simp] theorem setCore_pinned (n r : Nat) (x : Res) : (s.setCore n r x).pinned = s.pinned := rfl
@[simp] theorem setCore_tables (n r : Nat) (x : Res) : (s.setCore n r x).tables = s.tables := rfl
@[simp] theorem setCore_invals (n r : Nat) (x : Res) : (s.setCore n r x).invals = s.invals := rfl
@[simp] theorem setCore_invalWait (n r : Nat) (x : Res) : (s.setCore n r x).invalWait = s.invalWait := rfl
@[simp] theorem setCore_dlogFilter (n r : Nat) (x : Res) : (s.setCore n r x).dlogFilter = s.dlogFilter := rfl
@[simp] theorem setCore_comps (n r : Nat) (x : Res) : (s.setCore n r x).comps = s.comps := rfl
@[simp] theorem setCore_partOwner (n r : Nat) (x : Res) : (s.setCore n r x).partOwner = s.partOwner := rfl
@[simp] theorem setCore_farOwner (n r : Nat) (x : Res) : (s.setCore n r x).farOwner = s.farOwner := rfl
@[simp] theorem setCore_mixers (n r : Nat) (x : Res) : (s.setCore n r x).mixers = s.mixers := rfl
@[simp] theorem setCore_ctxs (n r : Nat) (x : Res) : (s.setCore n r x).ctxs = s.ctxs := rfl
@[simp] theorem setCore_tagsUsed (n r : Nat) (x : Res) : (s.setCore n r x).tagsUsed = s.tagsUsed := rfl
@[simp] theorem setCore_queues (n r : Nat) (x : Res) : (s.setCore n r x).queues = s.queues := rfl
@[simp] theorem setCore_fences (n r : Nat) (x : Res) : (s.setCore n r x).fences = s.fences := rfl
@[simp] theorem setCore_fns (n r : Nat) (x : Res) : (s.setCore n r x).fns = s.fns := rfl
@[simp] theorem setCore_hosts (n r : Nat) (x : Res) : (s.setCore n r x).hosts = s.hosts := rfl
@[simp] theorem setCore_mailbox (n r : Nat) (x : Res) : (s.setCore n r x).mailbox = s.mailbox := rfl
@[simp] theorem setCore_slots (n r : Nat) (x : Res) : (s.setCore n r x).slots = s.slots := rfl
@[simp] theorem setCore_flacon (n r : Nat) (x : Res) : (s.setCore n r x).flacon = s.flacon := rfl
@[simp] theorem setCore_measures (n r : Nat) (x : Res) : (s.setCore n r x).measures = s.measures := rfl
@[simp] theorem setCore_retiring (n r : Nat) (x : Res) : (s.setCore n r x).retiring = s.retiring := rfl
@[simp] theorem setCore_scrubs (n r : Nat) (x : Res) : (s.setCore n r x).scrubs = s.scrubs := rfl
@[simp] theorem setCore_fwTarget (n r : Nat) (x : Res) : (s.setCore n r x).fwTarget = s.fwTarget := rfl
@[simp] theorem setCore_roles (n r : Nat) (x : Res) : (s.setCore n r x).roles = s.roles := rfl
@[simp] theorem setCore_twinWait (n r : Nat) (x : Res) : (s.setCore n r x).twinWait = s.twinWait := rfl
@[simp] theorem setCore_mirrorSeq (n r : Nat) (x : Res) : (s.setCore n r x).mirrorSeq = s.mirrorSeq := rfl
@[simp] theorem setCore_mirrorHeld (n r : Nat) (x : Res) : (s.setCore n r x).mirrorHeld = s.mirrorHeld := rfl
@[simp] theorem setCore_twinAckAt (n r : Nat) (x : Res) : (s.setCore n r x).twinAckAt = s.twinAckAt := rfl
@[simp] theorem setCore_twinLost (n r : Nat) (x : Res) : (s.setCore n r x).twinLost = s.twinLost := rfl
@[simp] theorem setCore_mirrorDrops (n r : Nat) (x : Res) : (s.setCore n r x).mirrorDrops = s.mirrorDrops := rfl
@[simp] theorem setCore_shadows (n r : Nat) (x : Res) : (s.setCore n r x).shadows = s.shadows := rfl
@[simp] theorem setCore_lastSliced (n r : Nat) (x : Res) : (s.setCore n r x).lastSliced = s.lastSliced := rfl
@[simp] theorem setCore_mbxOut (n r : Nat) (x : Res) : (s.setCore n r x).mbxOut = s.mbxOut := rfl
@[simp] theorem setCore_logWr (n r : Nat) (x : Res) : (s.setCore n r x).logWr = s.logWr := rfl
@[simp] theorem setCore_outputs (n r : Nat) (x : Res) : (s.setCore n r x).outputs = s.outputs := rfl
@[simp] theorem setCore_sil (n r : Nat) (x : Res) : (s.setCore n r x).sil = s.sil := rfl
@[simp] theorem setCore_silLoss (n r : Nat) (x : Res) : (s.setCore n r x).silLoss = s.silLoss := rfl
@[simp] theorem setCore_sessions (n r : Nat) (x : Res) : (s.setCore n r x).sessions = s.sessions := rfl
@[simp] theorem setCore_lastAccess (n r : Nat) (x : Res) : (s.setCore n r x).lastAccess = s.lastAccess := rfl
@[simp] theorem setCore_twCtx (n r : Nat) (x : Res) : (s.setCore n r x).twCtx = s.twCtx := rfl
@[simp] theorem setCore_mbxSeq (n r : Nat) (x : Res) : (s.setCore n r x).mbxSeq = s.mbxSeq := rfl
@[simp] theorem setCore_openWindows (n r : Nat) (x : Res) : (s.setCore n r x).openWindows = s.openWindows := rfl
@[simp] theorem setCore_windowEnds (n r : Nat) (x : Res) : (s.setCore n r x).windowEnds = s.windowEnds := rfl
@[simp] theorem setCore_cycleStart (n r : Nat) (x : Res) : (s.setCore n r x).cycleStart = s.cycleStart := rfl
@[simp] theorem setCore_pressure (n r : Nat) (x : Res) : (s.setCore n r x).pressure = s.pressure := rfl
@[simp] theorem setCore_flagWatch (n r : Nat) (x : Res) : (s.setCore n r x).flagWatch = s.flagWatch := rfl
@[simp] theorem setCore_rsvNacked (n r : Nat) (x : Res) : (s.setCore n r x).rsvNacked = s.rsvNacked := rfl
@[simp] theorem setCore_ladderOn (n r : Nat) (x : Res) : (s.setCore n r x).ladderOn = s.ladderOn := rfl
@[simp] theorem setCore_ladder (n r : Nat) (x : Res) : (s.setCore n r x).ladder = s.ladder := rfl
@[simp] theorem setCore_suspects (n r : Nat) (x : Res) : (s.setCore n r x).suspects = s.suspects := rfl
@[simp] theorem setCore_console (n r : Nat) (x : Res) : (s.setCore n r x).console = s.console := rfl
@[simp] theorem setCore_power (n r : Nat) (x : Res) : (s.setCore n r x).power = s.power := rfl
@[simp] theorem setCore_freeCtr (n r : Nat) (x : Res) : (s.setCore n r x).freeCtr = s.freeCtr := rfl

@[simp] theorem setCore_read_reg (n r : Nat) (x : Res) (q : RegName) (j : Nat) : (s.setCore n r x).reg q j = s.reg q j := rfl
@[simp] theorem setCore_read_fld (n r : Nat) (x : Res) (F : Fld) (j : Nat) : (s.setCore n r x).fld F j = s.fld F j := rfl
@[simp] theorem setCore_read_dom (n r : Nat) (x : Res) (j : Nat) : (s.setCore n r x).dom j = s.dom j := rfl
@[simp] theorem setCore_read_cp (n r : Nat) (x : Res) (q : Nat) : (s.setCore n r x).cp q = s.cp q := rfl
@[simp] theorem setCore_read_chan (n r : Nat) (x : Res) (y : Nat) : (s.setCore n r x).chan y = s.chan y := rfl
@[simp] theorem setCore_read_port (n r : Nat) (x : Res) (j : Nat) : (s.setCore n r x).port j = s.port j := rfl
@[simp] theorem setCore_read_fn (n r : Nat) (x : Res) (g : Nat) : (s.setCore n r x).fn g = s.fn g := rfl
@[simp] theorem setCore_read_comp (n r : Nat) (x : Res) (j : Nat) : (s.setCore n r x).comp j = s.comp j := rfl
@[simp] theorem setCore_read_byte (n r : Nat) (x : Res) (b : Nat) : (s.setCore n r x).byte b = s.byte b := rfl

/-! ## `State.setCp` -/

@[simp] theorem setCp_pending (p : Nat) (x : Cp) : (s.setCp p x).pending = s.pending := rfl
@[simp] theorem setCp_aon (p : Nat) (x : Cp) : (s.setCp p x).aon = s.aon := rfl
@[simp] theorem setCp_regs (p : Nat) (x : Cp) : (s.setCp p x).regs = s.regs := rfl
@[simp] theorem setCp_doms (p : Nat) (x : Cp) : (s.setCp p x).doms = s.doms := rfl
@[simp] theorem setCp_mem (p : Nat) (x : Cp) : (s.setCp p x).mem = s.mem := rfl
@[simp] theorem setCp_tags (p : Nat) (x : Cp) : (s.setCp p x).tags = s.tags := rfl
@[simp] theorem setCp_poison (p : Nat) (x : Cp) : (s.setCp p x).poison = s.poison := rfl
@[simp] theorem setCp_seals (p : Nat) (x : Cp) : (s.setCp p x).seals = s.seals := rfl
@[simp] theorem setCp_metas (p : Nat) (x : Cp) : (s.setCp p x).metas = s.metas := rfl
@[simp] theorem setCp_hostMem (p : Nat) (x : Cp) : (s.setCp p x).hostMem = s.hostMem := rfl
@[simp] theorem setCp_zeroFills (p : Nat) (x : Cp) : (s.setCp p x).zeroFills = s.zeroFills := rfl
@[simp] theorem setCp_outst (p : Nat) (x : Cp) : (s.setCp p x).outst = s.outst := rfl
@[simp] theorem setCp_replies (p : Nat) (x : Cp) : (s.setCp p x).replies = s.replies := rfl
@[simp] theorem setCp_stalls (p : Nat) (x : Cp) : (s.setCp p x).stalls = s.stalls := rfl
@[simp] theorem setCp_nacked (p : Nat) (x : Cp) : (s.setCp p x).nacked = s.nacked := rfl
@[simp] theorem setCp_heldAcc (p : Nat) (x : Cp) : (s.setCp p x).heldAcc = s.heldAcc := rfl
@[simp] theorem setCp_coreOwner (p : Nat) (x : Cp) : (s.setCp p x).coreOwner = s.coreOwner := rfl
@[simp] theorem setCp_coreReady (p : Nat) (x : Cp) : (s.setCp p x).coreReady = s.coreReady := rfl
@[simp] theorem setCp_icache (p : Nat) (x : Cp) : (s.setCp p x).icache = s.icache := rfl
@[simp] theorem setCp_res (p : Nat) (x : Cp) : (s.setCp p x).res = s.res := rfl
@[simp] theorem setCp_accs (p : Nat) (x : Cp) : (s.setCp p x).accs = s.accs := rfl
@[simp] theorem setCp_saved (p : Nat) (x : Cp) : (s.setCp p x).saved = s.saved := rfl
@[simp] theorem setCp_launches (p : Nat) (x : Cp) : (s.setCp p x).launches = s.launches := rfl
@[simp] theorem setCp_armed (p : Nat) (x : Cp) : (s.setCp p x).armed = s.armed := rfl
@[simp] theorem setCp_suspended (p : Nat) (x : Cp) : (s.setCp p x).suspended = s.suspended := rfl
@[simp] theorem setCp_chans (p : Nat) (x : Cp) : (s.setCp p x).chans = s.chans := rfl
@[simp] theorem setCp_chanOwner (p : Nat) (x : Cp) : (s.setCp p x).chanOwner = s.chanOwner := rfl
@[simp] theorem setCp_watches (p : Nat) (x : Cp) : (s.setCp p x).watches = s.watches := rfl
@[simp] theorem setCp_rsvNew (p : Nat) (x : Cp) : (s.setCp p x).rsvNew = s.rsvNew := rfl
@[simp] theorem setCp_windowsJudged (p : Nat) (x : Cp) : (s.setCp p x).windowsJudged = s.windowsJudged := rfl
@[simp] theorem setCp_indexSerial (p : Nat) (x : Cp) : (s.setCp p x).indexSerial = s.indexSerial := rfl
@[simp] theorem setCp_idxLines (p : Nat) (x : Cp) : (s.setCp p x).idxLines = s.idxLines := rfl
@[simp] theorem setCp_pulses (p : Nat) (x : Cp) : (s.setCp p x).pulses = s.pulses := rfl
@[simp] theorem setCp_ledger (p : Nat) (x : Cp) : (s.setCp p x).ledger = s.ledger := rfl
@[simp] theorem setCp_groupSeq (p : Nat) (x : Cp) : (s.setCp p x).groupSeq = s.groupSeq := rfl
@[simp] theorem setCp_ledgerLost (p : Nat) (x : Cp) : (s.setCp p x).ledgerLost = s.ledgerLost := rfl
@[simp] theorem setCp_remoteBuf (p : Nat) (x : Cp) : (s.setCp p x).remoteBuf = s.remoteBuf := rfl
@[simp] theorem setCp_tx (p : Nat) (x : Cp) : (s.setCp p x).tx = s.tx := rfl
@[simp] theorem setCp_ports (p : Nat) (x : Cp) : (s.setCp p x).ports = s.ports := rfl
@[simp] theorem setCp_route (p : Nat) (x : Cp) : (s.setCp p x).route = s.route := rfl
@[simp] theorem setCp_seamRetries (p : Nat) (x : Cp) : (s.setCp p x).seamRetries = s.seamRetries := rfl
@[simp] theorem setCp_seamFails (p : Nat) (x : Cp) : (s.setCp p x).seamFails = s.seamFails := rfl
@[simp] theorem setCp_seamFix (p : Nat) (x : Cp) : (s.setCp p x).seamFix = s.seamFix := rfl
@[simp] theorem setCp_seamWakes (p : Nat) (x : Cp) : (s.setCp p x).seamWakes = s.seamWakes := rfl
@[simp] theorem setCp_failing (p : Nat) (x : Cp) : (s.setCp p x).failing = s.failing := rfl
@[simp] theorem setCp_vendorId (p : Nat) (x : Cp) : (s.setCp p x).vendorId = s.vendorId := rfl
@[simp] theorem setCp_options (p : Nat) (x : Cp) : (s.setCp p x).options = s.options := rfl
@[simp] theorem setCp_owdAux (p : Nat) (x : Cp) : (s.setCp p x).owdAux = s.owdAux := rfl
@[simp] theorem setCp_tlbs (p : Nat) (x : Cp) : (s.setCp p x).tlbs = s.tlbs := rfl
@[simp] theorem setCp_misses (p : Nat) (x : Cp) : (s.setCp p x).misses = s.misses := rfl
@[simp] theorem setCp_nonLeafs (p : Nat) (x : Cp) : (s.setCp p x).nonLeafs = s.nonLeafs := rfl
@[simp] theorem setCp_pinned (p : Nat) (x : Cp) : (s.setCp p x).pinned = s.pinned := rfl
@[simp] theorem setCp_tables (p : Nat) (x : Cp) : (s.setCp p x).tables = s.tables := rfl
@[simp] theorem setCp_invals (p : Nat) (x : Cp) : (s.setCp p x).invals = s.invals := rfl
@[simp] theorem setCp_invalWait (p : Nat) (x : Cp) : (s.setCp p x).invalWait = s.invalWait := rfl
@[simp] theorem setCp_dlogFilter (p : Nat) (x : Cp) : (s.setCp p x).dlogFilter = s.dlogFilter := rfl
@[simp] theorem setCp_comps (p : Nat) (x : Cp) : (s.setCp p x).comps = s.comps := rfl
@[simp] theorem setCp_partOwner (p : Nat) (x : Cp) : (s.setCp p x).partOwner = s.partOwner := rfl
@[simp] theorem setCp_farOwner (p : Nat) (x : Cp) : (s.setCp p x).farOwner = s.farOwner := rfl
@[simp] theorem setCp_mixers (p : Nat) (x : Cp) : (s.setCp p x).mixers = s.mixers := rfl
@[simp] theorem setCp_ctxs (p : Nat) (x : Cp) : (s.setCp p x).ctxs = s.ctxs := rfl
@[simp] theorem setCp_tagsUsed (p : Nat) (x : Cp) : (s.setCp p x).tagsUsed = s.tagsUsed := rfl
@[simp] theorem setCp_queues (p : Nat) (x : Cp) : (s.setCp p x).queues = s.queues := rfl
@[simp] theorem setCp_fences (p : Nat) (x : Cp) : (s.setCp p x).fences = s.fences := rfl
@[simp] theorem setCp_fns (p : Nat) (x : Cp) : (s.setCp p x).fns = s.fns := rfl
@[simp] theorem setCp_hosts (p : Nat) (x : Cp) : (s.setCp p x).hosts = s.hosts := rfl
@[simp] theorem setCp_mailbox (p : Nat) (x : Cp) : (s.setCp p x).mailbox = s.mailbox := rfl
@[simp] theorem setCp_slots (p : Nat) (x : Cp) : (s.setCp p x).slots = s.slots := rfl
@[simp] theorem setCp_flacon (p : Nat) (x : Cp) : (s.setCp p x).flacon = s.flacon := rfl
@[simp] theorem setCp_measures (p : Nat) (x : Cp) : (s.setCp p x).measures = s.measures := rfl
@[simp] theorem setCp_retiring (p : Nat) (x : Cp) : (s.setCp p x).retiring = s.retiring := rfl
@[simp] theorem setCp_scrubs (p : Nat) (x : Cp) : (s.setCp p x).scrubs = s.scrubs := rfl
@[simp] theorem setCp_fwTarget (p : Nat) (x : Cp) : (s.setCp p x).fwTarget = s.fwTarget := rfl
@[simp] theorem setCp_roles (p : Nat) (x : Cp) : (s.setCp p x).roles = s.roles := rfl
@[simp] theorem setCp_twinWait (p : Nat) (x : Cp) : (s.setCp p x).twinWait = s.twinWait := rfl
@[simp] theorem setCp_mirrorSeq (p : Nat) (x : Cp) : (s.setCp p x).mirrorSeq = s.mirrorSeq := rfl
@[simp] theorem setCp_mirrorHeld (p : Nat) (x : Cp) : (s.setCp p x).mirrorHeld = s.mirrorHeld := rfl
@[simp] theorem setCp_twinAckAt (p : Nat) (x : Cp) : (s.setCp p x).twinAckAt = s.twinAckAt := rfl
@[simp] theorem setCp_twinLost (p : Nat) (x : Cp) : (s.setCp p x).twinLost = s.twinLost := rfl
@[simp] theorem setCp_mirrorDrops (p : Nat) (x : Cp) : (s.setCp p x).mirrorDrops = s.mirrorDrops := rfl
@[simp] theorem setCp_shadows (p : Nat) (x : Cp) : (s.setCp p x).shadows = s.shadows := rfl
@[simp] theorem setCp_lastSliced (p : Nat) (x : Cp) : (s.setCp p x).lastSliced = s.lastSliced := rfl
@[simp] theorem setCp_mbxOut (p : Nat) (x : Cp) : (s.setCp p x).mbxOut = s.mbxOut := rfl
@[simp] theorem setCp_logWr (p : Nat) (x : Cp) : (s.setCp p x).logWr = s.logWr := rfl
@[simp] theorem setCp_outputs (p : Nat) (x : Cp) : (s.setCp p x).outputs = s.outputs := rfl
@[simp] theorem setCp_sil (p : Nat) (x : Cp) : (s.setCp p x).sil = s.sil := rfl
@[simp] theorem setCp_silLoss (p : Nat) (x : Cp) : (s.setCp p x).silLoss = s.silLoss := rfl
@[simp] theorem setCp_sessions (p : Nat) (x : Cp) : (s.setCp p x).sessions = s.sessions := rfl
@[simp] theorem setCp_lastAccess (p : Nat) (x : Cp) : (s.setCp p x).lastAccess = s.lastAccess := rfl
@[simp] theorem setCp_twCtx (p : Nat) (x : Cp) : (s.setCp p x).twCtx = s.twCtx := rfl
@[simp] theorem setCp_mbxSeq (p : Nat) (x : Cp) : (s.setCp p x).mbxSeq = s.mbxSeq := rfl
@[simp] theorem setCp_openWindows (p : Nat) (x : Cp) : (s.setCp p x).openWindows = s.openWindows := rfl
@[simp] theorem setCp_windowEnds (p : Nat) (x : Cp) : (s.setCp p x).windowEnds = s.windowEnds := rfl
@[simp] theorem setCp_cycleStart (p : Nat) (x : Cp) : (s.setCp p x).cycleStart = s.cycleStart := rfl
@[simp] theorem setCp_pressure (p : Nat) (x : Cp) : (s.setCp p x).pressure = s.pressure := rfl
@[simp] theorem setCp_flagWatch (p : Nat) (x : Cp) : (s.setCp p x).flagWatch = s.flagWatch := rfl
@[simp] theorem setCp_rsvNacked (p : Nat) (x : Cp) : (s.setCp p x).rsvNacked = s.rsvNacked := rfl
@[simp] theorem setCp_ladderOn (p : Nat) (x : Cp) : (s.setCp p x).ladderOn = s.ladderOn := rfl
@[simp] theorem setCp_ladder (p : Nat) (x : Cp) : (s.setCp p x).ladder = s.ladder := rfl
@[simp] theorem setCp_suspects (p : Nat) (x : Cp) : (s.setCp p x).suspects = s.suspects := rfl
@[simp] theorem setCp_console (p : Nat) (x : Cp) : (s.setCp p x).console = s.console := rfl
@[simp] theorem setCp_power (p : Nat) (x : Cp) : (s.setCp p x).power = s.power := rfl
@[simp] theorem setCp_freeCtr (p : Nat) (x : Cp) : (s.setCp p x).freeCtr = s.freeCtr := rfl

@[simp] theorem setCp_read_reg (p : Nat) (x : Cp) (q : RegName) (j : Nat) : (s.setCp p x).reg q j = s.reg q j := rfl
@[simp] theorem setCp_read_fld (p : Nat) (x : Cp) (F : Fld) (j : Nat) : (s.setCp p x).fld F j = s.fld F j := rfl
@[simp] theorem setCp_read_dom (p : Nat) (x : Cp) (j : Nat) : (s.setCp p x).dom j = s.dom j := rfl
@[simp] theorem setCp_read_core (p : Nat) (x : Cp) (m t : Nat) : (s.setCp p x).core m t = s.core m t := rfl
@[simp] theorem setCp_read_chan (p : Nat) (x : Cp) (y : Nat) : (s.setCp p x).chan y = s.chan y := rfl
@[simp] theorem setCp_read_port (p : Nat) (x : Cp) (j : Nat) : (s.setCp p x).port j = s.port j := rfl
@[simp] theorem setCp_read_fn (p : Nat) (x : Cp) (g : Nat) : (s.setCp p x).fn g = s.fn g := rfl
@[simp] theorem setCp_read_comp (p : Nat) (x : Cp) (j : Nat) : (s.setCp p x).comp j = s.comp j := rfl
@[simp] theorem setCp_read_byte (p : Nat) (x : Cp) (b : Nat) : (s.setCp p x).byte b = s.byte b := rfl

/-! ## `State.setChan` -/

@[simp] theorem setChan_pending (x : Nat) (c : DmaCh) : (s.setChan x c).pending = s.pending := rfl
@[simp] theorem setChan_aon (x : Nat) (c : DmaCh) : (s.setChan x c).aon = s.aon := rfl
@[simp] theorem setChan_regs (x : Nat) (c : DmaCh) : (s.setChan x c).regs = s.regs := rfl
@[simp] theorem setChan_doms (x : Nat) (c : DmaCh) : (s.setChan x c).doms = s.doms := rfl
@[simp] theorem setChan_mem (x : Nat) (c : DmaCh) : (s.setChan x c).mem = s.mem := rfl
@[simp] theorem setChan_tags (x : Nat) (c : DmaCh) : (s.setChan x c).tags = s.tags := rfl
@[simp] theorem setChan_poison (x : Nat) (c : DmaCh) : (s.setChan x c).poison = s.poison := rfl
@[simp] theorem setChan_seals (x : Nat) (c : DmaCh) : (s.setChan x c).seals = s.seals := rfl
@[simp] theorem setChan_metas (x : Nat) (c : DmaCh) : (s.setChan x c).metas = s.metas := rfl
@[simp] theorem setChan_hostMem (x : Nat) (c : DmaCh) : (s.setChan x c).hostMem = s.hostMem := rfl
@[simp] theorem setChan_zeroFills (x : Nat) (c : DmaCh) : (s.setChan x c).zeroFills = s.zeroFills := rfl
@[simp] theorem setChan_outst (x : Nat) (c : DmaCh) : (s.setChan x c).outst = s.outst := rfl
@[simp] theorem setChan_replies (x : Nat) (c : DmaCh) : (s.setChan x c).replies = s.replies := rfl
@[simp] theorem setChan_stalls (x : Nat) (c : DmaCh) : (s.setChan x c).stalls = s.stalls := rfl
@[simp] theorem setChan_nacked (x : Nat) (c : DmaCh) : (s.setChan x c).nacked = s.nacked := rfl
@[simp] theorem setChan_heldAcc (x : Nat) (c : DmaCh) : (s.setChan x c).heldAcc = s.heldAcc := rfl
@[simp] theorem setChan_coreOwner (x : Nat) (c : DmaCh) : (s.setChan x c).coreOwner = s.coreOwner := rfl
@[simp] theorem setChan_coreReady (x : Nat) (c : DmaCh) : (s.setChan x c).coreReady = s.coreReady := rfl
@[simp] theorem setChan_icache (x : Nat) (c : DmaCh) : (s.setChan x c).icache = s.icache := rfl
@[simp] theorem setChan_res (x : Nat) (c : DmaCh) : (s.setChan x c).res = s.res := rfl
@[simp] theorem setChan_accs (x : Nat) (c : DmaCh) : (s.setChan x c).accs = s.accs := rfl
@[simp] theorem setChan_saved (x : Nat) (c : DmaCh) : (s.setChan x c).saved = s.saved := rfl
@[simp] theorem setChan_launches (x : Nat) (c : DmaCh) : (s.setChan x c).launches = s.launches := rfl
@[simp] theorem setChan_armed (x : Nat) (c : DmaCh) : (s.setChan x c).armed = s.armed := rfl
@[simp] theorem setChan_suspended (x : Nat) (c : DmaCh) : (s.setChan x c).suspended = s.suspended := rfl
@[simp] theorem setChan_cps (x : Nat) (c : DmaCh) : (s.setChan x c).cps = s.cps := rfl
@[simp] theorem setChan_chanOwner (x : Nat) (c : DmaCh) : (s.setChan x c).chanOwner = s.chanOwner := rfl
@[simp] theorem setChan_watches (x : Nat) (c : DmaCh) : (s.setChan x c).watches = s.watches := rfl
@[simp] theorem setChan_rsvNew (x : Nat) (c : DmaCh) : (s.setChan x c).rsvNew = s.rsvNew := rfl
@[simp] theorem setChan_windowsJudged (x : Nat) (c : DmaCh) : (s.setChan x c).windowsJudged = s.windowsJudged := rfl
@[simp] theorem setChan_indexSerial (x : Nat) (c : DmaCh) : (s.setChan x c).indexSerial = s.indexSerial := rfl
@[simp] theorem setChan_idxLines (x : Nat) (c : DmaCh) : (s.setChan x c).idxLines = s.idxLines := rfl
@[simp] theorem setChan_pulses (x : Nat) (c : DmaCh) : (s.setChan x c).pulses = s.pulses := rfl
@[simp] theorem setChan_ledger (x : Nat) (c : DmaCh) : (s.setChan x c).ledger = s.ledger := rfl
@[simp] theorem setChan_groupSeq (x : Nat) (c : DmaCh) : (s.setChan x c).groupSeq = s.groupSeq := rfl
@[simp] theorem setChan_ledgerLost (x : Nat) (c : DmaCh) : (s.setChan x c).ledgerLost = s.ledgerLost := rfl
@[simp] theorem setChan_remoteBuf (x : Nat) (c : DmaCh) : (s.setChan x c).remoteBuf = s.remoteBuf := rfl
@[simp] theorem setChan_tx (x : Nat) (c : DmaCh) : (s.setChan x c).tx = s.tx := rfl
@[simp] theorem setChan_ports (x : Nat) (c : DmaCh) : (s.setChan x c).ports = s.ports := rfl
@[simp] theorem setChan_route (x : Nat) (c : DmaCh) : (s.setChan x c).route = s.route := rfl
@[simp] theorem setChan_seamRetries (x : Nat) (c : DmaCh) : (s.setChan x c).seamRetries = s.seamRetries := rfl
@[simp] theorem setChan_seamFails (x : Nat) (c : DmaCh) : (s.setChan x c).seamFails = s.seamFails := rfl
@[simp] theorem setChan_seamFix (x : Nat) (c : DmaCh) : (s.setChan x c).seamFix = s.seamFix := rfl
@[simp] theorem setChan_seamWakes (x : Nat) (c : DmaCh) : (s.setChan x c).seamWakes = s.seamWakes := rfl
@[simp] theorem setChan_failing (x : Nat) (c : DmaCh) : (s.setChan x c).failing = s.failing := rfl
@[simp] theorem setChan_vendorId (x : Nat) (c : DmaCh) : (s.setChan x c).vendorId = s.vendorId := rfl
@[simp] theorem setChan_options (x : Nat) (c : DmaCh) : (s.setChan x c).options = s.options := rfl
@[simp] theorem setChan_owdAux (x : Nat) (c : DmaCh) : (s.setChan x c).owdAux = s.owdAux := rfl
@[simp] theorem setChan_tlbs (x : Nat) (c : DmaCh) : (s.setChan x c).tlbs = s.tlbs := rfl
@[simp] theorem setChan_misses (x : Nat) (c : DmaCh) : (s.setChan x c).misses = s.misses := rfl
@[simp] theorem setChan_nonLeafs (x : Nat) (c : DmaCh) : (s.setChan x c).nonLeafs = s.nonLeafs := rfl
@[simp] theorem setChan_pinned (x : Nat) (c : DmaCh) : (s.setChan x c).pinned = s.pinned := rfl
@[simp] theorem setChan_tables (x : Nat) (c : DmaCh) : (s.setChan x c).tables = s.tables := rfl
@[simp] theorem setChan_invals (x : Nat) (c : DmaCh) : (s.setChan x c).invals = s.invals := rfl
@[simp] theorem setChan_invalWait (x : Nat) (c : DmaCh) : (s.setChan x c).invalWait = s.invalWait := rfl
@[simp] theorem setChan_dlogFilter (x : Nat) (c : DmaCh) : (s.setChan x c).dlogFilter = s.dlogFilter := rfl
@[simp] theorem setChan_comps (x : Nat) (c : DmaCh) : (s.setChan x c).comps = s.comps := rfl
@[simp] theorem setChan_partOwner (x : Nat) (c : DmaCh) : (s.setChan x c).partOwner = s.partOwner := rfl
@[simp] theorem setChan_farOwner (x : Nat) (c : DmaCh) : (s.setChan x c).farOwner = s.farOwner := rfl
@[simp] theorem setChan_mixers (x : Nat) (c : DmaCh) : (s.setChan x c).mixers = s.mixers := rfl
@[simp] theorem setChan_ctxs (x : Nat) (c : DmaCh) : (s.setChan x c).ctxs = s.ctxs := rfl
@[simp] theorem setChan_tagsUsed (x : Nat) (c : DmaCh) : (s.setChan x c).tagsUsed = s.tagsUsed := rfl
@[simp] theorem setChan_queues (x : Nat) (c : DmaCh) : (s.setChan x c).queues = s.queues := rfl
@[simp] theorem setChan_fences (x : Nat) (c : DmaCh) : (s.setChan x c).fences = s.fences := rfl
@[simp] theorem setChan_fns (x : Nat) (c : DmaCh) : (s.setChan x c).fns = s.fns := rfl
@[simp] theorem setChan_hosts (x : Nat) (c : DmaCh) : (s.setChan x c).hosts = s.hosts := rfl
@[simp] theorem setChan_mailbox (x : Nat) (c : DmaCh) : (s.setChan x c).mailbox = s.mailbox := rfl
@[simp] theorem setChan_slots (x : Nat) (c : DmaCh) : (s.setChan x c).slots = s.slots := rfl
@[simp] theorem setChan_flacon (x : Nat) (c : DmaCh) : (s.setChan x c).flacon = s.flacon := rfl
@[simp] theorem setChan_measures (x : Nat) (c : DmaCh) : (s.setChan x c).measures = s.measures := rfl
@[simp] theorem setChan_retiring (x : Nat) (c : DmaCh) : (s.setChan x c).retiring = s.retiring := rfl
@[simp] theorem setChan_scrubs (x : Nat) (c : DmaCh) : (s.setChan x c).scrubs = s.scrubs := rfl
@[simp] theorem setChan_fwTarget (x : Nat) (c : DmaCh) : (s.setChan x c).fwTarget = s.fwTarget := rfl
@[simp] theorem setChan_roles (x : Nat) (c : DmaCh) : (s.setChan x c).roles = s.roles := rfl
@[simp] theorem setChan_twinWait (x : Nat) (c : DmaCh) : (s.setChan x c).twinWait = s.twinWait := rfl
@[simp] theorem setChan_mirrorSeq (x : Nat) (c : DmaCh) : (s.setChan x c).mirrorSeq = s.mirrorSeq := rfl
@[simp] theorem setChan_mirrorHeld (x : Nat) (c : DmaCh) : (s.setChan x c).mirrorHeld = s.mirrorHeld := rfl
@[simp] theorem setChan_twinAckAt (x : Nat) (c : DmaCh) : (s.setChan x c).twinAckAt = s.twinAckAt := rfl
@[simp] theorem setChan_twinLost (x : Nat) (c : DmaCh) : (s.setChan x c).twinLost = s.twinLost := rfl
@[simp] theorem setChan_mirrorDrops (x : Nat) (c : DmaCh) : (s.setChan x c).mirrorDrops = s.mirrorDrops := rfl
@[simp] theorem setChan_shadows (x : Nat) (c : DmaCh) : (s.setChan x c).shadows = s.shadows := rfl
@[simp] theorem setChan_lastSliced (x : Nat) (c : DmaCh) : (s.setChan x c).lastSliced = s.lastSliced := rfl
@[simp] theorem setChan_mbxOut (x : Nat) (c : DmaCh) : (s.setChan x c).mbxOut = s.mbxOut := rfl
@[simp] theorem setChan_logWr (x : Nat) (c : DmaCh) : (s.setChan x c).logWr = s.logWr := rfl
@[simp] theorem setChan_outputs (x : Nat) (c : DmaCh) : (s.setChan x c).outputs = s.outputs := rfl
@[simp] theorem setChan_sil (x : Nat) (c : DmaCh) : (s.setChan x c).sil = s.sil := rfl
@[simp] theorem setChan_silLoss (x : Nat) (c : DmaCh) : (s.setChan x c).silLoss = s.silLoss := rfl
@[simp] theorem setChan_sessions (x : Nat) (c : DmaCh) : (s.setChan x c).sessions = s.sessions := rfl
@[simp] theorem setChan_lastAccess (x : Nat) (c : DmaCh) : (s.setChan x c).lastAccess = s.lastAccess := rfl
@[simp] theorem setChan_twCtx (x : Nat) (c : DmaCh) : (s.setChan x c).twCtx = s.twCtx := rfl
@[simp] theorem setChan_mbxSeq (x : Nat) (c : DmaCh) : (s.setChan x c).mbxSeq = s.mbxSeq := rfl
@[simp] theorem setChan_openWindows (x : Nat) (c : DmaCh) : (s.setChan x c).openWindows = s.openWindows := rfl
@[simp] theorem setChan_windowEnds (x : Nat) (c : DmaCh) : (s.setChan x c).windowEnds = s.windowEnds := rfl
@[simp] theorem setChan_cycleStart (x : Nat) (c : DmaCh) : (s.setChan x c).cycleStart = s.cycleStart := rfl
@[simp] theorem setChan_pressure (x : Nat) (c : DmaCh) : (s.setChan x c).pressure = s.pressure := rfl
@[simp] theorem setChan_flagWatch (x : Nat) (c : DmaCh) : (s.setChan x c).flagWatch = s.flagWatch := rfl
@[simp] theorem setChan_rsvNacked (x : Nat) (c : DmaCh) : (s.setChan x c).rsvNacked = s.rsvNacked := rfl
@[simp] theorem setChan_ladderOn (x : Nat) (c : DmaCh) : (s.setChan x c).ladderOn = s.ladderOn := rfl
@[simp] theorem setChan_ladder (x : Nat) (c : DmaCh) : (s.setChan x c).ladder = s.ladder := rfl
@[simp] theorem setChan_suspects (x : Nat) (c : DmaCh) : (s.setChan x c).suspects = s.suspects := rfl
@[simp] theorem setChan_console (x : Nat) (c : DmaCh) : (s.setChan x c).console = s.console := rfl
@[simp] theorem setChan_power (x : Nat) (c : DmaCh) : (s.setChan x c).power = s.power := rfl
@[simp] theorem setChan_freeCtr (x : Nat) (c : DmaCh) : (s.setChan x c).freeCtr = s.freeCtr := rfl

@[simp] theorem setChan_read_reg (x : Nat) (c : DmaCh) (q : RegName) (j : Nat) : (s.setChan x c).reg q j = s.reg q j := rfl
@[simp] theorem setChan_read_fld (x : Nat) (c : DmaCh) (F : Fld) (j : Nat) : (s.setChan x c).fld F j = s.fld F j := rfl
@[simp] theorem setChan_read_dom (x : Nat) (c : DmaCh) (j : Nat) : (s.setChan x c).dom j = s.dom j := rfl
@[simp] theorem setChan_read_core (x : Nat) (c : DmaCh) (m t : Nat) : (s.setChan x c).core m t = s.core m t := rfl
@[simp] theorem setChan_read_cp (x : Nat) (c : DmaCh) (q : Nat) : (s.setChan x c).cp q = s.cp q := rfl
@[simp] theorem setChan_read_port (x : Nat) (c : DmaCh) (j : Nat) : (s.setChan x c).port j = s.port j := rfl
@[simp] theorem setChan_read_fn (x : Nat) (c : DmaCh) (g : Nat) : (s.setChan x c).fn g = s.fn g := rfl
@[simp] theorem setChan_read_comp (x : Nat) (c : DmaCh) (j : Nat) : (s.setChan x c).comp j = s.comp j := rfl
@[simp] theorem setChan_read_byte (x : Nat) (c : DmaCh) (b : Nat) : (s.setChan x c).byte b = s.byte b := rfl

/-! ## `State.setPort` -/

@[simp] theorem setPort_pending (k : Nat) (p : Port) : (s.setPort k p).pending = s.pending := rfl
@[simp] theorem setPort_aon (k : Nat) (p : Port) : (s.setPort k p).aon = s.aon := rfl
@[simp] theorem setPort_regs (k : Nat) (p : Port) : (s.setPort k p).regs = s.regs := rfl
@[simp] theorem setPort_doms (k : Nat) (p : Port) : (s.setPort k p).doms = s.doms := rfl
@[simp] theorem setPort_mem (k : Nat) (p : Port) : (s.setPort k p).mem = s.mem := rfl
@[simp] theorem setPort_tags (k : Nat) (p : Port) : (s.setPort k p).tags = s.tags := rfl
@[simp] theorem setPort_poison (k : Nat) (p : Port) : (s.setPort k p).poison = s.poison := rfl
@[simp] theorem setPort_seals (k : Nat) (p : Port) : (s.setPort k p).seals = s.seals := rfl
@[simp] theorem setPort_metas (k : Nat) (p : Port) : (s.setPort k p).metas = s.metas := rfl
@[simp] theorem setPort_hostMem (k : Nat) (p : Port) : (s.setPort k p).hostMem = s.hostMem := rfl
@[simp] theorem setPort_zeroFills (k : Nat) (p : Port) : (s.setPort k p).zeroFills = s.zeroFills := rfl
@[simp] theorem setPort_outst (k : Nat) (p : Port) : (s.setPort k p).outst = s.outst := rfl
@[simp] theorem setPort_replies (k : Nat) (p : Port) : (s.setPort k p).replies = s.replies := rfl
@[simp] theorem setPort_stalls (k : Nat) (p : Port) : (s.setPort k p).stalls = s.stalls := rfl
@[simp] theorem setPort_nacked (k : Nat) (p : Port) : (s.setPort k p).nacked = s.nacked := rfl
@[simp] theorem setPort_heldAcc (k : Nat) (p : Port) : (s.setPort k p).heldAcc = s.heldAcc := rfl
@[simp] theorem setPort_coreOwner (k : Nat) (p : Port) : (s.setPort k p).coreOwner = s.coreOwner := rfl
@[simp] theorem setPort_coreReady (k : Nat) (p : Port) : (s.setPort k p).coreReady = s.coreReady := rfl
@[simp] theorem setPort_icache (k : Nat) (p : Port) : (s.setPort k p).icache = s.icache := rfl
@[simp] theorem setPort_res (k : Nat) (p : Port) : (s.setPort k p).res = s.res := rfl
@[simp] theorem setPort_accs (k : Nat) (p : Port) : (s.setPort k p).accs = s.accs := rfl
@[simp] theorem setPort_saved (k : Nat) (p : Port) : (s.setPort k p).saved = s.saved := rfl
@[simp] theorem setPort_launches (k : Nat) (p : Port) : (s.setPort k p).launches = s.launches := rfl
@[simp] theorem setPort_armed (k : Nat) (p : Port) : (s.setPort k p).armed = s.armed := rfl
@[simp] theorem setPort_suspended (k : Nat) (p : Port) : (s.setPort k p).suspended = s.suspended := rfl
@[simp] theorem setPort_cps (k : Nat) (p : Port) : (s.setPort k p).cps = s.cps := rfl
@[simp] theorem setPort_chans (k : Nat) (p : Port) : (s.setPort k p).chans = s.chans := rfl
@[simp] theorem setPort_chanOwner (k : Nat) (p : Port) : (s.setPort k p).chanOwner = s.chanOwner := rfl
@[simp] theorem setPort_watches (k : Nat) (p : Port) : (s.setPort k p).watches = s.watches := rfl
@[simp] theorem setPort_rsvNew (k : Nat) (p : Port) : (s.setPort k p).rsvNew = s.rsvNew := rfl
@[simp] theorem setPort_windowsJudged (k : Nat) (p : Port) : (s.setPort k p).windowsJudged = s.windowsJudged := rfl
@[simp] theorem setPort_indexSerial (k : Nat) (p : Port) : (s.setPort k p).indexSerial = s.indexSerial := rfl
@[simp] theorem setPort_idxLines (k : Nat) (p : Port) : (s.setPort k p).idxLines = s.idxLines := rfl
@[simp] theorem setPort_pulses (k : Nat) (p : Port) : (s.setPort k p).pulses = s.pulses := rfl
@[simp] theorem setPort_ledger (k : Nat) (p : Port) : (s.setPort k p).ledger = s.ledger := rfl
@[simp] theorem setPort_groupSeq (k : Nat) (p : Port) : (s.setPort k p).groupSeq = s.groupSeq := rfl
@[simp] theorem setPort_ledgerLost (k : Nat) (p : Port) : (s.setPort k p).ledgerLost = s.ledgerLost := rfl
@[simp] theorem setPort_remoteBuf (k : Nat) (p : Port) : (s.setPort k p).remoteBuf = s.remoteBuf := rfl
@[simp] theorem setPort_tx (k : Nat) (p : Port) : (s.setPort k p).tx = s.tx := rfl
@[simp] theorem setPort_route (k : Nat) (p : Port) : (s.setPort k p).route = s.route := rfl
@[simp] theorem setPort_seamRetries (k : Nat) (p : Port) : (s.setPort k p).seamRetries = s.seamRetries := rfl
@[simp] theorem setPort_seamFails (k : Nat) (p : Port) : (s.setPort k p).seamFails = s.seamFails := rfl
@[simp] theorem setPort_seamFix (k : Nat) (p : Port) : (s.setPort k p).seamFix = s.seamFix := rfl
@[simp] theorem setPort_seamWakes (k : Nat) (p : Port) : (s.setPort k p).seamWakes = s.seamWakes := rfl
@[simp] theorem setPort_failing (k : Nat) (p : Port) : (s.setPort k p).failing = s.failing := rfl
@[simp] theorem setPort_vendorId (k : Nat) (p : Port) : (s.setPort k p).vendorId = s.vendorId := rfl
@[simp] theorem setPort_options (k : Nat) (p : Port) : (s.setPort k p).options = s.options := rfl
@[simp] theorem setPort_owdAux (k : Nat) (p : Port) : (s.setPort k p).owdAux = s.owdAux := rfl
@[simp] theorem setPort_tlbs (k : Nat) (p : Port) : (s.setPort k p).tlbs = s.tlbs := rfl
@[simp] theorem setPort_misses (k : Nat) (p : Port) : (s.setPort k p).misses = s.misses := rfl
@[simp] theorem setPort_nonLeafs (k : Nat) (p : Port) : (s.setPort k p).nonLeafs = s.nonLeafs := rfl
@[simp] theorem setPort_pinned (k : Nat) (p : Port) : (s.setPort k p).pinned = s.pinned := rfl
@[simp] theorem setPort_tables (k : Nat) (p : Port) : (s.setPort k p).tables = s.tables := rfl
@[simp] theorem setPort_invals (k : Nat) (p : Port) : (s.setPort k p).invals = s.invals := rfl
@[simp] theorem setPort_invalWait (k : Nat) (p : Port) : (s.setPort k p).invalWait = s.invalWait := rfl
@[simp] theorem setPort_dlogFilter (k : Nat) (p : Port) : (s.setPort k p).dlogFilter = s.dlogFilter := rfl
@[simp] theorem setPort_comps (k : Nat) (p : Port) : (s.setPort k p).comps = s.comps := rfl
@[simp] theorem setPort_partOwner (k : Nat) (p : Port) : (s.setPort k p).partOwner = s.partOwner := rfl
@[simp] theorem setPort_farOwner (k : Nat) (p : Port) : (s.setPort k p).farOwner = s.farOwner := rfl
@[simp] theorem setPort_mixers (k : Nat) (p : Port) : (s.setPort k p).mixers = s.mixers := rfl
@[simp] theorem setPort_ctxs (k : Nat) (p : Port) : (s.setPort k p).ctxs = s.ctxs := rfl
@[simp] theorem setPort_tagsUsed (k : Nat) (p : Port) : (s.setPort k p).tagsUsed = s.tagsUsed := rfl
@[simp] theorem setPort_queues (k : Nat) (p : Port) : (s.setPort k p).queues = s.queues := rfl
@[simp] theorem setPort_fences (k : Nat) (p : Port) : (s.setPort k p).fences = s.fences := rfl
@[simp] theorem setPort_fns (k : Nat) (p : Port) : (s.setPort k p).fns = s.fns := rfl
@[simp] theorem setPort_hosts (k : Nat) (p : Port) : (s.setPort k p).hosts = s.hosts := rfl
@[simp] theorem setPort_mailbox (k : Nat) (p : Port) : (s.setPort k p).mailbox = s.mailbox := rfl
@[simp] theorem setPort_slots (k : Nat) (p : Port) : (s.setPort k p).slots = s.slots := rfl
@[simp] theorem setPort_flacon (k : Nat) (p : Port) : (s.setPort k p).flacon = s.flacon := rfl
@[simp] theorem setPort_measures (k : Nat) (p : Port) : (s.setPort k p).measures = s.measures := rfl
@[simp] theorem setPort_retiring (k : Nat) (p : Port) : (s.setPort k p).retiring = s.retiring := rfl
@[simp] theorem setPort_scrubs (k : Nat) (p : Port) : (s.setPort k p).scrubs = s.scrubs := rfl
@[simp] theorem setPort_fwTarget (k : Nat) (p : Port) : (s.setPort k p).fwTarget = s.fwTarget := rfl
@[simp] theorem setPort_roles (k : Nat) (p : Port) : (s.setPort k p).roles = s.roles := rfl
@[simp] theorem setPort_twinWait (k : Nat) (p : Port) : (s.setPort k p).twinWait = s.twinWait := rfl
@[simp] theorem setPort_mirrorSeq (k : Nat) (p : Port) : (s.setPort k p).mirrorSeq = s.mirrorSeq := rfl
@[simp] theorem setPort_mirrorHeld (k : Nat) (p : Port) : (s.setPort k p).mirrorHeld = s.mirrorHeld := rfl
@[simp] theorem setPort_twinAckAt (k : Nat) (p : Port) : (s.setPort k p).twinAckAt = s.twinAckAt := rfl
@[simp] theorem setPort_twinLost (k : Nat) (p : Port) : (s.setPort k p).twinLost = s.twinLost := rfl
@[simp] theorem setPort_mirrorDrops (k : Nat) (p : Port) : (s.setPort k p).mirrorDrops = s.mirrorDrops := rfl
@[simp] theorem setPort_shadows (k : Nat) (p : Port) : (s.setPort k p).shadows = s.shadows := rfl
@[simp] theorem setPort_lastSliced (k : Nat) (p : Port) : (s.setPort k p).lastSliced = s.lastSliced := rfl
@[simp] theorem setPort_mbxOut (k : Nat) (p : Port) : (s.setPort k p).mbxOut = s.mbxOut := rfl
@[simp] theorem setPort_logWr (k : Nat) (p : Port) : (s.setPort k p).logWr = s.logWr := rfl
@[simp] theorem setPort_outputs (k : Nat) (p : Port) : (s.setPort k p).outputs = s.outputs := rfl
@[simp] theorem setPort_sil (k : Nat) (p : Port) : (s.setPort k p).sil = s.sil := rfl
@[simp] theorem setPort_silLoss (k : Nat) (p : Port) : (s.setPort k p).silLoss = s.silLoss := rfl
@[simp] theorem setPort_sessions (k : Nat) (p : Port) : (s.setPort k p).sessions = s.sessions := rfl
@[simp] theorem setPort_lastAccess (k : Nat) (p : Port) : (s.setPort k p).lastAccess = s.lastAccess := rfl
@[simp] theorem setPort_twCtx (k : Nat) (p : Port) : (s.setPort k p).twCtx = s.twCtx := rfl
@[simp] theorem setPort_mbxSeq (k : Nat) (p : Port) : (s.setPort k p).mbxSeq = s.mbxSeq := rfl
@[simp] theorem setPort_openWindows (k : Nat) (p : Port) : (s.setPort k p).openWindows = s.openWindows := rfl
@[simp] theorem setPort_windowEnds (k : Nat) (p : Port) : (s.setPort k p).windowEnds = s.windowEnds := rfl
@[simp] theorem setPort_cycleStart (k : Nat) (p : Port) : (s.setPort k p).cycleStart = s.cycleStart := rfl
@[simp] theorem setPort_pressure (k : Nat) (p : Port) : (s.setPort k p).pressure = s.pressure := rfl
@[simp] theorem setPort_flagWatch (k : Nat) (p : Port) : (s.setPort k p).flagWatch = s.flagWatch := rfl
@[simp] theorem setPort_rsvNacked (k : Nat) (p : Port) : (s.setPort k p).rsvNacked = s.rsvNacked := rfl
@[simp] theorem setPort_ladderOn (k : Nat) (p : Port) : (s.setPort k p).ladderOn = s.ladderOn := rfl
@[simp] theorem setPort_ladder (k : Nat) (p : Port) : (s.setPort k p).ladder = s.ladder := rfl
@[simp] theorem setPort_suspects (k : Nat) (p : Port) : (s.setPort k p).suspects = s.suspects := rfl
@[simp] theorem setPort_console (k : Nat) (p : Port) : (s.setPort k p).console = s.console := rfl
@[simp] theorem setPort_power (k : Nat) (p : Port) : (s.setPort k p).power = s.power := rfl
@[simp] theorem setPort_freeCtr (k : Nat) (p : Port) : (s.setPort k p).freeCtr = s.freeCtr := rfl

@[simp] theorem setPort_read_reg (k : Nat) (p : Port) (q : RegName) (j : Nat) : (s.setPort k p).reg q j = s.reg q j := rfl
@[simp] theorem setPort_read_fld (k : Nat) (p : Port) (F : Fld) (j : Nat) : (s.setPort k p).fld F j = s.fld F j := rfl
@[simp] theorem setPort_read_dom (k : Nat) (p : Port) (j : Nat) : (s.setPort k p).dom j = s.dom j := rfl
@[simp] theorem setPort_read_core (k : Nat) (p : Port) (m t : Nat) : (s.setPort k p).core m t = s.core m t := rfl
@[simp] theorem setPort_read_cp (k : Nat) (p : Port) (q : Nat) : (s.setPort k p).cp q = s.cp q := rfl
@[simp] theorem setPort_read_chan (k : Nat) (p : Port) (y : Nat) : (s.setPort k p).chan y = s.chan y := rfl
@[simp] theorem setPort_read_fn (k : Nat) (p : Port) (g : Nat) : (s.setPort k p).fn g = s.fn g := rfl
@[simp] theorem setPort_read_comp (k : Nat) (p : Port) (j : Nat) : (s.setPort k p).comp j = s.comp j := rfl
@[simp] theorem setPort_read_byte (k : Nat) (p : Port) (b : Nat) : (s.setPort k p).byte b = s.byte b := rfl

/-! ## `State.setFn` -/

@[simp] theorem setFn_pending (f : Nat) (x : Fn) : (s.setFn f x).pending = s.pending := rfl
@[simp] theorem setFn_aon (f : Nat) (x : Fn) : (s.setFn f x).aon = s.aon := rfl
@[simp] theorem setFn_regs (f : Nat) (x : Fn) : (s.setFn f x).regs = s.regs := rfl
@[simp] theorem setFn_doms (f : Nat) (x : Fn) : (s.setFn f x).doms = s.doms := rfl
@[simp] theorem setFn_mem (f : Nat) (x : Fn) : (s.setFn f x).mem = s.mem := rfl
@[simp] theorem setFn_tags (f : Nat) (x : Fn) : (s.setFn f x).tags = s.tags := rfl
@[simp] theorem setFn_poison (f : Nat) (x : Fn) : (s.setFn f x).poison = s.poison := rfl
@[simp] theorem setFn_seals (f : Nat) (x : Fn) : (s.setFn f x).seals = s.seals := rfl
@[simp] theorem setFn_metas (f : Nat) (x : Fn) : (s.setFn f x).metas = s.metas := rfl
@[simp] theorem setFn_hostMem (f : Nat) (x : Fn) : (s.setFn f x).hostMem = s.hostMem := rfl
@[simp] theorem setFn_zeroFills (f : Nat) (x : Fn) : (s.setFn f x).zeroFills = s.zeroFills := rfl
@[simp] theorem setFn_outst (f : Nat) (x : Fn) : (s.setFn f x).outst = s.outst := rfl
@[simp] theorem setFn_replies (f : Nat) (x : Fn) : (s.setFn f x).replies = s.replies := rfl
@[simp] theorem setFn_stalls (f : Nat) (x : Fn) : (s.setFn f x).stalls = s.stalls := rfl
@[simp] theorem setFn_nacked (f : Nat) (x : Fn) : (s.setFn f x).nacked = s.nacked := rfl
@[simp] theorem setFn_heldAcc (f : Nat) (x : Fn) : (s.setFn f x).heldAcc = s.heldAcc := rfl
@[simp] theorem setFn_coreOwner (f : Nat) (x : Fn) : (s.setFn f x).coreOwner = s.coreOwner := rfl
@[simp] theorem setFn_coreReady (f : Nat) (x : Fn) : (s.setFn f x).coreReady = s.coreReady := rfl
@[simp] theorem setFn_icache (f : Nat) (x : Fn) : (s.setFn f x).icache = s.icache := rfl
@[simp] theorem setFn_res (f : Nat) (x : Fn) : (s.setFn f x).res = s.res := rfl
@[simp] theorem setFn_accs (f : Nat) (x : Fn) : (s.setFn f x).accs = s.accs := rfl
@[simp] theorem setFn_saved (f : Nat) (x : Fn) : (s.setFn f x).saved = s.saved := rfl
@[simp] theorem setFn_launches (f : Nat) (x : Fn) : (s.setFn f x).launches = s.launches := rfl
@[simp] theorem setFn_armed (f : Nat) (x : Fn) : (s.setFn f x).armed = s.armed := rfl
@[simp] theorem setFn_suspended (f : Nat) (x : Fn) : (s.setFn f x).suspended = s.suspended := rfl
@[simp] theorem setFn_cps (f : Nat) (x : Fn) : (s.setFn f x).cps = s.cps := rfl
@[simp] theorem setFn_chans (f : Nat) (x : Fn) : (s.setFn f x).chans = s.chans := rfl
@[simp] theorem setFn_chanOwner (f : Nat) (x : Fn) : (s.setFn f x).chanOwner = s.chanOwner := rfl
@[simp] theorem setFn_watches (f : Nat) (x : Fn) : (s.setFn f x).watches = s.watches := rfl
@[simp] theorem setFn_rsvNew (f : Nat) (x : Fn) : (s.setFn f x).rsvNew = s.rsvNew := rfl
@[simp] theorem setFn_windowsJudged (f : Nat) (x : Fn) : (s.setFn f x).windowsJudged = s.windowsJudged := rfl
@[simp] theorem setFn_indexSerial (f : Nat) (x : Fn) : (s.setFn f x).indexSerial = s.indexSerial := rfl
@[simp] theorem setFn_idxLines (f : Nat) (x : Fn) : (s.setFn f x).idxLines = s.idxLines := rfl
@[simp] theorem setFn_pulses (f : Nat) (x : Fn) : (s.setFn f x).pulses = s.pulses := rfl
@[simp] theorem setFn_ledger (f : Nat) (x : Fn) : (s.setFn f x).ledger = s.ledger := rfl
@[simp] theorem setFn_groupSeq (f : Nat) (x : Fn) : (s.setFn f x).groupSeq = s.groupSeq := rfl
@[simp] theorem setFn_ledgerLost (f : Nat) (x : Fn) : (s.setFn f x).ledgerLost = s.ledgerLost := rfl
@[simp] theorem setFn_remoteBuf (f : Nat) (x : Fn) : (s.setFn f x).remoteBuf = s.remoteBuf := rfl
@[simp] theorem setFn_tx (f : Nat) (x : Fn) : (s.setFn f x).tx = s.tx := rfl
@[simp] theorem setFn_ports (f : Nat) (x : Fn) : (s.setFn f x).ports = s.ports := rfl
@[simp] theorem setFn_route (f : Nat) (x : Fn) : (s.setFn f x).route = s.route := rfl
@[simp] theorem setFn_seamRetries (f : Nat) (x : Fn) : (s.setFn f x).seamRetries = s.seamRetries := rfl
@[simp] theorem setFn_seamFails (f : Nat) (x : Fn) : (s.setFn f x).seamFails = s.seamFails := rfl
@[simp] theorem setFn_seamFix (f : Nat) (x : Fn) : (s.setFn f x).seamFix = s.seamFix := rfl
@[simp] theorem setFn_seamWakes (f : Nat) (x : Fn) : (s.setFn f x).seamWakes = s.seamWakes := rfl
@[simp] theorem setFn_failing (f : Nat) (x : Fn) : (s.setFn f x).failing = s.failing := rfl
@[simp] theorem setFn_vendorId (f : Nat) (x : Fn) : (s.setFn f x).vendorId = s.vendorId := rfl
@[simp] theorem setFn_options (f : Nat) (x : Fn) : (s.setFn f x).options = s.options := rfl
@[simp] theorem setFn_owdAux (f : Nat) (x : Fn) : (s.setFn f x).owdAux = s.owdAux := rfl
@[simp] theorem setFn_tlbs (f : Nat) (x : Fn) : (s.setFn f x).tlbs = s.tlbs := rfl
@[simp] theorem setFn_misses (f : Nat) (x : Fn) : (s.setFn f x).misses = s.misses := rfl
@[simp] theorem setFn_nonLeafs (f : Nat) (x : Fn) : (s.setFn f x).nonLeafs = s.nonLeafs := rfl
@[simp] theorem setFn_pinned (f : Nat) (x : Fn) : (s.setFn f x).pinned = s.pinned := rfl
@[simp] theorem setFn_tables (f : Nat) (x : Fn) : (s.setFn f x).tables = s.tables := rfl
@[simp] theorem setFn_invals (f : Nat) (x : Fn) : (s.setFn f x).invals = s.invals := rfl
@[simp] theorem setFn_invalWait (f : Nat) (x : Fn) : (s.setFn f x).invalWait = s.invalWait := rfl
@[simp] theorem setFn_dlogFilter (f : Nat) (x : Fn) : (s.setFn f x).dlogFilter = s.dlogFilter := rfl
@[simp] theorem setFn_comps (f : Nat) (x : Fn) : (s.setFn f x).comps = s.comps := rfl
@[simp] theorem setFn_partOwner (f : Nat) (x : Fn) : (s.setFn f x).partOwner = s.partOwner := rfl
@[simp] theorem setFn_farOwner (f : Nat) (x : Fn) : (s.setFn f x).farOwner = s.farOwner := rfl
@[simp] theorem setFn_mixers (f : Nat) (x : Fn) : (s.setFn f x).mixers = s.mixers := rfl
@[simp] theorem setFn_ctxs (f : Nat) (x : Fn) : (s.setFn f x).ctxs = s.ctxs := rfl
@[simp] theorem setFn_tagsUsed (f : Nat) (x : Fn) : (s.setFn f x).tagsUsed = s.tagsUsed := rfl
@[simp] theorem setFn_queues (f : Nat) (x : Fn) : (s.setFn f x).queues = s.queues := rfl
@[simp] theorem setFn_fences (f : Nat) (x : Fn) : (s.setFn f x).fences = s.fences := rfl
@[simp] theorem setFn_hosts (f : Nat) (x : Fn) : (s.setFn f x).hosts = s.hosts := rfl
@[simp] theorem setFn_mailbox (f : Nat) (x : Fn) : (s.setFn f x).mailbox = s.mailbox := rfl
@[simp] theorem setFn_slots (f : Nat) (x : Fn) : (s.setFn f x).slots = s.slots := rfl
@[simp] theorem setFn_flacon (f : Nat) (x : Fn) : (s.setFn f x).flacon = s.flacon := rfl
@[simp] theorem setFn_measures (f : Nat) (x : Fn) : (s.setFn f x).measures = s.measures := rfl
@[simp] theorem setFn_retiring (f : Nat) (x : Fn) : (s.setFn f x).retiring = s.retiring := rfl
@[simp] theorem setFn_scrubs (f : Nat) (x : Fn) : (s.setFn f x).scrubs = s.scrubs := rfl
@[simp] theorem setFn_fwTarget (f : Nat) (x : Fn) : (s.setFn f x).fwTarget = s.fwTarget := rfl
@[simp] theorem setFn_roles (f : Nat) (x : Fn) : (s.setFn f x).roles = s.roles := rfl
@[simp] theorem setFn_twinWait (f : Nat) (x : Fn) : (s.setFn f x).twinWait = s.twinWait := rfl
@[simp] theorem setFn_mirrorSeq (f : Nat) (x : Fn) : (s.setFn f x).mirrorSeq = s.mirrorSeq := rfl
@[simp] theorem setFn_mirrorHeld (f : Nat) (x : Fn) : (s.setFn f x).mirrorHeld = s.mirrorHeld := rfl
@[simp] theorem setFn_twinAckAt (f : Nat) (x : Fn) : (s.setFn f x).twinAckAt = s.twinAckAt := rfl
@[simp] theorem setFn_twinLost (f : Nat) (x : Fn) : (s.setFn f x).twinLost = s.twinLost := rfl
@[simp] theorem setFn_mirrorDrops (f : Nat) (x : Fn) : (s.setFn f x).mirrorDrops = s.mirrorDrops := rfl
@[simp] theorem setFn_shadows (f : Nat) (x : Fn) : (s.setFn f x).shadows = s.shadows := rfl
@[simp] theorem setFn_lastSliced (f : Nat) (x : Fn) : (s.setFn f x).lastSliced = s.lastSliced := rfl
@[simp] theorem setFn_mbxOut (f : Nat) (x : Fn) : (s.setFn f x).mbxOut = s.mbxOut := rfl
@[simp] theorem setFn_logWr (f : Nat) (x : Fn) : (s.setFn f x).logWr = s.logWr := rfl
@[simp] theorem setFn_outputs (f : Nat) (x : Fn) : (s.setFn f x).outputs = s.outputs := rfl
@[simp] theorem setFn_sil (f : Nat) (x : Fn) : (s.setFn f x).sil = s.sil := rfl
@[simp] theorem setFn_silLoss (f : Nat) (x : Fn) : (s.setFn f x).silLoss = s.silLoss := rfl
@[simp] theorem setFn_sessions (f : Nat) (x : Fn) : (s.setFn f x).sessions = s.sessions := rfl
@[simp] theorem setFn_lastAccess (f : Nat) (x : Fn) : (s.setFn f x).lastAccess = s.lastAccess := rfl
@[simp] theorem setFn_twCtx (f : Nat) (x : Fn) : (s.setFn f x).twCtx = s.twCtx := rfl
@[simp] theorem setFn_mbxSeq (f : Nat) (x : Fn) : (s.setFn f x).mbxSeq = s.mbxSeq := rfl
@[simp] theorem setFn_openWindows (f : Nat) (x : Fn) : (s.setFn f x).openWindows = s.openWindows := rfl
@[simp] theorem setFn_windowEnds (f : Nat) (x : Fn) : (s.setFn f x).windowEnds = s.windowEnds := rfl
@[simp] theorem setFn_cycleStart (f : Nat) (x : Fn) : (s.setFn f x).cycleStart = s.cycleStart := rfl
@[simp] theorem setFn_pressure (f : Nat) (x : Fn) : (s.setFn f x).pressure = s.pressure := rfl
@[simp] theorem setFn_flagWatch (f : Nat) (x : Fn) : (s.setFn f x).flagWatch = s.flagWatch := rfl
@[simp] theorem setFn_rsvNacked (f : Nat) (x : Fn) : (s.setFn f x).rsvNacked = s.rsvNacked := rfl
@[simp] theorem setFn_ladderOn (f : Nat) (x : Fn) : (s.setFn f x).ladderOn = s.ladderOn := rfl
@[simp] theorem setFn_ladder (f : Nat) (x : Fn) : (s.setFn f x).ladder = s.ladder := rfl
@[simp] theorem setFn_suspects (f : Nat) (x : Fn) : (s.setFn f x).suspects = s.suspects := rfl
@[simp] theorem setFn_console (f : Nat) (x : Fn) : (s.setFn f x).console = s.console := rfl
@[simp] theorem setFn_power (f : Nat) (x : Fn) : (s.setFn f x).power = s.power := rfl
@[simp] theorem setFn_freeCtr (f : Nat) (x : Fn) : (s.setFn f x).freeCtr = s.freeCtr := rfl

@[simp] theorem setFn_read_reg (f : Nat) (x : Fn) (q : RegName) (j : Nat) : (s.setFn f x).reg q j = s.reg q j := rfl
@[simp] theorem setFn_read_fld (f : Nat) (x : Fn) (F : Fld) (j : Nat) : (s.setFn f x).fld F j = s.fld F j := rfl
@[simp] theorem setFn_read_dom (f : Nat) (x : Fn) (j : Nat) : (s.setFn f x).dom j = s.dom j := rfl
@[simp] theorem setFn_read_core (f : Nat) (x : Fn) (m t : Nat) : (s.setFn f x).core m t = s.core m t := rfl
@[simp] theorem setFn_read_cp (f : Nat) (x : Fn) (q : Nat) : (s.setFn f x).cp q = s.cp q := rfl
@[simp] theorem setFn_read_chan (f : Nat) (x : Fn) (y : Nat) : (s.setFn f x).chan y = s.chan y := rfl
@[simp] theorem setFn_read_port (f : Nat) (x : Fn) (j : Nat) : (s.setFn f x).port j = s.port j := rfl
@[simp] theorem setFn_read_comp (f : Nat) (x : Fn) (j : Nat) : (s.setFn f x).comp j = s.comp j := rfl
@[simp] theorem setFn_read_byte (f : Nat) (x : Fn) (b : Nat) : (s.setFn f x).byte b = s.byte b := rfl

/-! ## `State.setComp` -/

@[simp] theorem setComp_pending (c : Nat) (x : Comp) : (s.setComp c x).pending = s.pending := rfl
@[simp] theorem setComp_aon (c : Nat) (x : Comp) : (s.setComp c x).aon = s.aon := rfl
@[simp] theorem setComp_regs (c : Nat) (x : Comp) : (s.setComp c x).regs = s.regs := rfl
@[simp] theorem setComp_doms (c : Nat) (x : Comp) : (s.setComp c x).doms = s.doms := rfl
@[simp] theorem setComp_mem (c : Nat) (x : Comp) : (s.setComp c x).mem = s.mem := rfl
@[simp] theorem setComp_tags (c : Nat) (x : Comp) : (s.setComp c x).tags = s.tags := rfl
@[simp] theorem setComp_poison (c : Nat) (x : Comp) : (s.setComp c x).poison = s.poison := rfl
@[simp] theorem setComp_seals (c : Nat) (x : Comp) : (s.setComp c x).seals = s.seals := rfl
@[simp] theorem setComp_metas (c : Nat) (x : Comp) : (s.setComp c x).metas = s.metas := rfl
@[simp] theorem setComp_hostMem (c : Nat) (x : Comp) : (s.setComp c x).hostMem = s.hostMem := rfl
@[simp] theorem setComp_zeroFills (c : Nat) (x : Comp) : (s.setComp c x).zeroFills = s.zeroFills := rfl
@[simp] theorem setComp_outst (c : Nat) (x : Comp) : (s.setComp c x).outst = s.outst := rfl
@[simp] theorem setComp_replies (c : Nat) (x : Comp) : (s.setComp c x).replies = s.replies := rfl
@[simp] theorem setComp_stalls (c : Nat) (x : Comp) : (s.setComp c x).stalls = s.stalls := rfl
@[simp] theorem setComp_nacked (c : Nat) (x : Comp) : (s.setComp c x).nacked = s.nacked := rfl
@[simp] theorem setComp_heldAcc (c : Nat) (x : Comp) : (s.setComp c x).heldAcc = s.heldAcc := rfl
@[simp] theorem setComp_coreOwner (c : Nat) (x : Comp) : (s.setComp c x).coreOwner = s.coreOwner := rfl
@[simp] theorem setComp_coreReady (c : Nat) (x : Comp) : (s.setComp c x).coreReady = s.coreReady := rfl
@[simp] theorem setComp_icache (c : Nat) (x : Comp) : (s.setComp c x).icache = s.icache := rfl
@[simp] theorem setComp_res (c : Nat) (x : Comp) : (s.setComp c x).res = s.res := rfl
@[simp] theorem setComp_accs (c : Nat) (x : Comp) : (s.setComp c x).accs = s.accs := rfl
@[simp] theorem setComp_saved (c : Nat) (x : Comp) : (s.setComp c x).saved = s.saved := rfl
@[simp] theorem setComp_launches (c : Nat) (x : Comp) : (s.setComp c x).launches = s.launches := rfl
@[simp] theorem setComp_armed (c : Nat) (x : Comp) : (s.setComp c x).armed = s.armed := rfl
@[simp] theorem setComp_suspended (c : Nat) (x : Comp) : (s.setComp c x).suspended = s.suspended := rfl
@[simp] theorem setComp_cps (c : Nat) (x : Comp) : (s.setComp c x).cps = s.cps := rfl
@[simp] theorem setComp_chans (c : Nat) (x : Comp) : (s.setComp c x).chans = s.chans := rfl
@[simp] theorem setComp_chanOwner (c : Nat) (x : Comp) : (s.setComp c x).chanOwner = s.chanOwner := rfl
@[simp] theorem setComp_watches (c : Nat) (x : Comp) : (s.setComp c x).watches = s.watches := rfl
@[simp] theorem setComp_rsvNew (c : Nat) (x : Comp) : (s.setComp c x).rsvNew = s.rsvNew := rfl
@[simp] theorem setComp_windowsJudged (c : Nat) (x : Comp) : (s.setComp c x).windowsJudged = s.windowsJudged := rfl
@[simp] theorem setComp_indexSerial (c : Nat) (x : Comp) : (s.setComp c x).indexSerial = s.indexSerial := rfl
@[simp] theorem setComp_idxLines (c : Nat) (x : Comp) : (s.setComp c x).idxLines = s.idxLines := rfl
@[simp] theorem setComp_pulses (c : Nat) (x : Comp) : (s.setComp c x).pulses = s.pulses := rfl
@[simp] theorem setComp_ledger (c : Nat) (x : Comp) : (s.setComp c x).ledger = s.ledger := rfl
@[simp] theorem setComp_groupSeq (c : Nat) (x : Comp) : (s.setComp c x).groupSeq = s.groupSeq := rfl
@[simp] theorem setComp_ledgerLost (c : Nat) (x : Comp) : (s.setComp c x).ledgerLost = s.ledgerLost := rfl
@[simp] theorem setComp_remoteBuf (c : Nat) (x : Comp) : (s.setComp c x).remoteBuf = s.remoteBuf := rfl
@[simp] theorem setComp_tx (c : Nat) (x : Comp) : (s.setComp c x).tx = s.tx := rfl
@[simp] theorem setComp_ports (c : Nat) (x : Comp) : (s.setComp c x).ports = s.ports := rfl
@[simp] theorem setComp_route (c : Nat) (x : Comp) : (s.setComp c x).route = s.route := rfl
@[simp] theorem setComp_seamRetries (c : Nat) (x : Comp) : (s.setComp c x).seamRetries = s.seamRetries := rfl
@[simp] theorem setComp_seamFails (c : Nat) (x : Comp) : (s.setComp c x).seamFails = s.seamFails := rfl
@[simp] theorem setComp_seamFix (c : Nat) (x : Comp) : (s.setComp c x).seamFix = s.seamFix := rfl
@[simp] theorem setComp_seamWakes (c : Nat) (x : Comp) : (s.setComp c x).seamWakes = s.seamWakes := rfl
@[simp] theorem setComp_failing (c : Nat) (x : Comp) : (s.setComp c x).failing = s.failing := rfl
@[simp] theorem setComp_vendorId (c : Nat) (x : Comp) : (s.setComp c x).vendorId = s.vendorId := rfl
@[simp] theorem setComp_options (c : Nat) (x : Comp) : (s.setComp c x).options = s.options := rfl
@[simp] theorem setComp_owdAux (c : Nat) (x : Comp) : (s.setComp c x).owdAux = s.owdAux := rfl
@[simp] theorem setComp_tlbs (c : Nat) (x : Comp) : (s.setComp c x).tlbs = s.tlbs := rfl
@[simp] theorem setComp_misses (c : Nat) (x : Comp) : (s.setComp c x).misses = s.misses := rfl
@[simp] theorem setComp_nonLeafs (c : Nat) (x : Comp) : (s.setComp c x).nonLeafs = s.nonLeafs := rfl
@[simp] theorem setComp_pinned (c : Nat) (x : Comp) : (s.setComp c x).pinned = s.pinned := rfl
@[simp] theorem setComp_tables (c : Nat) (x : Comp) : (s.setComp c x).tables = s.tables := rfl
@[simp] theorem setComp_invals (c : Nat) (x : Comp) : (s.setComp c x).invals = s.invals := rfl
@[simp] theorem setComp_invalWait (c : Nat) (x : Comp) : (s.setComp c x).invalWait = s.invalWait := rfl
@[simp] theorem setComp_dlogFilter (c : Nat) (x : Comp) : (s.setComp c x).dlogFilter = s.dlogFilter := rfl
@[simp] theorem setComp_partOwner (c : Nat) (x : Comp) : (s.setComp c x).partOwner = s.partOwner := rfl
@[simp] theorem setComp_farOwner (c : Nat) (x : Comp) : (s.setComp c x).farOwner = s.farOwner := rfl
@[simp] theorem setComp_mixers (c : Nat) (x : Comp) : (s.setComp c x).mixers = s.mixers := rfl
@[simp] theorem setComp_ctxs (c : Nat) (x : Comp) : (s.setComp c x).ctxs = s.ctxs := rfl
@[simp] theorem setComp_tagsUsed (c : Nat) (x : Comp) : (s.setComp c x).tagsUsed = s.tagsUsed := rfl
@[simp] theorem setComp_queues (c : Nat) (x : Comp) : (s.setComp c x).queues = s.queues := rfl
@[simp] theorem setComp_fences (c : Nat) (x : Comp) : (s.setComp c x).fences = s.fences := rfl
@[simp] theorem setComp_fns (c : Nat) (x : Comp) : (s.setComp c x).fns = s.fns := rfl
@[simp] theorem setComp_hosts (c : Nat) (x : Comp) : (s.setComp c x).hosts = s.hosts := rfl
@[simp] theorem setComp_mailbox (c : Nat) (x : Comp) : (s.setComp c x).mailbox = s.mailbox := rfl
@[simp] theorem setComp_slots (c : Nat) (x : Comp) : (s.setComp c x).slots = s.slots := rfl
@[simp] theorem setComp_flacon (c : Nat) (x : Comp) : (s.setComp c x).flacon = s.flacon := rfl
@[simp] theorem setComp_measures (c : Nat) (x : Comp) : (s.setComp c x).measures = s.measures := rfl
@[simp] theorem setComp_retiring (c : Nat) (x : Comp) : (s.setComp c x).retiring = s.retiring := rfl
@[simp] theorem setComp_scrubs (c : Nat) (x : Comp) : (s.setComp c x).scrubs = s.scrubs := rfl
@[simp] theorem setComp_fwTarget (c : Nat) (x : Comp) : (s.setComp c x).fwTarget = s.fwTarget := rfl
@[simp] theorem setComp_roles (c : Nat) (x : Comp) : (s.setComp c x).roles = s.roles := rfl
@[simp] theorem setComp_twinWait (c : Nat) (x : Comp) : (s.setComp c x).twinWait = s.twinWait := rfl
@[simp] theorem setComp_mirrorSeq (c : Nat) (x : Comp) : (s.setComp c x).mirrorSeq = s.mirrorSeq := rfl
@[simp] theorem setComp_mirrorHeld (c : Nat) (x : Comp) : (s.setComp c x).mirrorHeld = s.mirrorHeld := rfl
@[simp] theorem setComp_twinAckAt (c : Nat) (x : Comp) : (s.setComp c x).twinAckAt = s.twinAckAt := rfl
@[simp] theorem setComp_twinLost (c : Nat) (x : Comp) : (s.setComp c x).twinLost = s.twinLost := rfl
@[simp] theorem setComp_mirrorDrops (c : Nat) (x : Comp) : (s.setComp c x).mirrorDrops = s.mirrorDrops := rfl
@[simp] theorem setComp_shadows (c : Nat) (x : Comp) : (s.setComp c x).shadows = s.shadows := rfl
@[simp] theorem setComp_lastSliced (c : Nat) (x : Comp) : (s.setComp c x).lastSliced = s.lastSliced := rfl
@[simp] theorem setComp_mbxOut (c : Nat) (x : Comp) : (s.setComp c x).mbxOut = s.mbxOut := rfl
@[simp] theorem setComp_logWr (c : Nat) (x : Comp) : (s.setComp c x).logWr = s.logWr := rfl
@[simp] theorem setComp_outputs (c : Nat) (x : Comp) : (s.setComp c x).outputs = s.outputs := rfl
@[simp] theorem setComp_sil (c : Nat) (x : Comp) : (s.setComp c x).sil = s.sil := rfl
@[simp] theorem setComp_silLoss (c : Nat) (x : Comp) : (s.setComp c x).silLoss = s.silLoss := rfl
@[simp] theorem setComp_sessions (c : Nat) (x : Comp) : (s.setComp c x).sessions = s.sessions := rfl
@[simp] theorem setComp_lastAccess (c : Nat) (x : Comp) : (s.setComp c x).lastAccess = s.lastAccess := rfl
@[simp] theorem setComp_twCtx (c : Nat) (x : Comp) : (s.setComp c x).twCtx = s.twCtx := rfl
@[simp] theorem setComp_mbxSeq (c : Nat) (x : Comp) : (s.setComp c x).mbxSeq = s.mbxSeq := rfl
@[simp] theorem setComp_openWindows (c : Nat) (x : Comp) : (s.setComp c x).openWindows = s.openWindows := rfl
@[simp] theorem setComp_windowEnds (c : Nat) (x : Comp) : (s.setComp c x).windowEnds = s.windowEnds := rfl
@[simp] theorem setComp_cycleStart (c : Nat) (x : Comp) : (s.setComp c x).cycleStart = s.cycleStart := rfl
@[simp] theorem setComp_pressure (c : Nat) (x : Comp) : (s.setComp c x).pressure = s.pressure := rfl
@[simp] theorem setComp_flagWatch (c : Nat) (x : Comp) : (s.setComp c x).flagWatch = s.flagWatch := rfl
@[simp] theorem setComp_rsvNacked (c : Nat) (x : Comp) : (s.setComp c x).rsvNacked = s.rsvNacked := rfl
@[simp] theorem setComp_ladderOn (c : Nat) (x : Comp) : (s.setComp c x).ladderOn = s.ladderOn := rfl
@[simp] theorem setComp_ladder (c : Nat) (x : Comp) : (s.setComp c x).ladder = s.ladder := rfl
@[simp] theorem setComp_suspects (c : Nat) (x : Comp) : (s.setComp c x).suspects = s.suspects := rfl
@[simp] theorem setComp_console (c : Nat) (x : Comp) : (s.setComp c x).console = s.console := rfl
@[simp] theorem setComp_power (c : Nat) (x : Comp) : (s.setComp c x).power = s.power := rfl
@[simp] theorem setComp_freeCtr (c : Nat) (x : Comp) : (s.setComp c x).freeCtr = s.freeCtr := rfl

@[simp] theorem setComp_read_reg (c : Nat) (x : Comp) (q : RegName) (j : Nat) : (s.setComp c x).reg q j = s.reg q j := rfl
@[simp] theorem setComp_read_fld (c : Nat) (x : Comp) (F : Fld) (j : Nat) : (s.setComp c x).fld F j = s.fld F j := rfl
@[simp] theorem setComp_read_dom (c : Nat) (x : Comp) (j : Nat) : (s.setComp c x).dom j = s.dom j := rfl
@[simp] theorem setComp_read_core (c : Nat) (x : Comp) (m t : Nat) : (s.setComp c x).core m t = s.core m t := rfl
@[simp] theorem setComp_read_cp (c : Nat) (x : Comp) (q : Nat) : (s.setComp c x).cp q = s.cp q := rfl
@[simp] theorem setComp_read_chan (c : Nat) (x : Comp) (y : Nat) : (s.setComp c x).chan y = s.chan y := rfl
@[simp] theorem setComp_read_port (c : Nat) (x : Comp) (j : Nat) : (s.setComp c x).port j = s.port j := rfl
@[simp] theorem setComp_read_fn (c : Nat) (x : Comp) (g : Nat) : (s.setComp c x).fn g = s.fn g := rfl
@[simp] theorem setComp_read_byte (c : Nat) (x : Comp) (b : Nat) : (s.setComp c x).byte b = s.byte b := rfl

/-! ## `State.store` -/

@[simp] theorem store_pending (a : Nat) (l : List Byte) : (s.store a l).pending = s.pending := rfl
@[simp] theorem store_aon (a : Nat) (l : List Byte) : (s.store a l).aon = s.aon := rfl
@[simp] theorem store_regs (a : Nat) (l : List Byte) : (s.store a l).regs = s.regs := rfl
@[simp] theorem store_doms (a : Nat) (l : List Byte) : (s.store a l).doms = s.doms := rfl
@[simp] theorem store_tags (a : Nat) (l : List Byte) : (s.store a l).tags = s.tags := rfl
@[simp] theorem store_poison (a : Nat) (l : List Byte) : (s.store a l).poison = s.poison := rfl
@[simp] theorem store_seals (a : Nat) (l : List Byte) : (s.store a l).seals = s.seals := rfl
@[simp] theorem store_metas (a : Nat) (l : List Byte) : (s.store a l).metas = s.metas := rfl
@[simp] theorem store_hostMem (a : Nat) (l : List Byte) : (s.store a l).hostMem = s.hostMem := rfl
@[simp] theorem store_zeroFills (a : Nat) (l : List Byte) : (s.store a l).zeroFills = s.zeroFills := rfl
@[simp] theorem store_outst (a : Nat) (l : List Byte) : (s.store a l).outst = s.outst := rfl
@[simp] theorem store_replies (a : Nat) (l : List Byte) : (s.store a l).replies = s.replies := rfl
@[simp] theorem store_stalls (a : Nat) (l : List Byte) : (s.store a l).stalls = s.stalls := rfl
@[simp] theorem store_nacked (a : Nat) (l : List Byte) : (s.store a l).nacked = s.nacked := rfl
@[simp] theorem store_heldAcc (a : Nat) (l : List Byte) : (s.store a l).heldAcc = s.heldAcc := rfl
@[simp] theorem store_coreOwner (a : Nat) (l : List Byte) : (s.store a l).coreOwner = s.coreOwner := rfl
@[simp] theorem store_coreReady (a : Nat) (l : List Byte) : (s.store a l).coreReady = s.coreReady := rfl
@[simp] theorem store_icache (a : Nat) (l : List Byte) : (s.store a l).icache = s.icache := rfl
@[simp] theorem store_res (a : Nat) (l : List Byte) : (s.store a l).res = s.res := rfl
@[simp] theorem store_accs (a : Nat) (l : List Byte) : (s.store a l).accs = s.accs := rfl
@[simp] theorem store_saved (a : Nat) (l : List Byte) : (s.store a l).saved = s.saved := rfl
@[simp] theorem store_launches (a : Nat) (l : List Byte) : (s.store a l).launches = s.launches := rfl
@[simp] theorem store_armed (a : Nat) (l : List Byte) : (s.store a l).armed = s.armed := rfl
@[simp] theorem store_suspended (a : Nat) (l : List Byte) : (s.store a l).suspended = s.suspended := rfl
@[simp] theorem store_cps (a : Nat) (l : List Byte) : (s.store a l).cps = s.cps := rfl
@[simp] theorem store_chans (a : Nat) (l : List Byte) : (s.store a l).chans = s.chans := rfl
@[simp] theorem store_chanOwner (a : Nat) (l : List Byte) : (s.store a l).chanOwner = s.chanOwner := rfl
@[simp] theorem store_watches (a : Nat) (l : List Byte) : (s.store a l).watches = s.watches := rfl
@[simp] theorem store_rsvNew (a : Nat) (l : List Byte) : (s.store a l).rsvNew = s.rsvNew := rfl
@[simp] theorem store_windowsJudged (a : Nat) (l : List Byte) : (s.store a l).windowsJudged = s.windowsJudged := rfl
@[simp] theorem store_indexSerial (a : Nat) (l : List Byte) : (s.store a l).indexSerial = s.indexSerial := rfl
@[simp] theorem store_idxLines (a : Nat) (l : List Byte) : (s.store a l).idxLines = s.idxLines := rfl
@[simp] theorem store_pulses (a : Nat) (l : List Byte) : (s.store a l).pulses = s.pulses := rfl
@[simp] theorem store_ledger (a : Nat) (l : List Byte) : (s.store a l).ledger = s.ledger := rfl
@[simp] theorem store_groupSeq (a : Nat) (l : List Byte) : (s.store a l).groupSeq = s.groupSeq := rfl
@[simp] theorem store_ledgerLost (a : Nat) (l : List Byte) : (s.store a l).ledgerLost = s.ledgerLost := rfl
@[simp] theorem store_remoteBuf (a : Nat) (l : List Byte) : (s.store a l).remoteBuf = s.remoteBuf := rfl
@[simp] theorem store_tx (a : Nat) (l : List Byte) : (s.store a l).tx = s.tx := rfl
@[simp] theorem store_ports (a : Nat) (l : List Byte) : (s.store a l).ports = s.ports := rfl
@[simp] theorem store_route (a : Nat) (l : List Byte) : (s.store a l).route = s.route := rfl
@[simp] theorem store_seamRetries (a : Nat) (l : List Byte) : (s.store a l).seamRetries = s.seamRetries := rfl
@[simp] theorem store_seamFails (a : Nat) (l : List Byte) : (s.store a l).seamFails = s.seamFails := rfl
@[simp] theorem store_seamFix (a : Nat) (l : List Byte) : (s.store a l).seamFix = s.seamFix := rfl
@[simp] theorem store_seamWakes (a : Nat) (l : List Byte) : (s.store a l).seamWakes = s.seamWakes := rfl
@[simp] theorem store_failing (a : Nat) (l : List Byte) : (s.store a l).failing = s.failing := rfl
@[simp] theorem store_vendorId (a : Nat) (l : List Byte) : (s.store a l).vendorId = s.vendorId := rfl
@[simp] theorem store_options (a : Nat) (l : List Byte) : (s.store a l).options = s.options := rfl
@[simp] theorem store_owdAux (a : Nat) (l : List Byte) : (s.store a l).owdAux = s.owdAux := rfl
@[simp] theorem store_tlbs (a : Nat) (l : List Byte) : (s.store a l).tlbs = s.tlbs := rfl
@[simp] theorem store_misses (a : Nat) (l : List Byte) : (s.store a l).misses = s.misses := rfl
@[simp] theorem store_nonLeafs (a : Nat) (l : List Byte) : (s.store a l).nonLeafs = s.nonLeafs := rfl
@[simp] theorem store_pinned (a : Nat) (l : List Byte) : (s.store a l).pinned = s.pinned := rfl
@[simp] theorem store_tables (a : Nat) (l : List Byte) : (s.store a l).tables = s.tables := rfl
@[simp] theorem store_invals (a : Nat) (l : List Byte) : (s.store a l).invals = s.invals := rfl
@[simp] theorem store_invalWait (a : Nat) (l : List Byte) : (s.store a l).invalWait = s.invalWait := rfl
@[simp] theorem store_dlogFilter (a : Nat) (l : List Byte) : (s.store a l).dlogFilter = s.dlogFilter := rfl
@[simp] theorem store_comps (a : Nat) (l : List Byte) : (s.store a l).comps = s.comps := rfl
@[simp] theorem store_partOwner (a : Nat) (l : List Byte) : (s.store a l).partOwner = s.partOwner := rfl
@[simp] theorem store_farOwner (a : Nat) (l : List Byte) : (s.store a l).farOwner = s.farOwner := rfl
@[simp] theorem store_mixers (a : Nat) (l : List Byte) : (s.store a l).mixers = s.mixers := rfl
@[simp] theorem store_ctxs (a : Nat) (l : List Byte) : (s.store a l).ctxs = s.ctxs := rfl
@[simp] theorem store_tagsUsed (a : Nat) (l : List Byte) : (s.store a l).tagsUsed = s.tagsUsed := rfl
@[simp] theorem store_queues (a : Nat) (l : List Byte) : (s.store a l).queues = s.queues := rfl
@[simp] theorem store_fences (a : Nat) (l : List Byte) : (s.store a l).fences = s.fences := rfl
@[simp] theorem store_fns (a : Nat) (l : List Byte) : (s.store a l).fns = s.fns := rfl
@[simp] theorem store_hosts (a : Nat) (l : List Byte) : (s.store a l).hosts = s.hosts := rfl
@[simp] theorem store_mailbox (a : Nat) (l : List Byte) : (s.store a l).mailbox = s.mailbox := rfl
@[simp] theorem store_slots (a : Nat) (l : List Byte) : (s.store a l).slots = s.slots := rfl
@[simp] theorem store_flacon (a : Nat) (l : List Byte) : (s.store a l).flacon = s.flacon := rfl
@[simp] theorem store_measures (a : Nat) (l : List Byte) : (s.store a l).measures = s.measures := rfl
@[simp] theorem store_retiring (a : Nat) (l : List Byte) : (s.store a l).retiring = s.retiring := rfl
@[simp] theorem store_scrubs (a : Nat) (l : List Byte) : (s.store a l).scrubs = s.scrubs := rfl
@[simp] theorem store_fwTarget (a : Nat) (l : List Byte) : (s.store a l).fwTarget = s.fwTarget := rfl
@[simp] theorem store_roles (a : Nat) (l : List Byte) : (s.store a l).roles = s.roles := rfl
@[simp] theorem store_twinWait (a : Nat) (l : List Byte) : (s.store a l).twinWait = s.twinWait := rfl
@[simp] theorem store_mirrorSeq (a : Nat) (l : List Byte) : (s.store a l).mirrorSeq = s.mirrorSeq := rfl
@[simp] theorem store_mirrorHeld (a : Nat) (l : List Byte) : (s.store a l).mirrorHeld = s.mirrorHeld := rfl
@[simp] theorem store_twinAckAt (a : Nat) (l : List Byte) : (s.store a l).twinAckAt = s.twinAckAt := rfl
@[simp] theorem store_twinLost (a : Nat) (l : List Byte) : (s.store a l).twinLost = s.twinLost := rfl
@[simp] theorem store_mirrorDrops (a : Nat) (l : List Byte) : (s.store a l).mirrorDrops = s.mirrorDrops := rfl
@[simp] theorem store_shadows (a : Nat) (l : List Byte) : (s.store a l).shadows = s.shadows := rfl
@[simp] theorem store_lastSliced (a : Nat) (l : List Byte) : (s.store a l).lastSliced = s.lastSliced := rfl
@[simp] theorem store_mbxOut (a : Nat) (l : List Byte) : (s.store a l).mbxOut = s.mbxOut := rfl
@[simp] theorem store_logWr (a : Nat) (l : List Byte) : (s.store a l).logWr = s.logWr := rfl
@[simp] theorem store_outputs (a : Nat) (l : List Byte) : (s.store a l).outputs = s.outputs := rfl
@[simp] theorem store_sil (a : Nat) (l : List Byte) : (s.store a l).sil = s.sil := rfl
@[simp] theorem store_silLoss (a : Nat) (l : List Byte) : (s.store a l).silLoss = s.silLoss := rfl
@[simp] theorem store_sessions (a : Nat) (l : List Byte) : (s.store a l).sessions = s.sessions := rfl
@[simp] theorem store_lastAccess (a : Nat) (l : List Byte) : (s.store a l).lastAccess = s.lastAccess := rfl
@[simp] theorem store_twCtx (a : Nat) (l : List Byte) : (s.store a l).twCtx = s.twCtx := rfl
@[simp] theorem store_mbxSeq (a : Nat) (l : List Byte) : (s.store a l).mbxSeq = s.mbxSeq := rfl
@[simp] theorem store_openWindows (a : Nat) (l : List Byte) : (s.store a l).openWindows = s.openWindows := rfl
@[simp] theorem store_windowEnds (a : Nat) (l : List Byte) : (s.store a l).windowEnds = s.windowEnds := rfl
@[simp] theorem store_cycleStart (a : Nat) (l : List Byte) : (s.store a l).cycleStart = s.cycleStart := rfl
@[simp] theorem store_pressure (a : Nat) (l : List Byte) : (s.store a l).pressure = s.pressure := rfl
@[simp] theorem store_flagWatch (a : Nat) (l : List Byte) : (s.store a l).flagWatch = s.flagWatch := rfl
@[simp] theorem store_rsvNacked (a : Nat) (l : List Byte) : (s.store a l).rsvNacked = s.rsvNacked := rfl
@[simp] theorem store_ladderOn (a : Nat) (l : List Byte) : (s.store a l).ladderOn = s.ladderOn := rfl
@[simp] theorem store_ladder (a : Nat) (l : List Byte) : (s.store a l).ladder = s.ladder := rfl
@[simp] theorem store_suspects (a : Nat) (l : List Byte) : (s.store a l).suspects = s.suspects := rfl
@[simp] theorem store_console (a : Nat) (l : List Byte) : (s.store a l).console = s.console := rfl
@[simp] theorem store_power (a : Nat) (l : List Byte) : (s.store a l).power = s.power := rfl
@[simp] theorem store_freeCtr (a : Nat) (l : List Byte) : (s.store a l).freeCtr = s.freeCtr := rfl

@[simp] theorem store_read_reg (a : Nat) (l : List Byte) (q : RegName) (j : Nat) : (s.store a l).reg q j = s.reg q j := rfl
@[simp] theorem store_read_fld (a : Nat) (l : List Byte) (F : Fld) (j : Nat) : (s.store a l).fld F j = s.fld F j := rfl
@[simp] theorem store_read_dom (a : Nat) (l : List Byte) (j : Nat) : (s.store a l).dom j = s.dom j := rfl
@[simp] theorem store_read_core (a : Nat) (l : List Byte) (m t : Nat) : (s.store a l).core m t = s.core m t := rfl
@[simp] theorem store_read_cp (a : Nat) (l : List Byte) (q : Nat) : (s.store a l).cp q = s.cp q := rfl
@[simp] theorem store_read_chan (a : Nat) (l : List Byte) (y : Nat) : (s.store a l).chan y = s.chan y := rfl
@[simp] theorem store_read_port (a : Nat) (l : List Byte) (j : Nat) : (s.store a l).port j = s.port j := rfl
@[simp] theorem store_read_fn (a : Nat) (l : List Byte) (g : Nat) : (s.store a l).fn g = s.fn g := rfl
@[simp] theorem store_read_comp (a : Nat) (l : List Byte) (j : Nat) : (s.store a l).comp j = s.comp j := rfl

/-! ## `State.emit` -/

@[simp] theorem emit_pending (o : Output) : (s.emit o).pending = s.pending := rfl
@[simp] theorem emit_aon (o : Output) : (s.emit o).aon = s.aon := rfl
@[simp] theorem emit_regs (o : Output) : (s.emit o).regs = s.regs := rfl
@[simp] theorem emit_doms (o : Output) : (s.emit o).doms = s.doms := rfl
@[simp] theorem emit_mem (o : Output) : (s.emit o).mem = s.mem := rfl
@[simp] theorem emit_tags (o : Output) : (s.emit o).tags = s.tags := rfl
@[simp] theorem emit_poison (o : Output) : (s.emit o).poison = s.poison := rfl
@[simp] theorem emit_seals (o : Output) : (s.emit o).seals = s.seals := rfl
@[simp] theorem emit_metas (o : Output) : (s.emit o).metas = s.metas := rfl
@[simp] theorem emit_hostMem (o : Output) : (s.emit o).hostMem = s.hostMem := rfl
@[simp] theorem emit_zeroFills (o : Output) : (s.emit o).zeroFills = s.zeroFills := rfl
@[simp] theorem emit_outst (o : Output) : (s.emit o).outst = s.outst := rfl
@[simp] theorem emit_replies (o : Output) : (s.emit o).replies = s.replies := rfl
@[simp] theorem emit_stalls (o : Output) : (s.emit o).stalls = s.stalls := rfl
@[simp] theorem emit_nacked (o : Output) : (s.emit o).nacked = s.nacked := rfl
@[simp] theorem emit_heldAcc (o : Output) : (s.emit o).heldAcc = s.heldAcc := rfl
@[simp] theorem emit_coreOwner (o : Output) : (s.emit o).coreOwner = s.coreOwner := rfl
@[simp] theorem emit_coreReady (o : Output) : (s.emit o).coreReady = s.coreReady := rfl
@[simp] theorem emit_icache (o : Output) : (s.emit o).icache = s.icache := rfl
@[simp] theorem emit_res (o : Output) : (s.emit o).res = s.res := rfl
@[simp] theorem emit_accs (o : Output) : (s.emit o).accs = s.accs := rfl
@[simp] theorem emit_saved (o : Output) : (s.emit o).saved = s.saved := rfl
@[simp] theorem emit_launches (o : Output) : (s.emit o).launches = s.launches := rfl
@[simp] theorem emit_armed (o : Output) : (s.emit o).armed = s.armed := rfl
@[simp] theorem emit_suspended (o : Output) : (s.emit o).suspended = s.suspended := rfl
@[simp] theorem emit_cps (o : Output) : (s.emit o).cps = s.cps := rfl
@[simp] theorem emit_chans (o : Output) : (s.emit o).chans = s.chans := rfl
@[simp] theorem emit_chanOwner (o : Output) : (s.emit o).chanOwner = s.chanOwner := rfl
@[simp] theorem emit_watches (o : Output) : (s.emit o).watches = s.watches := rfl
@[simp] theorem emit_rsvNew (o : Output) : (s.emit o).rsvNew = s.rsvNew := rfl
@[simp] theorem emit_windowsJudged (o : Output) : (s.emit o).windowsJudged = s.windowsJudged := rfl
@[simp] theorem emit_indexSerial (o : Output) : (s.emit o).indexSerial = s.indexSerial := rfl
@[simp] theorem emit_idxLines (o : Output) : (s.emit o).idxLines = s.idxLines := rfl
@[simp] theorem emit_pulses (o : Output) : (s.emit o).pulses = s.pulses := rfl
@[simp] theorem emit_ledger (o : Output) : (s.emit o).ledger = s.ledger := rfl
@[simp] theorem emit_groupSeq (o : Output) : (s.emit o).groupSeq = s.groupSeq := rfl
@[simp] theorem emit_ledgerLost (o : Output) : (s.emit o).ledgerLost = s.ledgerLost := rfl
@[simp] theorem emit_remoteBuf (o : Output) : (s.emit o).remoteBuf = s.remoteBuf := rfl
@[simp] theorem emit_tx (o : Output) : (s.emit o).tx = s.tx := rfl
@[simp] theorem emit_ports (o : Output) : (s.emit o).ports = s.ports := rfl
@[simp] theorem emit_route (o : Output) : (s.emit o).route = s.route := rfl
@[simp] theorem emit_seamRetries (o : Output) : (s.emit o).seamRetries = s.seamRetries := rfl
@[simp] theorem emit_seamFails (o : Output) : (s.emit o).seamFails = s.seamFails := rfl
@[simp] theorem emit_seamFix (o : Output) : (s.emit o).seamFix = s.seamFix := rfl
@[simp] theorem emit_seamWakes (o : Output) : (s.emit o).seamWakes = s.seamWakes := rfl
@[simp] theorem emit_failing (o : Output) : (s.emit o).failing = s.failing := rfl
@[simp] theorem emit_vendorId (o : Output) : (s.emit o).vendorId = s.vendorId := rfl
@[simp] theorem emit_options (o : Output) : (s.emit o).options = s.options := rfl
@[simp] theorem emit_owdAux (o : Output) : (s.emit o).owdAux = s.owdAux := rfl
@[simp] theorem emit_tlbs (o : Output) : (s.emit o).tlbs = s.tlbs := rfl
@[simp] theorem emit_misses (o : Output) : (s.emit o).misses = s.misses := rfl
@[simp] theorem emit_nonLeafs (o : Output) : (s.emit o).nonLeafs = s.nonLeafs := rfl
@[simp] theorem emit_pinned (o : Output) : (s.emit o).pinned = s.pinned := rfl
@[simp] theorem emit_tables (o : Output) : (s.emit o).tables = s.tables := rfl
@[simp] theorem emit_invals (o : Output) : (s.emit o).invals = s.invals := rfl
@[simp] theorem emit_invalWait (o : Output) : (s.emit o).invalWait = s.invalWait := rfl
@[simp] theorem emit_dlogFilter (o : Output) : (s.emit o).dlogFilter = s.dlogFilter := rfl
@[simp] theorem emit_comps (o : Output) : (s.emit o).comps = s.comps := rfl
@[simp] theorem emit_partOwner (o : Output) : (s.emit o).partOwner = s.partOwner := rfl
@[simp] theorem emit_farOwner (o : Output) : (s.emit o).farOwner = s.farOwner := rfl
@[simp] theorem emit_mixers (o : Output) : (s.emit o).mixers = s.mixers := rfl
@[simp] theorem emit_ctxs (o : Output) : (s.emit o).ctxs = s.ctxs := rfl
@[simp] theorem emit_tagsUsed (o : Output) : (s.emit o).tagsUsed = s.tagsUsed := rfl
@[simp] theorem emit_queues (o : Output) : (s.emit o).queues = s.queues := rfl
@[simp] theorem emit_fences (o : Output) : (s.emit o).fences = s.fences := rfl
@[simp] theorem emit_fns (o : Output) : (s.emit o).fns = s.fns := rfl
@[simp] theorem emit_hosts (o : Output) : (s.emit o).hosts = s.hosts := rfl
@[simp] theorem emit_mailbox (o : Output) : (s.emit o).mailbox = s.mailbox := rfl
@[simp] theorem emit_slots (o : Output) : (s.emit o).slots = s.slots := rfl
@[simp] theorem emit_flacon (o : Output) : (s.emit o).flacon = s.flacon := rfl
@[simp] theorem emit_measures (o : Output) : (s.emit o).measures = s.measures := rfl
@[simp] theorem emit_retiring (o : Output) : (s.emit o).retiring = s.retiring := rfl
@[simp] theorem emit_scrubs (o : Output) : (s.emit o).scrubs = s.scrubs := rfl
@[simp] theorem emit_fwTarget (o : Output) : (s.emit o).fwTarget = s.fwTarget := rfl
@[simp] theorem emit_roles (o : Output) : (s.emit o).roles = s.roles := rfl
@[simp] theorem emit_twinWait (o : Output) : (s.emit o).twinWait = s.twinWait := rfl
@[simp] theorem emit_mirrorSeq (o : Output) : (s.emit o).mirrorSeq = s.mirrorSeq := rfl
@[simp] theorem emit_mirrorHeld (o : Output) : (s.emit o).mirrorHeld = s.mirrorHeld := rfl
@[simp] theorem emit_twinAckAt (o : Output) : (s.emit o).twinAckAt = s.twinAckAt := rfl
@[simp] theorem emit_twinLost (o : Output) : (s.emit o).twinLost = s.twinLost := rfl
@[simp] theorem emit_mirrorDrops (o : Output) : (s.emit o).mirrorDrops = s.mirrorDrops := rfl
@[simp] theorem emit_shadows (o : Output) : (s.emit o).shadows = s.shadows := rfl
@[simp] theorem emit_lastSliced (o : Output) : (s.emit o).lastSliced = s.lastSliced := rfl
@[simp] theorem emit_mbxOut (o : Output) : (s.emit o).mbxOut = s.mbxOut := rfl
@[simp] theorem emit_logWr (o : Output) : (s.emit o).logWr = s.logWr := rfl
@[simp] theorem emit_sil (o : Output) : (s.emit o).sil = s.sil := rfl
@[simp] theorem emit_silLoss (o : Output) : (s.emit o).silLoss = s.silLoss := rfl
@[simp] theorem emit_sessions (o : Output) : (s.emit o).sessions = s.sessions := rfl
@[simp] theorem emit_lastAccess (o : Output) : (s.emit o).lastAccess = s.lastAccess := rfl
@[simp] theorem emit_twCtx (o : Output) : (s.emit o).twCtx = s.twCtx := rfl
@[simp] theorem emit_mbxSeq (o : Output) : (s.emit o).mbxSeq = s.mbxSeq := rfl
@[simp] theorem emit_openWindows (o : Output) : (s.emit o).openWindows = s.openWindows := rfl
@[simp] theorem emit_windowEnds (o : Output) : (s.emit o).windowEnds = s.windowEnds := rfl
@[simp] theorem emit_cycleStart (o : Output) : (s.emit o).cycleStart = s.cycleStart := rfl
@[simp] theorem emit_pressure (o : Output) : (s.emit o).pressure = s.pressure := rfl
@[simp] theorem emit_flagWatch (o : Output) : (s.emit o).flagWatch = s.flagWatch := rfl
@[simp] theorem emit_rsvNacked (o : Output) : (s.emit o).rsvNacked = s.rsvNacked := rfl
@[simp] theorem emit_ladderOn (o : Output) : (s.emit o).ladderOn = s.ladderOn := rfl
@[simp] theorem emit_ladder (o : Output) : (s.emit o).ladder = s.ladder := rfl
@[simp] theorem emit_suspects (o : Output) : (s.emit o).suspects = s.suspects := rfl
@[simp] theorem emit_console (o : Output) : (s.emit o).console = s.console := rfl
@[simp] theorem emit_power (o : Output) : (s.emit o).power = s.power := rfl
@[simp] theorem emit_freeCtr (o : Output) : (s.emit o).freeCtr = s.freeCtr := rfl

@[simp] theorem emit_read_reg (o : Output) (q : RegName) (j : Nat) : (s.emit o).reg q j = s.reg q j := rfl
@[simp] theorem emit_read_fld (o : Output) (F : Fld) (j : Nat) : (s.emit o).fld F j = s.fld F j := rfl
@[simp] theorem emit_read_dom (o : Output) (j : Nat) : (s.emit o).dom j = s.dom j := rfl
@[simp] theorem emit_read_core (o : Output) (m t : Nat) : (s.emit o).core m t = s.core m t := rfl
@[simp] theorem emit_read_cp (o : Output) (q : Nat) : (s.emit o).cp q = s.cp q := rfl
@[simp] theorem emit_read_chan (o : Output) (y : Nat) : (s.emit o).chan y = s.chan y := rfl
@[simp] theorem emit_read_port (o : Output) (j : Nat) : (s.emit o).port j = s.port j := rfl
@[simp] theorem emit_read_fn (o : Output) (g : Nat) : (s.emit o).fn g = s.fn g := rfl
@[simp] theorem emit_read_comp (o : Output) (j : Nat) : (s.emit o).comp j = s.comp j := rfl
@[simp] theorem emit_read_byte (o : Output) (b : Nat) : (s.emit o).byte b = s.byte b := rfl

/-! ## Reading what was written -/

@[simp] theorem reg_setReg_same (r : RegName) (i : Nat) (w : Word) : (s.setReg r i w).reg r i = w := SMap.get_set_same ..
theorem reg_setReg_ne {r q : RegName} {i j : Nat} (h : q.key j ≠ r.key i) (w : Word) : (s.setReg r i w).reg q j = s.reg q j :=
  SMap.get_set_ne h ..
@[simp] theorem dom_setDom_same (i : Nat) (d : Dom) : (s.setDom i d).dom i = d := SMap.get_put_same ..
theorem dom_setDom_ne {i j : Nat} (h : j ≠ i) (d : Dom) : (s.setDom i d).dom j = s.dom j := SMap.get_put_ne h ..
@[simp] theorem core_setCore_same (n r : Nat) (x : Res) : (s.setCore n r x).core n r = x := SMap.get_put_same ..
theorem core_setCore_ne {n r m t : Nat} (h : 2 * m + t % 2 ≠ 2 * n + r % 2) (x : Res) : (s.setCore n r x).core m t = s.core m t :=
  SMap.get_put_ne h ..
@[simp] theorem cp_setCp_same (p : Nat) (x : Cp) : (s.setCp p x).cp p = x := SMap.get_put_same ..
theorem cp_setCp_ne {p q : Nat} (h : q ≠ p) (x : Cp) : (s.setCp p x).cp q = s.cp q := SMap.get_put_ne h ..
@[simp] theorem chan_setChan_same (x : Nat) (c : DmaCh) : (s.setChan x c).chan x = c := SMap.get_set_same ..
theorem chan_setChan_ne {x y : Nat} (h : y ≠ x) (c : DmaCh) : (s.setChan x c).chan y = s.chan y := SMap.get_set_ne h ..
@[simp] theorem port_setPort_same (k : Nat) (p : Port) : (s.setPort k p).port k = p := SMap.get_put_same ..
theorem port_setPort_ne {k j : Nat} (h : j ≠ k) (p : Port) : (s.setPort k p).port j = s.port j := SMap.get_put_ne h ..
@[simp] theorem fn_setFn_same (f : Nat) (x : Fn) : (s.setFn f x).fn f = x := SMap.get_put_same ..
theorem fn_setFn_ne {f g : Nat} (h : g ≠ f) (x : Fn) : (s.setFn f x).fn g = s.fn g := SMap.get_put_ne h ..
@[simp] theorem comp_setComp_same (c : Nat) (x : Comp) : (s.setComp c x).comp c = x := SMap.get_put_same ..
theorem comp_setComp_ne {c d : Nat} (h : d ≠ c) (x : Comp) : (s.setComp c x).comp d = s.comp d := SMap.get_put_ne h ..

end Sys2Proof.Machine
end

