-- ==== Sys2Proof/Laws/Regs.lean ====
section
/-! SUPPORT. Laws/Regs.lean: what a bit field reads after another has been written, and what `checked` answers. -/
namespace Sys2Proof.Machine

/-! ## The outcome of a command -/

/-- `checked` goes on exactly where the named objects exist. -/
theorem checked_next {ok : Bool} {s t : State} : checked ok s = .next t ↔ ok = true ∧ s = t := by
  unfold checked
  cases ok <;> simp

/-- `checked` stops only with the fault of a missing object. -/
theorem checked_fault {ok : Bool} {s : State} {e : Fault} : checked ok s = .fault e ↔ ok = false ∧ e = .noSuchObject := by
  unfold checked
  cases ok <;> simp [eq_comm]

/-- `checked` refuses nothing. -/
theorem checked_not_refused {ok : Bool} {s : State} {e : Refusal} : checked ok s ≠ .refused e := by
  unfold checked
  cases ok <;> simp

/-! ## Bit fields -/

/-- A field's value lies below the power of its width. -/
theorem bits_lt (w hi lo : Nat) : bits w hi lo < 2 ^ (hi + 1 - lo) := Nat.mod_lt _ (Nat.two_pow_pos _)

/-- A number cut at a field: what lies above it, the field, what lies below. -/
theorem bits_split (w hi lo : Nat) (h : lo ≤ hi + 1) :
    w = w / 2 ^ (hi + 1) * 2 ^ (hi + 1) + bits w hi lo * 2 ^ lo + w % 2 ^ lo := by
  have e : 2 ^ (hi + 1) = 2 ^ lo * 2 ^ (hi + 1 - lo) := by rw [← Nat.pow_add]; congr 1; omega
  have a := Nat.div_add_mod w (2 ^ lo)
  have b := Nat.div_add_mod (w / 2 ^ lo) (2 ^ (hi + 1 - lo))
  rw [Nat.div_div_eq_div_mul, ← e] at b
  unfold bits
  calc w = 2 ^ lo * (w / 2 ^ lo) + w % 2 ^ lo := a.symm
    _ = 2 ^ lo * (2 ^ (hi + 1 - lo) * (w / 2 ^ (hi + 1)) + w / 2 ^ lo % 2 ^ (hi + 1 - lo)) + w % 2 ^ lo := by rw [b]
    _ = _ := by rw [e]; grind

/-- What replacing a field makes of a number: the parts above and below stand. -/
theorem putBits_eq (w hi lo v : Nat) (h : lo ≤ hi + 1) :
    putBits w hi lo v = w / 2 ^ (hi + 1) * 2 ^ (hi + 1) + v % 2 ^ (hi + 1 - lo) * 2 ^ lo + w % 2 ^ lo := by
  have s := bits_split w hi lo h
  unfold putBits
  omega

/-- A field that has been replaced reads as what was put. -/
theorem bits_putBits_same (w hi lo v : Nat) (h : lo ≤ hi + 1) : bits (putBits w hi lo v) hi lo = v % 2 ^ (hi + 1 - lo) := by
  have e : 2 ^ (hi + 1) = 2 ^ (hi + 1 - lo) * 2 ^ lo := by rw [← Nat.pow_add]; congr 1; omega
  rw [putBits_eq w hi lo v h, bits, e]
  rw [show w / (2 ^ (hi + 1 - lo) * 2 ^ lo) * (2 ^ (hi + 1 - lo) * 2 ^ lo) + v % 2 ^ (hi + 1 - lo) * 2 ^ lo + w % 2 ^ lo =
    w % 2 ^ lo + 2 ^ lo * (v % 2 ^ (hi + 1 - lo) + 2 ^ (hi + 1 - lo) * (w / (2 ^ (hi + 1 - lo) * 2 ^ lo))) by grind]
  rw [Nat.add_mul_div_left _ _ (Nat.two_pow_pos _), Nat.div_eq_of_lt (Nat.mod_lt _ (Nat.two_pow_pos _)), Nat.zero_add,
    Nat.add_mul_mod_self_left, Nat.mod_mod]

/-- A field below the one that was replaced reads as before. -/
theorem bits_putBits_below (w hi lo v h2 l2 : Nat) (h : lo ≤ hi + 1) (b : h2 < lo) : bits (putBits w hi lo v) h2 l2 = bits w h2 l2 := by
  have e : 2 ^ (hi + 1) = 2 ^ lo * 2 ^ (hi + 1 - lo) := by rw [← Nat.pow_add]; congr 1; omega
  have low : putBits w hi lo v % 2 ^ lo = w % 2 ^ lo := by
    rw [putBits_eq w hi lo v h, e]
    rw [show w / (2 ^ lo * 2 ^ (hi + 1 - lo)) * (2 ^ lo * 2 ^ (hi + 1 - lo)) + v % 2 ^ (hi + 1 - lo) * 2 ^ lo + w % 2 ^ lo =
      w % 2 ^ lo + 2 ^ lo * (2 ^ (hi + 1 - lo) * (w / (2 ^ lo * 2 ^ (hi + 1 - lo))) + v % 2 ^ (hi + 1 - lo)) by grind]
    rw [Nat.add_mul_mod_self_left, Nat.mod_mod]
  have cut (x : Nat) : bits x h2 l2 = bits (x % 2 ^ lo) h2 l2 := by
    unfold bits
    by_cases g : l2 ≤ h2 + 1
    · have p : 2 ^ lo = 2 ^ l2 * 2 ^ (lo - l2) := by rw [← Nat.pow_add]; congr 1; omega
      rw [p, Nat.mod_mul_right_div_self, Nat.mod_mod_of_dvd _ (Nat.pow_dvd_pow 2 (by omega))]
    · rw [show h2 + 1 - l2 = 0 by omega]; simp [Nat.mod_one]
  rw [cut, low, ← cut]

/-- A field above the one that was replaced reads as before. -/
theorem bits_putBits_above (w hi lo v h2 l2 : Nat) (h : lo ≤ hi + 1) (b : hi < l2) : bits (putBits w hi lo v) h2 l2 = bits w h2 l2 := by
  have e : 2 ^ (hi + 1) = 2 ^ (hi + 1 - lo) * 2 ^ lo := by rw [← Nat.pow_add]; congr 1; omega
  have small : v % 2 ^ (hi + 1 - lo) * 2 ^ lo + w % 2 ^ lo < 2 ^ (hi + 1) := by
    have a := Nat.mod_lt v (Nat.two_pow_pos (hi + 1 - lo))
    have c := Nat.mod_lt w (Nat.two_pow_pos lo)
    calc v % 2 ^ (hi + 1 - lo) * 2 ^ lo + w % 2 ^ lo < v % 2 ^ (hi + 1 - lo) * 2 ^ lo + 1 * 2 ^ lo := by omega
      _ = (v % 2 ^ (hi + 1 - lo) + 1) * 2 ^ lo := by grind
      _ ≤ 2 ^ (hi + 1 - lo) * 2 ^ lo := Nat.mul_le_mul_right _ a
      _ = 2 ^ (hi + 1) := e.symm
  have high : putBits w hi lo v / 2 ^ (hi + 1) = w / 2 ^ (hi + 1) := by
    rw [putBits_eq w hi lo v h, Nat.add_assoc, Nat.mul_comm, Nat.mul_add_div (Nat.two_pow_pos _), Nat.div_eq_of_lt small, Nat.add_zero]
  unfold bits
  have p : 2 ^ l2 = 2 ^ (hi + 1) * 2 ^ (l2 - (hi + 1)) := by rw [← Nat.pow_add]; congr 1; omega
  rw [p, ← Nat.div_div_eq_div_mul, ← Nat.div_div_eq_div_mul, high]

/-! ## The fields of a register -/

/-- A word with a field replaced still fits its 64 bits. -/
theorem putBits_lt {w hi lo v : Nat} (hw : w < 2 ^ 64) (h : lo ≤ hi + 1) (t : hi < 64) : putBits w hi lo v < 2 ^ 64 := by
  have above := bits_putBits_above w hi lo v 128 64 h t
  have z : bits w 128 64 = 0 := by rw [bits, Nat.div_eq_of_lt hw, Nat.zero_mod]
  rw [z] at above
  have s : bits (putBits w hi lo v) 128 64 = putBits w hi lo v / 2 ^ 64 % 2 ^ 65 := rfl
  have k : putBits w hi lo v < 2 ^ 65 := by
    rw [putBits_eq w hi lo v h]
    have a := Nat.mod_lt v (Nat.two_pow_pos (hi + 1 - lo))
    have c := Nat.mod_lt w (Nat.two_pow_pos lo)
    have d := Nat.div_mul_le_self w (2 ^ (hi + 1))
    have e : 2 ^ (hi + 1) = 2 ^ (hi + 1 - lo) * 2 ^ lo := by rw [← Nat.pow_add]; congr 1; omega
    have f : 2 ^ (hi + 1) ≤ 2 ^ 64 := Nat.pow_le_pow_right (by decide) (by omega)
    have g : (v % 2 ^ (hi + 1 - lo) + 1) * 2 ^ lo ≤ 2 ^ (hi + 1 - lo) * 2 ^ lo := Nat.mul_le_mul_right _ a
    rw [Nat.add_mul, Nat.one_mul, ← e] at g
    omega
  rw [above] at s
  omega

/-- The word of a register whose field has been written. -/
theorem reg_setFld_toNat (s : State) (F : Fld) (i v : Nat) (h : F.lo ≤ F.hi + 1) (t : F.hi < 64) :
    ((s.setFld F i v).reg F.reg i).toNat = putBits (s.reg F.reg i).toNat F.hi F.lo v := by
  unfold State.setFld
  rw [reg_setReg_same, BitVec.toNat_ofNat, Nat.mod_eq_of_lt (putBits_lt (s.reg F.reg i).isLt h t)]

/-- A field that has been written reads as the low bits of what was written. -/
theorem fld_setFld_same (s : State) (F : Fld) (i v : Nat) (h : F.lo ≤ F.hi + 1) (t : F.hi < 64) :
    (s.setFld F i v).fld F i = v % 2 ^ (F.hi + 1 - F.lo) := by
  rw [State.fld, reg_setFld_toNat s F i v h t, bits_putBits_same _ _ _ _ h]

/-- Another field of the register reads as before. -/
theorem fld_setFld_other (s : State) {F G : Fld} (i v : Nat) (h : F.lo ≤ F.hi + 1) (t : F.hi < 64) (r : G.reg = F.reg)
    (d : G.hi < F.lo ∨ F.hi < G.lo) : (s.setFld F i v).fld G i = s.fld G i := by
  unfold State.fld
  rw [r, reg_setFld_toNat s F i v h t]
  rcases d with d | d
  · exact bits_putBits_below _ _ _ _ _ _ h d
  · exact bits_putBits_above _ _ _ _ _ _ h d

/-- A field of another copy, or of a register elsewhere, reads as before. -/
theorem fld_setFld_elsewhere (s : State) {F G : Fld} {i j : Nat} (v : Nat) (h : G.reg.key j ≠ F.reg.key i) :
    (s.setFld F i v).fld G j = s.fld G j := by
  unfold State.fld State.setFld
  rw [reg_setReg_ne s h]

end Sys2Proof.Machine
end

