-- ==== Sys2Proof/Laws/Seq.lean ====
section
/-! SUPPORT. Laws/Seq.lean: everything that issuing an instruction can do: the shared operations of the sequencers and of dispatch. -/
namespace Sys2Proof.Machine

/-- An executor exists exactly where the command that names it is well formed in it. -/
theorem seqrOk_named (q : Seqr) : seqrOk q = q.named := by cases q <;> rfl

/-- Replacing the file of a core's resident. -/
theorem setFile_core (s : State) (n r : Nat) (f : SeqFile) : s.setFile (.core n r) f = s.setCore n r { s.core n r with file := f } := rfl

/-- The file that was put is the one that stands. -/
theorem fileOf_setFile (s : State) (q : Seqr) (f : SeqFile) : (s.setFile q f).fileOf q = f := by
  cases q <;> simp [State.setFile, State.fileOf]

/-- An executor that does not take its next instruction leaves the state as it is. -/
theorem seqOp_waits {s : State} {q : Seqr} (h : s.issues q = false) (enc : Nat) (p : Pred) (f : SeqFile → SeqFile) :
    s.seqOp q enc p f = s := by
  cases q <;> simp_all [State.issues, State.seqOp]

/-- An instruction of the sequencer with no encoding fault: the file after it, and nothing else changes. -/
theorem seqOp_runs {s : State} {q : Seqr} (h : s.issues q = true) (p : Pred) (f : SeqFile → SeqFile) :
    s.seqOp q 0 p f = s.setFile q ((s.fileOf q).after p f) := by
  cases q with
  | core n r =>
    by_cases g : (s.core n r).file.holds p <;> simp_all [State.issues, State.seqOp, State.setFile, State.fileOf, SeqFile.after]
  | cp i =>
    by_cases g : (s.cp i).file.holds p <;> simp_all [State.issues, State.seqOp, State.setFile, State.fileOf, SeqFile.after]

/-- An encoding fault on a core (R95). -/
theorem seqOp_core_fault {s : State} {n r enc : Nat} (h : s.canIssue n r = true) (e : enc ≠ 0) (p : Pred) (f : SeqFile → SeqFile) :
    s.seqOp (.core n r) enc p f = s.seqFault n r enc := by
  simp [State.seqOp, h, e]

/-- An encoding fault on a command processor (R95, R96). -/
theorem seqOp_cp_fault {s : State} {i enc : Nat} (h : s.cpCanIssue i = true) (e : enc ≠ 0) (p : Pred) (f : SeqFile → SeqFile) :
    s.seqOp (.cp i) enc p f = s.cpFault i enc := by
  simp [State.seqOp, h, e]

/-- A core's own instruction with no encoding fault: its effect, or only the pc under a false predicate. -/
theorem coreOp_runs {s : State} {n r : Nat} (h : s.canIssue n r = true) (p : Pred) (f : Nat → Nat → State → State) :
    s.coreOp (.core n r) 0 p f = if (s.core n r).file.holds p then f n r s else s.pass n r := by
  simp [State.coreOp, h, State.pass]

/-- On a command processor it is an ILLEGAL_INSTRUCTION (R96). -/
theorem coreOp_cp {s : State} {i : Nat} (h : s.cpCanIssue i = true) (enc : Nat) (p : Pred) (f : Nat → Nat → State → State) :
    s.coreOp (.cp i) enc p f = s.cpFault i fIllegalIns := by
  simp [State.coreOp, h]

/-! ## Dispatch (R71, R76, R84 to R86) -/

/-- A sequencer that takes its next instruction goes on with none. -/
theorem goesOn_of_canIssue {s : State} {n r : Nat} (h : s.canIssue n r = true) (code : Nat) (o : Ops) : s.goesOn n r code o = false := by
  simp only [State.canIssue, Bool.and_eq_true, beq_iff_eq] at h
  simp [State.goesOn, h.2]

/-- Everything that entering an instruction into its queue can do: the sequencer holds it while the queue is full, else it stands last there. -/
theorem enqueue_cases (s : State) (n r u op : Nat) (o : Ops) (now : Bool) :
    (queueDepth (s.shared (s.core n r).comp) u ≤ ((s.core n r).sq.filter fun i => i.u == u).length ∧
      s.enqueue n r u op o now = s.holdSeq n r (insCode u op) o false) ∨
    (((s.core n r).sq.filter fun i => i.u == u).length < queueDepth (s.shared (s.core n r).comp) u ∧
      s.enqueue n r u op o now =
        if now && s.stationIdle n r u then ((s.dispatched n r u op o).startHead n r u).completeHead n r u else s.dispatched n r u op o) := by
  by_cases e : queueDepth (s.shared (s.core n r).comp) u ≤ ((s.core n r).sq.filter fun i => i.u == u).length
  · exact .inl ⟨e, by simp [State.enqueue, e]⟩
  · exact .inr ⟨Nat.not_le.mp e, by simp [State.enqueue, e, State.dispatched, State.stationIdle, Res.stationIns]⟩

/-- Everything that a command of a station instruction can do: go on with it, nothing, a fault of the sequencer, only the pc under a false predicate, or
enter it into its queue. -/
theorem dispatch_cases (s : State) (n r u op : Nat) (p : Pred) (o : Ops) (now : Bool) :
    (s.goesOn n r (insCode u op) o = true ∧
      s.dispatch n r u op p o now = if (s.core n r).status == .running then s.enqueue n r u op o now else s) ∨
    (s.canIssue n r = false ∧ s.dispatch n r u op p o now = s) ∨
    (∃ e, e ≠ 0 ∧ e = (s.core n r).stationFault (s.shared (s.core n r).comp) u op o ∧ s.dispatch n r u op p o now = s.seqFault n r e) ∨
    ((s.core n r).file.holds p = false ∧ s.dispatch n r u op p o now = s.pass n r) ∨
    ((s.core n r).file.holds p = true ∧ s.dispatch n r u op p o now = s.enqueue n r u op o now) := by
  unfold State.dispatch
  by_cases g : s.goesOn n r (insCode u op) o
  · exact .inl ⟨g, by simp [g]⟩
  · by_cases a : s.canIssue n r
    · by_cases b : (s.core n r).stationFault (s.shared (s.core n r).comp) u op o = 0
      · by_cases d : (s.core n r).file.holds p
        · exact .inr (.inr (.inr (.inr ⟨d, by simp [g, a, b, d]⟩)))
        · exact .inr (.inr (.inr (.inl ⟨by simpa using d, by simp [g, a, b, d]⟩)))
      · exact .inr (.inr (.inl ⟨_, b, rfl, by simp [g, a, b]⟩))
    · exact .inr (.inl ⟨by simpa using a, by simp [g, a]⟩)

/-- A dispatch with its conditions met. -/
theorem dispatch_runs {s : State} {n r u op : Nat} {p : Pred} {o : Ops} (h : s.dispatches n r u op p o = true) (now : Bool) :
    s.dispatch n r u op p o now =
      if now && s.stationIdle n r u then ((s.dispatched n r u op o).startHead n r u).completeHead n r u else s.dispatched n r u op o := by
  simp only [State.dispatches, Bool.and_eq_true, decide_eq_true_eq, beq_iff_eq] at h
  obtain ⟨⟨⟨a, b⟩, d⟩, e⟩ := h
  have g := goesOn_of_canIssue a (insCode u op) o
  have k : s.dispatch n r u op p o now = s.enqueue n r u op o now := by simp [State.dispatch, g, a, b, d]
  rcases enqueue_cases s n r u op o now with ⟨f, -⟩ | ⟨-, q⟩
  · omega
  · rw [k, q]

/-! ## The step -/

/-- A step takes the command at the front. -/
theorem step_front (c : Instr) (rest : List Instr) (s : State) : step { s with pending := c :: rest } = exec c { s with pending := rest } := rfl

end Sys2Proof.Machine
end

