-- ==== Sys2Proof/Tests/Slice0.lean ====
section
/-! SUPPORT. Tests/Slice0.lean: ill-formed commands that WellFormed refuses; single steps with results worked out from the spec; for each
statement, states and operands that meet its hypotheses. -/
namespace Sys2Proof.Tests
set_option Elab.async false
open Sys2Proof.Machine

/-! ## States -/

/-- Domains that are ON. -/
def onDoms (l : List Nat) : SMap Dom := l.map fun i => (i, { Dom.init i with state := .on })

/-- A running device with domains of every kind ON. -/
def run0 : State :=
  { State.reset with
    aon := { State.reset.aon with stage := .running, dt := 4000000, dtRuns := true }
    doms := onDoms [0, 1, 83, 84, 107, 108, 120, 127, 128, 135, 136, 138, 139, 140, 141, 142, 143, 144, 145, 146, 147] }

/-- The last core's second resident runs its program at its entry. -/
def core0 : State := run0.setCore 671 1 { Res.init with status := .running }

/-- A page that maps itself: valid, leaf, readable, writable, executable. -/
def page0 : TlbEntry := { tag := 5, va := 0, size := 65536, leaf := 31 }

/-- A live context of function 0 in composition 0. -/
def ctx0 : Ctx :=
  { fn := 0, comp := 0, tag := 5, state := .live, rt := false, prio := false, weight := 65536, pass := 0, time := 0, overrun := 0, ovf := 0,
    ovfSat := false, srseed := 0, sel := 0, lastQ := 0, destroyBy := none, destroyAt := 0, invalidating := false, guilty := false }

/-- A command record of an opcode. -/
def rec0 (opcode : Nat) : CmdRec :=
  { opcode := opcode, flags := 0, operator := 0, layer := 0, sigFence := 0, waitFence := 0, sigValue := 0, waitValue := 0, launchDt := 0,
    a0 := 0, a1 := 0, a2 := 0, raw := [] }

/-- A map of composition 0: cores 0 and 1, channel 0, partition 0. -/
def map0 : MapRec :=
  { shared := false, sliced := false, standby := false, fn := 0, drainUs := 100, demand := 2, savePerPart := 1, cores := [0, 1], channels := [0],
    parts := [0], far := [], ports := [(0, 1, some 1)] }

/-- Composition 0 ACTIVE with cores 0 and 1, channel 0, partition 0 and a live context whose tag is pinned, with one page; a work-list header stands at
0x1000; core 0 runs. -/
def bench : State :=
  (({ run0 with
      coreOwner := [(0, ⟨0, .staying⟩), (1, ⟨0, .staying⟩)]
      coreReady := [(0, true), (1, true)]
      partOwner := [(0, ⟨0, .staying⟩)]
      chanOwner := [(0, ⟨0, .staying⟩)]
      comps := [(0, { Comp.init with record := some map0 })]
      ctxs := [(0, ctx0)]
      tagsUsed := [5]
      pinned := [page0]
      mem := [(47, 0xC0#8), (0x1000, 1#8), (0x1006, 8#8), (0x1008, 1#8)]
      queues := [(0, { Ring.init with n := 4, doorbell := 1 })]
      fences := [(0, { Fence.init with taken := true, value := 7 })]
      hosts := [(0, { HostPort.init with up := true })] } : State).setFld F.CMP_STATUS_state 0 2).setCore 0 0 { Res.init with status := .running }

/-- The bench with core 0's resident changed. -/
def benchCore (f : Res → Res) : State := bench.onCore 0 0 f

/-- The bench with queue 0's command. -/
def benchCmd (k : Cur) : State := bench.setRing (.queue 0) { bench.ring (.queue 0) with cur := some k, prod := 1 }

/-- The launch that the header at 0x1000 describes, on core 0. -/
def launch0 : Launch :=
  { ctx := 0, q := .queue 0, index := 0, state := .running, entry := 0, headerVa := 0x1000, headerPa := 0x1000, headerSel := 0, fixed := true,
    noReissue := false, itemBytes := 8, count := 1, itemsVa := 0x4000, argsVa := 0x5000, cores := [0, 1], dt := 0, since := 0, late := false,
    aborting := none, faulted := false, squashed := false, coreLost := false, step := false, bars := [], clBars := [], broken := false,
    recorded := false }

/-- The bench with a launch running in lane 0. -/
def benchLaunch (f : Res → Res) : State := { benchCore f with launches := [(laneKey 0 0, launch0)] }

/-- The command of a queue as it has been taken. -/
def cur0 (opcode : Nat) : Cur := Cur.of (rec0 opcode) 4000000

/-- Registers of a file with g1 set. -/
def fileG1 (v : Word) : SeqFile := SeqFile.init.wg 1 v

/-! ## The hypotheses of the statements are met -/

theorem witness_CommandsGoOn :
    (Instr.parkedPullWake 671 1).named = true ∧ (Instr.parkedPullWake 672 0).named = false ∧ (Instr.parkedPullWake 0 2).named = false := by
  decide

theorem witness_WordRoundTrip :
    (let c := Instr.seqAdd (.core 671 1) ⟨7, true⟩ (-1)
     c.wellFormed = true ∧ (c.word).isSome = true ∧ c.executor = some (.core 671 1, false)) ∧
    (let c := Instr.rcvTile 0 0 ⟨0, false⟩ 0 true
     c.wellFormed = true ∧ (c.word).isSome = true ∧ c.executor = some (.core 0 0, true)) := by decide

theorem witness_WordKept : (Seqr.cp 15).named = true ∧ (Seqr.core 671 1).named = true := by decide

theorem witness_ScalarArithmetic :
    ((Seqr.core 671 1).named = true ∧ core0.issues (.core 671 1) = true ∧ ob 0 32 0 = 0) ∧
    ((Seqr.cp 15).named = true ∧ core0.issues (.cp 15) = true ∧ ob 0 37 6 = 0 ∧ raOf 0 = 0 ∧ ob 0 37 32 = 0) := by decide

theorem witness_ScalarTruth :
    (let q := Seqr.core 671 1
     let o : Ops := 0
     q.named = true ∧ core0.issues q = true ∧ ob o 44 43 = 0 ∧ ob o 32 0 = 0 ∧ ob o 37 33 = 0 ∧ ob o 38 0 = 0 ∧ ob o 41 39 = 0 ∧ ob o 29 0 = 0) ∧
    (⟨7, true⟩ : Pred).psel < 8 := by decide

theorem witness_ScalarBranches :
    (let q := Seqr.core 671 1
     q.named = true ∧ core0.issues q = true ∧ encBR 0 false false true = 0 ∧ encBR 0 true false true = 0 ∧ encBR 0 false true false = 0 ∧
       encBR 0 false true true = 0 ∧ ((core0.fileOf q).rg (raOf 0)).toNat % 8 = 0) := by decide

theorem witness_ScalarFileFrame : SeqFile.init.g.length = 32 ∧ SeqFile.init.p.length = 8 := by decide

theorem witness_IllegalEncodings :
    coreNamed 671 1 = true ∧ core0.canIssue 671 1 = true ∧ ob 1 32 0 ≠ 0 ∧ (∀ e ∈ cpRows, e.2 0 = 0) ∧ core0.cpCanIssue 15 = true := by
  decide
theorem witness_ScalarAccesses :
    (let s := bench
     let x := s.core 0 0
     let q := s.vread (s.scalarWho 0 0) (s.scalarSpace 0 0 false) (x.file.ea 0) (sizeBytes .d) needR
     coreNamed 0 0 = true ∧ s.canIssue 0 0 = true ∧ x.file.holds ⟨0, false⟩ = true ∧ x.file.ea 0 % sizeBytes .d = 0 ∧ q.wait = false ∧
       q.fail = none) ∧
    (let s := bench
     let x := s.core 0 0
     let q := s.vwrite (s.scalarWho 0 0) (s.scalarSpace 0 0 true) (x.file.ea 0) (leBytes (sizeBytes .d) (x.file.rg (rdOf 0)).toNat) needW
     q.wait = false ∧ q.fail = none ∧ s.spaceRemote (s.scalarSpace 0 0 true) (x.file.ea 0) needW = false) ∧
    (let s := bench
     let x := s.core 0 0
     let q := s.atomicAt (s.scalarWho 0 0) false (.store 0) (.scalar 0) (s.ctxTag x.ctx) (x.file.ea 0) 8 fun v => v + (x.file.rg (rdOf 0)).toNat
     q.wait = false ∧ q.fail = none) ∧
    ((bench.core 0 0).file.ea 1 % sizeBytes .d ≠ 0 ∧ (bench.core 0 0).file.ea 1 % 8 ≠ 0) ∧
    (bench.cpCanIssue 15 = true ∧ (bench.cp 15).file.holds ⟨0, false⟩ = true ∧
      isRemote ((bench.cp 15).file.ea 0) = false) := by decide +kernel

theorem witness_ScalarAccesses_cp :
    (∃ t v, bench.cpRead 15 ((bench.cp 15).file.ea 0) 8 = .done t v) ∧
    (∃ t v, bench.cpWrite 15 ((bench.cp 15).file.ea 0) 8 ((bench.cp 15).file.rg (rdOf 0)).toNat = .done t v) :=
  ⟨⟨_, _, rfl⟩, ⟨_, _, rfl⟩⟩

/-- Core 0 with a port UP and a page of the partner's memory, whose first line a READ has brought. -/
def benchRemote : State :=
  let s := bench.setFld F.PRT_STATUS_state 0 5
  { s with pinned := [⟨5, 0, 65536, 31 + 0x800000000000⟩]
           remoteBuf := (List.range 64).map fun i => (remKey (.scalar 0 0) (0x800000000000 + i), 0#8) }

theorem witness_ScalarAccesses_remote :
    (let s := benchRemote
     let x := s.core 0 0
     let q := s.vwrite (s.scalarWho 0 0) (s.scalarSpace 0 0 true) (x.file.ea 0) (leBytes (sizeBytes .d) (x.file.rg (rdOf 0)).toNat) needW
     q.wait = false ∧ q.fail = none ∧ s.spaceRemote (s.scalarSpace 0 0 true) (x.file.ea 0) needW = true ∧
       (q.s.commitOwner (ownerCore 0)).groupsClosed (ownerCore 0) = false) ∧
    (let s := benchCore fun x => { x with wait := .busy (stCode .d) 0 true }
     s.goesOn 0 0 (stCode .d) 0 = true ∧ (s.core 0 0).sent = true ∧ s.groupsClosed (ownerCore 0) = true ∧
       s.groupsPoisoned (ownerCore 0) = false) := by decide +kernel
theorem witness_ControlRegisters :
    (let s := bench
     let p : Pred := ⟨0, false⟩
     coreNamed 0 0 = true ∧ s.canIssue 0 0 = true ∧ (s.core 0 0).file.holds p = true ∧ encCsr 0 true false = 0 ∧
       (∀ k ∈ List.range 9, (s.coreCsr 0 0 k).isSome = true) ∧ (s.core 0 0).rank = none ∧ (s.core 0 0).item = none) ∧
    ((benchCore fun x => { x with rank := some 3, item := some 4 }).core 0 0).rank = some 3 ∧
    (∀ k ∈ [4, 6, 7, 8], encCsr (BitVec.ofNat 48 k) false true = 0 ∧ ob (BitVec.ofNat 48 k) 11 0 = k) ∧
    (let s := benchCore fun x => { x with file := fileG1 1#64 }
     let o : Ops := BitVec.ofNat 48 (2 ^ 38 + 7)
     encCsr o false true = 0 ∧ ((s.core 0 0).file.rg (raOf o)).toNat % 4 ≠ 0) ∧
    (((bench.core 0 0).file.rg (raOf 7)).toNat % 4 = 0 ∧ bench.ctxRt (bench.core 0 0).ctx = false) ∧
    encRRuse 0 false true false = 0 ∧
    (bench.cpCanIssue 15 = true ∧ (bench.cp 15).file.holds ⟨0, false⟩ = true ∧ encCS 0 true false = 0 ∧ encCS 0 false true = 0 ∧
      (bench.cpCsr 15 0x100).isSome = true ∧ encCS 0x100 true false = 0) ∧
    ((bench.setCp 15 { Cp.init with wakes := [.doorbell (.queue 0)] }).cp 15).wakes = [.doorbell (.queue 0)] := by decide

theorem witness_SequencerWaits :
    (let s := bench
     let p : Pred := ⟨0, false⟩
     let x := s.core 0 0
     coreNamed 0 0 = true ∧ s.canIssue 0 0 = true ∧ x.file.holds p = true ∧ encW 0x3FE = 0 ∧ x.stationsDone (ob 0x3FE 9 0) x.seqNo = true ∧
       encRRuse 0 false true false = 0 ∧ (x.file.rg (raOf 0)).toNat ≤ s.dtOf 0 ∧ (∀ e ∈ setupRows, e.2.2 (BitVec.ofNat 48
         (if e.2.1 < 0x82 then 0 else if e.2.1 < 0x84 then 0x400000000000 else 0x700800000000)) = 0)) ∧
    (let i : StIns := { u := 4, op := 0x28, ops := 0, sc := [], pc := 0, seq := 0 }
     let x := (benchCore fun x => { x with sq := [i], seqNo := 1 }).core 0 0
     x.stationsDone (ob 0x3FE 9 0) x.seqNo = false) ∧
    (let s := benchCore fun x => { x with file := fileG1 (BitVec.allOnes 64) }
     s.dtOf 0 < ((s.core 0 0).file.rg (raOf (BitVec.ofNat 48 (2 ^ 38)))).toNat) ∧
    (let s := benchCore fun x => { x with wait := .dt 4000000 }
     (s.core 0 0).wait = .dt 4000000 ∧ (s.core 0 0).status = .running ∧ 4000000 ≤ s.dtOf 0) ∧
    (let s := bench.setCp 15 { Cp.init with until_ := some 4000000 }
     (s.cp 15).until_ = some 4000000 ∧ 4000000 ≤ s.dtOf (cpIsl 15)) ∧
    (bench.cpCanIssue 15 = true ∧ ((bench.cp 15).file.rg (raOf 0)).toNat ≤ bench.dtOf (cpIsl 15)) ∧
    ((bench.core 0 0).setupHeld 0x80 0 = false) ∧
    (let i : StIns := { u := 1, op := 0, ops := 0, sc := [], pc := 0, seq := 0 }
     ((benchCore fun x => { x with sq := [i] }).core 0 0).setupHeld 0x80 0 = true) ∧
    (let s := benchCore fun x => { x with wait := .setup 0x80 0 }
     (s.core 0 0).wait = .setup 0x80 0 ∧ (s.core 0 0).setupHeld 0x80 0 = false) := by decide


/-- A LOAD queue of four handles, from handle 0, that MATRIX consumes. -/
def loadQueue : TQueue := queueRec (1 + 4 * 16 + 3 * 16384)

/-- A 64 KiB-wide read stream of 32-byte rows. -/
def stream0 : Stream := streamRec fun i => if i = 0 then 31 * 2 ^ 55 else if i = 6 then 32 + 4 * 2 ^ 44 else 0

/-- A tile of one row of 32 bytes in FP32. -/
def tile0 : Handle := handleRec 0

/-- Handles 0 and 1 a tile of a row, stream 15 a read stream. -/
def benchTiles : State := benchCore fun x => { x with handles := [(0, tile0), (1, tile0)], streams := [(15, stream0)] }

theorem witness_SequencerWaits_setups :
    (∀ e ∈ setupRows, e.2.1 ≠ 0x84 →
      let o := BitVec.ofNat 48 (if e.2.1 < 0x82 then 0 else if e.2.1 < 0x84 then 0x400000000000 else 0x7F0800000000)
      e.2.2 o = 0 ∧ benchTiles.setupFault 0 0 e.2.1 o = 0) ∧
    (let o : Ops := 0x700800000000
     let s := benchCore fun x => { x with file := (x.file.wg 1 (BitVec.ofNat 64 (2 ^ 53 + 31 * 2 ^ 55))).wg 7 (BitVec.ofNat 64 (32 + 4 * 2 ^ 44)) }
     encSdef o = 0 ∧ s.setupFault 0 0 0x84 o = 0) ∧
    bench.setupFault 0 0 0x86 0x7F0800000000 ≠ 0 := by decide

theorem witness_SetupEffects :
    ((handleRec 0).ok (bench.spLimit 0) = true ∧ (bench.core 0 0).handleBusy 0 = false) ∧
    ((benchTiles.core 0 0).handles.find 0 = some tile0 ∧ f32Finite 0 = true ∧ (benchTiles.core 0 0).handleBusy 0 = false) ∧
    ((bench.core 0 0).queueOk 0 loadQueue = true) ∧
    (let x := (benchCore fun x => { x with queues := [(0, loadQueue)] }).core 0 0
     x.tq 0 = some loadQueue ∧ loadQueue.allEmpty = true ∧ x.isTarget 0 = false) ∧
    ((benchTiles.core 0 0).streams.find 15 = some stream0) := by decide

theorem witness_WorkItems :
    (let s := benchLaunch id
     let x := s.core 0 0
     let l := launch0
     let c := s.claimItem 0 0 l
     let t := c.s.onCore 0 0 fun x => { x with item := some 0 }
     let q := t.vread (t.scalarWho 0 0) (t.scalarSpace 0 0 false) l.itemsVa l.itemBytes needR
     s.canIssue 0 0 = true ∧ x.file.holds ⟨0, false⟩ = true ∧ s.launchOf 0 0 = some l ∧ x.item = none ∧ x.leaveReq = false ∧ l.closed = false ∧
       c.wait = false ∧ c.fail = none ∧ c.item = some 0 ∧ q.wait = false ∧ q.fail = none) ∧
    (let s := benchLaunch fun x => { x with item := some 5 }
     s.canIssue 0 0 = true ∧ s.launchOf 0 0 = some launch0 ∧ (s.core 0 0).item = some 5) ∧
    (let t := ((benchLaunch id).claimItem 0 0 launch0).s
     let c := t.claimItem 0 0 launch0
     let d := c.s.headerStep 0 0 launch0 hDone 8 id
     t.canIssue 0 0 = true ∧ t.launchOf 0 0 = some launch0 ∧ (t.core 0 0).item = none ∧ c.wait = false ∧ c.fail = none ∧ c.item = none ∧
       d.fail = none) ∧
    (let s := benchLaunch fun x => { x with wait := .parked, leaveReq := true }
     (s.core 0 0).status = .running ∧ (s.core 0 0).wait = .parked ∧ s.launchOf 0 0 = some launch0 ∧ (s.core 0 0).leaveReq = true) ∧
    (bench.core 0 0).item = none ∧
    (let s := benchLaunch fun x => { x with item := some 0 }
     let c := s.publish 0 0
     let d := (c.freeClosed (ownerCore 0)).headerStep 0 0 launch0 hDone 8 fun v => v + 1
     (s.core 0 0).item = some 0 ∧ s.launchOf 0 0 = some launch0 ∧ (s.core 0 0).sq = [] ∧ (s.core 0 0).started = [] ∧ (s.core 0 0).replay = [] ∧
       c.groupsClosed (ownerCore 0) = true ∧ c.groupsPoisoned (ownerCore 0) = false ∧ d.wait = false ∧ d.fail = none) := by decide +kernel

theorem witness_CommandProcessorOps :
    (let s := bench
     let t := s.setCp 0 { s.cp 0 with aliveAt := s.aon.dt }
     s.cpCanIssue 0 = true ∧ (s.cp 0).file.holds ⟨0, false⟩ = true ∧ encRRuse 0 true false false = 0 ∧ t.choose 0 = none) ∧
    (let s := bench.setRing (.queue 0) { bench.ring (.queue 0) with prod := 1 }
     (s.setCp 0 { s.cp 0 with aliveAt := s.aon.dt }).choose 0 = some (.queue 0)) ∧
    (encRRuse 0 true true false = 0 ∧ (bench.cp 0).wakes = [] ∧ ((bench.cp 0).file.rg (raOf 0)).toNat = 0) ∧
    ((bench.setCp 0 { Cp.init with wakes := [.doorbell (.queue 0)] }).cp 0).wakes ≠ [] ∧
    (let s := bench.setCp 0 { Cp.init with file := fileG1 4000000#64 }
     let d := ((s.cp 0).file.rg (raOf (BitVec.ofNat 48 (2 ^ 38)))).toNat
     encRRuse (BitVec.ofNat 48 (2 ^ 38)) true true false = 0 ∧ d ≠ 0 ∧ d ≤ s.dtOf (cpIsl 0)) ∧
    (let s := bench.setCp 15 { Cp.init with sleep := some (31, 4000000) }
     (s.cp 15).sleep = some (31, 4000000) ∧ 4000000 ≤ s.dtOf (cpIsl 15)) ∧
    (encRRuse 0 true true true = 0 ∧ ((bench.cp 0).file.rg (raOf 0)).toNat < 2 ^ 32) ∧
    (encRRuse 0 false true true = 0 ∧ (bench.charge 0 0).ctxs.find 0 = some ctx0) := by decide +kernel

/-- A record of a LAUNCH stands at address 0, and queue 0's command is that record, whose launch may start or not. -/
def benchIssue (a0 : Nat) : State :=
  (benchCmd { cur0 1 with rec_ := { rec0 1 with a0 := a0, raw := leBytes 64 (0xC0 * 2 ^ 376) } }).setCp 0 { Cp.init with taken := [(0, .queue 0)] }

/-- What issuing the record at address 0 comes to, where queue 0 runs it. -/
def issueAt0 (s : State) : Option IssueEnd :=
  match s.cpRead 0 ((s.cp 0).file.rg (raOf 0)).toNat 64 with
  | .done u v => if u.recordQueue 0 0 v = some (.queue 0) ∧ (u.runnable (.queue 0) 1).isSome then some (u.issue (.queue 0)).2 else none
  | _ => none

theorem witness_CommandProcessorOps_issue :
    issueAt0 (benchIssue 0x1000) = some .issued ∧ issueAt0 (benchIssue 0) = some (.refused 6) := by decide +kernel

theorem witness_StationDispatch :
    (bench.dispatches 0 0 4 0x28 ⟨0, false⟩ 0x60FFFFFF0000 = true) ∧
    (let s := bench
     let x := s.core 0 0
     coreNamed 0 0 = true ∧ s.canIssue 0 0 = true ∧ x.stationFault (s.shared x.comp) 4 0x28 0x60FFFFFF0000 = 0 ∧ x.file.holds ⟨1, false⟩ = false) ∧
    (let x := bench.core 0 0
     x.stationFault (bench.shared x.comp) 4 0x28 0 ≠ 0) := by decide
/-- An instruction dispatched at core 0's first resident, and what it becomes as it starts: the hypotheses of StationWork. -/
def worksAt (s : State) (u op : Nat) (o : Ops) : Bool :=
  let i := (s.core 0 0).stationIns u op o
  let d := s.dispatched 0 0 u op o
  let b := d.begun 0 0 i
  s.dispatches 0 0 u op ⟨0, false⟩ o && s.stationIdle 0 0 u && (s.core 0 0).replay.isEmpty && d.startable 0 0 i &&
    match (b.core 0 0).oldest u with
    | some t => (b.workOutcome 0 0 t).fail.isNone && (b.workOutcome 0 0 t).ready
    | none => false

theorem witness_StationWork :
    worksAt benchTiles 1 0x00 0x007FFFFF0000 = true ∧ worksAt benchTiles 3 0x00 0x0100FFFF0000 = true ∧
    worksAt benchTiles 4 0x28 0x60FFFFFF0000 = true ∧ worksAt benchTiles 5 0x02 0x010000FF0000 = true := by decide +kernel

theorem witness_StationSteps :
    (let i := (bench.core 0 0).stationIns 4 0x28 0x60FFFFFF0000
     let s := bench.dispatched 0 0 4 0x28 0x60FFFFFF0000
     (s.core 0 0).status = .running ∧ (s.dom 0).state = .on ∧ (s.core 0 0).headOf 4 = some i ∧ i.u = 4 ∧ s.startable 0 0 i = true ∧
       (let b := s.begun 0 0 i
        ((b.core 0 0).oldest 4).isSome = true ∧ (∀ t ∈ (b.core 0 0).oldest 4, (b.workOutcome 0 0 t).fail = none ∧ (b.workOutcome 0 0 t).ready = true))) ∧
    (let st := { stream0 with target := some 0 }
     let s := benchCore fun x => { x with handles := [(0, tile0)], queues := [(0, loadQueue)], streams := [(15, st)] }
     let p := s.prefetch 0 0 15 st
     let x := p.core 0 0
     let j := x.aheadNext 15 st
     let a : Ahead := { st := 15, k := j, tq := 0, h := loadQueue.head, arrived := false }
     let u := p.onCore 0 0 fun x =>
       { x.setTq 0 { (loadQueue.setTok loadQueue.head .filling) with head := loadQueue.next loadQueue.head } with ahead := x.ahead ++ [a], actAt := p.aon.dt }
     let w := u.loadTile (.ahead 0 0 15 j) 0 0 15 st j 0 tile0
     (s.core 0 0).streams.find 15 = some st ∧ (s.core 0 0).status = .running ∧ (s.dom 0).state = .on ∧ x.ahead = [] ∧ x.streams.find 15 = some st ∧
       st.target = some 0 ∧ x.tq 0 = some loadQueue ∧ x.handles.find loadQueue.head = some tile0 ∧ st.write = false ∧ j < st.total ∧
       j < st.p + st.depth ∧ st.held.find j = none ∧ loadQueue.tok loadQueue.head = .empty ∧ tileFits tile0 st 0 = 0 ∧ w.fail = none ∧
       w.short = false) ∧
    (let p := benchTiles.prefetch 0 0 15 stream0
     (benchTiles.core 0 0).streams.find 15 = some stream0 ∧ (p.core 0 0).ahead = [] ∧ (p.core 0 0).aheadQueue 15 = none) ∧
    (let i := (bench.core 0 0).stationIns 4 0x00 0x604001FF0000
     let s := benchCore fun x => { x with handles := [(0, tile0), (1, tile0)], queues := [(0, loadQueue)], sq := [i], seqNo := 1 }
     (s.core 0 0).stuck = true ∧ (s.core 0 0).fault = none ∧ (s.core 0 0).sq = [i] ∧ (s.core 0 0).actAt + us 1 ≤ s.aon.dt) ∧
    (bench.core 0 0).stuck = false := by decide +kernel
theorem witness_SyncOps :
    (let none_ : Ops := 0xFFFFFFFF0000
     let gg : Ops := 0x8080FFFF0000
     let p : Pred := ⟨0, false⟩
     let own := ownerCore 0
     let s := benchLaunch id
     let at_ (op : Nat) (o : Ops) : State := s.dispatched 0 0 9 op o
     let i (op : Nat) (o : Ops) : StIns := (s.core 0 0).stationIns 9 op o
     coreNamed 0 0 = true ∧ s.stationIdle 0 0 9 = true ∧
     (s.dispatches 0 0 9 0x10 p none_ = true ∧ ((at_ 0x10 none_).core 0 0).storesDone (i 0x10 none_) = true ∧
       ((at_ 0x10 none_).publish 0 0).groupsClosed own = true ∧ ((at_ 0x10 none_).publish 0 0).groupsPoisoned own = false) ∧
     (s.dispatches 0 0 9 0x18 p gg = true ∧ ((at_ 0x18 gg).fence ((i 0x18 gg).val 0)).isSome = true ∧ (i 0x18 gg).val 0 < 2 ^ 32 ∧
       (∀ f ∈ (at_ 0x18 gg).fence ((i 0x18 gg).val 0), ((at_ 0x18 gg).ctxs.find ((at_ 0x18 gg).core 0 0).ctx).map (·.fn) = some f.fn ∧
         f.abandoned = false ∧ (i 0x18 gg).val 1 ≤ f.value)) ∧
     (let u := at_ 0x09 gg
      let q := u.atomicAt (u.scalarWho 0 0) true (.store 0) (.scalar 0) (u.ctxTag (u.core 0 0).ctx) ((i 0x09 gg).val 0) 8
        fun v => (v + (i 0x09 gg).val 1) % 2 ^ 64
      s.dispatches 0 0 9 0x09 p gg = true ∧ q.wait = false ∧ q.fail = none) ∧
     (let u := at_ 0x08 gg
      let c := u.publish 0 0
      let d := c.freeClosed own
      let q := d.atomicAt (d.scalarWho 0 0) true (.store 0) (.scalar 0) (d.ctxTag (d.core 0 0).ctx) ((i 0x08 gg).val 0) 8 fun _ => (i 0x08 gg).val 1
      s.dispatches 0 0 9 0x08 p gg = true ∧
       (u.core 0 0).storesDone (i 0x08 gg) = true ∧ c.groupsClosed own = true ∧ c.groupsPoisoned own = false ∧ q.wait = false ∧ q.fail = none) ∧
     (let u := at_ 0x0A gg
      let w := u.scalarWho 0 0
      let v := ((u.unhold w.own 0).placeWatch 0 0 (memIsl 0 - 84)).syncWait 0 0 (i 0x0A gg)
      let q := v.readPhys w (leafSel 31) 0 8
      s.dispatches 0 0 9 0x0A p gg = true ∧ u.sleepWait w (leafSel 31) 0 = none ∧
       q.st = .ok ∧ flagCond (bits (modOf gg) 1 0) (leNat q.data) ((i 0x0A gg).val 1) = true) ∧
     (s.dispatches 0 0 9 0x02 p none_ = true ∧ (at_ 0x02 none_).launchOf 0 0 = some launch0 ∧ launch0.fixed = true ∧ launch0.broken = false ∧
       ((at_ 0x02 none_).core 0 0).passed (bits (modOf none_) 1 0) = true) ∧
     (∀ op ∈ [0, 1],
       let c := (at_ op none_).publish 0 0
       s.dispatches 0 0 9 op p none_ = true ∧ (at_ op none_).launchOf 0 0 = some launch0 ∧
         ((at_ op none_).core 0 0).syncOn ≠ some (i op none_).seq ∧ ((at_ op none_).core 0 0).arrived.getD (bits (modOf none_) 1 0) none = none ∧
         ((at_ op none_).core 0 0).storesDone (i op none_) = true ∧ c.writesVisible 0 0 (i op none_) = true ∧ c.groupsPoisoned own = false)) := by
  decide +kernel

theorem witness_SyncOps_here :
    let s := benchLaunch id
    let at_ (op : Nat) : State := s.dispatched 0 0 9 op 0x8080FFFF0000
    let va (op : Nat) : Nat := ((s.core 0 0).stationIns 9 op 0x8080FFFF0000).val 0
    (at_ 0x09).flagAt 0 0 (va 0x09) true = .here (at_ 0x09) 0 31 ∧ (at_ 0x08).flagAt 0 0 (va 0x08) true = .here (at_ 0x08) 0 31 ∧
      (at_ 0x0A).flagAt 0 0 (va 0x0A) false = .here (at_ 0x0A) 0 31 := ⟨rfl, rfl, rfl⟩
/-- The register that function 0 finds at an offset, and whether it may write it. -/
def atOff (off : Nat) : Option (RegName × Bool) := (bench.locate (.fn 0) (off / 8 * 8)).map fun x => (x.r, x.wr)

theorem witness_AccessesThatDoNotFit :
    (Accessor.fn 127).named = true ∧ Accessor.fw.named = true ∧ (3 ≠ 4 ∧ 3 ≠ 8) ∧ 4 % 8 ≠ 0 ∧
    (0xEFFFF8 % 8 = 0 ∧ msixPlace 0xEFFFF8 = .none ∧ bench.locate (.fn 0) (0xEFFFF8 / 8 * 8) = none) := by decide +kernel

theorem witness_RegisterWrites :
    (accessFits 0x100020 8 = true ∧ accessFits 0x100024 4 = true ∧ msixPlace 0x100020 = .none ∧ atOff 0x100020 = some (.CMP_SLICE, true)) ∧
    (∀ r ∈ [RegName.MEM_PXW_BASE, .SCH_CYC_CFG, .CTX_ADMIN], msixPlace r.row.base = .none ∧ atOff r.row.base = some (r, true)) ∧
    accessMask RegName.MEM_PXW_BASE.row.base 8 &&& F.MEM_PXW_BASE_base.mask ≠ 0 ∧
    (∀ w, storedWord .CTX_EVR_BASE w = w) ∧
    (RegName.CMP_SLICE.hasCopy 63 = true ∧ RegName.MON_TW_HIST.hasCopy 31 = true ∧ (RegName.CMP_SLICE, 63) ≠ (RegName.MON_TW_HIST, 31)) ∧
    (msixPlace 0xF00000 = .table 0 ∧ accessFits 0xF00000 8 = true) := by
  refine ⟨by decide +kernel, by decide +kernel, by decide +kernel, fun w => rfl, by decide +kernel, by decide +kernel⟩

theorem witness_RegisterReads :
    (accessFits 0x100020 8 = true ∧ msixPlace 0x100020 = .none ∧ msixPlace 0x100024 = .none ∧ atOff 0x100020 = some (.CMP_SLICE, true)) ∧
    (RegName.MEM_RSV_STAT.row.rc &&& accessMask RegName.MEM_RSV_STAT.row.base 8 ≠ 0 ∧ (atOff RegName.MEM_RSV_STAT.row.base).map (·.1) = some .MEM_RSV_STAT) := by
  decide +kernel

theorem witness_DomainGating :
    (domKind 83 ≠ .seam ∧ (run0.dom 83).state = .on ∧ (run0.dom 83).trans = .none ∧ (run0.dom 83).queue = [] ∧ (run0.dom 83).tripped = false ∧
      run0.ladderOn.contains 83 = false ∧ run0.gateRefusal 83 = none) ∧
    (domKind 142 ≠ .seam ∧ (run0.dom 142).state = .on ∧ run0.gateRefusal 142 ≠ none ∧ run0.dependentOn 142 = true) ∧
    (domKind 84 = .nm ∧ (run0.dom 84).trans = .none) ∧
    (let s := run0.setDom 83 { run0.dom 83 with trans := .gating .off 0 }
     (s.dom 83).trans = .gating .off 0 ∧ s.islBusy 83 = false ∧ 0 + us 10 ≤ s.aon.dt ∧ ((depsOf 83).all fun j => s.domOn j) = true) := by decide +kernel

theorem witness_DomainWaking :
    (domKind 2 ≠ .seam ∧ (run0.dom 2).state ≠ .on ∧ (run0.dom 2).trans = .none ∧ (run0.dom 2).queue = [] ∧ (run0.dom 2).tripped = false ∧
      run0.ladderOn.contains 2 = false ∧ ((depsOf 2).all fun j => run0.domOn j) = true ∧ (run0.dom 2).gateBefore run0.aon.dt = none) ∧
    ({ Dom.init 2 with last := some ⟨.off, 4000000, false⟩ } : Dom).gateBefore run0.aon.dt ≠ none ∧
    (let s := run0.setDom 2 { run0.dom 2 with trans := .waking .off 0 }
     (s.dom 2).trans = .waking .off 0 ∧ ((depsOf 2).all fun j => s.domOn j) = true ∧ 0 + us 1 ≤ s.aon.dt) ∧
    ((run0.dom 83).state = .on ∧ clockOffered 83 600 = true) := by decide +kernel

theorem witness_DomainRequests :
    run0.fld F.PWR_DOM_STATUS_busy 0 ≠ 1 ∧ (run0.setFld F.PWR_DOM_STATUS_busy 0 1).fld F.PWR_DOM_STATUS_busy 0 = 1 ∧
    domKind 136 = .seam ∧ domKind 147 ≠ .seam ∧ domKind 84 = .nm ∧
    (let t := run0.setFld F.PWR_DOM_STATUS_island 0 83
     t.dry = false ∧ (t.dom 83).tripped = false ∧ t.ladderOn.contains 83 = false ∧
       ((depsOf 83).any fun j => (t.dom j).state != .on && t.ladderOn.contains j) = false) ∧
    ((run0.setDom 83 { run0.dom 83 with tripped := true }).dom 83).tripped = true := by decide +kernel

theorem witness_RegisterPlaces :
    (RegName.CMP_SLICE.hasCopy 63 = true ∧ RegName.CMP_SLICE.row.perFn = false ∧ RegName.CMP_SLICE.row.scope ≠ .none) ∧
    (RegName.CTX_ADMIN.row.perFn = true ∧ RegName.CTX_ADMIN.row.scope ≠ .none) := by decide +kernel
/-- An outstanding entry for a request. -/
def outst0 (q : MemReq) : Outstanding := { req := q, gen := 0, resent := false, at_ := 4000000, remote := false, old := false, discarded := false }

/-- A read of 8 bytes by core 0's sequencer. -/
def req0 (a : Nat) : MemReq :=
  { owner := .scalar 0 0, entry := 0, addr := a, len := 8, op := .read, sel := 0, comp := some 0, epoch := 0, cls := 2, log := false, seg := 0, cellErr := .none,
    fabErr := .none }

theorem witness_UnmappedIsDecode :
    (∀ a ∈ [0x000900000000, 0x01A800000000, 0x01BFFFFFFFFF, 0x01A7E0000000, 0x01A7FFFFFFFF],
      let q := req0 a
      q.owner.named = true ∧ q.fabErr = .none ∧ bench.domOn (ownerIsl q.owner) = true ∧
        bench.outst.find (entryKey (ownerIsl q.owner) q.entry) = none ∧ bench.ownerRoom q.owner = true ∧
        bench.seamHeld (ownerIsl q.owner) (memIsl q.addr) = false ∧ (region q.addr = .unmapped ∨ (0x01A800000000 ≤ q.addr ∧ q.addr ≤ 0x01BFFFFFFFFF) ∨ (region q.addr = .dump ∧ q.owner ≠ .fw))) ∧
    (let s := run0.setDom (memIsl 0x01A7E0000000) { run0.dom (memIsl 0x01A7E0000000) with state := .on }
     region 0x01A7E0000000 = .dump ∧ s.domOn (memIsl 0x01A7E0000000) = true) := by decide +kernel

/-- A reply to request 0 of core 0's cluster. -/
def reply0 (gen : Nat) (st : MemStatus) : Reply := { src := 84, isl := 0, entry := 0, gen := gen, st := st, data := [] }

theorem witness_RequestsAndReplies :
    (let q := req0 0x1000
     q.owner.named = true ∧ bench.domOn (ownerIsl q.owner) = true ∧ bench.ownerRoom q.owner = true ∧ reqShapeOk q = true ∧
       bench.outst.find (entryKey (ownerIsl q.owner) q.entry) = none ∧ region q.addr = .near 0 0 ∧ q.fabErr = .none ∧
       bench.intoSleep (ownerIsl q.owner) q.addr = false ∧ bench.seamHeld (ownerIsl q.owner) (memIsl q.addr) = false) ∧
    (let q := { req0 0x1000 with epoch := 1 }
     q.comp = some 0 ∧ bench.accepts (bench.holderOf q.addr) 0 q.epoch = false ∧ region q.addr = .near 0 0) ∧
    (let o := outst0 (req0 0x1000)
     let r := reply0 0 .ok
     let s : State := { bench with outst := [(entryKey 0 0, o)], replies := [r] }
     (s.replies.find? fun v => v.isl == r.isl && v.entry == r.entry && v.gen == r.gen && v.st == r.st && v.data == r.data) = some r ∧
       s.nextReply r.src r.isl = some r ∧ s.seamHeld r.src r.isl = false ∧ s.outst.find (entryKey r.isl r.entry) = some o ∧
       r.gen = s.fld F.FLT_ISL_STAT_gen r.isl ∧ o.gen = r.gen ∧ o.discarded = false ∧ o.resent = false ∧ o.req.comp = some 0 ∧
       (let t : State := { s with replies := [reply0 0 .epochNack, r] }
        t.nextReply r.src r.isl ≠ some r ∧ bench.outst.find (entryKey r.isl r.entry) = none)) ∧
    bench.replies = [] ∧
    (let s : State := { bench with outst := [(0, outst0 (req0 0x1000))], nacked := [(0, 0)] }
     s.nacked.find 0 = some 0 ∧ s.outst.find 0 = some (outst0 (req0 0x1000)) ∧ 0 ≤ s.aon.dt) ∧
    (let o := { outst0 (req0 0x1000) with at_ := 0, remote := true }
     let s : State := { bench with outst := [(0, o)] }
     s.outst.find 0 = some o ∧ o.remote = true ∧ o.at_ + us 50 ≤ s.aon.dt) := by decide +kernel

theorem witness_LineSelectors :
    (zeros 64).length = 64 ∧
    (({ run0 with poison := [(0, true)] } : State).poison.get (8 / 64) false = true ∧ (zeros 8).length ≠ 64) ∧
    (let s : State := { run0 with tags := [(0x010000000000 / 64, 5)], slots := [(5, { Slot.free with count := 2 })] }
     isFar 0x010000000000 = true ∧ s.tagOf (0x010000000000 / 64) ≠ 0 ∧ s.poison.get (0x010000000000 / 64) false = false ∧
       s.seals.get (0x010000000000 / 64) 0 ≠ s.installCount (s.tagOf (0x010000000000 / 64))) := by decide +kernel

theorem witness_PartialWrites :
    let l := 0x010000000000 / 64
    (zeros 1).length < 64 ∧ 63 < 64 ∧ 63 + (zeros 1).length ≤ 64 ∧ run0.poison.get l false = false ∧ run0.tagOf l ≠ 5 ∧ run0.tagOf l = 0 ∧
      run0.sealOk (64 * l + 63) 0 = true ∧
      (let s : State := { run0 with tags := [(l, 5)], slots := [(5, { Slot.free with count := 2 })] }
       s.tagOf l = 5 ∧ s.poison.get l false = false ∧ s.sealOk (64 * l + 63) 5 = false) := by decide +kernel

/-- A commit group that is open. -/
def group0 : Group :=
  { seq := 1, state := 1, port := 0, alt := 255, altBase := 0, mode := 0, range := 0, comp := 0, writes := 1, acked := 0, lo := 0, hi := 0, owner := 0,
    fence := 0, fenceValue := 0, dtOpen := 0, dtCommit := 0, cls := 2, unacked := [0] }

theorem witness_FillsAndLedgerCopies :
    (({ run0 with zeroFills := [.part 23 5] } : State).zeroFills.contains (.part 23 5) = true) ∧
    (let s : State := { run0 with zeroFills := [.core 0] }
     s.zeroFills.contains (.core 0) = true ∧ s.domOn 0 = true ∧ s.coreOwner.find 0 = none) ∧
    (let s : State := { bench with zeroFills := [.core 0] }
     s.zeroFills.contains (.core 0) = true ∧ s.domOn 0 = true ∧ s.coreOwner.find 0 = some ⟨0, .staying⟩) ∧
    (F.MEM_PXW_CFG_enable.of (0#64) = 0 ∧ F.MEM_PXW_CFG_enable.of (BitVec.ofNat 64 (F.MEM_PXW_CFG_enable.into 0 1)) = 1 ∧
      run0.fld F.MEM_PXW_CFG_enable 127 = 0 ∧
      (let v := BitVec.ofNat 64 (F.MEM_PXW_CFG_size.into (F.MEM_PXW_CFG_enable.into 0 1) 1)
       let s := run0.setFld F.MEM_PXW_BASE_base 127 (0x3000000 / 4096)
       (s.setReg .MEM_PXW_CFG 127 (BitVec.ofNat 64 (v.toNat / 64 * 64))).exportOk 7 15 = true) ∧
      (run0.setReg .MEM_PXW_CFG 127 0#64).exportOk 7 15 = false) ∧
    (let s : State := { run0 with ledgerLost := 2 }
     run0.ledgerLost ||| 2 ≠ run0.ledgerLost ∧ run0.ledgerLost ||| 2 ≠ 3 ∧ s.ledgerLost ||| 1 ≠ s.ledgerLost ∧ s.ledgerLost ||| 1 = 3) ∧
    (let s : State := { run0 with ledgerLost := 1 }
     s.ledgerLost = 1 ∧ s.partFree 23 5 = true ∧ s.partFree 0 5 = true ∧ (s.setFld F.MEM_LEDGER_CFG_stack_b 0 18).otherHalf 0 = true) ∧
    (let s : State := { run0 with ledger := [(65535, group0)] }
     s.ledger.find 65535 = some group0 ∧ group0.unacked = [0] ∧ 0 + us 50 ≤ s.aon.dt) := by decide +kernel

theorem witness_StalePublishers :
    (let s : State := { run0 with pressure := [(63, (0, run0.aon.dt - 512))] }
     s.pressure.find 63 = some (0, run0.aon.dt - 512) ∧ run0.aon.dt - 512 + 512 ≤ s.aon.dt ∧ run0.pressure.find 63 = none) ∧
    (let s : State := { run0 with pressure := [(63, (0, run0.aon.dt - 511))] }
     s.pressure.find 63 = some (0, run0.aon.dt - 511) ∧ s.aon.dt < run0.aon.dt - 511 + 512) := by decide +kernel

/-- Words of MEM_RSV_CFG: composition 0 asks for a rate of stack 0; a resource that does not exist. -/
def rsvGood : Word := BitVec.ofNat 64 (F.MEM_RSV_CFG_rate.into (F.MEM_RSV_CFG_valid.into 0 1) 1)
def rsvBad : Word := BitVec.ofNat 64 (F.MEM_RSV_CFG_resource.into (F.MEM_RSV_CFG_valid.into 0 1) 25)

theorem witness_ReservationRows :
    bench.rsvLive 255 = false ∧ (bench.setFld F.MEM_RSV_CFG_state 255 1).rsvLive 255 = true ∧
    (let s := bench.setFld F.MEM_RES_STATUS_derated 0 1000
     F.MEM_RSV_CFG_valid.of rsvGood = 1 ∧ F.MEM_RSV_CFG_class.of rsvGood < 2 ∧ resourceOk (F.MEM_RSV_CFG_resource.of rsvGood) = true ∧
       s.rsvSum 0 + F.MEM_RSV_CFG_rate.of rsvGood ≤ s.fld F.MEM_RES_STATUS_derated 0 * 9 / 10 ∧ s.holds 0 0 = true) ∧
    (F.MEM_RSV_CFG_valid.of rsvBad = 1 ∧ resourceOk (F.MEM_RSV_CFG_resource.of rsvBad) = false) ∧
    (([⟨255, 0, 0⟩] : List WindowSample).all fun w => decide (w.entry < 256)) = true := by decide +kernel

/-- Whether a command goes on to a next state. -/
def goesOn (c : Instr) (s : State) : Bool :=
  match exec c s with
  | .next _ => true
  | _ => false

theorem resource_lt (code : Nat) (h : resourceOk code = true) : code < 48 := by
  simp only [resourceOk, Bool.or_eq_true, Bool.and_eq_true, decide_eq_true_eq] at h
  omega

theorem witness_ReservationsNeverOvercommit :
    let s := bench.setFld F.MEM_RES_STATUS_derated 0 1000
    (∀ code, resourceOk code = true → s.rsvSum code ≤ s.fld F.MEM_RES_STATUS_derated code * 9 / 10) ∧
      goesOn (.reservationAdmission 255 rsvGood) s = true := by
  refine ⟨fun code h => ?_, by decide +kernel⟩
  have all : ∀ c, c < 48 → (bench.setFld F.MEM_RES_STATUS_derated 0 1000).rsvSum c ≤
      (bench.setFld F.MEM_RES_STATUS_derated 0 1000).fld F.MEM_RES_STATUS_derated c * 9 / 10 := by decide +kernel
  exact all code (resource_lt code h)
/-- A descriptor of a type with flags, length, source and destination. -/
def descr0 (type flags len src dst : Nat) : Descr :=
  ⟨0x2000, leBytes 1 type ++ leBytes 1 flags ++ zeros 2 ++ leBytes 4 len ++ leBytes 8 src ++ leBytes 8 dst ++ zeros 104⟩

/-- Channel 0 at work for firmware, in a state, with a descriptor. -/
def benchChan (st : Nat) (d : Option Descr) (fetching : Bool) : State :=
  (bench.setChState 0 st).setChan 0 { DmaCh.init with descr := d, own := true, fetching := fetching }

/-- A physical LINEAR descriptor of 8 bytes with an event, the last of its chain. -/
def linear0 : Descr := descr0 1 45 8 0x1000 0x3000

/-- How the pieces of channel 0's descriptor end from the first not issued. -/
def moveEnd (s : State) (d : Descr) : State × MoveEnd := s.movePieces 0 d (s.sources 0 d) (d.total - (s.chan 0).issued) (s.chan 0).issued

/-- The fetch of a descriptor whose bytes stand at the channel's HEAD. -/
def fetchAt (d : Descr) : State :=
  let s := (benchChan chRunning none true).setFld F.DMA_CH_HEAD_addr 0 0x2000
  { s with mem := (s.store 0x2000 d.bytes).mem }

/-- A physical GATHER of one row whose index table stands at 0x1000. -/
def gather0 : Descr :=
  ⟨0x2000, leBytes 1 4 ++ leBytes 1 44 ++ zeros 2 ++ leBytes 4 64 ++ leBytes 8 0x4000 ++ leBytes 8 0x3000 ++ zeros 40 ++ leBytes 8 0x1000 ++ leBytes 4 1 ++ zeros 52⟩

theorem witness_DmaChains :
    ((∀ f, Accessor.cp 15 ≠ .fn f) ∧ (bench.setChState 0 chIdle).chState 0 = chIdle ∧ bench.domOn 0 = true ∧ accPf (.fn 0) = true ∧
      mayStart (.fn 0) = false) ∧
    (let s := fetchAt linear0
     (s.chan 0).fetching = true ∧ s.chState 0 = chRunning ∧ (s.chan 0).stopped = false ∧
       (let t := s.setChan 0 { s.chan 0 with fetching := false, headPhys := true }
        (t.readDescr 0 0x2000 true).2 = some (some linear0.bytes) ∧ (t.readDescr 0 0x2001 true).2 = some none ∧
          t.descrOk (t.chan 0) ⟨0x2000, linear0.bytes⟩ = true ∧ t.descrOk (t.chan 0) ⟨0x2000, (descr0 6 44 8 0 0).bytes⟩ = false)) ∧
    (let d := descr0 1 41 8 0x1000 0x3000
     let s := benchChan chRunning (some d) false
     (s.chan 0).fetching = false ∧ (s.chan 0).stopped = false ∧ (s.chan 0).descr = some d ∧ s.mayFetchNext 0 d = true ∧
       (s.readDescr 0 (d.u 0x68 8) d.phys).2.isSome = true) ∧
    (let s := benchChan chRunning (some linear0) false
     (s.chan 0).descr = some linear0 ∧ s.chState 0 = chRunning ∧ (s.chan 0).fetching = false ∧ (s.chan 0).stopped = false ∧
       s.poisonedAt 0 = none ∧ (moveEnd s linear0).2 = .done ∧
       (let c := ((moveEnd s linear0).1.issuedTo 0 linear0 linear0.total).commitOwner (ownerDma 0)
        c.groupsClosed (ownerDma 0) = true ∧ c.poisonedAt 0 = none)) ∧
    (let s := benchChan chRunning (some gather0) false
     (moveEnd s gather0).2 = .waits 0) ∧
    (let u : Pulse := { x := 0, cp := 15, status := 0, cause := 0, done := 1, dt := 0, head := 0, pos := 0 }
     let s : State := { run0 with pulses := [u] }
     s.pulses = [u] ∧ u.cp = 15 ∧ s.domOn (cpIsl 15) = true ∧ (s.cp 15).reload = false ∧ (s.cp 15).wakes.length < 1024) ∧
    (let s := (bench.setChState 1343 chWaiting).setChan 1343 { DmaCh.init with descr := some linear0, slotWait := true }
     (s.chan 1343).descr = some linear0 ∧ s.chState 1343 = chWaiting ∧ (s.chan 1343).slotWait = true) := by
  refine ⟨⟨fun f h => (nomatch h), by decide +kernel⟩, by decide +kernel⟩

theorem witness_DmaHalts :
    (let d := descr0 1 45 8 0x000900000000 0x3000
     let s := benchChan chRunning (some d) false
     (s.chan 0).descr = some d ∧ s.chState 0 = chRunning ∧ (s.chan 0).fetching = false ∧ (s.chan 0).stopped = false ∧
       s.poisonedAt 0 = none ∧ (moveEnd s d).2 = .failed 0 1 0x000900000000 false) ∧
    (let s : State := { (benchChan chRunning (some linear0) false) with ledger := [(0, { group0 with state := 5 })] }
     (s.setChan 0 { s.chan 0 with groups := [(1, 0, 0x800000000000)] }).poisonedAt 0 = some (0, 0x800000000000)) ∧
    (let s := benchChan chRunning (some gather0) false
     let q := s.vread (s.chanWho 0 (.indexLine 0 0x1000) clsBulk) (s.chanSpace 0 gather0.phys .index) 0x1000 256 needR
     s.fld F.DMA_ENG_STATUS_index_halt 0 = 0 ∧ s.idxFor 0 0x1000 = some 0 ∧ (s.chan 0).descr = some gather0 ∧ s.serialOf 0 = [] ∧
       q.wait = false ∧ q.fail = none ∧ ({ s with indexSerial := [(0, [(0, 1)])] } : State).serialOf 0 ≠ []) ∧
    ((bench.setFld F.DMA_ENG_STATUS_index_halt 83 1).fld F.DMA_ENG_STATUS_index_halt 83 = 1) ∧
    (let s := benchChan chHalted (some linear0) false
     s.chState 0 = chHalted ∧ s.mayAct (.cp 0) 0 = true ∧ s.mayAct (.fn 0) 0 = true ∧ s.mayAct (.fn 1) 0 = false ∧
       (s.chan 0).descr = some linear0 ∧ s.keyStands 0 = false ∧ s.descrOk (s.chan 0) linear0 = true) ∧
    (let s := benchChan chHalted none false
     s.chState 0 = chHalted ∧ s.mayAct .fw 0 = true ∧ (s.chan 0).descr = none ∧
       ((s.setChan 0 { s.chan 0 with waitRecord := none }).stopIssue 0 .abort).chanQuiet 0 = true) ∧
    (let q : MemReq := { req0 0x1000 with owner := .dmaPiece 0 }
     let s : State := { benchChan chRunning (some linear0) false with outst := [(0, outst0 q)] }
     ((s.setChan 0 { s.chan 0 with waitRecord := none }).stopIssue 0 .abort).chanQuiet 0 = false) := by decide +kernel

theorem witness_LinearPieces : (descr0 1 44 (2 ^ 32 - 1) 1 4095).type = 1 ∧ 1 ≤ (descr0 1 44 (2 ^ 32 - 1) 1 4095).len := by decide +kernel

/-- TLX_POOL words: enabled for partition 1 of stack 0; disabled. -/
def poolWord : Word :=
  BitVec.ofNat 64 (F.TLX_POOL_part.into (F.TLX_POOL_enable.into 0 1) 1)

/-- The bench with a level-0 and a level-1 table that map VA 0 under tag 5. -/
def walkState : State := { bench with mem := [(42, 1#8), (47, 0x80#8), (0x10000, 1#8), (0x10002, 2#8), (0x20000, 31#8)] }

/-- A TLX_DLOG_CFG word: enabled, with a page of far memory that no composition holds. -/
def dlogWord : Word := BitVec.ofNat 64 (F.TLX_DLOG_CFG_base.into (F.TLX_DLOG_CFG_enable.into 0 1) 0x40000)

theorem witness_TranslationRows :
    (F.TLX_POOL_enable.of poolWord = 1 ∧ run0.poolOn 7 = false ∧ (run0.writeReg .TLX_POOL 7 poolWord.toNat (2 ^ 64 - 1)).poolAllowed 7 = true ∧
      (let s := run0.setReg .TLX_POOL 7 poolWord
       s.poolOn 7 = true ∧ F.TLX_POOL_enable.of (0#64) = 0 ∧
         ((s.writeReg .TLX_POOL 7 0 (2 ^ 64 - 1)).tables.any fun x => spansMeet x.addr 1 ((s.writeReg .TLX_POOL 7 0 (2 ^ 64 - 1)).poolBase 7) 0x10000000) = false)) ∧
    (let s := walkState
     (TlbUnit.load 0).named = true ∧ s.domOn (unitIsl (.load 0)) = true ∧ bits (s.rootEntry 5) 62 62 = 0 ∧ (s.walk 5 0).isSome = true ∧
       (s.walkIn (unitHalf (.load 0)) 5 0).isSome = true ∧ bench.walkIn (unitHalf (.load 0)) 6 0 = none) ∧
    (let m : Miss := { unit := .load 0, req := .stream 0 0, tag := 5, page := 0, shared := false, walking := true, fault := false, tile := none }
     let s : State := { walkState with misses := [m] }
     (s.misses.filter fun m => m.unit == .load 0 && m.tag == 5 && m.page == 0 / 65536 && m.walking) ≠ []) ∧
    (let v : Inval := { tag := 5, units := [.load 0], heard := [], at_ := 0, goal := [] }
     let s : State := { bench with invals := [v] }
     (s.invals.any fun v => v.tag == 5 && v.units.contains (.load 0) && !v.heard.contains (.load 0)) = true ∧
       (s.invals.any fun v => v.tag == 5 && v.units.contains (.load 0) && decide (v.at_ + us 1000 ≤ s.aon.dt)) = true) ∧
    (let v : Inval := { tag := 5, units := [.load 0], heard := [.load 0], at_ := 0, goal := [] }
     let s : State := { bench with invals := [v] }
     (s.invals.find? fun v => v.tag == 5 && v.units.contains (.load 0)) = some v ∧ v.heard.contains (.load 0) = true ∧
       s.oldInFlight (.load 0) 5 v.at_ = false) ∧
    (let s : State := { bench with tlbs := [(.load 1, page0)] }
     (TlbUnit.load 1, page0) ∈ (s.dropTag (.load 0) 5).tlbs) ∧
    (F.TLX_DLOG_CFG_enable.of dlogWord = 1 ∧ (run0.writeReg .TLX_DLOG_CFG 63 dlogWord.toNat (2 ^ 64 - 1)).dlogAllowed 63 = true ∧ run0.fld F.TLX_DLOG_CFG_enable 63 = 0 ∧ F.TLX_DLOG_CFG_enable.of (0#64) = 0) ∧
    (let s := run0.setFld F.TLX_DLOG_CFG_enable 63 1
     s.fld F.TLX_DLOG_CFG_flip_busy 63 = 0 ∧ s.fld F.TLX_DLOG_CFG_enable 63 = 1 ∧
       (s.setFld F.TLX_DLOG_CFG_flip_busy 63 1).fld F.TLX_DLOG_CFG_flip_busy 63 = 1) := by decide +kernel
/-- A running device whose port 7 is in a state at a step of bring-up. -/
def runPort (st step : Nat) : State := (run0.setPtState 7 st).onPort 7 fun p => { p with step := step }

/-- Port 7 UP with every wavelength and lane. -/
def goodPort : State :=
  ((((runPort ptUp 0).setFld F.PRT_LOS_STATUS_feed_wl 7 0).setFld F.PRT_LOS_STATUS_feed_los 7 0).setFld F.PRT_LOS_STATUS_rx_lane 7 0).setFld
    F.PRT_LOS_STATUS_los 7 0

/-- An enabled PRT_CFG word. -/
def prtOn : Word := BitVec.ofNat 64 (F.PRT_CFG_enable.into 0 1)

/-- A step that ends well. -/
def stepOk : BringUp := { ok := true, badTx := 0, badRx := 0, role := 0, node := 0, chainOk := true, anchor := [], namesUs := true }

theorem witness_PortBringUp :
    (F.PRT_CFG_enable.of prtOn = 1 ∧ run0.ptState 7 = ptOff ∧ F.PRT_CFG_enable.of (0#64) = 0) ∧
    (let t := (goodPort.writePrtCfg 7 0#64).setFld F.PRT_CFG_enable 7 0
     t.ptState 7 = ptUp ∧ ((run0.writePrtCfg 7 0#64).setFld F.PRT_CFG_enable 7 0).ptState 7 ≠ ptUp) ∧
    (let s := (((runPort ptDark 1).setFld F.PRT_CFG_enable 7 1).onPort 7 fun p => { p with startAt := 4000000 })
     s.ptState 7 = ptDark ∧ s.fld F.PRT_CFG_enable 7 = 1 ∧ s.aon.dt = (s.port 7).startAt ∧
       (s.onPort 7 fun p => { p with startAt := 4000000 - us 1000 }).aon.dt = 4000000 - us 1000 + us 1000) ∧
    ((runPort ptSearch 2).ptState 7 = ptSearch ∧ ((runPort ptSearch 2).port 7).step = 2 ∧
      ((runPort ptGone 0).setFld F.PRT_LOS_STATUS_feed_los 7 0).ptState 7 = ptGone ∧
      ((runPort ptGone 0).setFld F.PRT_LOS_STATUS_feed_los 7 0).fld F.PRT_LOS_STATUS_feed_los 7 = 0 ∧ (runPort ptGone 0).domOn 127 = true) ∧
    (stepOk.ok = true ∧ { stepOk with ok := false }.ok = false ∧ run0.domOn 127 = true ∧
      ∀ n ∈ [1, 3, 4, 5, 6, 7], (runPort ptTrain n).ptState 7 ≠ ptDark ∧ ((runPort ptTrain n).port 7).step = n) ∧
    (let s := (runPort ptAuth 7).onPort 7 fun p => { p with sigAt := 0 }
     let t : State := { s with aon := { s.aon with dt := 16200000 } }
     3 ≤ (t.port 7).step ∧ (t.port 7).sigAt + stepBound (t.port 7).step ≤ t.aon.dt) ∧
    (let s := ((runPort ptDown 0).onPort 7 fun p => { p with retryAt := some 4000000 }).setFld F.PRT_CFG_auto_retrain 7 1
     (s.port 7).retryAt = some 4000000 ∧ s.ptState 7 = ptDown ∧ s.fld F.PRT_CFG_auto_retrain 7 = 1 ∧ 4000000 ≤ s.aon.dt) ∧
    (runPort ptRefused 0).ptState 7 ≠ ptOff := by decide +kernel

theorem witness_PortFailures :
    ((goodPort.setFeed 7 (goodPort.fld F.PRT_LOS_STATUS_feed_wl 7 ||| 2 ^ 7)).fld F.PRT_LOS_STATUS_feed_los 7 = 0) ∧
    (let s (st : Nat) := (runPort st 0).setFld F.PRT_LOS_STATUS_feed_wl 7 127
     let t (st : Nat) := (s st).setFeed 7 ((s st).fld F.PRT_LOS_STATUS_feed_wl 7 ||| 2 ^ 7)
     (t ptUp).fld F.PRT_LOS_STATUS_feed_los 7 = 1 ∧ (t ptUp).ptState 7 ∉ [ptOff, ptRefused] ∧ (t ptOff).fld F.PRT_LOS_STATUS_feed_los 7 = 1 ∧
       (t ptOff).ptState 7 = ptOff) ∧
    (let s := goodPort
     let t (lanes : Nat) := s.setFld F.PRT_LOS_STATUS_rx_lane 7 (s.fld F.PRT_LOS_STATUS_rx_lane 7 ||| lanes)
     s.ptState 7 = ptUp ∧ ((t 0).judgeLanes 7 false).2 = true ∧ ((t (2 ^ 32 - 1)).judgeLanes 7 false).2 = false) ∧
    (let s := goodPort.onPort 7 fun p => { p with heardAt := 4000000 - us 16, expect := 2 ^ 40 - 2 ^ 20 }
     s.ptState 7 = ptUp ∧ s.fld F.PRT_LOS_STATUS_los 7 = 0 ∧ (s.port 7).heardAt + us 16 ≤ s.aon.dt ∧ 2 ^ 40 - 2 ^ 20 ≤ (s.port 7).expect) ∧
    (run0.ptState 7 = ptOff ∧ (runPort ptUp 0).ptState 7 ≠ ptOff ∧ (runPort ptUp 0).ptState 7 ≠ ptDown) ∧
    (let s := (runPort ptUp 0).onPort 7 fun p => { p with away := 1 }
     s.ptState 7 = ptUp ∧ (s.port 7).away = 1 ∧ s.remoteBusy 7 = false ∧ (s.port 7).waiting = [] ∧ s.tx.get 7 [] = []) ∧
    (((runPort ptUp 0).onPort 7 fun p => { p with away := 2 }).port 7).away = 2 := by decide +kernel

/-- A heartbeat with counter 0. -/
def beat0 : Frame :=
  { ftype := 2, phase := 0, island := 0, ack := 0, ctr := 0, dt := 0, zero := 0, segs := [], corrected := 0, uncorrected := 0, tagOk := true }

/-- The heartbeat of a key phase and a counter, as a port keeps it for replay. -/
def sent0 (phase ctr : Nat) : Sent := ⟨{ beat0 with phase := phase, ctr := ctr }, []⟩

theorem witness_PortFrames :
    (let s := (runPort ptUp 0).onPort 7 fun p => { p with expect := 1 }
     s.sessionOn 7 = true ∧ s.domOn 127 = true ∧ beat0.ftype ≠ 4 ∧ beat0.uncorrected = 0 ∧ frameFormed beat0 = true ∧
       frameFormed { beat0 with zero := 1 } = false ∧ ((s.fecCount 7 beat0).port 7).expected 1 = none ∧
       ((s.fecCount 7 beat0).port 7).expected 0 = some 1 ∧ beat0.ctr < 1 ∧
       ({ beat0 with ctr := 1, tagOk := false }.ctr = 1 ∧ { beat0 with ctr := 1, tagOk := false }.tagOk = false) ∧
       (s.fecCount 7 { beat0 with ftype := 4 }).ptState 7 = ptUp) ∧
    (let s := ((runPort ptUp 0).onPort 7 fun p => { p with replay := [sent0 0 0] }).setReg .PRT_TX_CTR 7 1#64
     s.sessionOn 7 = true ∧ s.fld F.PRT_STATUS_key_phase 7 = 0 ∧ (s.port 7).resend 0 0 0 = some [sent0 0 0] ∧ 0 ≠ (s.reg .PRT_TX_CTR 7).toNat ∧
       (s.port 7).resend 0 2 0 = none ∧ 2 ≠ (s.reg .PRT_TX_CTR 7).toNat ∧ ((s.port 7).replay.all fun f => f.frame.phase == 0) = true) ∧
    (let s := (runPort ptAuth 7).onPort 7 fun p => { p with asked := some (1, 0, 4000000 - us 2), sentAt := 4000000 - 2000 }
     s.sessionOn 7 = true ∧ (s.port 7).asked = some (1, 0, 4000000 - us 2) ∧ 4000000 - us 2 + us 2 ≤ s.aon.dt ∧
       (s.port 7).sentAt + 2000 ≤ s.aon.dt) := by decide +kernel

theorem witness_AcksRelease :
    let s := (runPort ptUp 0).onPort 7 fun p => { p with replay := [sent0 0 0] }
    s.sessionOn 7 = true ∧ s.domOn 127 = true ∧ beat0.ftype = 2 ∧ beat0.uncorrected = 0 ∧ frameFormed beat0 = true ∧
      (s.port 7).expected beat0.phase = some beat0.ctr ∧ beat0.tagOk = true ∧
      ((s.port 7).replay.all fun g => g.frame.phase == s.fld F.PRT_STATUS_key_phase 7) = true := by decide +kernel

/-- Port 7 UP with window 15 enabled for reads and writes of 2 MiB at partition 0 of stack 0, in clear. -/
def winPort : State :=
  ((((runPort ptUp 0).setFld F.MEM_PXW_CFG_enable 127 1).setFld F.MEM_PXW_CFG_size 127 1).setFld F.MEM_PXW_CFG_rd 127 1).setFld
    F.MEM_PXW_CFG_wr 127 1

/-- A request of 64 bytes at the start of the window. -/
def msg0 (op : Nat) : PortMsg := { PortMsg.of op with length := 64, group := 1 }

/-- The same as it waits at the agent. -/
def in0 (op : Nat) : Incoming := ⟨msg0 op, zeros 64, 2, 0⟩

/-- A write of a group as the agent holds it. -/
def staged0 (g : Nat) : Staged := { group := g, offset := 0, sealedReq := false, metaWords := [], data := zeros 64 }

/-- A request to a port's window. -/
def remoteReq : MemReq := { req0 0xF00000000000 with sel := 0 }

theorem witness_PortMessages :
    (winPort.portServes 7 = true ∧ (winPort.port 7).waiting = [] ∧ (winPort.agentBlocked 7 (in0 1)).isNone = true ∧
      (winPort.agentBlocked 7 (in0 2)).isNone = true ∧ (winPort.agentBlocked 7 (in0 3)).isNone = true ∧
      ((winPort.port 7).waiting.any fun w => w.msg.group == 1) = false) ∧
    (winPort.exportCheck 7 (msg0 1) false = (0, 127) ∧ (msg0 1).sealedReq = false ∧ (winPort.exportCheck 7 { msg0 1 with length := 65 } false).1 ≠ 0 ∧
      (winPort.exportCheck 7 (msg0 2) true).1 = 0 ∧ (winPort.exportCheck 7 { msg0 2 with length := 0 } true).1 ≠ 0) ∧
    (let s := winPort.setFld F.MEM_PXW_CFG_mode 127 1
     let m := { msg0 1 with sealedReq := true }
     (s.exportCheck 7 m false).1 = 0 ∧ m.sealedReq = true ∧
       s.judge (agentWho 7 2) 0 (s.pxwAddr (s.exportCheck 7 m false).2 m.offset) = .ok) ∧
    (((winPort.onPort 7 fun p => { p with staged := [staged0 1] }).port 7).stagedFor 1 ≠ [] ∧ (winPort.port 7).stagedFor 1 = [] ∧
      (winPort.port 7).published.contains 1 = false ∧
      ((winPort.onPort 7 fun p => { p with published := [1] }).port 7).published.contains 1 = true) ∧
    (let s : State := { winPort with outst := [(0, outst0 remoteReq)] }
     s.outst.find (msg0 9).tag = some (outst0 remoteReq) ∧ region remoteReq.addr = .remote 7 0 ∧ msgStatus (msg0 9).status = .ok ∧
       remoteReq.sel = 0 ∧ msgStatus 1 ≠ .ok) ∧
    (let g := { group0 with port := 7 }
     let s : State := { winPort with ledger := [(0, g)] }
     s.groupOf (msg0 4).group = some (0, g) ∧ g.port = 7 ∧ g.state ≠ 3 ∧ (msg0 4).status = 0 ∧
       (let h := { g with state := 2 }
        ({ winPort with ledger := [(0, h)] } : State).groupOf (msg0 6).group = some (0, h) ∧ h.state = 2)) ∧
    winPort.groupOf (msg0 4).group = none := by decide +kernel

theorem witness_PortMessages_full :
    let s := winPort.onPort 7 fun p => { p with staged := (List.range' 2 512).map staged0 }
    (s.exportCheck 7 (msg0 2) true).1 = 0 ∧ (s.port 7).openGroups.contains 1 = false ∧ 512 ≤ (s.port 7).openGroups.length := by decide +kernel

/-- A seam segment with twenty channels and a read of core 0 that crosses it, out for credit_timeout ticks. -/
def stalled : State :=
  { run0.setFld F.FAB_SEAM_MAP_n_logical 1 20 with
    outst := [(0, { outst0 (req0 0x8F0000000) with at_ := 4000000 - 20000 })] }

theorem witness_RekeyRoutesAndSeams :
    (let s := (runPort ptUp 0).setReg .PRT_TX_CTR 7 0x8000000000#64
     s.ptState 7 = ptUp ∧ (s.port 7).rekey = none ∧ 2 ^ 39 ≤ (s.reg .PRT_TX_CTR 7).toNat) ∧
    (let r : Rekey := { priv := 3, txNext := none, acked := false }
     let s := (runPort ptUp 0).onPort 7 fun p => { p with rekey := some r }
     s.ptState 7 = ptUp ∧ (s.port 7).rekey = some r ∧ ((s.startRekey 7).port 7).rekey = some r ∧ (PortMsg.of 0x33).status = 0 ∧
       (({ r with txNext := some (linkKey 1 2) } : Rekey).txNext.isSome = true)) ∧
    (19 < stalled.seamN 1 ∧ (stalled.dom 146).state = .on ∧ (stalled.dom 146).trans = .none ∧ stalled.stalls.contains (1, 146) = false ∧
      stalled.creditWaits 1 7 146 = true) ∧
    ((run0.flacon.seam 1).state 0 = 0 ∧ (run0.seamFix.get 1 []).contains 0 = false ∧
      (let s : State := { run0 with seamFails := [(seamKey 1 0, 7)] }
       let c := s.fabCount 137 false
       8 ≤ ({ c with seamRetries := c.seamRetries.put (seamKey 1 0) (c.seamWindow 1 0 ++ [c.aon.dt]) } : State).seamFails.get (seamKey 1 0) 0 + 1)) ∧
    (run0.setFld F.FAB_SEAM_CFG_retry_limit 0 1).fld F.FAB_SEAM_CFG_retry_limit 0 ≠ 0 ∧
    (({ run0 with seamFix := [(1, [0])] } : State).seamFix.get 1 []).contains 0 = true := by decide +kernel
theorem witness_PpsInput :
    (let s := run0.setFld F.TIM_CFG_pps_in_en 0 1
     s.aon.powered = true ∧ s.aon.dt < 2 ^ 64 ∧ (s.reg .TIM_PPS_LATCH 0).toNat ≤ s.aon.dt ∧ s.fld F.TIM_CFG_pps_in_en 0 = 1 ∧
       ¬ (s.aon.ppsEver = true)) ∧
    (let s : State := { run0 with aon := { run0.aon with dt := 2200000000, ppsEver := true } }
     s.aon.powered = true ∧ s.aon.dt < 2 ^ 64 ∧ (s.reg .TIM_PPS_LATCH 0).toNat ≤ s.aon.dt ∧ s.aon.ppsEver = true ∧
       2002000000 < s.aon.dt - (s.reg .TIM_PPS_LATCH 0).toNat ∧ 2200000000 ≤ s.aon.dt - (s.reg .TIM_PPS_LATCH 0).toNat) := by decide +kernel

/-- A trace record of composition 0. -/
def sil0 : SilRec :=
  { dt := 0, seq := 0, island := 0, kind := 1, comp := 0, status := 0, layer := 0, operator := 0, engine := 0, ctx := 0, arg := 0 }

/-- A TIM_SIL_CFG word that enables a buffer at 0x1000. -/
def silOn (base : Nat) : Word := BitVec.ofNat 64 (F.TIM_SIL_CFG_base.into (F.TIM_SIL_CFG_enable.into 0 1) base)

theorem witness_TimeRows :
    ((let s : State := { State.reset with aon := { State.reset.aon with stage := .aon } }
      s.aon.stage = .aon ∧ s.aon.powered = true) ∧
    (let s := run0.setFld F.TIM_STATUS_ref_ok 0 1
     s.aon.powered = true ∧ s.fld F.TIM_STATUS_ref_ok 0 = 1 ∧ (s.setFld F.TIM_STATUS_holdover 0 1).fld F.TIM_STATUS_holdover 0 = 1) ∧
    (run0.aon.dtRuns = true ∧
      agree (((List.range 148).filter fun i => (run0.dom i).state == .on).map fun i => ([] : List Int).getD i (run0.dom i).skew) = true ∧
      (run0.dom 2).state ≠ .on ∧ (run0.dom 147).state = .on) ∧
    (let s := run0.setFld F.TIM_CFG_pps_out_en 0 1
     let t : State := { s with aon := { s.aon with dt := 2000000009 } }
     t.aon.powered = true ∧ t.aon.dtRuns = true ∧ t.fld F.TIM_CFG_pps_out_en 0 = 1 ∧
       (t.aon.dt + 2000000000 - t.fld F.TIM_CFG_pps_out_phase 0) % 2000000000 < 10) ∧
    (let s : State := { run0 with aon := { run0.aon with dt := 200000000, ppsRose := some 0 } }
     s.aon.ppsRose = some 0 ∧ 0 + 200000000 ≤ s.aon.dt) ∧
    ({ run0 with sil := [(1, [sil0])] } : State).sil.get 1 [] = [sil0]) ∧
    (let t (b : Nat) := run0.writeReg .TIM_SIL_CFG 15 (silOn b).toNat (2 ^ 64 - 1)
     let a (b : Nat) := (t b).fld F.TIM_SIL_CFG_base 15 * 4096
     let free (b : Nat) : Bool := (inPlainMemory (a b) (32 * (t b).silCap 15) && !(t b).meetsBound (a b) (32 * (t b).silCap 15) &&
         !(t b).meetsWindow (a b) (32 * (t b).silCap 15))
     F.TIM_SIL_CFG_enable.of (silOn 1) = 1 ∧ free 1 = true ∧ free 0x900000 = false ∧ F.TIM_SIL_CFG_enable.of (0#64) = 0) := by decide +kernel

theorem witness_ConfidentialLeavesNoTrace : (run0.setFld F.SEC_COMP_CFG_confidential 63 1).confidential 63 = true := by decide +kernel

/-- The running device with a map record at 0x2000, named by composition 63, whose state is `st`. -/
def mapAt (st : Nat) (m : List Host.Cell) : State :=
  let s := ({ run0 with mem := m } : State).setFld F.CMP_MAP_addr 63 128
  (s.setFld F.CMP_STATUS_state 63 st).setFld F.DEV_ID_cores_in_service 0 640

/-- A record that names nothing; one that is sliced with a demand of one core and one partition. -/
def bareRecord : List Host.Cell := [(0x2000, 1#8)]
def slicedRecord : List Host.Cell := [(0x2000, 1#8), (0x2004, 2#8), (0x200A, 1#8), (0x200C, 1#8), (0x2150, 0x20#8)]

theorem witness_CompositionCommands :
    (∀ n ∈ [0, 2, 5, 8, 9], (run0.setFld F.CMP_STATUS_busy 63 1).fld F.CMP_STATUS_busy 63 = 1 ∧
      (mapAt n []).fld F.CMP_STATUS_state 63 = n) ∧
    (let s := mapAt 0 bareRecord
     let q := s.readMap 63
     s.cmpBlocked 63 [0] = false ∧ q.1.mapCheck 63 1 q.2 = 0 ∧ (MapRec.parse q.2).sliced = false) ∧
    (let s := mapAt 0 slicedRecord
     let q := s.readMap 63
     s.cmpBlocked 63 [0] = false ∧ q.1.mapCheck 63 1 q.2 = 0 ∧ (MapRec.parse q.2).sliced = true) ∧
    (let s := mapAt 0 []
     let q := s.readMap 63
     s.cmpBlocked 63 [0] = false ∧ q.1.mapCheck 63 1 q.2 ≠ 0) ∧
    (let s := (mapAt 2 bareRecord).setComp 63 { Comp.init with record := some { map0 with cores := [], channels := [], parts := [], ports := [], fn := 0, demand := 0 } }
     let q := s.readMap 63
     s.cmpBlocked 63 [2] = false ∧ q.1.mapCheck 63 2 q.2 = 0 ∧ (MapRec.parse q.2).sliced = false ∧ s.cmpBlocked 63 [2, 8] = false ∧
       s.cmpBlocked 63 [2, 5, 8, 9] = false ∧ s.hasCtx 63 = false) ∧
    (let s := mapAt 2 []
     let q := s.readMap 63
     s.cmpBlocked 63 [2] = false ∧ q.1.mapCheck 63 2 q.2 ≠ 0) ∧
    (let s := mapAt 5 []
     s.cmpBlocked 63 [5] = false ∧ s.fld F.PWR_COMP_CFG_power_parked 63 = 0 ∧ (s.resumeRecord 63).isSome = true ∧
       ((s.setComp 63 { Comp.init with heldCores := 673 }).resumeRecord 63) = none) ∧
    (bench.cmpBlocked 0 [2, 5, 8, 9] = false ∧ bench.hasCtx 0 = true) ∧
    (let s := mapAt 9 []
     s.cmpBlocked 63 [9] = false ∧ (s.promoteRecord 63).isSome = true ∧
       ((s.setComp 63 { Comp.init with record := some { map0 with demand := 673 } }).promoteRecord 63) = none) := by decide +kernel

/-- A REBIND of composition 0 to the map that it has, at a step. -/
def change0 (cmd step : Nat) : MapChange := { cmd := cmd, record := map0, step := step, drainAt := 0, status := 0, failing := 255, spare := none, oldPorts := [] }

/-- The bench in a change of map. -/
def benchChange (cmd step : Nat) : State := bench.setComp 0 { bench.comp 0 with change := some (change0 cmd step) }

theorem witness_MapChanges :
    (let s := benchChange 2 3
     (s.comp 0).change = some (change0 2 3) ∧ (change0 2 3).step = 3 ∧ s.stepThreeOver 0 (change0 2 3) = true) ∧
    (let s : State := { benchChange 2 5 with coreOwner := [(0, ⟨0, .leaving⟩)] , launches := [(laneKey 0 0, launch0)] }
     (s.comp 0).change = some (change0 2 5) ∧ (change0 2 5).drainAt + s.drainTicks 0 ≤ s.aon.dt ∧ s.leavingIdle 0 = false) ∧
    (let s := benchChange 2 5
     (s.comp 0).change = some (change0 2 5) ∧ s.leavingIdle 0 = true) ∧
    (let sv : Saved := { res := (bench.core 0 0), accs := [], bytes := [], place := 0, ctr := 0 }
     let s : State := { benchChange 4 3 with coreOwner := [(0, ⟨0, .preparing⟩)], saved := [(savedKey 0 0 0, sv)],
                                             launches := [(laneKey 0 0, launch0)] }
     coreNamed 0 0 = true ∧ s.coreOwner.find 0 = some ⟨0, .preparing⟩ ∧ s.saved.find (savedKey 0 (0 / 2) 0) = some sv ∧
       (s.comp 0).change = some (change0 4 3) ∧ s.launches.find (laneKey 0 0) = some launch0 ∧ 0 % 2 = 0 ∧
       (change0 4 3).record.cores[0]? = some 0 ∧ s.coreReadyNow 0 0 = true ∧ sv.res.status ≠ .armed) ∧
    run0.clState 0 = 0 ∧ run0.failing.find 82 = none ∧ run0.clState 82 = 0 ∧ bench.fld F.CMP_STATUS_busy 0 ≠ 1 ∧
    (bench.setFld F.CMP_STATUS_busy 0 1).fld F.CMP_STATUS_busy 0 = 1 ∧
    (let s := (mapAt 9 []).setComp 63 { Comp.init with promoting := some (run0.aon.dt - us 10000) }
     let t : State := { s with aon := { s.aon with dt := us 10000 } }
     (s.comp 63).promoting = some (run0.aon.dt - us 10000) ∧ run0.aon.dt - us 10000 + us 10000 ≤ t.aon.dt ∧ t.cmpBlocked 63 [9] = false) := by
  decide +kernel

/-- A CMP_TWIN word that enables the twin at port 7. -/
def twinOn : Word := BitVec.ofNat 64 (F.CMP_TWIN_port.into (F.CMP_TWIN_enable.into 0 1) 7)

/-- A primary whose twin is behind port 7, UP with role TWIN. -/
def twinPrimary (st : Nat) : State :=
  ((((runPort ptUp 0).setFld F.PRT_CFG_role 7 roleTwin).setReg .CMP_TWIN 0 twinOn).setFld F.CMP_TWIN_state 0 st)

/-- A MIRROR message of a kind for composition 63, selector 0. -/
def mirror0 (kind : Nat) : PortMsg := { PortMsg.of 0x20 with aux := 63 * 65536 + kind, length := 64 }

theorem witness_TwinRows :
    (F.CMP_TWIN_enable.of (0#64) = 0 ∧ (twinPrimary 1).fld F.CMP_TWIN_enable 0 = 1) ∧
    (F.CMP_TWIN_enable.of twinOn = 1 ∧ run0.fld F.CMP_TWIN_enable 0 = 0 ∧
      (run0.writeReg .CMP_TWIN 0 twinOn.toNat (2 ^ 64 - 1)).twinPort = false ∧
      (let s := (runPort ptUp 0).setFld F.PRT_CFG_role 7 roleTwin
       s.fld F.CMP_TWIN_enable 0 = 0 ∧ (s.writeReg .CMP_TWIN 0 twinOn.toNat (2 ^ 64 - 1)).twinPort = true)) ∧
    (let s := twinPrimary 1
     s.fld F.CMP_TWIN_state 0 = 1 ∧ s.fld F.CMP_TWIN_unacked 0 = 0 ∧ s.mirrorHeld = [] ∧ s.ptState 7 = ptUp ∧
       s.fld F.CMP_TWIN_enable 0 = 1 ∧ 7 = s.fld F.CMP_TWIN_port 0) ∧
    (let s := (twinPrimary 0).setFld F.CMP_STATUS_state 63 9
     let m := mirror0 1
     let q : Incoming := ⟨m, zeros 64, clsBulk, s.aon.dt⟩
     s.portServes 7 = true ∧ (s.port 7).waiting = [] ∧ ((s.onPort 7 fun p => { p with waiting := [q] }).agentBlocked 7 q).isNone = true ∧
       m.op = 0x20 ∧ (s.port 7).away < 2 ∧ 2 ≤ ((s.onPort 7 fun p => { p with away := 2 }).port 7).away ∧
       s.fld F.PRT_CFG_role 7 = roleTwin ∧ (runPort ptUp 0).fld F.PRT_CFG_role 7 ≠ roleTwin ∧ bits m.aux 21 16 = 63 ∧
       s.cmpState 63 = 9 ∧ (twinPrimary 0).cmpState 63 ≠ 9 ∧ s.selOwned (bits m.aux 15 8) 63 = true ∧ bits m.aux 7 0 = 1 ∧
       bits (mirror0 4).aux 7 0 ∈ [2, 3, 4]) ∧
    (let s := ((twinPrimary 1).setPtState 7 ptGone)
     s.twinGone = true ∧ s.twinLost ≠ some (s.port (s.fld F.CMP_TWIN_port 0)).downAt) ∧
    F.CMP_TWIN_LOG_enable.of (BitVec.ofNat 64 (F.CMP_TWIN_LOG_enable.into 0 1)) = 1 := by decide +kernel
/-- A queued instruction of a station. -/
def ins0 (u op : Nat) (o : Ops) (sc : List Word) : StIns := { u := u, op := op, ops := o, sc := sc, pc := 0, seq := 0 }

/-- A started instruction that names handles. -/
def started0 (i : StIns) (hs : List (Option Nat)) : Started := { ins := i, hs := hs, k := 0, ahead := false, got := 0, fail := none, done := false, at_ := 0 }

/-- The bench with a launch and core 0's resident stopping. -/
def benchStop (toward : StopTo) (l : List Started) : State :=
  benchLaunch fun x => { x with status := .stopping toward, started := l, rank := some 0 }

/-- The launch with both of its cores arrived at the router of cluster 0. -/
def arrived0 (cores : List Nat) : Launch :=
  { launch0 with cores := cores, clBars := [(84, { gen := 0, arrivals := 2, clusters := [] })] }

/-- A flag.wait on address 0 for a value, with a deadline that has passed. -/
def flagWait (v : Word) : StIns := ins0 9 0x0A 0x808080FF0000 [0#64, v, 0#64]

/-- The bench with core 0's SYNC head waiting. -/
def benchSync (v : Word) : State := benchLaunch fun x => { x with sq := [flagWait v], syncOn := some 0, seqNo := 1 }

theorem witness_CoreEvents :
    (let s := benchLaunch fun x => { x with stopReq := some .inPlace }
     coreNamed 0 0 = true ∧ (s.core 0 0).stopReq = some .inPlace ∧ (s.core 0 0).status = .running) ∧
    (∀ toward ∈ [StopTo.inPlace, .leave, .slot 0 0], ((benchStop toward []).core 0 0).status = .stopping toward ∧
      ((benchStop toward []).core 0 0).started = [] ∧ ((benchStop toward []).core 0 0).holdsBoundary = false) ∧
    (let s := benchStop .inPlace [started0 (ins0 4 0x28 0x60FFFFFF0000 []) []]
     (s.core 0 0).status = .stopping .inPlace ∧ (s.core 0 0).started ≠ [] ∧
       (s.core 0 0).stopAt + us (s.fld F.SCH_COMP_CFG_tile_budget_us (s.core 0 0).comp) ≤ s.dtOf 0) ∧
    (bench.canIssue 0 0 = true ∧ (bench.core 0 0).file.pc % 8 = 0 ∧
      ((benchCore fun x => { x with file := { x.file with pc := 4 } }).core 0 0).file.pc % 8 ≠ 0 ∧
      bench.lineIn 0 (bench.ctxTag (bench.core 0 0).ctx) 0 = false ∧
      (let s : State := { bench with icache := [(0, [⟨bench.ctxTag (bench.core 0 0).ctx, 0, zeros 64⟩])] }
       s.lineIn 0 (s.ctxTag (s.core 0 0).ctx) 0 = true) ∧
      (let q (s : State) (a : Nat) := s.vread (s.scalarWho 0 0) (.virt (.load 0) (.fetch 0) (s.ctxTag (s.core 0 0).ctx)) a 64 needX
       ({ bench with mem := [(47, 0x80#8)] } : State).canIssue 0 0 = true ∧ (q { bench with mem := [(47, 0x80#8)] } 0).wait = true ∧
         (q bench 0x10000).wait = false ∧ (q bench 0x10000).fail ≠ none ∧ (q bench 0).wait = false ∧ (q bench 0).fail = none)) ∧
    (let l := arrived0 [0, 1]
     let s : State := { bench with launches := [(laneKey 0 0, l)] }
     s.launches.find (laneKey 0 0) = some l ∧ (l.router 84).arrivals = (l.inCluster 0).length ∧ (l.router 84).arrivals ≠ 0 ∧
       0 ∉ l.root.clusters ∧ l.root.clusters.length + 1 = l.clusters.length) ∧
    (let l := arrived0 [0, 1, 8]
     (l.router 84).arrivals = (l.inCluster 0).length ∧ 0 ∉ l.root.clusters ∧ l.root.clusters.length + 1 ≠ l.clusters.length) ∧
    (benchLaunch id).launchOf 0 0 = some launch0 ∧
    (let s := benchSync 1#64
     let i := flagWait 1#64
     (s.core 0 0).headOf 9 = some i ∧ (s.core 0 0).status = .running ∧ (s.core 0 0).syncOn = some i.seq ∧ i.op = 0x0A ∧
       (s.flagWatch.find (watchKey 0 0)).isSome = false ∧
       (({ s with flagWatch := [(watchKey 0 0, 0)] } : State).flagWatch.find (watchKey 0 0)).isSome = true ∧ s2Of i.ops ≠ 0xFF ∧ i.val 2 ≤ s.dtOf 0 ∧
       ((s.startSync 0 0 i).core 0 0).syncOn = some i.seq) ∧
    ((((benchSync 0#64).startSync 0 0 (flagWait 0#64)).core 0 0).syncOn ≠ some 0) := by decide +kernel

/-- A queue of four handles from handle 0 that RECV fills and MATRIX consumes. -/
def recvQueue : TQueue := queueRec (8 + 4 * 16 + 3 * 16384)

/-- A SEND instruction of handle 0 to a destination word, and a RECV instruction. -/
def send0 (op : Nat) (dest : Word) : StIns := ins0 7 op 0x8000FFFF0000 [dest, 0#64, 0#64, 0#64]
def recv0 (op : Nat) : StIns := if op = 0 then ins0 8 0 0x40FFFFFF0000 [] else ins0 8 op 0x0080FFFF0000 [0#64, 1#64]

/-- The destination word of queue 0 behind port 0. -/
def overPort : Word := 0x100000#64

/-- A reservation of queue 0 for a tile of the shape of tile 0. -/
def resv0 (port : Option Nat) : Reservation :=
  { src := 1, srcR := 0, ins := 0, port := port, comp := 0, epoch := 0, tq := 0, rows := tile0.rows, rowBytes := tile0.rowBytes, format := tile0.format }

/-- The bench with tile 0, a launch, and core 0's resident changed. -/
def benchTile (f : Res → Res) : State := benchLaunch fun x => f { x with handles := [(0, tile0)], seqNo := 1 }

theorem witness_SendAndReceive :
    (∀ e ∈ ([(0, 0#64), (0, overPort), (8, 0#64)] : List (Nat × Word)),
      let i := send0 e.1 e.2
      let s := benchTile fun x => { x with sq := [i] }
      let x := s.core 0 0
      let y := (benchTile fun x => { x with sq := [i], queues := [(0, recvQueue)] }).core 0 0
      x.recvQueue (destQueue (i.val 0)) = false ∧ y.recvQueue (destQueue (i.val 0)) = true ∧ launch0.destCore (i.val 0) = some 0 ∧
      coreNamed 0 0 = true ∧ x.status = .running ∧ (s.dom 0).state = .on ∧ x.headOf 7 = some i ∧ s.launchOf 0 0 = some launch0 ∧
        launch0.fixed = true ∧ x.roleFault i = 0 ∧ s.destOk x launch0 (i.val 0) (i.op == 8) = true ∧ x.srcReady i (s1Of i.ops) = true ∧
        x.tile (x.handleOf (s1Of i.ops) false) = some tile0 ∧ tile0.format = 0 ∧ x.asked ≠ some i.seq ∧
        (x.started.filter fun t => t.ins.u == 7).length < 8) ∧
    (let s := benchTile fun x => { x with sq := [recv0 0], queues := [(0, recvQueue)] }
     (s.core 0 0).headOf 8 = some (recv0 0) ∧ s.fixedLaunch 0 0 = true ∧ (s.core 0 0).roleFault (recv0 0) = 0) ∧
    (let s := benchTile fun x => { x with sq := [recv0 8] }
     let x := s.core 0 0
     let i := recv0 8
     x.headOf 8 = some i ∧ s.fixedLaunch 0 0 = true ∧ x.roleFault i = 0 ∧ 1 ≤ i.val 1 ∧ i.val 1 ≤ 64 ∧ x.dstReady i = true ∧
       x.tile ((x.handlesFor i none).getD 0 none) = some tile0) := by
  decide +kernel

theorem witness_SendAndReceive_requests :
    (let t := started0 (send0 0 overPort) []
     let s := benchTile fun x => { x with started := [t] }
     ((s.core 0 0).started.find? fun t => t.ins.u == 7 && !t.done && t.ins.op == 0 && destRemote (t.ins.val 0)) = some t ∧
       0 + us 50 ≤ s.dtOf 0 ∧ s.partnerLost (destPort (t.ins.val 0)) t.at_ = true) ∧
    (let i := send0 0 overPort
     let s := benchTile fun x => { x with sq := [i], asked := some 0 }
     (s.core 0 0).asking = some i ∧ destRemote (i.val 0) = true ∧ (s.core 0 0).askedAt + us 50 ≤ s.dtOf 0 ∧
       s.partnerLost (destPort (i.val 0)) (s.core 0 0).askedAt = true) ∧
    (let q := { resv0 none with src := 0 }
     let s := benchTile fun x => { x with sq := [send0 0 0#64], asked := some 0 }
     q.port = none ∧ (s.localRequest 0 0 q).isSome = true ∧ (resv0 (some 0)).port.isSome = true) ∧
    (let s := benchTile fun x => { x with queues := [(0, recvQueue)] }
     (s.core 0 0).raddHandle 0 = some tile0 ∧ tile0.rows ≠ { tile0 with rows := 2 }.rows) ∧
    (let s := benchTile fun x => { x with queues := [(0, recvQueue), (1, loadQueue)] }
     let q := resv0 none
     s.accepts (s.coreOwner.find 0) q.comp q.epoch = true ∧ (s.core 0 0).tq q.tq = some recvQueue ∧ recvQueue.producer = 8 ∧
       (s.core 0 0).tq 1 = some loadQueue ∧ loadQueue.producer ≠ 8 ∧ (s.core 0 0).reqs.length < 64) ∧
    (let s := benchTile fun x => { x with sq := [recv0 0], queues := [(0, recvQueue)], reqs := [resv0 none] }
     let x := s.core 0 0
     x.headOf 8 = some (recv0 0) ∧ queueCode (dstOf (recv0 0).ops) = some (0, false) ∧ x.tq 0 = some recvQueue ∧
       (x.reqs.find? fun g => g.tq == 0) = some (resv0 none) ∧ x.status = .running ∧ recvQueue.tok recvQueue.head = .empty ∧
       x.handles.find recvQueue.head = some tile0) := by
  decide +kernel

theorem witness_SendAndReceive_tiles :
    (∀ b ∈ [false, true], ∀ a ∈ [0, 1, 9, 16],
      let i := send0 0 (if b then overPort else 0#64)
      let x := (benchTile fun x => { x with sq := [i], asked := some 0, answer := some a }).core 0 0
      x.status = .running ∧ x.asking = some i ∧ x.tile (x.handleOf (s1Of i.ops) false) = some tile0 ∧ destRemote (i.val 0) = b ∧
        x.answer = some a ∧ x.askedTwice = false) ∧
    ((benchTile fun x => { x with sq := [send0 0 0#64], asked := some 0, askedTwice := true }).core 0 0).askedTwice = true ∧
    ((bench.core 0 0).granted.find? fun g => g.req.tq == 0 && reqTag g.req == 1) = none := by
  decide +kernel

theorem witness_SendAndReceive_bytes :
    (let g : Granted := { req := resv0 (some 0), h := 0, got := 0, at_ := 0 }
     let t := started0 (recv0 0) [some 0]
     let s := benchTile fun x => { x with queues := [(0, recvQueue)], granted := [g], started := [t] }
     ((s.core 0 0).granted.find? fun g => g.req.tq == 0 && reqTag g.req == 1) = some g ∧ (s.core 0 0).handles.find g.h = some tile0 ∧
       s.tileBytes g 0 (zeros 64) = some (zeros 64) ∧
       g.got + ((zeros 1).take (tile0.linear - 0)).length < tile0.linear ∧ tile0.linear ≤ g.got + ((zeros 64).take (tile0.linear - 0)).length ∧
       ((s.core 0 0).granted.find? fun g => g.req.tq == 0 && g.req.port.isSome) = some g ∧ g.at_ + us 50 ≤ s.dtOf 0 ∧
       ((s.core 0 0).started.find? fun t => t.ins.u == 8 && t.hs.getD 0 none == some g.h) = some t) ∧
    (let g : Granted := { req := { resv0 none with src := 0 }, h := 0, got := 0, at_ := 0 }
     let v := started0 (send0 0 0#64) [none, some 0]
     let s := benchTile fun x => { x with granted := [g], started := [v] }
     g.req.port = none ∧ s.senderOf g.req = some v ∧ (s.core g.req.src g.req.srcR).tile (v.hs.getD 1 none) = some tile0) := by decide +kernel
/-- Composition 0 SHARED with two live contexts, the second behind in its pass and ready, and launches in both lanes. -/
def benchShared : State :=
  let s := (bench.setFld F.CMP_STATUS_mode 0 1).setRing (.queue 1) { Ring.init with n := 4, ctx := 1, doorbell := 2 }
  let k : Cur := { cur0 1 with rec_ := { rec0 1 with a0 := 0x1000 } }
  { s.setRing (.queue 1) { s.ring (.queue 1) with cur := some k, prod := 1 } with
    ctxs := [(0, { ctx0 with pass := 9 }), (1, ctx0)],
    comps := [(0, { Comp.init with record := some { map0 with shared := true, savePerPart := 8 } })],
    launches := [(laneKey 0 0, { launch0 with since := 0 }), (laneKey 0 1, { launch0 with since := 0 })] }

/-- A cyclic table in force from DT 0 with a period of 1 s, whose entry 0 gives composition 0 a window of 10 ms. -/
def benchCyclic (rt : Bool) : State :=
  let s := { bench with ctxs := [(0, { ctx0 with rt := rt })] }
  let s := (((s.setFld F.SCH_CYC_CFG_enable 0 1).setFld F.SCH_CYC_CFG_period 0 1000000).setFld F.SCH_CYC_ENT_valid 0 1)
  (s.setFld F.SCH_CYC_ENT_start_us 0 0).setFld F.SCH_CYC_ENT_len_us 0 10000

theorem witness_SchedulingRows :
    (let s : State := { bench with armed := [(0, { launch0 with state := .armed })] }
     let e := (0, { launch0 with state := .armed })
     s.dueLaunch 0 = some e ∧ s.mayLaunch 0 = true ∧ 0 ∈ s.lanes 0 ∧ s.laneFree 0 0 = true ∧ s.closesBefore e.2.dt = false ∧
       s.opensBefore e.2.dt = false ∧ s.targetBefore e.2.dt = false) ∧
    (let k := Cur.of (CmdRec.parse []) 2000000
     ((benchCmd k).ring (.queue 0)).cur = some k ∧ k.charged + 2000000 ≤ (benchCmd k).aon.dt) ∧
    (let s := benchShared
     s.shared 0 = true ∧ s.laneFree 0 0 = false ∧ s.laneFree 0 1 = false ∧ s.laneStopping 0 0 = false ∧ s.laneStopping 0 1 = false ∧
       s.greaterPass 0 (s.quantumOver 0) = some 1 ∧ 2 ≤ (s.freeSets 0).length) ∧
    (let l := { launch0 with state := .suspended 2 }
     let s : State := { bench with suspended := [l] }
     (s.suspended.find? fun l => l.ctx == 0) = some l ∧ s.mayLaunch 0 = true ∧ s.ctxs.find 0 = some ctx0 ∧ ctx0.comp = 0 ∧ 0 ∈ s.lanes 0 ∧
       s.laneFree 0 0 = true) ∧
    (run0.fld F.SCH_CYC_CFG_pending 0 ≠ 1 ∧ (0#64).toNat ≤ run0.aon.dt + 2 ^ 48 ∧ run0.aon.dt + 2 ^ 48 < (BitVec.allOnes 64).toNat) ∧
    (let s := run0.setFld F.SCH_CYC_CFG_pending 0 1
     s.fld F.SCH_CYC_CFG_pending 0 = 1 ∧ (s.reg .SCH_CYC_START 0).toNat ≤ s.aon.dt ∧ s.openWindows = []) := by decide +kernel

theorem witness_SchedulingRows_windows :
    (∀ rt ∈ [false, true],
      let s := benchCyclic rt
      s.windowTimes 0 = some (0, 20000000) ∧ 0 ∉ s.openWindows ∧ 0 ≤ s.aon.dt ∧ s.aon.dt < 20000000 ∧ s.closesBefore 0 = false ∧
        s.targetBefore 0 = false ∧ s.fld F.PWR_TARGET_STATUS_dev_state 0 ≠ 2 ∧ s.liveRt (s.fld F.SCH_CYC_ENT_composition 0) = rt) ∧
    (let s : State := { bench with openWindows := [2047], windowEnds := [(2047, 4000000)] }
     s.windowEnds.find 2047 = some 4000000 ∧ 4000000 ≤ s.aon.dt ∧ s.targetBefore 4000000 = false ∧
       (s.windowEnds.any fun w => s.fld F.SCH_CYC_ENT_composition w.1 == 0 && decide (4000000 < w.2)) = false) := by decide +kernel

/-- A SCH_MIX_CFG word that enables the mixer on context 0. -/
def mixOn : Word := BitVec.ofNat 64 (F.SCH_MIX_CFG_enable.into 0 1)

theorem witness_SchedulingRows_mixer :
    (let t := bench.writeReg .SCH_MIX_CFG 0 mixOn.toNat (2 ^ 64 - 1)
     F.SCH_MIX_CFG_enable.of mixOn = 1 ∧ bench.fld F.SCH_MIX_CFG_enable 0 = 0 ∧ t.ctxs.find (t.fld F.SCH_MIX_CFG_context 0) = some ctx0 ∧
       ctx0.comp = 0 ∧ ctx0.state = .live ∧ F.SCH_MIX_CFG_enable.of (0#64) = 0 ∧ (t.mixer 0).busy = false) ∧
    (({ bench with mixers := [(0, { Mixer.init with running := true })] } : State).mixer 0).busy = true ∧
    (let s := bench.setFld F.SCH_MIX_CFG_enable 0 1
     s.ctxs.find (s.fld F.SCH_MIX_CFG_context 0) = some ctx0 ∧ s.freeLane 0 = some 0 ∧ (s.mixer 0).running = false ∧ s.mayLaunch 0 = true) ∧
    (let m := { Mixer.init with running := true, ended := some 0 }
     ({ bench with mixers := [(63, m)] } : State).mixers.find 63 = some m ∧ m.ended = some 0) := by decide +kernel

/-- Function 0 attached to composition 0 with quotas, table pool 0 enabled, and an admin queue with a command at hand. -/
def benchAdmin (c : CmdRec) : State :=
  let s := (bench.setFld F.CTX_ADMIN_enable 0 1).setFld F.CTX_FN_STATUS_attached 0 1
  let s := ((s.setFld F.CTX_QUOTA_max_contexts 0 4).setFld F.CTX_QUOTA_max_queues 0 4).setFld F.CTX_QUOTA_max_fences 0 4
  let s := (s.setFld F.TLX_POOL_enable 0 1).setFld F.TLX_POOL_part 0 1
  s.setRing (.admin 0) { s.ring (.admin 0) with n := 4, prod := 1, cur := some (Cur.of c 4000000) }

/-- The command at hand of the admin queue, where it may run. -/
def adminRuns (c : CmdRec) : Bool := ((benchAdmin c).runnable (.admin 0) c.opcode).isSome

/-- The bench whose queue 0 has a record waiting: zeros but for these bytes. -/
def benchRecord (bytes : List (Nat × Byte)) : State :=
  { bench.setRing (.queue 0) { bench.ring (.queue 0) with prod := 1 } with hostMem := bytes.map fun e => (hostKey 0 e.1, e.2) }

/-- What taking that record finds: its status where it is refused, and its condition. -/
def takes (s : State) : Option Nat × WaitNow :=
  let q := QRef.queue 0
  let c := s.recordAt q (s.ring q).rd
  let t := (s.setRing q { s.ring q with cur := some (Cur.of c s.aon.dt) }).cmdTrace q c 1 0
  (t.takenStatus q c, t.waitNow c)

theorem witness_HostCommands_arrive :
    (∀ l ∈ [[], [(0, 1#8)], [(0, 0x7F#8)], [(1, 4#8)], [(1, 4#8), (24, 8#8)]],
      let s := benchRecord l
      s.ringServed (.queue 0) = true ∧ (s.ring (.queue 0)).cur = none ∧ (s.ring (.queue 0)).rd ≠ (s.ring (.queue 0)).prod ∧
        s.hostUp (s.ringFn (.queue 0) / 64) = true ∧ (s.ring (.queue 0)).aborts.contains (s.ring (.queue 0)).rd = false) ∧
    (let s := (benchRecord []).setRing (.queue 0) { bench.ring (.queue 0) with prod := 1, aborts := [0] }
     (s.ring (.queue 0)).aborts.contains (s.ring (.queue 0)).rd = true) ∧
    takes (benchRecord [(0, 0x7F#8)]) = (some 3, .holds) ∧ takes (benchRecord []) = (none, .holds) ∧ takes (benchRecord [(0, 1#8)]) = (none, .holds) ∧
    takes (benchRecord [(1, 4#8)]) = (none, .holds) ∧ takes (benchRecord [(1, 4#8), (24, 8#8)]) = (none, .waits) ∧
    takes { benchRecord [(1, 4#8)] with fences := [(0, { Fence.init with taken := true, abandoned := true })] } = (none, .abandoned) := by
  decide +kernel

theorem witness_HostCommands :
    (bench.hostUp 0 = true ∧ bench.doorbellRing 0 1 = some (.queue 0) ∧
      ((bench.ringCtx (.queue 0)).any fun p => p.2.state != .live) = false ∧ (1#64).toNat < 2 ^ 32 ∧
      (bench.ring (.queue 0)).accepts 16 = true ∧ (bench.ring (.queue 0)).accepts 17 = false ∧ (bench.ring (.queue 0)).accepts 0 = false ∧
      bench.ringComp (.queue 0) = some 0) ∧
    (let k := { cur0 0 with waiting := true }
     ((benchCmd k).ring (.queue 0)).cur = some k ∧ k.waiting = true ∧ k.ended = none ∧ (benchCmd k).waitNow k.rec_ ≠ .waits) ∧
    (let k := { cur0 0 with ended := some (0, 0, 0) }
     ((benchCmd k).ring (.queue 0)).cur = some k ∧ k.ended = some (0, 0, 0) ∧ (benchCmd k).suspected (.queue 0) = false ∧
       (((benchCmd k).ringCtx (.queue 0)).any fun p => p.2.state != .live) = false) ∧
    (let k := { cur0 1 with rec_ := { rec0 1 with a0 := 0x1000 } }
     let s := benchCmd k
     s.runnable (.queue 0) 1 = some k ∧ s.ringCtx (.queue 0) = some (0, ctx0) ∧ k.started = false ∧
       (match s.readHeader (.queue 0) 0 ctx0 k.rec_ with
        | .ok _ => true
        | _ => false) = true ∧ s.mixerQueue (.queue 0) = false ∧ k.rec_.flag 3 = false ∧ s.mayLaunch ctx0.comp = true ∧ s.freeLane ctx0.comp = some 0) ∧
    (∀ op ∈ [0, 2, 3, 4, 6], (benchCmd (cur0 op)).runnable (.queue 0) op = some (cur0 op) ∧ (cur0 op).started = false) ∧
    (let k := { cur0 5 with rec_ := { rec0 5 with a0 := 5 } }
     let s := benchCmd k
     s.runnable (.queue 0) 5 = some k ∧ (s.startCmd (.queue 0)).mayName (.queue 0) 5 = true ∧
       (s.startCmd (.queue 0)).hostUp ((s.startCmd (.queue 0)).ringFn (.queue 0) / 64) = true) := by decide +kernel

theorem witness_HostCommands_objects :
    (let t := (benchAdmin (rec0 0x40)).startCmd (.admin 0)
     adminRuns (rec0 0x40) = true ∧ t.ctxRefusal 0 ((rec0 0x40).a0 == 1) = none ∧ lowestFree 40960 0 (t.ctxs.map (·.1)) = some 1 ∧
       t.freeTag = some 1 ∧ (t.assignTag 1 ((t.compOf 0).getD 0) false).isSome = true) ∧
    (adminRuns (rec0 0x41) = true ∧ ((benchAdmin (rec0 0x41)).startCmd (.admin 0)).liveCtx 0 0 = true) ∧
    (let t := (benchAdmin (rec0 0x42)).startCmd (.admin 0)
     let bells := (t.queues.filter fun e => e.2.fn == 0).map fun e => e.2.doorbell
     adminRuns (rec0 0x42) = true ∧ t.liveCtx 0 0 = true ∧ t.fld F.CTX_FN_STATUS_queues 0 < t.fld F.CTX_QUOTA_max_queues 0 ∧
       lowestFree 81920 0 (t.queues.map (·.1)) = some 1 ∧
       (((List.range (bells.length + 1)).map (· + 1)).find? fun d => decide (d < 4096) && !bells.contains d) = some 2) ∧
    (let t := (benchAdmin (rec0 0x43)).startCmd (.admin 0)
     let x := { Ring.init with n := 4, doorbell := 1 }
     adminRuns (rec0 0x43) = true ∧ t.queues.find 0 = some x ∧ x.fn = 0 ∧ x.rd = x.prod) ∧
    (let t := (benchAdmin (rec0 0x44)).startCmd (.admin 0)
     adminRuns (rec0 0x44) = true ∧ t.liveCtx 0 0 = true ∧ t.fld F.CTX_FN_STATUS_fences 0 < t.fld F.CTX_QUOTA_max_fences 0 ∧
       lowestFree 262144 0 ((t.fences.filter fun e => e.2.taken).map (·.1)) = some 1) ∧
    (∀ op ∈ [0x45, 0x46],
      let t := (benchAdmin (rec0 op)).startCmd (.admin 0)
      adminRuns (rec0 op) = true ∧ t.fnFence 0 0 = true ∧ (t.fence 0).isSome = true ∧
        (t.fns.map fun e => e.2.waiters.length).foldl (· + ·) 0 < 524288) := by decide +kernel

theorem witness_HostCommands_ends :
    (let s := bench.setRing (.queue 0) { bench.ring (.queue 0) with prod := 1 }
     let x := s.ring (.queue 0)
     s.queues.find (F.CTX_ABORT_queue.of (0#64)) = some x ∧ x.fn = 0 ∧ (s.fn 0).aborts.length < 64 ∧
       (F.CTX_ABORT_index.of (0#64) + 2 ^ 32 - x.rd) % 2 ^ 32 < (x.prod + 2 ^ 32 - x.rd) % 2 ^ 32 ∧ x.cur = none) ∧
    (let l := { launch0 with aborting := some 0 }
     let s : State := { bench with launches := [(laneKey 63 1, l)] }
     s.launches.find (laneKey 63 1) = some l ∧ l.aborting = some 0 ∧ 0 + us 200 ≤ s.aon.dt) ∧
    (let x := { ctx0 with state := .destroying }
     let s : State := { bench with ctxs := [(40959, x)] }
     s.ctxs.find 40959 = some x ∧ x.state = .destroying ∧ x.invalidating = false ∧ x.destroyAt + us 500 ≤ s.aon.dt ∧
       (∀ e ∈ s.launches, e.2.ctx ≠ 40959)) ∧
    (F.CTX_EVR_BASE_enable.of (BitVec.ofNat 64 (F.CTX_EVR_BASE_enable.into 0 1)) = 1 ∧ F.CTX_EVR_BASE_enable.of (0#64) = 0) ∧
    (rdOk 32 (run0.fld F.CTX_EVR_WR_wr 0) (run0.evrCap 0) 0 = true ∧ rdOk 32 (run0.fld F.CTX_EVR_WR_wr 0) (run0.evrCap 0) 1 = false) := by
  decide +kernel
/-- Function 0 attached to composition 0, with a mailbox. -/
def benchMail : State := bench.setFld F.CTX_FN_STATUS_attached 0 1

theorem witness_HostPortsAndMailbox :
    (bench.hostTrains 1 = true ∧ State.reset.hostTrains 1 = false) ∧
    (let s := benchMail
     s.compOf 0 = some 0 ∧ F.MBX_DOORBELL_length.of (8#64) = 8 ∧ F.MBX_DOORBELL_length.of (4096#64) = 4096 ∧ s.fld F.MBX_STATUS_in_busy 0 = 0 ∧
       F.MBX_DOORBELL_length.of (7#64) < 8 ∧ 4096 < F.MBX_DOORBELL_length.of (4097#64) ∧ F.MBX_ACK_ack.of (0#64) = 0 ∧
       F.MBX_ACK_ack.of (BitVec.ofNat 64 (F.MBX_ACK_ack.into 0 1)) = 1 ∧ s.mbxOut.get 0 [] = [] ∧
       ({ s with mbxOut := [(0, [(1, [])])] } : State).mbxOut.get 0 [] = [(1, [])]) ∧
    (let s := bench.setFld F.MBX_STATUS_in_busy 0 1
     s.fld F.MBX_STATUS_in_busy 0 = 1 ∧ (s.setFld F.MBX_STATUS_in_busy 0 0).attached 0 = some 0) ∧
    (let s := bench.setFld F.MBX_STATUS_in_busy 63 1
     s.fld F.MBX_STATUS_in_busy 63 = 1 ∧ (s.setFld F.MBX_STATUS_in_busy 63 0).attached 63 = none) ∧
    ((bench.setFld F.MBX_STATUS_out_valid 63 1).fld F.MBX_STATUS_out_valid 63 = 1 ∧ bench.fld F.MBX_STATUS_out_valid 63 = 0 ∧
      bench.fld F.MBX_STATUS_out_valid 0 = 0) := by decide +kernel

/-- A fault record. -/
def flt0 : FaultRec :=
  { dt := 0, seq := 0, island := 0, flags := 0, cause := 1, gen := 0, comp := 0, engine := 0, ctx := 0, addr := 0, pos := 0, code := 0, count := 0,
    detail := [] }

/-- The bench with function 0's fault ring enabled. -/
def benchRing : State := bench.setFld F.FLT_RING_BASE_enable 0 1

theorem witness_FaultRows :
    (benchRing.fltFull 0 = false ∧ bench.fltFull 0 = true ∧
      ((benchRing.setFn 0 { benchRing.fn 0 with merge := some flt0 }).fn 0).merge = some flt0 ∧
      (let s := benchRing.setFn 0 { benchRing.fn 0 with stalled := [(flt0, .core 0 0)] }
       s.fltFull 0 = false ∧ (s.fn 0).merge = none ∧ (s.fn 0).stalled = [(flt0, .core 0 0)])) ∧
    (let w := BitVec.ofNat 64 (F.FLT_RING_BASE_enable.into 0 1)
     F.FLT_RING_BASE_enable.of w = 1 ∧ F.FLT_RING_BASE_enable.of (0#64) = 0 ∧
       (run0.setFld F.FLT_RING_STATUS_overflow 127 1).fld F.FLT_RING_STATUS_overflow 127 = 1) ∧
    (engineOk (.cp 15) = true ∧ run0.hung (.cp 15) = false ∧
      ({ run0 with aon := { run0.aon with dt := 2 ^ 40 } } : State).hung (.cp 15) = true) ∧
    (let w := BitVec.ofNat 64 (F.FLT_RESET_engine.into (F.FLT_RESET_step.into 0 1) 15)
     run0.fld F.FLT_LADDER_busy 0 = 0 ∧ F.FLT_RESET_step.of w = 1 ∧ engineOf (F.FLT_RESET_engine.of w) = some (.cp 15)) ∧
    (∀ n ∈ [2, 3, 4],
      let w := BitVec.ofNat 64 (F.FLT_RESET_island.into (F.FLT_RESET_step.into 0 n) 147)
      F.FLT_RESET_step.of w = n ∧ F.FLT_RESET_island.of w = 147) ∧
    (run0.setFld F.FLT_LADDER_busy 0 1).fld F.FLT_LADDER_busy 0 = 1 := by decide +kernel

/-- The reset controller in a step asked for by management firmware. -/
def benchStep (n : Nat) (e : Option Engine) (isl : Nat) : State :=
  { bench with ladder := { bench.ladder with reqs := [{ step := n, engine := e, island := isl, hang := false }] } }

/-- A suspect on queue 0. -/
def suspect0 (replay : Option Nat) (hung : Bool) : Suspect := { q := .queue 0, ctx := 0, cores := 2, since := 0, cl := none, replay := replay, hung := hung }

theorem witness_FaultRows_ladder :
    (let r : LadderReq := { step := 1, engine := some (.core 0 0), island := 0, hang := false }
     (benchStep 1 (some (.core 0 0)) 0).inStepNo 1 = some r ∧ engineOk (.core 0 1) = true ∧ sameEngine (.core 0 0) (.core 0 1) = true) ∧
    ((benchStep 2 none 147).inStepNo 2 = some { step := 2, engine := none, island := 147, hang := false } ∧
      (benchStep 3 none 147).inStepNo 3 = some { step := 3, engine := none, island := 147, hang := false } ∧ (islEast 147).toNat < 2 ∧
      (benchStep 4 none 0).inStepNo 4 = some { step := 4, engine := none, island := 0, hang := false }) ∧
    (let s := benchStep 1 (some (.core 0 0)) 0
     s.ladder.reqs = [{ step := 1, engine := some (.core 0 0), island := 0, hang := false }] ∧ s.ladder.at_ + 0 + stepTicks 1 ≤ s.aon.dt) ∧
    (let s := benchStep 2 none 0
     let t : State := { s with ladder := { s.ladder with collecting := true, dumping := some 0 }, aon := { s.aon with dt := us 10000 } }
     t.ladder.collecting = true ∧ t.ladder.at_ + us 200 ≤ t.aon.dt ∧ t.ladder.dumping = some 0 ∧ 0 + us 10000 ≤ t.aon.dt) ∧
    (∀ op ∈ [1, 2, 4],
      let s : State := { benchCmd (cur0 op) with suspects := [suspect0 none false] }
      (∀ x ∈ s.suspects, x.replay = none) ∧ (∀ x ∈ s.waitingSuspects, 0 ≤ x.ctx) ∧
        (s.waitingSuspects.find? fun p => p.ctx == 0) = some (suspect0 none false) ∧ (s.ring (.queue 0)).cur = some (cur0 op)) ∧
    (let k := { cur0 1 with ended := some (0, 0, 0) }
     let s : State := { benchCmd k with suspects := [suspect0 (some 64) false] }
     (s.suspects.find? fun p => p.ctx == 0 && p.replay.isSome) = some (suspect0 (some 64) false) ∧ (s.ring (.queue 0)).cur = some k ∧
       k.ended.isSome = true ∧ (suspect0 (some 64) false).hung = false ∧ (suspect0 (some 64) true).hung = true) := by decide +kernel

theorem witness_FaultRows_dump :
    (let s := bench.setFld F.FLT_DUMP_STATUS_state 0 3
     s.fld F.FLT_DUMP_STATUS_copy_busy 0 = 0 ∧ s.dumpState ≠ 0) ∧
    (({ bench with ladder := { bench.ladder with copyTo := some 1 } } : State).ladder.copyTo = some 1) ∧
    (let x : DumpXfer := { block := 0, resends := 0, at_ := 0 }
     let s : State := { bench with console := { bench.console with xfer := some x }, aon := { bench.aon with dt := us 100000 } }
     s.console.xfer = some x ∧ x.at_ + us 100000 ≤ s.aon.dt) ∧
    (let s : State := { bench.setFld F.FLT_DUMP_STATUS_state 0 2 with sessions := [7], roles := [(7, 4)] }
     7 ∈ s.sessions ∧ s.sessionRole 7 2 = true ∧ s.dumpState ≠ 0) ∧
    (let k := { cur0 2 with started := true, unitAt := 0, chan := some 0 }
     let s := benchCmd k
     (s.ring (.queue 0)).cur = some k ∧ k.started = true ∧ k.ended = none ∧ s.suspected (.queue 0) = false ∧ k.rec_.opcode ≠ 1 ∧
       k.unitAt + spanMax (spanClass k.rec_.opcode) ≤ s.aon.dt ∧ k.chan = some 0) := by decide +kernel
/-! An image, a chain or a bundle verifies where `Config.verifySig`, an open value, says so, so that no closed state can be shown where one does:
the clauses for that case share their other hypotheses with those shown. -/

/-- The device in a stage of start-up. -/
def atStage (st : Stage) : State := { State.reset with aon := { State.reset.aon with stage := st } }

/-- The running device with session 7 open in its four roles, and an operator certificate. -/
def benchSession : State := { run0 with sessions := [7], roles := [(7, 15)], flacon := { run0.flacon with certificate := [1#8] } }

theorem witness_SecurityRows :
    (let s : State := { atStage .rom with flacon := { (atStage .rom).flacon with imageA := [], imageB := [] } }
     s.aon.stage = .rom ∧ s.aon.resetPin = false ∧ imageOk (s.flacon.image s.flacon.next) s.flacon.minSvn = false ∧
       imageOk (s.flacon.image (1 - s.flacon.next)) s.flacon.minSvn = false) ∧
    (atStage .recovery).aon.stage = .recovery ∧
    (let s : State := { run0.setFld F.SEC_BOOT_confirmed 0 1 with flacon := { run0.flacon with imageA := zeros 8 ++ [1#8], minSvn := 0 } }
     s.fld F.SEC_BOOT_confirmed 0 = 1 ∧ s.flacon.minSvn < imgSvn (s.flacon.image (s.fld F.SEC_BOOT_booted 0))) ∧
    imgSvn (({ run0 with flacon := { run0.flacon with imageA := [] } } : State).flacon.image (run0.fld F.SEC_BOOT_booted 0)) ≤ run0.flacon.minSvn ∧
    ((run0.setFld F.SEC_BOOT_load_state 0 1).fld F.SEC_BOOT_load_state 0 = 1 ∧ run0.fld F.SEC_BOOT_load_state 0 ≠ 1 ∧
      run0.flacon.next ≠ 1 - run0.fld F.SEC_BOOT_booted 0) ∧
    (chanOk (.doe 1) = true ∧ ({ run0 with hosts := [(1, { HostPort.init with up := true })] } : State).chanUp (.doe 1) = true ∧
      chanOk (.session 7) = true ∧ benchSession.chanUp (.session 7) = true ∧ benchSession.chainOf 1 = some [1#8] ∧ run0.chainOf 2 = none ∧
      (benchSession.measurement 3).isSome = true) ∧
    (run0.mgmtUp = true ∧ ((List.range 8).find? fun i => !benchSession.sessions.contains i) = some 0) ∧
    (7 ∈ benchSession.sessions ∧ 0x100000 % 8 = 0 ∧ RegName.locate 0x100000 = some (.CMP_CTL, 0) ∧ writeRole .CMP_CTL = some 1 ∧
      benchSession.sessionRole 7 1 = true ∧ ({ benchSession with roles := [(7, 1)] } : State).sessionRole 7 1 = false ∧
      benchSession.sessionRole 7 3 = true ∧ (benchSession.flacon.admin (.nodeId 65535)).isSome = true) := by decide +kernel

theorem witness_SecurityRows_slots :
    (let s := run0.setFld F.SEC_SLOT_SEL_slot 0 255
     s.slotBusy = false ∧ s.installRefused 64 = none ∧ s.installRefused 65 ≠ none) ∧
    (let r : Retirement := { slot := 255, at_ := 0, scrub := false }
     let s : State := { run0 with retiring := [r] }
     (s.retiring.find? fun r => r.slot == 255) = some r ∧ (s.outst.any fun e => e.2.req.sel == 255) = false ∧ r.at_ + us 500 ≤ s.aon.dt) ∧
    ((∀ e ∈ run0.slots, e.2.state ≠ 3) ∧ (∀ x ∈ run0.scrubs, x.granule ≠ 1342)) ∧
    (let x : Scrub := { granule := 1342, lo := 0, hi := 64, slot := some 1 }
     ({ run0 with scrubs := [x] } : State).scrubs = [x] ∧ x.granule = 1342) ∧
    (let v := BitVec.ofNat 64 (F.SEC_COMP_CFG_ctx_sel.into (F.SEC_COMP_CFG_confidential.into 0 1) 5)
     let s : State := { run0 with slots := [(5, { Slot.free with state := 1, owner := 63 })] }
     let t := if !s.hasCtx 63 && s.selOwned 5 63 then s.setFld F.SEC_COMP_CFG_ctx_sel 63 5 else s
     F.SEC_COMP_CFG_ctx_sel.of v = 5 ∧ F.SEC_COMP_CFG_confidential.of v = 1 ∧ t.fld F.CMP_STATUS_state 63 = 0 ∧
       t.fld F.SEC_COMP_CFG_ctx_sel 63 ≠ 0 ∧ t.selOwned (t.fld F.SEC_COMP_CFG_ctx_sel 63) 63 = true ∧
       run0.fld F.SEC_COMP_CFG_ctx_sel 63 = 0 ∧ F.SEC_COMP_CFG_confidential.of (0#64) = 0) ∧
    ((atStage .firmware).aon.resetPin = false ∧ (atStage .firmware).aon.stage = .firmware ∧ (atStage .training).aon.stage = .training ∧
      (∀ i ∈ [84, 119], 84 ≤ i ∧ i < 120) ∧ (atStage .links).aon.stage = .links) := by decide +kernel

/-- A device whose feeds are as given and whose power controller is otherwise as after reset. -/
def feeds (main backup : Nat) : State := run0.onPower fun p => { p with main := main, backup := backup }

/-- A PWR_TARGET word: watts and slew, committed. -/
def targetWord (w slew : Nat) : Word :=
  BitVec.ofNat 64 (F.PWR_TARGET_slew.into (F.PWR_TARGET_watts.into (F.PWR_TARGET_commit.into 0 1) w) slew)

theorem witness_PowerAndMonitor_feeds :
    (failVolts 470 = false ∧ failVolts 469 = true ∧ failVolts 621 = true ∧ goodVolts 480 = true ∧ goodVolts 600 = true) ∧
    (let t := (((feeds 2 0).setFeedState false 0 469).setFld F.PWR_FEED_STATUS_main_fail_stk 0 1).powerEvent 2
     (feeds 2 0).power.feed false ≠ 0 ∧ (feeds 2 0).aon.powered = true ∧ t.power.main = 0 ∧ t.power.backup = 0 ∧ t.power.bothFailed = none) ∧
    (let t := (((feeds 2 2).setFeedState false 0 469).setFld F.PWR_FEED_STATUS_main_fail_stk 0 1).powerEvent 2
     t.power.backup ≠ 0) ∧
    ((feeds 0 2).power.feed false = 0 ∧ (feeds 1 2).power.feed false = 1) ∧
    (let s : State := { feeds 1 0 with aon := { run0.aon with powered := false } }
     s.aon.powered = false ∧ (s.setFeedState false 2 480).aon.powered = false) ∧
    (let s := (feeds 1 0).onPower fun p => { p with bothFailed := some 0 }
     let u := s.setFeedState false 2 480
     u.aon.powered = true ∧ u.power.bothFailed.isSome = true ∧ s.power.bothFailed.isSome = true ∧ s.power.carried = false) ∧
    (∀ n ∈ [0, 1, 2],
      let s := ((feeds 2 0).onPower fun p => { p with singleAt := some 0 }).setFld F.PWR_POLICY_on_single 0 n
      let s : State := { s with aon := { s.aon with dt := 2 ^ 40 } }
      s.singleDue = true ∧ s.fld F.PWR_POLICY_on_single 0 = n ∧ s.devState < 2) := by decide +kernel

theorem witness_PowerAndMonitor_targets :
    (F.PWR_TARGET_commit.of (targetWord 3000 200) = 1 ∧ F.PWR_TARGET_watts.of (targetWord 3000 200) = 3000 ∧
      F.PWR_TARGET_slew.of (targetWord 3000 200) = 200 ∧ F.PWR_TARGET_watts.of (targetWord 3001 1) = 3001 ∧
      F.PWR_TARGET_slew.of (targetWord 240 0) = 0 ∧ F.PWR_TARGET_watts.of (targetWord 239 0) = 239) ∧
    ((run0.reg .PWR_TARGET_DT 0).toNat = 0 ∧
      run0.aon.dt + 2 ^ 48 < ((run0.setReg .PWR_TARGET_DT 0 (BitVec.allOnes 64)).reg .PWR_TARGET_DT 0).toNat ∧
      (let s := run0.setReg .PWR_TARGET_DT 0 1#64
       (s.reg .PWR_TARGET_DT 0).toNat ≠ 0 ∧ (s.reg .PWR_TARGET_DT 0).toNat ≤ s.aon.dt + 2 ^ 48 ∧
         (s.power.targets.filter fun t => t.dt != 1).length < 16)) ∧
    (let s := run0.onPower fun p => { p with targets := (List.range 16).map fun i => { dt := i + 2, watts := 240, slew := 1 } }
     16 ≤ (s.power.targets.filter fun t => t.dt != 1).length) ∧
    (∀ d ∈ [3999996, 3999995],
      let t : Target := { dt := d, watts := 239, slew := 0 }
      let s := run0.onPower fun p => { p with targets := [t] }
      s.nextTarget = some t ∧ s.aon.dtRuns = true ∧ t.dt ≤ s.aon.dt ∧ t.watts < 240) ∧
    (3999996 + 4 = run0.aon.dt ∧ 3999995 + 4 < run0.aon.dt ∧ (atStage .links).aon.stage ≠ .running) := by decide +kernel

theorem witness_PowerAndMonitor_fire (t : Target) :
    (run0.onPower fun p => { p with targets := p.targets.erase t }).showTargets.aon = run0.aon := rfl

theorem witness_PowerAndMonitor_windows :
    (let e (watts : Nat) : State × Nat :=
       let a := (run0.setFld F.PWR_MEAS_avg_w 0 watts).setReg .PWR_ENERGY 0
         ((run0.setFld F.PWR_MEAS_avg_w 0 watts).reg .PWR_ENERGY 0 + BitVec.ofNat 64 watts)
       (a, a.ceiling)
     run0.aon.stage = .running ∧ run0.power.bothFailed = none ∧ (e 3000).1.devState < 2 ∧ (e 65535).2 < 65535 ∧ 0 ≤ (e 0).2 ∧
       2 ≤ (run0.setFld F.PWR_TARGET_STATUS_dev_state 0 2).devState) ∧
    (let t (i temp : Nat) : State := (run0.setDom i { run0.dom i with temp := temp }).showHottest
     (((t 147 95).dom 147).tripped = false ∧ domKind 147 ≠ .cl) ∧
     (let s := run0.setDom 147 { run0.dom 147 with tripped := true }
      let u := (s.setDom 147 { s.dom 147 with temp := 84 }).showHottest
      let u := (u.setDom 147 { u.dom 147 with tripped := false }).derateIsl 147
      ((s.setDom 147 { s.dom 147 with temp := 84 }).showHottest.dom 147).tripped = true ∧ s.aon.stage = .running ∧ u.aon.stage = .running ∧
        u.devState < 2 ∧ u.inService 147 = true)) ∧
    (let s (n : Nat) : State := ((run0.setFld F.PWR_TARGET_STATUS_dev_state 0 2).onPower fun p => { p with dryStep := n, dryAt := 0 })
     ∀ n ∈ [1, 3, 4, 5], (s n).devState = 2 ∧ (s n).power.dryStep = n ∧ (s n).finishOver = true ∧ (s n).allParked = true ∧
       (s n).fld F.CMP_TWIN_state 0 ≠ 2 ∧ (s n).power.dryAt + us 56 ≤ (s n).aon.dt) ∧
    ((((run0.setFld F.PWR_TARGET_STATUS_dev_state 0 3).setFld F.PWR_POLICY_drydown 0 0).devState = 3) ∧
      (run0.setFld F.PWR_POLICY_drydown 0 0).devState ≠ 3) := by decide +kernel

/-- A MON_TW_CFG word that enables a window on composition 0's LOAD stations. -/
def watchWord : Word := BitVec.ofNat 64 (F.MON_TW_CFG_unit.into (F.MON_TW_CFG_enable.into 0 1) 1)

theorem witness_PowerAndMonitor :
    ((run0.setFld F.PWR_DOM_STATUS_svc_busy 0 1).fld F.PWR_DOM_STATUS_svc_busy 0 = 1 ∧ run0.fld F.PWR_DOM_STATUS_svc_busy 0 = 0 ∧
      run0.clState 0 = 0 ∧ run0.failing.find 0 = none ∧ (run0.onPower fun p => { p with svc := some (1, 140) }).power.svc = some (1, 140)) ∧
    (State.reset.monOn = false ∧ run0.monOn = true ∧ run0.console.xfer = none ∧
      ({ run0 with console := { run0.console with xfer := some { block := 0, resends := 0, at_ := 0 } } } : State).console.xfer.isSome = true ∧
      256 < (run0.console.held ++ (List.replicate 257 65#8).filter fun b => b != 10#8).length) ∧
    (127 < 128 ∧ 127 % 64 ≠ 0 ∧ run0.aon.powered = true ∧ ([1#8, 2#8] : List Byte).length = 2) ∧
    (F.MON_TW_CFG_clear.of (0#64) = 0 ∧ F.MON_TW_CFG_enable.of (0#64) = 0 ∧ run0.fld F.MON_TW_CFG_enable 7 = 0 ∧
      F.MON_TW_CFG_clear.of watchWord = 0 ∧ F.MON_TW_CFG_enable.of watchWord = 1 ∧ bench.watchAllowed 7 watchWord = true ∧ bench.fld F.MON_TW_CFG_enable 7 = 0) ∧
    (let v := BitVec.ofNat 64 (F.MON_TW_DIG_base.into (F.MON_TW_DIG_enable.into 0 1) 1)
     let t := run0.writeReg .MON_TW_DIG 7 v.toNat (2 ^ 64 - 1)
     let a := t.fld F.MON_TW_DIG_base 7 * 4096
     let n := 32 * (4096 * 2 ^ t.fld F.MON_TW_DIG_size 7)
     F.MON_TW_DIG_enable.of v = 1 ∧ inPlainMemory a n = true ∧ t.meetsBound a n = false ∧ t.meetsWindow a n = false) ∧
    (let v := BitVec.ofNat 64 (F.MON_TW_DIG_base.into (F.MON_TW_DIG_enable.into 0 1) 0xFFFFFFFFF)
     let t := run0.writeReg .MON_TW_DIG 7 v.toNat (2 ^ 64 - 1)
     F.MON_TW_DIG_enable.of v = 1 ∧ inPlainMemory (t.fld F.MON_TW_DIG_base 7 * 4096) (32 * (4096 * 2 ^ t.fld F.MON_TW_DIG_size 7)) = false) := by
  decide +kernel

/-! ## Ill-formed commands: for each check of WellFormed, a command whose one fault is what it looks at -/

/-- A message, a client's opening and a request that are well formed. -/
def msgOk : PortMsg := { PortMsg.of 1 with metaWords := [0, 0, 0, 0] }
def helloOk : ClientHello := { tls13 := true, suite := true, group := true, scheme := true, key := [], chain := [], proof := [] }
def reqOk : MemReq := req0 0x1000
def resvOk : Reservation := resv0 none

/-- Part 1. -/
theorem test_ill_formed_1 : ((
  [.registerWrite (.fn 128) 0 0 0#64, .rcFieldRead (.fn 128) 0 0, .gateRequest 148 false, .gateDrainEnd 148, .gatingFailed 148 0,
   .domainWake 148, .wakeCreditsComplete 148, .wakeCreditTimeout 148 0, .clockChange 148 0,
   .requestAtBoundary { reqOk with owner := .agent 8 }, .requestAtBoundary { reqOk with sel := 256 }, .requestAtBoundary { reqOk with cls := 4 }, .stationInstructionStart 672 0 1,
   .stationInstructionStart 0 2 1, .stationInstructionStart 0 0 0, .stationInstructionStart 0 0 10, .stationInstructionComplete 672 0 1,
   .stationInstructionComplete 0 0 0, .stationInstructionComplete 0 0 10, .queueDeadlock 672 0, .readAheadTile 672 0 0,
   .readAheadTile 0 0 16, .parkedPullWake 672 0, .preemptionRequest 672 0, .tileBoundaryReached 672 0, .tileBudgetExpire 672 0,
   .coreResumeFill 672 0 0, .icacheLineFill 672 0 0 false, .setupRelease 672 0, .seqNop (.cp 16) 0#64, .seqAdd (.cp 16) ⟨0, false⟩ 0,
   .seqAdd (.core 0 0) ⟨8, false⟩ 0, .seqSub (.cp 16) ⟨0, false⟩ 0, .seqSub (.core 0 0) ⟨8, false⟩ 0, .seqMul (.cp 16) ⟨0, false⟩ 0,
   .seqMul (.core 0 0) ⟨8, false⟩ 0, .seqMulhu (.cp 16) ⟨0, false⟩ 0, .seqMulhu (.core 0 0) ⟨8, false⟩ 0, .seqAnd (.cp 16) ⟨0, false⟩ 0,
   .seqAnd (.core 0 0) ⟨8, false⟩ 0, .seqOr (.cp 16) ⟨0, false⟩ 0, .seqOr (.core 0 0) ⟨8, false⟩ 0, .seqXor (.cp 16) ⟨0, false⟩ 0,
   .seqXor (.core 0 0) ⟨8, false⟩ 0, .seqShl (.cp 16) ⟨0, false⟩ 0, .seqShl (.core 0 0) ⟨8, false⟩ 0, .seqShr (.cp 16) ⟨0, false⟩ 0,
   .seqShr (.core 0 0) ⟨8, false⟩ 0, .seqSra (.cp 16) ⟨0, false⟩ 0, .seqSra (.core 0 0) ⟨8, false⟩ 0, .seqMin (.cp 16) ⟨0, false⟩ 0,
   .seqMin (.core 0 0) ⟨8, false⟩ 0, .seqMax (.cp 16) ⟨0, false⟩ 0, .seqMax (.core 0 0) ⟨8, false⟩ 0, .seqMinu (.cp 16) ⟨0, false⟩ 0,
   .seqMinu (.core 0 0) ⟨8, false⟩ 0, .seqMaxu (.cp 16) ⟨0, false⟩ 0, .seqMaxu (.core 0 0) ⟨8, false⟩ 0, .seqDivu (.cp 16) ⟨0, false⟩ 0,
   .seqDivu (.core 0 0) ⟨8, false⟩ 0, .seqRemu (.cp 16) ⟨0, false⟩ 0, .seqRemu (.core 0 0) ⟨8, false⟩ 0, .seqAddi (.cp 16) ⟨0, false⟩ 0,
   .seqAddi (.core 0 0) ⟨8, false⟩ 0, .seqAndi (.cp 16) ⟨0, false⟩ 0, .seqAndi (.core 0 0) ⟨8, false⟩ 0, .seqOri (.cp 16) ⟨0, false⟩ 0,
   .seqOri (.core 0 0) ⟨8, false⟩ 0, .seqXori (.cp 16) ⟨0, false⟩ 0, .seqXori (.core 0 0) ⟨8, false⟩ 0, .seqShli (.cp 16) ⟨0, false⟩ 0] : List Instr).all fun i => !i.wellFormed) = true := by
  decide +kernel

/-- Part 2. -/
theorem test_ill_formed_2 : ((
  [.seqShli (.core 0 0) ⟨8, false⟩ 0, .seqShri (.cp 16) ⟨0, false⟩ 0, .seqShri (.core 0 0) ⟨8, false⟩ 0, .seqSrai (.cp 16) ⟨0, false⟩ 0,
   .seqSrai (.core 0 0) ⟨8, false⟩ 0, .seqMovi (.cp 16) ⟨0, false⟩ 0, .seqMovi (.core 0 0) ⟨8, false⟩ 0, .seqMovhi (.cp 16) ⟨0, false⟩ 0,
   .seqMovhi (.core 0 0) ⟨8, false⟩ 0, .seqCmp (.cp 16) .eq ⟨0, false⟩ 0, .seqCmp (.core 0 0) .eq ⟨8, false⟩ 0,
   .seqCmpi (.cp 16) .eq ⟨0, false⟩ 0, .seqCmpi (.core 0 0) .eq ⟨8, false⟩ 0, .seqPand (.cp 16) ⟨0, false⟩ 0,
   .seqPand (.core 0 0) ⟨8, false⟩ 0, .seqPor (.cp 16) ⟨0, false⟩ 0, .seqPor (.core 0 0) ⟨8, false⟩ 0, .seqPxor (.cp 16) ⟨0, false⟩ 0,
   .seqPxor (.core 0 0) ⟨8, false⟩ 0, .seqPnot (.cp 16) ⟨0, false⟩ 0, .seqPnot (.core 0 0) ⟨8, false⟩ 0, .seqSel (.cp 16) ⟨0, false⟩ 0,
   .seqSel (.core 0 0) ⟨8, false⟩ 0, .seqBr (.cp 16) ⟨0, false⟩ 0, .seqBr (.core 0 0) ⟨8, false⟩ 0, .seqCall (.cp 16) ⟨0, false⟩ 0,
   .seqCall (.core 0 0) ⟨8, false⟩ 0, .seqJr (.cp 16) ⟨0, false⟩ 0, .seqJr (.core 0 0) ⟨8, false⟩ 0, .seqLoop (.cp 16) ⟨0, false⟩ 0,
   .seqLoop (.core 0 0) ⟨8, false⟩ 0, .seqLd (.cp 16) .d ⟨0, false⟩ 0, .seqLd (.core 0 0) .d ⟨8, false⟩ 0,
   .seqSt (.cp 16) .d ⟨0, false⟩ 0, .seqSt (.core 0 0) .d ⟨8, false⟩ 0, .seqAmoAddD (.cp 16) ⟨0, false⟩ 0,
   .seqAmoAddD (.core 0 0) ⟨8, false⟩ 0, .seqPull (.cp 16) ⟨0, false⟩ 0, .seqPull (.core 0 0) ⟨8, false⟩ 0,
   .seqDone (.cp 16) ⟨0, false⟩ 0, .seqDone (.core 0 0) ⟨8, false⟩ 0, .seqLive (.cp 16) ⟨0, false⟩ 0, .seqLive (.core 0 0) ⟨8, false⟩ 0,
   .seqCsrr (.cp 16) ⟨0, false⟩ 0, .seqCsrr (.core 0 0) ⟨8, false⟩ 0, .seqCsrw (.cp 16) ⟨0, false⟩ 0, .seqCsrw (.core 0 0) ⟨8, false⟩ 0,
   .seqWait (.cp 16) ⟨0, false⟩ 0, .seqWait (.core 0 0) ⟨8, false⟩ 0, .seqUntil (.cp 16) ⟨0, false⟩ 0,
   .seqUntil (.core 0 0) ⟨8, false⟩ 0, .seqTdef (.cp 16) ⟨0, false⟩ 0, .seqTdef (.core 0 0) ⟨8, false⟩ 0,
   .seqTscale (.cp 16) ⟨0, false⟩ 0, .seqTscale (.core 0 0) ⟨8, false⟩ 0, .seqQdef (.cp 16) ⟨0, false⟩ 0,
   .seqQdef (.core 0 0) ⟨8, false⟩ 0, .seqQfree (.cp 16) ⟨0, false⟩ 0, .seqQfree (.core 0 0) ⟨8, false⟩ 0,
   .seqSdef (.cp 16) ⟨0, false⟩ 0, .seqSdef (.core 0 0) ⟨8, false⟩ 0, .seqSrew (.cp 16) ⟨0, false⟩ 0, .seqSrew (.core 0 0) ⟨8, false⟩ 0,
   .seqSpos (.cp 16) ⟨0, false⟩ 0, .seqSpos (.core 0 0) ⟨8, false⟩ 0, .cpNext (.cp 16) ⟨0, false⟩ 0, .cpNext (.core 0 0) ⟨8, false⟩ 0,
   .cpSleep (.cp 16) ⟨0, false⟩ 0, .cpSleep (.core 0 0) ⟨8, false⟩ 0, .cpIssue (.cp 16) ⟨0, false⟩ 0] : List Instr).all fun i => !i.wellFormed) = true := by
  decide +kernel

/-- Part 3. -/
theorem test_ill_formed_3 : ((
  [.cpIssue (.core 0 0) ⟨8, false⟩ 0, .cpFsig (.cp 16) ⟨0, false⟩ 0, .cpFsig (.core 0 0) ⟨8, false⟩ 0, .cpAcct (.cp 16) ⟨0, false⟩ 0,
   .cpAcct (.core 0 0) ⟨8, false⟩ 0, .cpWakeRead 16, .ldTile 672 0 ⟨0, false⟩ 0 false, .ldTile 0 0 ⟨8, false⟩ 0 false,
   .stTile 672 0 ⟨0, false⟩ 0 false, .stTile 0 0 ⟨8, false⟩ 0 false, .xfTr 672 0 0 ⟨0, false⟩ 0 false, .xfTr 0 0 6 ⟨0, false⟩ 0 false,
   .xfTr 0 0 0 ⟨8, false⟩ 0 false, .xfCvt 672 0 0 ⟨0, false⟩ 0 false, .xfCvt 0 0 15 ⟨0, false⟩ 0 false, .xfCvt 0 0 0 ⟨8, false⟩ 0 false,
   .xfSpx 672 0 ⟨0, false⟩ 0 false, .xfSpx 0 0 ⟨8, false⟩ 0 false, .xfGth 672 0 ⟨0, false⟩ 0 false, .xfGth 0 0 ⟨8, false⟩ 0 false,
   .mma 672 0 0 ⟨0, false⟩ 0 false, .mma 0 0 13 ⟨0, false⟩ 0 false, .mma 0 0 0 ⟨8, false⟩ 0 false, .mmaOut 672 0 0 ⟨0, false⟩ 0 false,
   .mmaOut 0 0 5 ⟨0, false⟩ 0 false, .mmaOut 0 0 0 ⟨8, false⟩ 0 false, .mmaClr 672 0 ⟨0, false⟩ 0 false, .mmaClr 0 0 ⟨8, false⟩ 0 false,
   .mmaAddF32 672 0 ⟨0, false⟩ 0 false, .mmaAddF32 0 0 ⟨8, false⟩ 0 false, .vadd 672 0 0 ⟨0, false⟩ 0 false,
   .vadd 0 0 3 ⟨0, false⟩ 0 false, .vadd 0 0 0 ⟨8, false⟩ 0 false, .vsub 672 0 0 ⟨0, false⟩ 0 false, .vsub 0 0 3 ⟨0, false⟩ 0 false,
   .vsub 0 0 0 ⟨8, false⟩ 0 false, .vmul 672 0 0 ⟨0, false⟩ 0 false, .vmul 0 0 3 ⟨0, false⟩ 0 false, .vmul 0 0 0 ⟨8, false⟩ 0 false,
   .vmax 672 0 0 ⟨0, false⟩ 0 false, .vmax 0 0 3 ⟨0, false⟩ 0 false, .vmax 0 0 0 ⟨8, false⟩ 0 false, .vmin 672 0 0 ⟨0, false⟩ 0 false,
   .vmin 0 0 3 ⟨0, false⟩ 0 false, .vmin 0 0 0 ⟨8, false⟩ 0 false, .vfma 672 0 0 ⟨0, false⟩ 0 false, .vfma 0 0 3 ⟨0, false⟩ 0 false,
   .vfma 0 0 0 ⟨8, false⟩ 0 false, .vfmaRescale 672 0 ⟨0, false⟩ 0xFF0000 false, .vfmaRescale 0 0 ⟨8, false⟩ 0xFF0000 false,
   .vexp 672 0 ⟨0, false⟩ 0 false, .vexp 0 0 ⟨8, false⟩ 0 false, .vrcp 672 0 ⟨0, false⟩ 0 false, .vrcp 0 0 ⟨8, false⟩ 0 false,
   .vrsqrt 672 0 ⟨0, false⟩ 0 false, .vrsqrt 0 0 ⟨8, false⟩ 0 false, .vtanh 672 0 ⟨0, false⟩ 0 false, .vtanh 0 0 ⟨8, false⟩ 0 false,
   .vonl 672 0 ⟨0, false⟩ 0 false, .vonl 0 0 ⟨8, false⟩ 0 false, .vnorm 672 0 0 ⟨0, false⟩ 0 false, .vnorm 0 0 5 ⟨0, false⟩ 0 false,
   .vnorm 0 0 0 ⟨8, false⟩ 0 false, .vrsi 672 0 ⟨0, false⟩ 0 false, .vrsi 0 0 ⟨8, false⟩ 0 false, .redAdd 672 0 0 ⟨0, false⟩ 0 false,
   .redAdd 0 0 3 ⟨0, false⟩ 0 false, .redAdd 0 0 0 ⟨8, false⟩ 0 false, .redMax 672 0 0 ⟨0, false⟩ 0 false,
   .redMax 0 0 3 ⟨0, false⟩ 0 false] : List Instr).all fun i => !i.wellFormed) = true := by
  decide +kernel

/-- Part 4. -/
theorem test_ill_formed_4 : ((
  [.redMax 0 0 0 ⟨8, false⟩ 0 false, .redMin 672 0 0 ⟨0, false⟩ 0 false, .redMin 0 0 3 ⟨0, false⟩ 0 false,
   .redMin 0 0 0 ⟨8, false⟩ 0 false, .redAmax 672 0 0 ⟨0, false⟩ 0 false, .redAmax 0 0 3 ⟨0, false⟩ 0 false,
   .redAmax 0 0 0 ⟨8, false⟩ 0 false, .sndTile 672 0 ⟨0, false⟩ 0 false, .sndTile 0 0 ⟨8, false⟩ 0 false,
   .sndRaddF32 672 0 ⟨0, false⟩ 0 false, .sndRaddF32 0 0 ⟨8, false⟩ 0 false, .rcvTile 672 0 ⟨0, false⟩ 0 false,
   .rcvTile 0 0 ⟨8, false⟩ 0 false, .rcvRaddF32 672 0 ⟨0, false⟩ 0 false, .rcvRaddF32 0 0 ⟨8, false⟩ 0 false,
   .raddContribution 672 0 0 0 0, .reserve 672 0 resvOk, .reserve 0 0 { resvOk with tq := 16 }, .grant 672 0 .ok false,
   .tile 672 0 0 ⟨0, 0, false⟩ [], .sendFailed 672 0, .recvReservationTimeout 672 0 0, .barSync 672 0 ⟨0, false⟩ 0 false,
   .barSync 0 0 ⟨8, false⟩ 0 false, .barArrive 672 0 ⟨0, false⟩ 0 false, .barArrive 0 0 ⟨8, false⟩ 0 false,
   .barWait 672 0 ⟨0, false⟩ 0 false, .barWait 0 0 ⟨8, false⟩ 0 false, .barrierArrival 64 0 ⟨0, none⟩, .barrierArrival 0 2 ⟨0, none⟩,
   .barrierArrival 0 0 ⟨84, none⟩, .barrierRelease 672 0 ⟨0, none⟩, .barrierRelease 0 0 ⟨2, none⟩, .flagSet 672 0 ⟨0, false⟩ 0 false,
   .flagSet 0 0 ⟨8, false⟩ 0 false, .flagAdd 672 0 ⟨0, false⟩ 0 false, .flagAdd 0 0 ⟨8, false⟩ 0 false,
   .flagWait 672 0 ⟨0, false⟩ 0 false, .flagWait 0 0 ⟨8, false⟩ 0 false, .flagNotify 672 ⟨0, none⟩, .flagReread 672 0,
   .fenceMem 672 0 ⟨0, false⟩ 0 false, .fenceMem 0 0 ⟨8, false⟩ 0 false, .fenWait 672 0 ⟨0, false⟩ 0 false,
   .fenWait 0 0 ⟨8, false⟩ 0 false, .syncTimeout 672 0, .zeroFillEnd (.part 0 6), .remoteRequestTimeout 16842752,
   .exportWindowWrite 8 0 0#64, .exportWindowWrite 0 16 0#64, .ledgerRebuildDone 24 0, .ledgerRebuildDone 0 6, .pressurePublish 64 0 1,
   .pressurePublish 0 0 0, .publisherStale 64, .reservationAdmission 256 0#64, .reservationRelease 256, .dmaChainStart .fw 1344 0#64 0,
   .descriptorFetchDone 1344 .ok, .descriptorComplete 1344, .eventPulse ⟨16, none⟩, .watchSlotRetry 1344, .indexLineArrive 84 0 .ok,
   .indexHaltRecovery 84, .dmaResume .fw 1344, .dmaSkip .fw 1344, .dmaAbort .fw 1344, .tlxPoolWrite 8 0#64,
   .translationWalkDone (.half 2) 0 0, .translationWalkDone (.load 0) 65536 0] : List Instr).all fun i => !i.wellFormed) = true := by
  decide +kernel

/-- Part 5. -/
theorem test_ill_formed_5 : ((
  [.invalidateBroadcast (.half 2) ⟨0, none⟩, .invalidateBroadcast (.load 0) ⟨65536, none⟩, .invalidateAck (.half 2) 0, .invalidateAck (.load 0) 65536,
   .invalidateTimeout (.half 2) 0, .invalidateTimeout (.load 0) 65536, .dlogEnable 64 0#64, .dlogFlip 64, .dlogFlipDone 64,
   .injectionRetry 16777216, .seamCreditStall 2 0 false, .seamCreditStall 0 21 false, .seamRetryWindow 2, .seamFlitReplay 2 0 false,
   .seamFlitReplay 0 21 false, .seamRepair 2 0, .seamRepair 0 21, .portEnable 8 0#64, .portDisable 8 0#64, .feedRecheck 8 0,
   .linkSignalDetect 8, .bringupStepDone 8 stepOk, .bringupStepDone 0 { stepOk with node := 65536 }, .bringupStepTimeout 8,
   .feedWavelengthFail 8 0, .feedWavelengthFail 0 8, .laneFail 8 false 0, .lossOfSignal 8 0, .frameReceive 8 beat0,
   .frameReceive 0 { beat0 with phase := 2 }, .replay 8 ⟨0, 0⟩, .replay 0 ⟨2, 0⟩, .replayRepeat 8, .heartbeatSend 8, .status 8 msgOk,
   .status 0 { msgOk with op := 256 }, .heartbeatTimeout 8, .retrainBackoff 8, .rekeyStart 8, .rekey 8 msgOk [],
   .rekey 0 { msgOk with op := 256 } [], .rekeyAck 8 msgOk, .rekeyAck 0 { msgOk with op := 256 }, .rekeyDeadline 8, .read 8 ⟨2, msgOk⟩,
   .read 0 ⟨4, msgOk⟩, .read 0 ⟨2, { msgOk with op := 256 }⟩, .prepare 8 ⟨2, msgOk⟩ [], .prepare 0 ⟨4, msgOk⟩ [], .prepare 0 ⟨2, { msgOk with op := 256 }⟩ [], .commit 8 ⟨2, msgOk⟩,
   .commit 0 ⟨4, msgOk⟩, .commit 0 ⟨2, { msgOk with op := 256 }⟩, .readResp 8 msgOk [], .readResp 0 { msgOk with op := 256 } [], .prepAck 8 msgOk,
   .prepAck 0 { msgOk with op := 256 }, .commitAck 8 msgOk, .commitAck 0 { msgOk with op := 256 }, .mirror 8 msgOk [],
   .mirror 0 { msgOk with op := 256 } [], .mirrorAck 8 msgOk, .mirrorAck 0 { msgOk with op := 256 }, .goingAwaySend 8, .prtRetrain 8,
   .prtDown 8, .prtRekey 8, .timOwdRead 8, .timedLaunchFire 64 0, .timedLaunchFire 0 2, .sillageRecord 2, .sillageEnable 16 0#64,
   .create 64, .rebind 64] : List Instr).all fun i => !i.wellFormed) = true := by
  decide +kernel

/-- Part 6. -/
theorem test_ill_formed_6 : ((
  [.park 64, .resume 64, .release 64, .promote 64, .epochAdvance 64, .drainDeadline 64, .mapChangeEnd 64, .clusterRepair 84 false,
   .promoteRetry 64, .doorbell 128 0 0#64, .doorbell 0 4096 0#64, .destroySquash 40960, .ctxAbort 128 0#64, .launchAbortSquash 64 0,
   .launchAbortSquash 0 2, .evrEnable 128 0#64, .perstAssert 2, .hotReset 2, .hostLinkDown 2, .functionLevelReset 128,
   .mbxDoorbell 128 0#64 [], .mbxAck 128 0#64, .mailboxInboundTaken 64, .mailboxOutboundMessage 64 0 [], .quantumPreemption 64 0,
   .quantumPreemption 0 2, .launchResume 64 0 0, .launchResume 0 40960 0, .launchResume 0 0 2, .cyclicWindowOpen 2048,
   .cyclicWindowClose 2048, .windowPreempt 2048, .mixerEnable 64 0#64, .mixerStepForm 64, .mixerStepEnd 64, .pendingFaultWrite 128,
   .fltRingEnable 128 0#64, .overflowClear 128, .watchdogExpire (.agent 8), .engineReset (.agent 8), .islandReset 148, .halfReset 2,
   .quarantineReplay 40960 false, .quarantineOutcome 40960 .clean, .dumpCopy 2, .getVersion (.session 8), .getCapabilities (.session 8),
   .negotiateAlgorithms (.session 8), .getDigests (.session 8), .getCertificate (.session 8) 0, .challenge (.session 8) [],
   .getMeasurements (.session 8) 0 false [], .spdmUnsupported (.session 8) 0, .mgmtRegisterAccess 8 0 none,
   .mgmtAdminWrite 8 (.nodeId 0), .mgmtDrydownRequest 8, .retireDrainEnd 256, .scrubGranuleDone 1343, .secCompCfgWrite 64 0#64,
   .feedFail false 1024, .feedQualify false 1024, .feedGood false 1024, .powerWindow 65536, .thermalThreshold 148 0,
   .thermalThreshold 0 256, .tripRecover 148 0, .tripRecover 0 256, .drydownStart 0, .drydownStart 4, .domWake 256] : List Instr).all fun i => !i.wellFormed) = true := by
  decide +kernel

/-- Part 7. -/
theorem test_ill_formed_7 : ((
  [.domGate 256, .domRetain 256, .reloadCp 256, .repair 256, .monLevelWrite (.fn 128) 0#64, .twEnable 8 0#64, .twClear 8,
   .twDigEnable 8 0#64, .ctxEvrRdWrite 128 0#64, .perstRelease 2, .hostLinkUp 2, .seqUntilDtReached (.cp 16), .cpSleepDtReached 16,
   .i3cDynamicAddressAssign 128, .mgmtCrashDumpRetrieval 8, .vfma 0 0 0 ⟨0, false⟩ 0xFF0000 false, .vfmaRescale 0 0 ⟨0, false⟩ 0 false,
   .memoryReply 148 0 0 .ok [], .guaranteeWindow [⟨256, 0, 0⟩], .memoryTrainingDone [83], .memoryTrainingDone [120]] : List Instr).all fun i => !i.wellFormed) = true := by
  decide +kernel


/-! ## Single steps, with results worked out from the spec -/

/-- The state after a command, or the state itself where the command stops. -/
def after (c : Instr) (s : State) : State :=
  match exec c s with
  | .next t => t
  | _ => s

/-- Core 0's file with g2, g3 and p1 set. -/
def file23 (a b : Word) : SeqFile := ((SeqFile.init.wg 2 a).wg 3 b).wp 1 true

/-- What a sequencer instruction with rd = 1, ra = 2 and rb = 3 leaves in g1. -/
def rr (c : Seqr → Pred → Ops → Instr) (a b : Word) : Word :=
  ((after (c (.core 0 0) ⟨0, false⟩ (BitVec.ofNat 48 (1 * 2 ^ 43 + 2 * 2 ^ 38 + 3 * 2 ^ 33))) (benchCore fun x => { x with file := file23 a b })).core 0 0).file.rg 1

/-- What a compare with pd = 4, ra = 2 and rb = 3 leaves in p4. -/
def cmp (c : Cond) (a b : Word) : Bool :=
  ((after (.seqCmp (.core 0 0) c ⟨0, false⟩ (BitVec.ofNat 48 (4 * 2 ^ 45 + 2 * 2 ^ 38 + 3 * 2 ^ 33))) (benchCore fun x => { x with file := file23 a b })).core 0 0).file.rp 4

/-- R88: 64-bit arithmetic wraps. -/
theorem test_add_wraps : rr .seqAdd 0xFFFFFFFFFFFFFFFF#64 3#64 = 2#64 := by decide +kernel

/-- R88: rd = ra − rb, in that order. -/
theorem test_sub_order : rr .seqSub 5#64 7#64 = 0xFFFFFFFFFFFFFFFE#64 := by decide +kernel

/-- R88: the high half of (2^64 − 1)². -/
theorem test_mulhu_high : rr .seqMulhu 0xFFFFFFFFFFFFFFFF#64 0xFFFFFFFFFFFFFFFF#64 = 0xFFFFFFFFFFFFFFFE#64 := by decide +kernel

/-- R88: shift counts use bits 5:0. -/
theorem test_shl_count : rr .seqShl 3#64 65#64 = 6#64 := by decide +kernel

/-- R88: the arithmetic shift copies the sign. -/
theorem test_sra_sign : rr .seqSra 0x8000000000000000#64 63#64 = 0xFFFFFFFFFFFFFFFF#64 := by decide +kernel

/-- R88: the minimum is signed. -/
theorem test_min_signed : rr .seqMin 0xFFFFFFFFFFFFFFFF#64 1#64 = 0xFFFFFFFFFFFFFFFF#64 := by decide +kernel

/-- R88: division by zero gives all ones, and leaves the dividend as the remainder. -/
theorem test_divide_by_zero : rr .seqDivu 9#64 0#64 = 0xFFFFFFFFFFFFFFFF#64 ∧ rr .seqRemu 9#64 0#64 = 9#64 := by decide +kernel

/-- R88: lt is signed and ltu is not. -/
theorem test_cmp_sign : cmp .lt 0xFFFFFFFFFFFFFFFF#64 1#64 = true ∧ cmp .ltu 0xFFFFFFFFFFFFFFFF#64 1#64 = false := by decide +kernel

/-- R75, R88: g0 reads 0 after a write to it, and pc has still passed the instruction. -/
theorem test_g0_discards :
    let t := after (.seqAdd (.core 0 0) ⟨0, false⟩ (BitVec.ofNat 48 (2 * 2 ^ 38 + 3 * 2 ^ 33))) (benchCore fun x => { x with file := file23 5 6 })
    (t.core 0 0).file.rg 0 = 0#64 ∧ (t.core 0 0).file.pc = 8 := by decide +kernel

/-- R75: an instruction whose predicate is false changes no register, and pc passes it. -/
theorem test_predicate_false :
    let t := after (.seqAdd (.core 0 0) ⟨1, true⟩ (BitVec.ofNat 48 (1 * 2 ^ 43 + 2 * 2 ^ 38 + 3 * 2 ^ 33))) (benchCore fun x => { x with file := file23 5 6 })
    (t.core 0 0).file.rg 1 = 0#64 ∧ (t.core 0 0).file.pc = 8 := by decide +kernel

/-- R88: movhi keeps the low half of ra and places imm[31:0] above it. -/
theorem test_movhi :
    ((after (.seqMovhi (.core 0 0) ⟨0, false⟩ (BitVec.ofNat 48 (1 * 2 ^ 43 + 2 * 2 ^ 38 + 0xABCD1234)))
      (benchCore fun x => { x with file := file23 0x1111222233334444 0 })).core 0 0).file.rg 1 = 0xABCD123433334444#64 := by decide +kernel

/-- R163: the base of partition 2 of NM.E1.3, stack 21. -/
theorem test_partition_base : partBase 21 2 = 0x000800000000 := by decide +kernel

/-- The example of R240: the dirty-log bit of a far address. -/
theorem test_dirty_bit : dlogBit 0x010040000000 = 606208 := by decide +kernel

/-- The example of R220: the entries that the walk of VA 0x0_0040_8060_1234 reads. -/
theorem test_walk_entries : (List.range 4).map (fun l => entryAt 0 l 0x004080601234 / 8) = [0, 258, 3, 0] := by decide +kernel

/-- R140: 2^24 + 1 lies halfway between two FP32 values and rounds to the even one; 2^24 + 3 rounds up to 2^24 + 4. -/
theorem test_round_even : ((fp 0).conv none (.fin false (2 ^ 24 + 1) 0)).w = 0x4B800000 ∧ ((fp 0).conv none (.fin false (2 ^ 24 + 3) 0)).w = 0x4B800002 := by
  decide +kernel

/-- The example of R149, blocks 0 and 1: the reaches 20 and 38, the value 13 − 524,288 in units of 2^−22, and no renormalisation. -/
theorem test_r149_exact :
    let b0 := (blockContribution [.fin false 13 (-2)] 0x82 0x7E 0 (qmax 3 3)).1
    let b1 := (blockContribution [.fin true 1 (-1)] 0x89 0x89 0 (qmax 3 3)).1
    let e0 := AccElem.fresh.add b0
    let e1 := e0.1.add b1
    e0.1.reach = some 20 ∧ e0.1.v = 13 * 2 ^ 40 ∧ e0.2 = 0 ∧ e1.1.reach = some 38 ∧ e1.1.v = -524275 * 2 ^ 22 ∧ e1.2 = 0 := by decide +kernel

/-- The example of R149, block 2: the contribution rounds to 2^−10 and sets acc_ren; mma.out.f32 gives −524,275.0. -/
theorem test_r149_rounds :
    let e1 : AccElem := { AccElem.fresh with v := -524275 * 2 ^ 22, reach := some 38 }
    let e2 := e1.add (blockContribution [.fin false (2 ^ 15 + 1) (-15)] 0x78 0x7C 0 (qmax 3 3)).1
    e2.1.v = -524275 * 2 ^ 22 + 2 ^ 12 ∧ e2.1.reach = some 38 ∧ e2.2 = accRen ∧
      ((fp 0).conv none (e2.1.value (passFactor unitScale unitScale))).w = 0xC8FFFE60 := by decide +kernel

/-- R10, R11: an access of two bytes is answered as an Unsupported Request. -/
theorem test_access_of_two_bytes :
    (after (.rcFieldRead .fw 0x100020 2) bench).lastAccess.map (·.unsupported) = some true := by decide +kernel

/-- R346: a slice below 1,000 µs is stored as 1,000, and a read answers it. -/
theorem test_slice_clamped :
    (after (.rcFieldRead .fw 0x100020 8) (after (.registerWrite .fw 0x100020 8 10#64) bench)).lastAccess.map (·.value) = some 1000#64 := by decide +kernel

/-- R449: a target above 3,000 W is refused with last_result 1. -/
theorem test_target_too_high :
    (after (.pwrTargetCommit (BitVec.ofNat 64 (F.PWR_TARGET_watts.into (F.PWR_TARGET_commit.into 0 1) 3001))) bench).fld F.PWR_TARGET_STATUS_last_result 0 = 1 := by
  decide +kernel

/-- R454: an island trips at 95 °C and not at 94 °C. -/
theorem test_trip : ((after (.thermalThreshold 0 95) bench).dom 0).tripped = true ∧ ((after (.thermalThreshold 0 94) bench).dom 0).tripped = false := by
  decide +kernel

/-- The commands leave the queue first in, first out. -/
theorem test_front_first :
    (match step { bench with pending := [.powerWindow 10, .throttleStep] } with
     | .next t => t.pending == [.throttleStep]
     | _ => false) = true := by decide +kernel

end Sys2Proof.Tests
end

section
/-! PROOFS of the scope: every command goes on or names a missing object, where the registers lie, what an access to one does, and the state
after reset. -/
namespace Sys2Proof.Machine

/-! ## The outcome of every command -/

/-- Each arm of `exec` checks that the objects its command names exist, the condition `Instr.named`, and goes on with its effect. -/
theorem exec_eq_checked_named (c : Instr) (s : State) : ∃ t, exec c s = checked c.named t := by
  cases c <;> exact ⟨_, rfl⟩

/-- Settles O2: a command goes on where the objects it names exist, and stops with `noSuchObject` where one does not (DESIGN CHOICE, log 12). -/
theorem commandsGoOn : Obligations.CommandsGoOn := by
  unfold Obligations.CommandsGoOn
  intro c s
  obtain ⟨t, outcome⟩ := exec_eq_checked_named c s
  rw [outcome]
  exact ⟨fun named => ⟨t, checked_next.2 ⟨named, rfl⟩⟩, fun missing => checked_fault.2 ⟨missing, rfl⟩⟩

/-! ## The rows of the register map -/

theorem mem_regNames (r : RegName) : r ∈ RegName.list := by cases r <;> decide

/-- The offset in BAR0 at which the row of a register puts copy `i`. -/
def RegName.offset (r : RegName) (i : Nat) : Nat := r.row.base + r.row.stride * i

/-- Whether the row of a register counts a copy `i`: of MON_TW_HIST 32 bins in each 64. -/
def RegName.counted (r : RegName) (i : Nat) : Bool := decide (i < r.row.count) && (r != .MON_TW_HIST || decide (i % 64 < 32))

/-- The offset of the last copy. -/
def RegName.last (r : RegName) : Nat := r.offset (r.row.count - 1)

/-- The distance after which the offsets of a register come again: the stride, and for the bins of MON_TW_HIST the stride of a watch. -/
def RegName.period (r : RegName) : Nat := if r = .MON_TW_HIST then 0x200 else r.row.stride

/-- The place within its period of the first offset of a register. -/
def RegName.phase (r : RegName) : Nat := r.row.base % r.period

/-- How far the offsets of a register reach within a period, from the first. -/
def RegName.width (r : RegName) : Nat := if r = .MON_TW_HIST then 0xF8 else 0

/-- Two registers lie apart: one ends before the other starts, or they interleave at different places of one period. -/
def RegName.apart (q r : RegName) : Bool :=
  decide (q.last < r.row.base) || decide (r.last < q.row.base) ||
    (q.period == r.period && (decide (q.phase + q.width < r.phase) || decide (r.phase + r.width < q.phase)))

/-- The rows of the map, checked two by two. -/
theorem regNames_apart : ∀ q ∈ RegName.list, ∀ r ∈ RegName.list, q ≠ r → q.apart r = true := by decide +kernel

theorem apart_of_ne {q r : RegName} (h : q ≠ r) : q.apart r = true := regNames_apart q (mem_regNames q) r (mem_regNames r) h

theorem stride_pos {r : RegName} : 1 < r.row.count → 0 < r.row.stride := by cases r <;> decide

theorem perFn_count {r : RegName} : r.row.perFn = true → r.row.count = 1 := by cases r <;> decide

/-- Every row lies on multiples of 8: in BAR0's blocks 0 to 14 where a function's window shows it, and in 16 MiB in any case. -/
theorem row_bounds (r : RegName) :
    r.row.base % 8 = 0 ∧ r.row.stride % 8 = 0 ∧ (r.row.scope ≠ .none → r.last < 0xF00000) ∧ r.last < 0x1000000 := by
  cases r <;> decide

/-! ## Offsets -/

theorem offset_bounds {r : RegName} {i : Nat} (h : r.counted i = true) : r.row.base ≤ r.offset i ∧ r.offset i ≤ r.last := by
  simp only [RegName.counted, Bool.and_eq_true, decide_eq_true_eq] at h
  exact ⟨Nat.le_add_right .., Nat.add_le_add_left (Nat.mul_le_mul_left _ (by omega)) _⟩

theorem offset_mod_period {r : RegName} {i : Nat} (h : r.counted i = true) :
    r.phase ≤ r.offset i % r.period ∧ r.offset i % r.period ≤ r.phase + r.width := by
  by_cases hist : r = .MON_TW_HIST
  · subst hist
    simp only [RegName.counted, RegName.offset, RegName.phase, RegName.period, RegName.width, RegName.row, Bool.and_eq_true, decide_eq_true_eq,
      bne_self_eq_false, Bool.false_or, if_true] at h ⊢
    omega
  · simp [RegName.offset, RegName.phase, RegName.period, RegName.width, hist]

/-- Copies of different registers have different offsets. -/
theorem offset_ne {q r : RegName} {i j : Nat} (hq : q.counted i = true) (hr : r.counted j = true) (h : q ≠ r) : q.offset i ≠ r.offset j := by
  have far := apart_of_ne h
  simp only [RegName.apart, Bool.or_eq_true, Bool.and_eq_true, decide_eq_true_eq, beq_iff_eq] at far
  obtain ⟨lowQ, highQ⟩ := offset_bounds hq
  obtain ⟨lowR, highR⟩ := offset_bounds hr
  intro same
  rcases far with (far | far) | ⟨period, far⟩
  · omega
  · omega
  · have phaseQ := offset_mod_period hq
    have phaseR := offset_mod_period hr
    rw [same, period] at phaseQ
    omega

/-- No two copies of the map share an offset. -/
theorem offset_inj {q r : RegName} {i j : Nat} (hq : q.counted i = true) (hr : r.counted j = true) (same : q.offset i = r.offset j) :
    q = r ∧ i = j := by
  by_cases h : q = r
  · subst h
    refine ⟨rfl, ?_⟩
    simp only [RegName.counted, Bool.and_eq_true, decide_eq_true_eq] at hq hr
    by_cases one : q.row.count ≤ 1
    · omega
    · exact Nat.eq_of_mul_eq_mul_left (stride_pos (by omega)) (Nat.add_left_cancel same)
  · exact absurd same (offset_ne hq hr h)

/-! ## Finding a register by its offset -/

/-- A search finds the value of the one element that has any. -/
theorem findSome?_of_unique {α β : Type} {f : α → Option β} {l : List α} {a : α} {b : β} (mem : a ∈ l) (hit : f a = some b)
    (miss : ∀ c ∈ l, c ≠ a → f c = none) : l.findSome? f = some b := by
  induction l with
  | nil => cases mem
  | cons c l ih =>
    by_cases h : c = a
    · rw [List.findSome?_cons, h, hit]
    · rw [List.findSome?_cons, miss c List.mem_cons_self h]
      exact ih ((List.mem_cons.1 mem).resolve_left (Ne.symm h)) fun d hd => miss d (List.mem_cons_of_mem _ hd)

/-- The map finds a copy at its offset: the register's own row names it, and every other row misses. -/
theorem locate_offset {r : RegName} {i : Nat} (counted : r.counted i = true) (shown : r.row.scope ≠ .none)
    (islands : r ∈ [RegName.FAB_ERR_CNT, .FAB_ERR_STK] → i ≠ 2 ∧ i ≠ 3) : RegName.locate (r.offset i) = some (r, i) := by
  unfold RegName.locate
  refine findSome?_of_unique (mem_regNames r) ?own fun q _ hne => ?other
  case own =>
    have copy := counted
    simp only [RegName.counted, Bool.and_eq_true, decide_eq_true_eq, Bool.or_eq_true, bne_iff_ne] at copy
    dsimp only
    rw [if_neg shown]
    by_cases one : r.row.count = 1
    · obtain rfl : i = 0 := by omega
      rw [if_pos one, if_pos (by simp [RegName.offset])]
    · have index : (r.offset i - r.row.base) / r.row.stride = i := by
        rw [RegName.offset, Nat.add_sub_cancel_left, Nat.mul_div_cancel_left _ (stride_pos (by omega))]
      rw [if_neg one, index, if_pos ⟨(offset_bounds counted).1, by simp [RegName.offset], copy.1⟩]
      split
      · exact if_neg (by have := islands (by simp); omega)
      · exact if_neg (by have := islands (by simp); omega)
      · exact if_pos (by simpa using copy.2)
      · rfl
  case other =>
    have elsewhere (j : Nat) (h : q.counted j = true) : q.offset j ≠ r.offset i := offset_ne h counted hne
    dsimp only
    split
    · rfl
    split
    · next one =>
      have base := elsewhere 0 (by simp [RegName.counted, one])
      exact if_neg (by simpa [RegName.offset] using base.symm)
    split
    · next inside =>
      obtain ⟨above, multiple, below⟩ := inside
      have hit : q.offset ((r.offset i - q.row.base) / q.row.stride) = r.offset i := by
        rw [RegName.offset, Nat.mul_div_cancel' (Nat.dvd_of_mod_eq_zero multiple), Nat.add_sub_cancel' above]
      have uncounted := mt (elsewhere _) (not_not_intro hit)
      simp only [RegName.counted, below, decide_true, Bool.true_and, Bool.or_eq_true, bne_iff_ne, ne_eq, decide_eq_true_eq, not_or,
        Decidable.not_not] at uncounted
      obtain ⟨rfl, gap⟩ := uncounted
      exact if_neg gap
    · rfl

/-! ## The keys under which the state holds the registers -/

theorem counted_of_hasCopy {r : RegName} {i : Nat} (shared : r.row.perFn = false) (h : r.hasCopy i = true) : r.counted i = true := by
  simpa [RegName.hasCopy, RegName.counted, shared] using h

theorem counted_zero {r : RegName} (own : r.row.perFn = true) : r.counted 0 = true := by
  simp [RegName.counted, perFn_count own]

/-- The copy in the map at which a function finds copy `i`. -/
def RegName.windowCopy (r : RegName) (i : Nat) : Nat := if r.row.perFn then 0 else i

/-- The function of copy `i`, plus 1; 0 for a register that all functions share. -/
def RegName.keyFn (r : RegName) (i : Nat) : Nat := if r.row.perFn then i + 1 else 0

theorem counted_windowCopy {r : RegName} {i : Nat} (h : r.hasCopy i = true) : r.counted (r.windowCopy i) = true := by
  by_cases own : r.row.perFn = true
  · simpa [RegName.windowCopy, own] using counted_zero own
  · simpa [RegName.windowCopy, own] using counted_of_hasCopy (by simpa using own) h

/-- The key is the offset in a function's window, with the function above it. -/
theorem key_eq (r : RegName) (i : Nat) : r.key i = r.offset (r.windowCopy i) + r.keyFn i * 0x1000000 := by
  by_cases own : r.row.perFn = true <;> simp [RegName.key, RegName.offset, RegName.windowCopy, RegName.keyFn, own]

/-- The state keeps no two copies at one place. -/
theorem key_inj {r q : RegName} {i j : Nat} (hr : r.hasCopy i = true) (hq : q.hasCopy j = true) (same : r.key i = q.key j) : r = q ∧ i = j := by
  obtain ⟨-, -, -, endR⟩ := row_bounds r
  obtain ⟨-, -, -, endQ⟩ := row_bounds q
  have belowR := (offset_bounds (counted_windowCopy hr)).2
  have belowQ := (offset_bounds (counted_windowCopy hq)).2
  rw [key_eq, key_eq] at same
  obtain ⟨rfl, copy⟩ := offset_inj (counted_windowCopy hr) (counted_windowCopy hq) (by omega)
  refine ⟨rfl, ?_⟩
  by_cases own : r.row.perFn = true
  · simp only [RegName.keyFn, own, if_true] at same
    omega
  · simpa [RegName.windowCopy, own] using copy

theorem key_ne {r q : RegName} {i j : Nat} (hr : r.hasCopy i = true) (hq : q.hasCopy j = true) (h : (r, i) ≠ (q, j)) : r.key i ≠ q.key j :=
  fun same => h (Prod.ext_iff.2 (key_inj hr hq same))

/-- Settles O27: the offset of a copy names that copy alone, and its key is the key of no other (R350, R351). -/
theorem registerPlaces : Obligations.RegisterPlaces := by
  unfold Obligations.RegisterPlaces
  refine ⟨fun r i copy shared shown islands => ?_, fun r own => ?_, fun r q i j => key_inj⟩
  · have counted := counted_of_hasCopy shared copy
    obtain ⟨base, stride, window, -⟩ := row_bounds r
    refine ⟨?_, Nat.lt_of_le_of_lt (offset_bounds counted).2 (window shown), locate_offset counted shown islands⟩
    rw [Nat.add_mod, Nat.mul_mod, base, stride]
    simp
  · obtain ⟨base, -⟩ := row_bounds r
    exact ⟨base, fun shown => by simpa [RegName.offset] using locate_offset (counted_zero own) shown fun _ => by decide⟩

/-! ## Register accesses -/

theorem accOk_eq_named (who : Accessor) : accOk who = who.named := by cases who <;> rfl

theorem exec_registerWrite {who : Accessor} (named : who.named = true) (off size : Nat) (v : Word) (s : State) :
    exec (.registerWrite who off size v) s = .next (s.regWrite who off size v) :=
  checked_next.2 ⟨(accOk_eq_named who).trans named, rfl⟩

theorem exec_rcFieldRead_fits {who : Accessor} (named : who.named = true) {off size : Nat} (fits : accessFits off size = true) (s : State) :
    exec (.rcFieldRead who off size) s = .next ((s.clearRc who off size).answer false (s.regRead who off size)) :=
  checked_next.2 ⟨(accOk_eq_named who).trans named, by simp [fits]⟩

theorem exec_rcFieldRead_misfit {who : Accessor} (named : who.named = true) {off size : Nat} (misfit : accessFits off size = false) (s : State) :
    exec (.rcFieldRead who off size) s = .next (s.answer true 0#64) :=
  checked_next.2 ⟨(accOk_eq_named who).trans named, by simp [misfit]⟩

theorem accessFits_iff (off size : Nat) : accessFits off size = true ↔ (size = 4 ∨ size = 8) ∧ off % size = 0 := by
  simp [accessFits]

/-- What the requester sees does not move the registers. -/
@[simp] theorem locate_answer (s : State) (u : Bool) (a : Word) (who : Accessor) (off : Nat) :
    (s.answer u a).locate who off = s.locate who off := rfl

/-- The data of a write of `v` at `off`, in the place of the 64-bit word that it is part of. -/
def writeData (off : Nat) (v : Word) : Nat := if off % 8 = 0 then v.toNat else v.toNat * 2 ^ 32 % 2 ^ 64

/-! What a write does, by where it goes. -/

theorem regWrite_misfit {off size : Nat} (misfit : accessFits off size = false) (s : State) (who : Accessor) (v : Word) :
    s.regWrite who off size v = s.answer true 0#64 := by
  simp [State.regWrite, misfit]

theorem regWrite_table {off size j : Nat} (fits : accessFits off size = true) (place : msixPlace off = .table j) (s : State) (who : Accessor)
    (v : Word) : s.regWrite who off size v = (s.answer false 0#64).writeMsix (accFn who) j (writeData off v) (accessMask off size) := by
  simp [State.regWrite, fits, place, writeData]

theorem regWrite_nowhere {off size : Nat} (fits : accessFits off size = true) (place : msixPlace off = .none) {s : State} {who : Accessor}
    (absent : s.locate who (off / 8 * 8) = none) (v : Word) : s.regWrite who off size v = s.answer false 0#64 := by
  simp [State.regWrite, fits, place, absent]

theorem regWrite_located {off size : Nat} (fits : accessFits off size = true) (place : msixPlace off = .none) {s : State} {who : Accessor}
    {x : RegRef} (found : s.locate who (off / 8 * 8) = some x) (v : Word) :
    s.regWrite who off size v = (s.answer false 0#64).writeLocated x (writeData off v) (accessMask off size) := by
  simp [State.regWrite, fits, place, found, writeData]

/-! What a read returns and clears, by where it goes. -/

theorem regRead_nowhere {s : State} {who : Accessor} {off : Nat} (place : msixPlace off = .none) (absent : s.locate who (off / 8 * 8) = none)
    (size : Nat) : s.regRead who off size = 0#64 := by
  simp [State.regRead, place, absent]

theorem regRead_located {s : State} {who : Accessor} {off : Nat} (place : msixPlace off = .none) {x : RegRef}
    (found : s.locate who (off / 8 * 8) = some x) (size : Nat) :
    s.regRead who off size = if size = 8 then s.regView x.r x.i else
      BitVec.ofNat 64 (if off % 8 = 0 then (s.regView x.r x.i).toNat % 2 ^ 32 else (s.regView x.r x.i).toNat / 2 ^ 32) := by
  simp [State.regRead, place, found]

theorem clearRc_nowhere {s : State} {who : Accessor} {off : Nat} (absent : s.locate who (off / 8 * 8) = none) (size : Nat) :
    s.clearRc who off size = s := by
  simp [State.clearRc, absent]

/-- The word of a register whose reads only clear, after a read: without the RC bits that the access covers. -/
theorem clearRc_reg {s : State} {who : Accessor} {off : Nat} {x : RegRef} (found : s.locate who (off / 8 * 8) = some x)
    (plain : x.r ∉ [RegName.TIM_OWD, .TIM_OWD_AUX]) (size : Nat) :
    (s.clearRc who off size).reg x.r x.i =
      BitVec.ofNat 64 ((s.reg x.r x.i).toNat - ((s.reg x.r x.i).toNat &&& (x.r.row.rc &&& accessMask off size))) := by
  simp only [List.mem_cons, List.not_mem_nil, or_false, not_or] at plain
  obtain ⟨owd, aux⟩ := plain
  unfold State.clearRc
  rw [found]
  dsimp only
  split
  · next h => exact absurd h owd
  · next h => exact absurd h aux
  · rw [reg_setReg_same, Nat.and_assoc]

/-- Settles O21: a misfit is an Unsupported Request, and an access where no register is answers 0 and changes nothing (R11). -/
theorem accessesThatDoNotFit : Obligations.AccessesThatDoNotFit := by
  unfold Obligations.AccessesThatDoNotFit
  intro who off size v s named
  refine ⟨fun bad => ?_, fun sized aligned place absent => ?_⟩
  · have misfit : accessFits off size = false := by
      rw [Bool.eq_false_iff, Ne, accessFits_iff]
      omega
    exact ⟨by rw [exec_registerWrite named, regWrite_misfit misfit, State.answer], exec_rcFieldRead_misfit named misfit s⟩
  · have fits := (accessFits_iff off size).2 ⟨sized, aligned⟩
    exact ⟨by rw [exec_registerWrite named, regWrite_nowhere fits place absent, State.answer],
      by rw [exec_rcFieldRead_fits named fits, clearRc_nowhere absent, regRead_nowhere place absent, State.answer]⟩

/-! ## Bits of a masked word -/

/-- Taking from a number the bits of it that a mask names clears exactly those. -/
theorem testBit_sub_and (x m b : Nat) : (x - (x &&& m)).testBit b = (x.testBit b && !m.testBit b) := by
  induction b generalizing x m with
  | zero =>
    have le : x &&& m ≤ x := Nat.and_le_left
    have low : (x &&& m) % 2 = 1 ↔ x % 2 = 1 ∧ m % 2 = 1 := Nat.and_mod_two_eq_one
    rw [Bool.eq_iff_iff]
    simp only [Nat.testBit_zero, Bool.and_eq_true, Bool.not_eq_true', decide_eq_true_eq, decide_eq_false_iff_not]
    omega
  | succ b ih =>
    have le : x &&& m ≤ x := Nat.and_le_left
    have low : (x &&& m) % 2 = 1 ↔ x % 2 = 1 ∧ m % 2 = 1 := Nat.and_mod_two_eq_one
    have high : (x &&& m) / 2 = x / 2 &&& m / 2 := Nat.and_div_two
    have half : (x - (x &&& m)) / 2 = x / 2 - (x / 2 &&& m / 2) := by omega
    rw [Nat.testBit_succ, half, ih, Nat.testBit_succ, Nat.testBit_succ]

/-- Settles O23: a read answers the value before the access and clears the RC bits that it covers (R10, R13). -/
theorem registerReads : Obligations.RegisterReads := by
  unfold Obligations.RegisterReads
  refine ⟨fun who off size s named fits => exec_rcFieldRead_fits named fits s, fun who off size s x found plain => ?_,
    fun who off s x aligned place found => ?_⟩
  · have word := clearRc_reg found plain size
    refine ⟨word, fun b hb gone => ?_⟩
    rw [word, BitVec.getLsbD_ofNat, testBit_sub_and, gone]
    simp
  · have low : s.locate who (off / 8 * 8) = some x := by rwa [show off / 8 * 8 = off by omega]
    have high : s.locate who ((off + 4) / 8 * 8) = some x := by rwa [show (off + 4) / 8 * 8 = off by omega]
    refine ⟨by rw [regRead_located place low, if_pos rfl], by rw [regRead_located place low, if_neg (by decide), if_pos aligned],
      fun place4 => ?_⟩
    rw [regRead_located place4 high, if_neg (by decide), if_neg (by omega)]

/-! ## Register writes -/

/-- Whether a write of `v` through `wm` may change bit `b`: it is covered, of no other row of the table, and not locked. -/
def State.freeBit (s : State) (r : RegName) (i v wm b : Nat) : Bool :=
  wm.testBit b && !(rowFields r).testBit b &&
    !(s.lockedFields r i ((v &&& wm) ||| ((s.reg r i).toNat - ((s.reg r i).toNat &&& wm)))).testBit b

/-- Each bit of a register that stores its word as written: a free W1C bit written as 1 is 0, a free RW bit is the one written, others stand. -/
theorem writeReg_bit (s : State) {r : RegName} (plain : ∀ w, storedWord r w = w) (i v wm : Nat) {b : Nat} (hb : b < 64) :
    ((s.writeReg r i v wm).reg r i).getLsbD b =
      if s.freeBit r i v wm b && r.row.w1c.testBit b && v.testBit b then false
      else if s.freeBit r i v wm b && r.row.rw.testBit b then v.testBit b
      else (s.reg r i).getLsbD b := by
  have free : (wm - (wm &&& (rowFields r ||| s.lockedFields r i ((v &&& wm) ||| ((s.reg r i).toNat - ((s.reg r i).toNat &&& wm)))))).testBit b =
      s.freeBit r i v wm b := by
    rw [testBit_sub_and, Nat.testBit_or, Bool.not_or, ← Bool.and_assoc, State.freeBit]
  unfold State.writeReg
  dsimp only
  rw [reg_setReg_same, plain]
  generalize wm - (wm &&& _) = mask at free ⊢
  simp only [BitVec.getLsbD_ofNat, hb, decide_true, Bool.true_and, testBit_sub_and, Nat.testBit_or, Nat.testBit_and, free, BitVec.testBit_toNat]
  cases s.freeBit r i v wm b with
  | false => simp
  | true => cases v.testBit b <;> cases r.row.rw.testBit b <;> cases r.row.w1c.testBit b <;> simp

section
variable {x : RegRef} (wr : x.wr = true) (s : State) (v : Nat) {wm : Nat}
include wr

/-- A register whose write only holds its fields. -/
theorem writeLocated_plain (plain : x.r ∉ [RegName.SCH_CTX_CFG, .FLT_CTX_OVF, .MEM_PXW_BASE, .SCH_CYC_CFG, .CTX_ADMIN]) :
    s.writeLocated x v wm = s.writeReg x.r x.i v wm := by
  simp only [List.mem_cons, List.not_mem_nil, or_false, not_or] at plain
  obtain ⟨cfg, ovf, base, cyc, admin⟩ := plain
  -- the five facts leave the last arm of the match
  simp only [State.writeLocated, wr, Bool.not_true, Bool.false_eq_true, if_false]

theorem writeLocated_windowBase (base : x.r = .MEM_PXW_BASE) (moved : wm &&& F.MEM_PXW_BASE_base.mask ≠ 0) :
    s.writeLocated x v wm = (s.writeReg x.r x.i v wm).setFld F.MEM_PXW_CFG_enable x.i 0 := by
  simp [State.writeLocated, wr, base, moved]

theorem writeLocated_cyclic (cyc : x.r = .SCH_CYC_CFG) : s.writeLocated x v wm = (s.writeReg x.r x.i v wm).cyclicOff := by
  simp [State.writeLocated, wr, cyc]

theorem writeLocated_admin (admin : x.r = .CTX_ADMIN) :
    s.writeLocated x v wm = (s.writeReg x.r x.i v wm).adminEnabled x.i (s.fld F.CTX_ADMIN_enable x.i) := by
  simp [State.writeLocated, wr, admin]

end

/-- Settles O22: a register write answers the access and replaces that register's word alone, bit by bit as its row says (R13, R14); a write of the
MSI-X table is `writeMsix` (R366; PRESUMED, log 5). -/
theorem registerWrites : Obligations.RegisterWrites := by
  unfold Obligations.RegisterWrites
  refine ⟨fun who off size v s x named fits place found wr => ?_, fun s r i v wm _ _ plain b hb => writeReg_bit s plain i v wm hb,
    fun s r q i j v wm hr hq other => reg_setReg_ne s (key_ne hq hr (Ne.symm other)) _, fun who off size j v s named fits place => ?_⟩
  · rw [exec_registerWrite named, regWrite_located fits place found]
    exact ⟨fun plain => congrArg _ (writeLocated_plain wr _ _ plain), fun base moved => congrArg _ (writeLocated_windowBase wr _ _ base moved),
      fun cyc => congrArg _ (writeLocated_cyclic wr _ _ cyc), fun admin => congrArg _ (writeLocated_admin wr _ _ admin)⟩
  · rw [exec_registerWrite named, regWrite_table fits place, writeData]

/-! ## The state after reset -/

theorem reg_reset (r : RegName) (i : Nat) : State.reset.reg r i = r.resetWord i := rfl

/-- A field of a register whose reset value is one for all copies reads, after reset, what the register's row gives. -/
theorem fld_reset {F : Fld} {v : Nat} (value : bits (F.reg.row.reset % 2 ^ 64) F.hi F.lo = v) (i : Nat)
    (row : F.reg.resetWord i = BitVec.ofNat 64 F.reg.row.reset := by rfl) : State.reset.fld F i = v := by
  rw [State.fld, reg_reset, row, BitVec.toNat_ofNat, value]

/-- SCH_COMP_CFG resets with home_cp by copy, above its two times (R401). -/
theorem schCompCfg_reset (c : Nat) : (State.reset.reg .SCH_COMP_CFG c).toNat = 0x64000007D0 + c % 16 * 2 ^ 60 := by
  rw [reg_reset, RegName.resetWord, BitVec.toNat_ofNat, show RegName.SCH_COMP_CFG.row.reset = 0x64000007D0 from rfl]
  omega

theorem tileBudget_reset (c : Nat) : State.reset.fld F.SCH_COMP_CFG_tile_budget_us c = 100 := by
  rw [State.fld, show F.SCH_COMP_CFG_tile_budget_us.reg = .SCH_COMP_CFG from rfl, schCompCfg_reset]
  simp only [F.SCH_COMP_CFG_tile_budget_us, bits]
  omega

theorem quantum_reset (c : Nat) : State.reset.fld F.SCH_COMP_CFG_quantum_us c = 2000 := by
  rw [State.fld, show F.SCH_COMP_CFG_quantum_us.reg = .SCH_COMP_CFG from rfl, schCompCfg_reset]
  simp only [F.SCH_COMP_CFG_quantum_us, bits]
  omega

/-- Settles O60: the maps of the state are empty at reset (DESIGN CHOICE, logs 1, 2 and 4), and a register reads its reset word. -/
theorem resetState : Obligations.ResetState := by
  unfold Obligations.ResetState
  refine ⟨rfl, reset_mem_wf, rfl, rfl, fun i _ => rfl, fun c _ => ⟨fld_reset rfl c, fld_reset rfl c, rfl⟩, fun n r _ => ⟨rfl, rfl⟩, rfl,
    fun i => rfl, fun c _ => ?_, fun f _ => ?_, fun i _ => ?_, fun k _ => ?_, ?_⟩
  · exact ⟨fld_reset rfl c, tileBudget_reset c, quantum_reset c, fld_reset rfl c, fld_reset rfl c, fld_reset rfl c⟩
  · exact ⟨fld_reset rfl f, fld_reset rfl f, fld_reset rfl f⟩
  · exact ⟨fld_reset rfl i, fld_reset rfl i⟩
  · exact ⟨fld_reset rfl k, fld_reset rfl k, fld_reset rfl k⟩
  · exact ⟨fld_reset rfl 0, fld_reset rfl 0, fld_reset rfl 0, fld_reset rfl 0, fld_reset rfl 0, fld_reset rfl 0, fld_reset rfl 0,
      fld_reset rfl 0, fld_reset rfl 0, fld_reset rfl 0,
      fun w _ => ⟨fld_reset rfl w, fld_reset rfl w, fld_reset rfl w, fld_reset rfl w⟩⟩

end Sys2Proof.Machine
end

section
/-! PROOFS of the scope: a domain gates, wakes and changes its clock; a memory request goes from its entry to its reply. -/

/-! ## Replacing an entry twice -/

namespace Sys2Proof

theorem SMap.put_put {β : Type} (m : SMap β) (k : Nat) (v w : β) : SMap.put (SMap.put m k v) k w = SMap.put m k w := by
  induction m with
  | nil => simp [SMap.put]
  | cons e m ih =>
    obtain ⟨j, u⟩ := e
    simp only [SMap.put]
    split
    · simp [SMap.put]
    · split
      · simp [SMap.put]
      · next below other => simp [SMap.put, below, other, ih]

end Sys2Proof

namespace Sys2Proof.Machine

/-! ## Replacing a domain -/

@[simp] theorem setDom_setDom (s : State) (i : Nat) (d e : Dom) : (s.setDom i d).setDom i e = s.setDom i e := by
  simp [State.setDom, SMap.put_put]

/-- A state that differs in one domain: that domain, the other domains, and everything that is no domain. -/
theorem setDom_frame (s : State) (i : Nat) (d : Dom) :
    (s.setDom i d).dom i = d ∧ (∀ j, j ≠ i → (s.setDom i d).dom j = s.dom j) ∧ { s.setDom i d with doms := s.doms } = s :=
  ⟨dom_setDom_same s i d, fun _ other => dom_setDom_ne s other d, rfl⟩

section
variable {s : State} {i : Nat} {d : Dom} (state : d.state = (s.dom i).state)
include state

theorem state_setDom_of_eq (j : Nat) : ((s.setDom i d).dom j).state = (s.dom j).state := by
  by_cases h : j = i
  · subst h
    simpa using state
  · rw [dom_setDom_ne s h]

theorem domOn_setDom_of_eq (trans : d.trans = (s.dom i).trans) (j : Nat) : (s.setDom i d).domOn j = s.domOn j := by
  by_cases h : j = i
  · subst h
    simp [State.domOn, state, trans]
  · simp [State.domOn, dom_setDom_ne s h]

theorem allOn_setDom_of_eq (trans : d.trans = (s.dom i).trans) (l : List Nat) :
    (l.all fun j => (s.setDom i d).domOn j) = l.all fun j => s.domOn j := by
  simp only [domOn_setDom_of_eq state trans]

/-- A gate is refused for the states of the domains and for what is bound, whatever waits in a queue. -/
theorem gateRefusal_setDom_of_eq (j : Nat) : (s.setDom i d).gateRefusal j = s.gateRefusal j := by
  have dependent : (s.setDom i d).dependentOn j = s.dependentOn j := by simp [State.dependentOn, state_setDom_of_eq state]
  have bound : (s.setDom i d).clusterBound j = s.clusterBound j := rfl
  have homes : (s.setDom i d).homesBusy j = s.homesBusy j := rfl
  simp [State.gateRefusal, dependent, bound, homes]

end

theorem beginTrans_setDom (s : State) (i : Nat) (d : Dom) (t : DomTrans) : (s.setDom i d).beginTrans i t = s.setDom i { d with trans := t } := by
  simp [State.beginTrans]

/-! ## Serving the request at the front of a queue -/

theorem serveOne_nil {s : State} {i : Nat} (noQueue : (s.dom i).queue = []) : s.serveOne i = (s, .busy) := by
  simp [State.serveOne, noQueue]

section
variable {s : State} {i : Nat} {q : DomReq} {rest : List DomReq} (idle : (s.dom i).trans = .none) (front : (s.dom i).queue = q :: rest)
  (away : q.toward ≠ (s.dom i).state) (untripped : (s.dom i).tripped = false) (unheld : s.ladderOn.contains i = false)
include idle front away untripped unheld

/-- A wake begins where the dependences are ON. -/
theorem serveOne_wake (toward : q.toward = .on) (deps : ((depsOf i).all fun j => s.domOn j) = true) :
    s.serveOne i = (s.setDom i { s.dom i with queue := rest, last := some q, trans := .waking (s.dom i).state s.aon.dt }, .busy) := by
  rw [toward] at away
  simp only [State.serveOne, idle, front, toward, away, untripped, unheld, deps, beginTrans_setDom, bne_self_eq_false, Bool.false_eq_true,
    Bool.or_self, if_false, if_true]

/-- A gating of an ON domain begins where it keeps the contents, or nothing refuses it. -/
theorem serveOne_gate (on : (s.dom i).state = .on) (allowed : q.toward = .retain ∨ s.gateRefusal i = none) :
    s.serveOne i = (s.setDom i { s.dom i with queue := rest, last := some q, trans := .gating q.toward s.aon.dt }, .busy) := by
  rw [on] at away
  simp only [State.serveOne, idle, front, on, untripped, unheld, beginTrans_setDom, bne_self_eq_false, Bool.false_eq_true,
    Bool.or_self, if_false, if_true, away]
  cases toward : q.toward with
  | on => exact absurd toward away
  | retain => rfl
  | off => simp [allowed.resolve_left (by simp [toward])]

/-- A refused gate is taken from the queue with nothing done. -/
theorem serveOne_refused (toward : q.toward = .off) (byUnit : q.byCtl = false) (refused : s.gateRefusal i ≠ none) :
    s.serveOne i = (s.setDom i { s.dom i with queue := rest, last := some q }, .answered) := by
  obtain ⟨r, refusal⟩ := Option.ne_none_iff_exists'.1 refused
  rw [toward] at away
  simp [State.serveOne, idle, front, toward, away, untripped, refusal, State.reqResult, byUnit, show i ∉ s.ladderOn by simpa using unheld]

end

theorem serveDom_of_busy {s t : State} {i : Nat} (served : s.serveOne i = (t, .busy)) : s.serveDom i = t := by
  simp [State.serveDom, State.serve, served]

theorem serveDom_of_answered {s t : State} {i : Nat} (served : s.serveOne i = (t, .answered)) (noQueue : (t.dom i).queue = []) :
    s.serveDom i = t := by
  simp [State.serveDom, State.serve, served, serveOne_nil noQueue]

/-! ## A request that finds an empty queue -/

theorem insertReq_nil (q : DomReq) : insertReq [] q = [q] := rfl

/-- A request that no gate request of its DT goes before is queued and served (R32). -/
theorem requestDom_queues {s : State} {i : Nat} {toward : DomState} (first : toward = .on → (s.dom i).gateBefore s.aon.dt = none) (byCtl : Bool) :
    s.requestDom i toward byCtl = (s.setDom i { s.dom i with queue := insertReq (s.dom i).queue ⟨toward, s.aon.dt, byCtl⟩ }).serveDom i := by
  have noGate : ((s.dom i).gateBefore s.aon.dt).filter (fun _ => toward == .on) = none := by
    by_cases h : toward = .on
    · rw [first h, Option.filter_none]
    · simp [h]
  simp only [State.requestDom, noGate]

/-- A wake that a gate request of its DT found the domain without power is served, and the gate request after it (R32). -/
theorem requestDom_wakesBefore {s : State} {i : Nat} {g : DomReq} (before : (s.dom i).gateBefore s.aon.dt = some g)
    (idle : (s.dom i).trans = .none) (byCtl : Bool) :
    s.requestDom i .on byCtl =
      (s.setDom i { s.dom i with queue := ⟨.on, s.aon.dt, byCtl⟩ :: { g with byCtl := false } :: (s.dom i).queue, last := none }).serveDom i := by
  have gate : ((s.dom i).gateBefore s.aon.dt).filter (fun _ => DomState.on == .on) = some g := by rw [before]; rfl
  simp only [State.requestDom, gate, idle, bne_self_eq_false, Bool.false_eq_true, if_false]

section
variable {s : State} {i : Nat} (idle : (s.dom i).trans = .none) (noQueue : (s.dom i).queue = []) (untripped : (s.dom i).tripped = false)
  (unheld : s.ladderOn.contains i = false)
include idle noQueue untripped unheld

theorem requestDom_gates {toward : DomState} (on : (s.dom i).state = .on) (gate : toward ≠ .on)
    (allowed : toward = .retain ∨ s.gateRefusal i = none) :
    s.requestDom i toward false = s.setDom i { s.dom i with trans := .gating toward s.aon.dt, last := some ⟨toward, s.aon.dt, false⟩ } := by
  have served := serveOne_gate (s := s.setDom i { s.dom i with queue := [⟨toward, s.aon.dt, false⟩] }) (by simpa using idle)
    (by rw [dom_setDom_same]) (by simpa [on] using gate) (by simpa using untripped) unheld (by simpa using on)
    (by rwa [gateRefusal_setDom_of_eq (by rfl)])
  rw [requestDom_queues (fun wake => absurd wake gate), noQueue, insertReq_nil]
  simpa [noQueue] using serveDom_of_busy served

theorem requestDom_refused (on : (s.dom i).state = .on) (refused : s.gateRefusal i ≠ none) :
    s.requestDom i .off false = s.setDom i { s.dom i with last := some ⟨.off, s.aon.dt, false⟩ } := by
  have served := serveOne_refused (s := s.setDom i { s.dom i with queue := [⟨.off, s.aon.dt, false⟩] }) (by simpa using idle)
    (by rw [dom_setDom_same]) (by simp [on]) (by simpa using untripped) unheld rfl rfl (by rwa [gateRefusal_setDom_of_eq (by rfl)])
  rw [requestDom_queues (by simp), noQueue, insertReq_nil]
  simpa [noQueue] using serveDom_of_answered served (by simp)

section
variable (notOn : (s.dom i).state ≠ .on) (deps : ((depsOf i).all fun j => s.domOn j) = true)
include notOn deps

theorem requestDom_wakes (first : (s.dom i).gateBefore s.aon.dt = none) :
    s.requestDom i .on false = s.setDom i { s.dom i with trans := .waking (s.dom i).state s.aon.dt, last := some ⟨.on, s.aon.dt, false⟩ } := by
  have served := serveOne_wake (s := s.setDom i { s.dom i with queue := [⟨.on, s.aon.dt, false⟩] }) (by simpa using idle)
    (by rw [dom_setDom_same]) (by simpa using notOn.symm) (by simpa using untripped) unheld rfl
    (by rwa [allOn_setDom_of_eq (by rfl) (by rfl)])
  rw [requestDom_queues fun _ => first, noQueue, insertReq_nil]
  simpa [noQueue] using serveDom_of_busy served

theorem requestDom_wakes_before_gate {g : DomReq} (before : (s.dom i).gateBefore s.aon.dt = some g) :
    s.requestDom i .on false = s.setDom i { s.dom i with
      trans := .waking (s.dom i).state s.aon.dt, last := some ⟨.on, s.aon.dt, false⟩, queue := [{ g with byCtl := false }] } := by
  have served := serveOne_wake
    (s := s.setDom i { s.dom i with queue := [⟨.on, s.aon.dt, false⟩, { g with byCtl := false }], last := none }) (by simpa using idle)
    (by rw [dom_setDom_same]) (by simpa using notOn.symm) (by simpa using untripped) unheld rfl
    (by rwa [allOn_setDom_of_eq (by rfl) (by rfl)])
  rw [requestDom_wakesBefore before idle, noQueue]
  simpa using serveDom_of_busy served

end
end

/-! ## The commands of gating and waking -/

theorem exec_gateRequest {i : Nat} (h : i < 148) (k : domKind i ≠ .seam) (retain : Bool) (s : State) :
    exec (.gateRequest i retain) s =
      .next (s.requestDom i (if retain && (domKind i == .nm || domKind i == .fmp) then .retain else .off) false) :=
  checked_next.2 ⟨decide_eq_true h, if_neg k⟩

theorem exec_domainWake {i : Nat} (h : i < 148) (k : domKind i ≠ .seam) (s : State) :
    exec (.domainWake i) s = .next (s.requestDom i .on false) :=
  checked_next.2 ⟨decide_eq_true h, if_neg k⟩

theorem restartCps_doms (s : State) (i : Nat) : (s.restartCps i).doms = s.doms := by
  unfold State.restartCps
  induction List.range 16 generalizing s with
  | nil => rfl
  | cons p ps ih =>
    rw [List.foldl_cons, ih]
    split <;> rfl

/-- The command processors' restart and the seam segment's record move no domain: the domain is as the wake has set it. -/
theorem comeOn_dom (s : State) (i : Nat) :
    (s.comeOn i).dom i = { s.dom i with state := .on, trans := .none, floor := 0, skew := 0, lock := domKind i == .atm } := by
  have doms : (s.comeOn i).doms = (s.setDom i { s.dom i with
      state := .on, trans := .none, floor := 0, skew := 0, lock := domKind i == .atm }).doms := restartCps_doms ..
  rw [State.dom, doms]
  exact dom_setDom_same ..

/-- Settles O24: a gate request that finds an idle ON domain replaces that domain alone, and the end of the gating, good or bad, is the row's own
(R28 to R30, R32); the detail of the fault record holds the operand's word (DESIGN CHOICE, log 96). -/
theorem domainGating : Obligations.DomainGating := by
  unfold Obligations.DomainGating
  refine ⟨fun i retain s hi kind on idle noQueue untripped unheld => ?request, fun i s _ dependent => by simp [State.gateRefusal, dependent],
    fun i a toward s hi gating drained => ⟨?drained, rfl⟩, fun i a fifos toward s hi gating late deps => ?failed⟩
  case request =>
    dsimp only
    have requested := exec_gateRequest hi kind retain s
    generalize toward_eq : (if retain && (domKind i == .nm || domKind i == .fmp) then DomState.retain else .off) = toward at requested ⊢
    refine ⟨fun allowed => ⟨_, requested, ?_⟩, fun off refused => ⟨_, requested, ?_⟩⟩
    · have gate : toward ≠ .on := by
        rw [← toward_eq]
        split <;> decide
      rw [requestDom_gates idle noQueue untripped unheld on gate allowed]
      exact setDom_frame ..
    · rw [off, requestDom_refused idle noQueue untripped unheld on refused]
      exact setDom_frame ..
  case drained => exact checked_next.2 ⟨decide_eq_true hi, by simp [gating, drained]⟩
  case failed =>
    exact checked_next.2 ⟨decide_eq_true hi, by rw [gating]; simp only [Nat.not_lt.2 late, deps, decide_false, Bool.not_true, Bool.or_self,
      Bool.false_eq_true, if_false]⟩

/-- Settles O25: a wake request that finds an idle domain with its dependences ON replaces that domain alone, and the end of the wake, good or bad,
is the row's own (R28, R29, R32, R34, R35); the detail of the fault record holds the operand's word (DESIGN CHOICE, log 96). -/
theorem domainWaking : Obligations.DomainWaking := by
  unfold Obligations.DomainWaking
  refine ⟨fun i s hi kind notOn idle noQueue untripped unheld deps => ⟨_, exec_domainWake hi kind s, ?request⟩,
    fun i a o s hi waking deps => ⟨?complete, by rw [comeOn_dom], by rw [comeOn_dom]⟩, fun i a missing o s hi waking late => ?timeout,
    fun i mhz s hi on offered => checked_next.2 ⟨decide_eq_true hi, if_pos ⟨on, offered⟩⟩⟩
  case request =>
    cases before : (s.dom i).gateBefore s.aon.dt with
    | none =>
      obtain ⟨own, others, rest⟩ := setDom_frame s i { s.dom i with
        trans := .waking (s.dom i).state s.aon.dt, last := some ⟨.on, s.aon.dt, false⟩ }
      rw [requestDom_wakes idle noQueue untripped unheld notOn deps before]
      exact ⟨fun _ => own, by simp, others, rest⟩
    | some g =>
      obtain ⟨own, others, rest⟩ := setDom_frame s i { s.dom i with
        trans := .waking (s.dom i).state s.aon.dt, last := some ⟨.on, s.aon.dt, false⟩, queue := [{ g with byCtl := false }] }
      rw [requestDom_wakes_before_gate idle noQueue untripped unheld notOn deps before]
      exact ⟨by simp, fun g' same => by rw [own, Option.some.inj same], others, rest⟩
  case complete => exact checked_next.2 ⟨decide_eq_true hi, by rw [waking]; simp only [deps, Bool.not_true, Bool.false_eq_true, if_false]⟩
  case timeout => exact checked_next.2 ⟨decide_eq_true hi, by rw [waking]; simp only [Nat.not_lt.2 late, if_false]⟩

/-! ## A request from its entry to its target -/

theorem ownerOk_eq_named (o : Owner) : ownerOk o = o.named := by cases o <;> rfl

/-- Neither a stalled seam segment nor a half asleep keeps the request from its target. -/
theorem inject_performs {s : State} {q : MemReq} (unheld : s.seamHeld (ownerIsl q.owner) (memIsl q.addr) = false)
    (awake : s.intoSleep (ownerIsl q.owner) q.addr = false) (key : Nat) : s.inject key q = s.perform key q := by
  simp [State.inject, unheld, awake]

theorem perform_local {q : MemReq} (noRemote : ∀ k off, region q.addr ≠ .remote k off) (clean : q.fabErr = .none) (s : State) (key : Nat) :
    s.perform key q = (s.performLocal q).s.putReply key (s.performLocal q).st (s.performLocal q).data := by
  unfold State.perform
  split
  · next k off remote => exact absurd remote (noRemote k off)
  · rw [clean]

/-- A composition's access to what its present holder does not accept it for: a partition, a granule, or a scratchpad from a DMA channel (R162, R324). -/
theorem judge_epochNack {s : State} {w : Who} {a c : Nat} (comp : w.comp = some c) (refused : s.accepts (s.holderOf a) c w.epoch = false)
    (place : (∃ st p, region a = .near st p) ∨ (∃ g, region a = .far g) ∨ ((∃ n, region a = .scratch n) ∧ ownerActor w.own = .dma)) (sel : Nat) :
    s.judge w sel a = .epochNack := by
  rcases place with ⟨st, p, near⟩ | ⟨g, far⟩ | ⟨⟨n, scratch⟩, dma⟩
  · simp [State.judge, comp, refused, near]
  · simp [State.judge, comp, refused, far]
  · simp [State.judge, comp, refused, scratch, dma]

theorem performLocal_judgedBad {s : State} {q : MemReq} {st : MemStatus} (judged : s.judge (reqWho q) q.sel q.addr = st) (bad : st ≠ .ok) :
    s.performLocal q = ⟨s, st, []⟩ := by
  simp [State.performLocal, judged, bad]

/-! ## A reply -/

theorem finishEntry_of_find {s : State} {key : Nat} {o : Outstanding} (found : s.outst.find key = some o) (st : MemStatus) (data : List Byte) :
    s.finishEntry key st data =
      (State.when { s with outst := s.outst.del key, nacked := s.nacked.del key } (!o.discarded) fun t => t.completeReq o.req st data).afterEntry
        o.req.owner := by
  simp [State.finishEntry, found]

/-- A tag counts as fresh where it is the island's present one (R326). -/
theorem generation_fresh (g : Nat) : (g + 256 - g % 256) % 256 < 128 := by omega

theorem acceptReply_late {s : State} {isl entry gen : Nat}
    (stale : s.outst.find (entryKey isl entry) = none ∨ ∃ o, s.outst.find (entryKey isl entry) = some o ∧ o.gen ≠ gen)
    (st : MemStatus) (data : List Byte) :
    s.acceptReply isl entry gen st data = s.bumpEvent F.FLT_ISL_STAT_late (some F.FLT_ISL_STAT_late_sat) isl isl := by
  rcases stale with absent | ⟨o, found, other⟩
  · simp [State.acceptReply, absent]
  · simp [State.acceptReply, found, other]

section
variable {s : State} {isl entry gen : Nat} {o : Outstanding} (found : s.outst.find (entryKey isl entry) = some o)
  (present : gen = s.fld F.FLT_ISL_STAT_gen isl) (own : o.gen = gen)
include found present own

/-- A reply under the present generation to the entry's own request ends it, unless it is an EPOCH_NACK that the request has not met before (R325). -/
theorem acceptReply_ends {st : MemStatus} (final : st ≠ .epochNack ∨ o.resent = true ∨ o.req.comp = none) (data : List Byte) :
    s.acceptReply isl entry gen st data = s.finishEntry (entryKey isl entry) st data := by
  have ends : ¬(st = .epochNack ∧ (!o.resent) = true ∧ o.req.comp.isSome = true) := by
    rcases final with other | resent | none
    · simp [other]
    · simp [resent]
    · simp [none]
  simp only [State.acceptReply, found, own, ← present, generation_fresh, decide_true, Bool.not_true, bne_self_eq_false, Bool.or_self,
    Bool.false_eq_true, if_false, if_neg ends]

theorem acceptReply_resends {c : Nat} (first : o.resent = false) (comp : o.req.comp = some c) (data : List Byte) :
    s.acceptReply isl entry gen .epochNack data =
      State.inject { s with outst := s.outst.put (entryKey isl entry) { o with req := { o.req with epoch := s.epochOf c }, resent := true } }
        (entryKey isl entry) { o.req with epoch := s.epochOf c } := by
  simp [State.acceptReply, found, own, ← present, generation_fresh, first, comp]

end

theorem exec_memoryReply {isl : Nat} (h : isl < 148 ∨ isl = 255) (entry gen : Nat) (st : MemStatus) (data : List Byte) (s : State) :
    exec (.memoryReply isl entry gen st data) s = .next (s.takeReply isl entry gen st data) :=
  checked_next.2 ⟨by simpa using h, rfl⟩

section
variable {s : State} {r : Reply} (entry : r.entry < 65536)
  (sent : (s.replies.find? fun v => v.isl == r.isl && v.entry == r.entry && v.gen == r.gen && v.st == r.st && v.data == r.data) = some r)
include entry sent

theorem takeReply_waits (kept : s.nextReply r.src r.isl ≠ some r ∨ s.seamHeld r.src r.isl = true) :
    s.takeReply r.isl r.entry r.gen r.st r.data = s := by
  simp only [State.takeReply, Nat.mod_eq_of_lt entry, sent, if_pos kept]

theorem takeReply_arrives (oldest : s.nextReply r.src r.isl = some r) (unheld : s.seamHeld r.src r.isl = false) :
    s.takeReply r.isl r.entry r.gen r.st r.data =
      State.acceptReply { s with replies := s.replies.erase r } r.isl r.entry r.gen r.st r.data := by
  have free : ¬(s.nextReply r.src r.isl ≠ some r ∨ s.seamHeld r.src r.isl = true) := by simp [oldest, unheld]
  simp only [State.takeReply, Nat.mod_eq_of_lt entry, sent, if_neg free]

end

/-- Settles O29: a request is entered, judged and performed, and its reply, its retry or its timeout ends it (R31, R160, R175, R255, R324 to R326,
R412). -/
theorem requestsAndReplies : Obligations.RequestsAndReplies := by
  unfold Obligations.RequestsAndReplies
  refine ⟨fun q s named on room shape => ?enter, fun q key s noRemote clean awake unheld => ?perform,
    fun q c s comp refused place => performLocal_judgedBad (judge_epochNack comp refused place q.sel) (by decide),
    fun r s isl entry sent => ?reply, fun isl entry gen st data s island noReply => ?unsent, fun entry t s o bound nacked found due => ?retry,
    fun entry s o bound found remote late => ?timeout⟩
  case enter =>
    intro key free
    have enters : ¬(!s.domOn (ownerIsl q.owner) || (s.outst.find key).isSome || !s.ownerRoom q.owner || !reqShapeOk q) = true := by
      simp [on, free, room, shape]
    exact ⟨_, rfl, rfl, rfl, rfl, rfl, rfl, checked_next.2 ⟨(ownerOk_eq_named _).trans named, if_neg enters⟩⟩
  case perform => rw [inject_performs unheld awake, perform_local noRemote clean]
  case reply =>
    dsimp only
    rw [exec_memoryReply isl]
    refine ⟨fun kept => by rw [takeReply_waits entry sent kept], fun oldest unheld => ?_⟩
    rw [takeReply_arrives entry sent oldest unheld]
    let rest : State := { s with replies := s.replies.erase r }
    refine ⟨fun o found present own => ⟨fun final kept => ?_, fun final discarded => ?_, fun c nack first comp => ?_⟩, fun stale => ?_⟩
    · refine congrArg _ ((acceptReply_ends (s := rest) found present own final r.data).trans ?_)
      rw [finishEntry_of_find (s := rest) found, kept]
      rfl
    · refine congrArg _ ((acceptReply_ends (s := rest) found present own final r.data).trans ?_)
      rw [finishEntry_of_find (s := rest) found, discarded]
      rfl
    · rw [nack]
      exact congrArg _ (acceptReply_resends (s := rest) found present own first comp r.data)
    · exact congrArg _ (acceptReply_late (s := rest) stale r.st r.data)
  case unsent => rw [exec_memoryReply island, State.takeReply, noReply, List.find?_nil]
  case retry =>
    exact checked_next.2 ⟨decide_eq_true bound, by simp only [nacked, found, Nat.not_lt.2 due, if_false]⟩
  case timeout => exact checked_next.2 ⟨decide_eq_true (by omega), by rw [if_pos bound]; simp [found, remote, late]⟩

end Sys2Proof.Machine
end

section
/-! PROOFS of the scope: the instruction words of cores and command processors are read and written without loss. -/

namespace Sys2Proof

/-! ## The fields of an instruction word (R75) -/

theorem wordUnit_wordOf {u : Nat} (small : u < 16) (op : Nat) (p : Pred) (o : Ops) : wordUnit (wordOf u op p o) = u := by
  rw [wordUnit, wordOf, BitVec.extractLsb'_append_eq_left, BitVec.toNat_ofNat, Nat.mod_eq_of_lt small]

theorem wordOp_wordOf {op : Nat} (small : op < 256) (u : Nat) (p : Pred) (o : Ops) : wordOp (wordOf u op p o) = op := by
  rw [wordOp, wordOf, BitVec.extractLsb'_append_eq_of_add_le (by decide), BitVec.extractLsb'_append_eq_left, BitVec.toNat_ofNat,
    Nat.mod_eq_of_lt small]

theorem Pred.fits_iff (p : Pred) : p.fits = true ↔ p.psel < 8 := decide_eq_true_iff

theorem wordPred_wordOf {p : Pred} (fits : p.fits = true) (u op : Nat) (o : Ops) : wordPred (wordOf u op p o) = p := by
  have psel : ((wordOf u op p o).extractLsb' 49 3).toNat = p.psel := by
    rw [wordOf, BitVec.extractLsb'_append_eq_of_add_le (by decide), BitVec.extractLsb'_append_eq_of_add_le (by decide),
      BitVec.extractLsb'_append_eq_left, BitVec.toNat_ofNat, Nat.mod_eq_of_lt (p.fits_iff.1 fits)]
  have pneg : (wordOf u op p o).getLsbD 48 = p.pneg := by
    simp only [wordOf, BitVec.getLsbD_append]; simp
  rw [wordPred, psel, pneg]

theorem wordOps_wordOf (u op : Nat) (p : Pred) (o : Ops) : wordOps (wordOf u op p o) = o := by
  rw [wordOps, wordOf, BitVec.extractLsb'_append_eq_of_add_le (by decide), BitVec.extractLsb'_append_eq_of_add_le (by decide),
    BitVec.extractLsb'_append_eq_of_add_le (by decide), BitVec.extractLsb'_append_eq_of_add_le (by decide), BitVec.extractLsb'_eq_self]

theorem extractLsb'_append_low (w : Word) (a l : Nat) : w.extractLsb' a l ++ w.extractLsb' 0 a = w.extractLsb' 0 (l + a) :=
  BitVec.extractLsb'_append_extractLsb'_eq_extractLsb' (Nat.zero_add a).symm

/-- The five fields are all of the word. -/
theorem wordOf_fields (w : Word) : wordOf (wordUnit w) (wordOp w) (wordPred w) (wordOps w) = w := by
  have pneg : BitVec.ofBool (w.getLsbD 48) = w.extractLsb' 48 1 := by
    ext i hi; simp [show i = 0 by omega]
  simp only [wordOf, wordUnit, wordOp, wordPred, wordOps, BitVec.ofNat_toNat, BitVec.setWidth_eq, pneg]
  rw [extractLsb'_append_low w 48 1, extractLsb'_append_low w 49 3, extractLsb'_append_low w 52 8, extractLsb'_append_low w 60 4,
    BitVec.extractLsb'_eq_self]

theorem wordPred_fits (w : Word) : (wordPred w).fits = true := (Pred.fits_iff _).2 (w.extractLsb' 49 3).isLt

/-! ## Reading a word through its fields -/

/-- The command that the fields of a word spell; none where no row but SEQ_NOP reads them. -/
def Seqr.command (q : Seqr) (now : Bool) (u op : Nat) (p : Pred) (o : Ops) : Option Instr :=
  match u, q with
  | 0, _ => seqCommand q op p o
  | 1, .core n r => loadCommand n r op p o now
  | 2, .core n r => storeCommand n r op p o now
  | 3, .core n r => xformCommand n r op p o now
  | 4, .core n r => matrixCommand n r op p o now
  | 5, .core n r => vectorCommand n r op p o now
  | 6, .core n r => reduceCommand n r op p o now
  | 7, .core n r => sendCommand n r op p o now
  | 8, .core n r => recvCommand n r op p o now
  | 9, .core n r => syncCommand n r op p o now
  | _, _ => none

theorem ofWord_eq_command (q : Seqr) (now : Bool) (w : Word) :
    Instr.ofWord q now w = (q.command now (wordUnit w) (wordOp w) (wordPred w) (wordOps w)).getD (.seqNop q w) := rfl

theorem ofWord_wordOf {q : Seqr} {now : Bool} {u op : Nat} {p : Pred} {o : Ops} {c : Instr} (unit : u < 16) (opcode : op < 256)
    (pred : p.fits = true) (spelt : q.command now u op p o = some c) : Instr.ofWord q now (wordOf u op p o) = c := by
  rw [ofWord_eq_command, wordUnit_wordOf unit, wordOp_wordOf opcode, wordPred_wordOf pred, wordOps_wordOf, spelt, Option.getD_some]

/-- A word without a command of its own is one that SEQ_NOP carries whole. -/
theorem ofWord_cases (q : Seqr) (now : Bool) (w : Word) :
    q.command now (wordUnit w) (wordOp w) (wordPred w) (wordOps w) = some (Instr.ofWord q now w) ∨ Instr.ofWord q now w = .seqNop q w := by
  rw [ofWord_eq_command]
  cases q.command now (wordUnit w) (wordOp w) (wordPred w) (wordOps w) with
  | none => exact .inr rfl
  | some c => exact .inl rfl

/-! ## What each command table reads is written back (R88, R97, R99 to R127) -/

/-- Command `c` is written as the fields `u`, `op`, `p`, `o`, and is well formed for an executor that exists. -/
def Instr.Writes (c : Instr) (q : Seqr) (u op : Nat) (p : Pred) (o : Ops) : Prop :=
  c.word = some (wordOf u op p o) ∧ (p.fits = true → q.named = true → c.wellFormed = true)

section
variable {q : Seqr} {n r op : Nat} {p : Pred} {o : Ops} {now : Bool} {c : Instr}

theorem seqCommand_writes (spelt : seqCommand q op p o = some c) : c.Writes q 0 op p o := by
  unfold seqCommand at spelt
  split at spelt <;> cases spelt <;> exact ⟨rfl, fun fits named => Bool.and_eq_true_iff.2 ⟨named, fits⟩⟩


/-- VFMA and VFMA_RESCALE share an opcode: slot s3 says which the word is (R118). -/
theorem vfma_writes (n r : Nat) (p : Pred) (o : Ops) (now : Bool) :
    (if o.extractLsb' 16 8 = 0xFF#8 then Instr.vfmaRescale n r p o now else .vfma n r 0 p o now).Writes (.core n r) 5 0x05 p o := by
  split
  next rescale =>
    exact ⟨rfl, fun fits named => by simpa [Instr.wellFormed, Instr.named, Instr.fits, Seqr.named, fits, rescale] using named⟩
  next plain =>
    exact ⟨rfl, fun fits named => by simpa [Instr.wellFormed, Instr.named, Instr.fits, Seqr.named, fits, plain] using named⟩

theorem vectorCommand_writes (spelt : vectorCommand n r op p o now = some c) : c.Writes (.core n r) 5 op p o := by
  unfold vectorCommand at spelt
  split at spelt
  case h_6 => cases spelt; exact vfma_writes ..
  all_goals
    cases spelt <;> exact ⟨rfl, fun fits named => by simpa [Instr.wellFormed, Instr.named, Instr.fits, Seqr.named, fits] using named⟩

theorem command_writes {u : Nat} (spelt : q.command now u op p o = some c) : c.Writes q u op p o := by
  unfold Seqr.command at spelt
  split at spelt
  case h_1 => exact seqCommand_writes spelt
  case h_6 => exact vectorCommand_writes spelt
  case h_11 => cases spelt
  all_goals
    simp only [loadCommand, storeCommand, xformCommand, matrixCommand, reduceCommand, sendCommand, recvCommand, syncCommand] at spelt
    split at spelt <;> cases spelt <;>
      exact ⟨rfl, fun fits named => by simpa [Instr.wellFormed, Instr.named, Instr.fits, Seqr.named, fits] using named⟩

end

/-- Settles O4: the five fields of a word make it up again, and what a table reads from them it writes back. -/
theorem wordKept : Obligations.WordKept := by
  unfold Obligations.WordKept
  intro q now w
  rcases ofWord_cases q now w with spelt | nop
  · obtain ⟨word, well⟩ := command_writes spelt
    exact ⟨word.trans (congrArg some (wordOf_fields w)), well (wordPred_fits w)⟩
  · rw [nop]
    exact ⟨rfl, fun named => Bool.and_eq_true_iff.2 ⟨named, rfl⟩⟩

/-- A well-formed command but SEQ_NOP writes fields from which its own executor reads it. -/
theorem command_of_word {q : Seqr} {now : Bool} {c : Instr} {w : Word} (well : c.wellFormed = true) (word : c.word = some w)
    (executor : c.executor = some (q, now)) (notNop : ∀ v, c ≠ .seqNop q v) :
    ∃ u op p o, u < 16 ∧ op < 256 ∧ p.fits = true ∧ wordOf u op p o = w ∧ q.command now u op p o = some c := by
  rw [Instr.wellFormed, Bool.and_eq_true] at well
  obtain ⟨named, fits⟩ := well
  cases c
  all_goals simp only [Instr.word, Instr.executor, Option.some.injEq, Prod.mk.injEq, reduceCtorEq] at word executor
  all_goals obtain ⟨rfl, rfl⟩ := executor
  case seqNop v => exact absurd rfl (notNop v)
  case seqCmp k p o | seqCmpi k p o | seqLd k p o | seqSt k p o =>
    cases k <;> exact ⟨_, _, _, _, by decide, by decide, fits, word, rfl⟩
  case vfma n r f p o now =>
    obtain ⟨-, form⟩ := Bool.and_eq_true_iff.1 named
    obtain ⟨pred, slot⟩ := Bool.and_eq_true_iff.1 fits
    have small := of_decide_eq_true form
    obtain rfl | rfl | rfl : f = 0 ∨ f = 1 ∨ f = 2 := by omega
    · exact ⟨_, _, _, _, by decide, by decide, pred, word, congrArg some (if_neg (by simpa using slot))⟩
    all_goals exact ⟨_, _, _, _, by decide, by decide, pred, word, rfl⟩
  case vfmaRescale n r p o now =>
    obtain ⟨fits, slot⟩ := Bool.and_eq_true_iff.1 fits
    exact ⟨_, _, _, _, by decide, by decide, fits, word, congrArg some (if_pos (eq_of_beq slot))⟩
  case vadd n r f p o now | vsub n r f p o now | vmul n r f p o now | vmax n r f p o now | vmin n r f p o now | redAdd n r f p o now |
      redMax n r f p o now | redMin n r f p o now | redAmax n r f p o now =>
    obtain ⟨-, form⟩ := Bool.and_eq_true_iff.1 named
    have small := of_decide_eq_true form
    obtain rfl | rfl | rfl : f = 0 ∨ f = 1 ∨ f = 2 := by omega
    all_goals exact ⟨_, _, _, _, by decide, by decide, fits, word, rfl⟩
  case mmaOut n r f p o now | vnorm n r f p o now =>
    obtain ⟨-, form⟩ := Bool.and_eq_true_iff.1 named
    have small := of_decide_eq_true form
    obtain rfl | rfl | rfl | rfl | rfl : f = 0 ∨ f = 1 ∨ f = 2 ∨ f = 3 ∨ f = 4 := by omega
    all_goals exact ⟨_, _, _, _, by decide, by decide, fits, word, rfl⟩
  case xfTr n r f p o now =>
    obtain ⟨-, form⟩ := Bool.and_eq_true_iff.1 named
    have small := of_decide_eq_true form
    obtain rfl | rfl | rfl | rfl | rfl | rfl : f = 0 ∨ f = 1 ∨ f = 2 ∨ f = 3 ∨ f = 4 ∨ f = 5 := by omega
    all_goals exact ⟨_, _, _, _, by decide, by decide, fits, word, rfl⟩
  case mma n r f p o now =>
    obtain ⟨-, form⟩ := Bool.and_eq_true_iff.1 named
    have small := of_decide_eq_true form
    have forms : f = 0 ∨ f = 1 ∨ f = 2 ∨ f = 3 ∨ f = 4 ∨ f = 5 ∨ f = 6 ∨ f = 7 ∨ f = 8 ∨ f = 9 ∨ f = 10 ∨ f = 11 ∨ f = 12 := by
      omega
    rcases forms with rfl | rfl | rfl | rfl | rfl | rfl | rfl | rfl | rfl | rfl | rfl | rfl | rfl
    all_goals exact ⟨_, _, _, _, by decide, by decide, fits, word, rfl⟩
  case xfCvt n r f p o now =>
    obtain ⟨-, form⟩ := Bool.and_eq_true_iff.1 named
    have small := of_decide_eq_true form
    have forms : f = 0 ∨ f = 1 ∨ f = 2 ∨ f = 3 ∨ f = 4 ∨ f = 5 ∨ f = 6 ∨ f = 7 ∨ f = 8 ∨ f = 9 ∨ f = 10 ∨ f = 11 ∨ f = 12 ∨ f = 13 ∨ f = 14 := by
      omega
    rcases forms with rfl | rfl | rfl | rfl | rfl | rfl | rfl | rfl | rfl | rfl | rfl | rfl | rfl | rfl | rfl
    all_goals exact ⟨_, _, _, _, by decide, by decide, fits, word, rfl⟩
  all_goals exact ⟨_, _, _, _, by decide, by decide, fits, word, rfl⟩

/-- Settles O3: the fields of the word that a well-formed command writes are its own, and the table of its unit reads them as that command; SEQ_NOP,
which stands for every word that no other row reads, is left out by hypothesis. -/
theorem wordRoundTrip : Obligations.WordRoundTrip := by
  unfold Obligations.WordRoundTrip
  intro c w q now well word executor notNop
  obtain ⟨u, op, p, o, unit, opcode, pred, rfl, spelt⟩ := command_of_word well word executor notNop
  exact ofWord_wordOf unit opcode pred spelt


/-- Settles O5, by reading the four words. -/
theorem wordExamples : Obligations.WordExamples :=
  ⟨⟨wordOps 0x0100184400000000#64, rfl, rfl, rfl, rfl⟩, ⟨wordOps 0x02A5283FFFFFFFFF#64, rfl, rfl, rfl, rfl⟩,
    ⟨wordOps 0x053001C0FFFFFFFC#64, rfl, rfl, rfl⟩, ⟨wordOps 0x5400020001FF0000#64, rfl, rfl, rfl, rfl⟩⟩

end Sys2Proof
end

section
/-! PROOFS of the scope: the sequencer's own operations, on a core and on a command processor. -/

namespace Sys2Proof.Machine

/-! ## Operations that change the file alone (R76, R84, R88, R95) -/

theorem zeroElse_true {b : Bool} (ok : b = true) : zeroElse b = 0 := if_pos ok

theorem zeroElse_false {b : Bool} (bad : b = false) : zeroElse b = fIllegalIns := by rw [zeroElse, bad]; rfl

/-- A sequencer's operation whose zero bits are zero. -/
theorem checked_seqOp {q : Seqr} {s : State} (named : q.named = true) (issues : s.issues q = true) {enc : Nat} (legal : enc = 0) (p : Pred)
    (f : SeqFile → SeqFile) : checked (seqrOk q) (s.seqOp q enc p f) = .next (s.setFile q ((s.fileOf q).after p f)) :=
  checked_next.2 ⟨(seqrOk_named q).trans named, by rw [legal, seqOp_runs issues]⟩

/-- Each RR row is `seqRR` of the function that the row gives. -/
theorem exec_rrRow {e : (Seqr → Pred → Ops → Instr) × (Word → Word → Word)} (row : e ∈ rrRows) (q : Seqr) (p : Pred) (o : Ops) (s : State) :
    exec (e.1 q p o) s = seqRR q p o e.2 s := by
  simp only [rrRows, List.mem_cons, List.not_mem_nil, or_false] at row
  rcases row with rfl | rfl | rfl | rfl | rfl | rfl | rfl | rfl | rfl | rfl | rfl | rfl | rfl | rfl | rfl | rfl <;> rfl

/-- The bits of an RI row that must be zero, as the model checks them, are those that the row gives. -/
theorem exec_riRow {e : (Seqr → Pred → Ops → Instr) × (Ops → Bool) × (Word → Word → Word)} (row : e ∈ riRows) (q : Seqr) (p : Pred) (o : Ops)
    (s : State) : exec (e.1 q p o) s = seqRI q p o (zeroElse (e.2.1 o)) e.2.2 s := by
  simp only [riRows, List.mem_cons, List.not_mem_nil, or_false] at row
  rcases row with rfl | rfl | rfl | rfl | rfl | rfl | rfl | rfl | rfl <;> rfl

/-- Settles O6, by the rows of the two formats. -/
theorem scalarArithmetic : Obligations.ScalarArithmetic := by
  unfold Obligations.ScalarArithmetic
  refine ⟨fun e row q p o s named issues zero => ?_, fun e row q p o s named issues zero => ?_⟩
  · exact (exec_rrRow row q p o s).trans (checked_seqOp named issues (zeroElse_true (beq_iff_eq.2 zero)) p _)
  · exact (exec_riRow row q p o s).trans (checked_seqOp named issues (zeroElse_true zero) p _)

theorem encPL_pair (o : Ops) : encPL o true = zeroElse (ob o 38 0 == 0) := by rw [encPL, Bool.true_or, Bool.and_true]

/-- Each PL row is a `seqOp` of the function that the row gives; `seq.pnot` alone has a zero field more. -/
theorem exec_plRow {e : (Seqr → Pred → Ops → Instr) × (Ops → Bool) × (Bool → Bool → Bool)} (row : e ∈ plRows) (q : Seqr) (p : Pred) (o : Ops)
    (s : State) : exec (e.1 q p o) s =
      checked (seqrOk q) (s.seqOp q (zeroElse (e.2.1 o)) p fun x => x.putP o (e.2.2 (x.rp (ob o 44 42)) (x.rp (ob o 41 39)))) := by
  simp only [plRows, List.mem_cons, List.not_mem_nil, or_false] at row
  rcases row with rfl | rfl | rfl | rfl
  case inr.inr.inr => rfl
  all_goals
    dsimp only
    rw [← encPL_pair]
    rfl

theorem wordUnit_eq_bits (w : Word) : wordUnit w = bits w.toNat 63 60 := by
  rw [wordUnit, BitVec.extractLsb'_toNat, Nat.shiftRight_eq_div_pow]; rfl

theorem wordOp_eq_bits (w : Word) : wordOp w = bits w.toNat 59 52 := by
  rw [wordOp, BitVec.extractLsb'_toNat, Nat.shiftRight_eq_div_pow]; rfl

theorem wordOps_eq_ofNat (w : Word) : wordOps w = BitVec.ofNat 48 w.toNat := by
  apply BitVec.eq_of_toNat_eq; simp [wordOps]

theorem after_adv (f : SeqFile) (p : Pred) : f.after p SeqFile.adv = f.adv := ite_self _

/-- SEQ_NOP on `seq.nop` itself: unit, opcode and operands zero. -/
theorem exec_seqNop_nop {w : Word} (unit : wordUnit w = 0) (op : wordOp w = 0) (ops : wordOps w = 0#48) (q : Seqr) (s : State) :
    exec (.seqNop q w) s =
      checked (seqrOk q) (s.seqOp q 0 { psel := bits w.toNat 51 49, pneg := bits w.toNat 48 48 == 1 } SeqFile.adv) := by
  rw [wordUnit_eq_bits] at unit
  rw [wordOp_eq_bits] at op
  rw [wordOps_eq_ofNat] at ops
  change checked (seqrOk q) _ = _
  rw [if_pos ⟨unit, op⟩, ops]
  rfl

/-- Settles O7, by the formats CR, CI, PL and SL and by `seq.nop`, whose word is all zero but for its predicate. -/
theorem scalarTruth : Obligations.ScalarTruth := by
  unfold Obligations.ScalarTruth
  refine ⟨fun q c p o s named issues high low => ?_, fun q c p o s named issues high low => ?_, fun e row q p o s named issues zero => ?_,
    fun q p o s named issues zero => ?_, fun q p s named issues _ => ?_⟩
  · exact checked_seqOp named issues (zeroElse_true (by rw [high, low]; rfl)) p _
  · exact checked_seqOp named issues (zeroElse_true (by rw [high, low]; rfl)) p _
  · exact (exec_plRow row q p o s).trans (checked_seqOp named issues (zeroElse_true zero) p _)
  · exact checked_seqOp named issues (zeroElse_true (beq_iff_eq.2 zero)) p _
  · rw [exec_seqNop_nop (wordUnit_wordOf (by decide) ..) (wordOp_wordOf (by decide) ..) (wordOps_wordOf ..),
      checked_seqOp named issues rfl, after_adv]

/-- `seq.jr` to a multiple of 8. -/
theorem exec_seqJr {q : Seqr} {o : Ops} {s : State} (aligned : ((s.fileOf q).rg (raOf o)).toNat % 8 = 0) (p : Pred) :
    exec (.seqJr q p o) s = checked (seqrOk q)
      (s.seqOp q (encBR o false true false) p fun x => { x with pc := (x.rg (raOf o)).toNat % 2 ^ 52 }) :=
  congrArg (checked (seqrOk q)) (if_neg fun misaligned => misaligned.2.2 aligned)

/-- Settles O8. A target outside the 52 bits of pc is taken modulo 2^52 (DESIGN CHOICE, log 122). -/
theorem scalarBranches : Obligations.ScalarBranches := by
  unfold Obligations.ScalarBranches
  refine ⟨fun q p o s named issues zero => ?_, fun q p o s named issues zero => ?_, fun q p o s named issues zero aligned => ?_,
    fun q p o s named issues zero => ?_⟩
  · exact checked_seqOp named issues zero p _
  · exact checked_seqOp named issues zero p _
  · exact (exec_seqJr aligned p).trans (checked_seqOp named issues zero p _)
  · exact checked_seqOp named issues zero p _

/-! ## Registers and predicates (R76, R79) -/

theorem rg_wg {f : SeqFile} {i : Nat} (file : f.g.length = 32) (pos : 0 < i) (bound : i < 32) (j : Nat) (v : Word) :
    (f.wg i v).rg j = if j = i then v else f.rg j := by
  have inside : i < f.g.length := file ▸ bound
  rw [SeqFile.wg, if_neg (Nat.ne_of_gt pos)]
  simp only [SeqFile.rg, List.getD_eq_getElem?_getD, List.getElem?_set]
  grind

theorem rp_wp {f : SeqFile} {i : Nat} (file : f.p.length = 8) (pos : 0 < i) (bound : i < 8) (j : Nat) (b : Bool) :
    (f.wp i b).rp j = if j = i then b else f.rp j := by
  have inside : i < f.p.length := file ▸ bound
  rw [SeqFile.wp, if_neg (Nat.ne_of_gt pos)]
  simp only [SeqFile.rp, List.getD_eq_getElem?_getD, List.getElem?_set]
  grind

/-- A register write leaves pc and the predicates as they are. -/
theorem wg_frame (f : SeqFile) (i : Nat) (v : Word) : (f.wg i v).pc = f.pc ∧ (f.wg i v).p = f.p := by
  unfold SeqFile.wg
  split <;> exact ⟨rfl, rfl⟩

/-- A predicate write leaves pc and the registers as they are. -/
theorem wp_frame (f : SeqFile) (i : Nat) (b : Bool) : (f.wp i b).pc = f.pc ∧ (f.wp i b).g = f.g := by
  unfold SeqFile.wp
  split <;> exact ⟨rfl, rfl⟩

/-- Settles O9, by what a read returns after a write to the same and to another register. -/
theorem scalarFileFrame : Obligations.ScalarFileFrame := by
  unfold Obligations.ScalarFileFrame
  exact ⟨fun f => ⟨rfl, rfl, fun _ => rfl, fun _ => rfl⟩,
    fun f i j v file pos bound => ⟨rg_wg file pos bound j v, wg_frame f i v⟩,
    fun f i j b file pos bound => ⟨rp_wp file pos bound j b, wp_frame f i b⟩⟩

end Sys2Proof.Machine
end

section
/-! PROOFS of the scope: where an encoding traps, the scalar accesses, the operations of a command processor. -/

namespace Sys2Proof.Machine

/-! ## Effects on a core and on a command processor that exist -/

theorem checked_core {n r : Nat} (named : coreNamed n r = true) (t : State) : checked (seqrOk (.core n r)) t = .next t :=
  checked_next.2 ⟨(seqrOk_named _).trans named, rfl⟩

theorem checked_cp {i : Nat} (bound : i < 16) (t : State) : checked (seqrOk (.cp i)) t = .next t :=
  checked_next.2 ⟨(seqrOk_named _).trans (decide_eq_true bound), rfl⟩

/-! ## Encodings that trap (R87, R95 to R97) -/

theorem encRR_set {o : Ops} (set : ob o 32 0 ≠ 0) : encRR o = fIllegalIns := zeroElse_false (beq_eq_false_iff_ne.2 set)

/-- An operation of a command processor on a core (R95). -/
theorem cpOp_core {s : State} {n r : Nat} (issues : s.canIssue n r = true) (code : Nat) (o : Ops) (enc : Nat) (p : Pred)
    (f : Nat → State → State) : s.cpOp (.core n r) code o enc p f = s.seqFault n r fPrivileged := if_pos issues

/-- Each operation of a command processor on a core. -/
theorem exec_cpRow_core {e : (Seqr → Pred → Ops → Instr) × (Ops → Nat)} (row : e ∈ cpRows) {s : State} {n r : Nat}
    (named : coreNamed n r = true) (issues : s.canIssue n r = true) (p : Pred) (o : Ops) :
    exec (e.1 (.core n r) p o) s = .next (s.seqFault n r fPrivileged) := by
  simp only [cpRows, List.mem_cons, List.not_mem_nil, or_false] at row
  rcases row with rfl | rfl | rfl | rfl | rfl <;> exact (checked_core named _).trans (congrArg Host.Outcome.next (cpOp_core issues ..))

theorem coreBlock_cp {s : State} {i : Nat} (issues : s.cpCanIssue i = true) (code enc : Nat) (p : Pred) (o : Ops)
    (f : Nat → Nat → State → State) : s.coreBlock (.cp i) code enc p o f = s.cpFault i fIllegalIns := coreOp_cp issues enc p f

theorem setupOp_cp {s : State} {i : Nat} (issues : s.cpCanIssue i = true) (enc opc : Nat) (p : Pred) (o : Ops) :
    s.setupOp (.cp i) enc opc p o = s.cpFault i fIllegalIns := by
  rw [State.setupOp]
  exact coreOp_cp issues ..

/-- Settles O10: the bits that must be zero are judged before the operation is, a core may execute no operation of a command processor, and a command
processor none of the core's own. -/
theorem illegalEncodings : Obligations.IllegalEncodings := by
  unfold Obligations.IllegalEncodings
  refine ⟨fun e row n r p o s named issues set => ?_, fun e row n r p o s named issues _ => exec_cpRow_core row named issues p o,
    fun e row i p o s bound issues set => ?_, fun e row i p o s bound issues => ?_⟩
  · rw [exec_rrRow row, seqRR, encRR_set set, seqOp_core_fault issues (by decide), checked_core named]
  · rw [exec_rrRow row, seqRR, encRR_set set, seqOp_cp_fault issues (by decide), checked_cp bound]
  · simp only [List.mem_cons, List.not_mem_nil, or_false] at row
    rcases row with rfl | rfl | rfl | rfl | rfl | rfl | rfl | rfl | rfl | rfl | rfl
    · exact (checked_cp bound _).trans (congrArg Host.Outcome.next (coreBlock_cp issues ..))
    · exact (checked_cp bound _).trans (congrArg Host.Outcome.next (coreBlock_cp issues ..))
    · exact (checked_cp bound _).trans (congrArg Host.Outcome.next (coreOp_cp issues ..))
    · exact (checked_cp bound _).trans (congrArg Host.Outcome.next (coreOp_cp issues ..))
    all_goals exact (checked_cp bound _).trans (congrArg Host.Outcome.next (setupOp_cp issues ..))

/-! ## Scalar accesses of a core (R88, R89, R166) -/

section
variable {s : State} {n r : Nat} {p : Pred} {o : Ops} {z : Size}

theorem sent_of_canIssue (issues : s.canIssue n r = true) : (s.core n r).sent = false := by
  simp only [State.canIssue, Bool.and_eq_true, beq_iff_eq] at issues
  simp [Res.sent, issues.2]

theorem coreBlock_goesOn {code : Nat} (on : s.goesOn n r code o = true) (enc : Nat) (p : Pred) (f : Nat → Nat → State → State) :
    s.coreBlock (.core n r) code enc p o f = f n r s := if_pos on

/-- A blocking instruction of a core that begins. -/
theorem coreBlock_runs (issues : s.canIssue n r = true) (holds : (s.core n r).file.holds p = true) (code : Nat) (o : Ops)
    (f : Nat → Nat → State → State) : s.coreBlock (.core n r) code 0 p o f = f n r s := by
  rw [State.coreBlock, goesOn_of_canIssue issues, if_neg Bool.false_ne_true, coreOp_runs issues, if_pos holds]

theorem exec_seqLd_core (named : coreNamed n r = true) (issues : s.canIssue n r = true) (holds : (s.core n r).file.holds p = true) (z : Size)
    (o : Ops) : exec (.seqLd (.core n r) z p o) s = .next (s.coreLoad n r z o) :=
  (checked_core named _).trans (congrArg Host.Outcome.next (coreBlock_runs issues holds ..))

theorem exec_seqSt_core (named : coreNamed n r = true) (issues : s.canIssue n r = true) (holds : (s.core n r).file.holds p = true) (z : Size)
    (o : Ops) : exec (.seqSt (.core n r) z p o) s = .next (s.coreStore n r z o) :=
  (checked_core named _).trans (congrArg Host.Outcome.next (coreBlock_runs issues holds ..))

theorem exec_seqAmoAddD_core (named : coreNamed n r = true) (issues : s.canIssue n r = true) (holds : (s.core n r).file.holds p = true)
    (o : Ops) : exec (.seqAmoAddD (.core n r) p o) s = .next (s.coreAmo n r o) :=
  (checked_core named _).trans (congrArg Host.Outcome.next (coreBlock_runs issues holds ..))

theorem storeCloses_open (pending : s.groupsClosed (ownerCore n) = false) : s.storeCloses n r z o = s.holdSeq n r (stCode z) o true :=
  if_pos (by rw [pending]; rfl)

theorem storeCloses_sound (closed : s.groupsClosed (ownerCore n) = true) (sound : s.groupsPoisoned (ownerCore n) = false) :
    s.storeCloses n r z o = (s.freeClosed (ownerCore n)).endSeq n r SeqFile.adv := by
  rw [State.storeCloses, closed, sound]
  rfl

theorem coreLoad_arrives (aligned : (s.core n r).file.ea o % sizeBytes z = 0) :
    let q := s.vread (s.scalarWho n r) (s.scalarSpace n r false) ((s.core n r).file.ea o) (sizeBytes z) needR
    q.wait = false → q.fail = none → s.coreLoad n r z o = q.s.endSeq n r fun f => f.result o (BitVec.ofNat 64 (leNat q.data)) := by
  intro q ready sound
  rw [State.coreLoad, if_neg (absurd aligned)]
  simp only [q] at ready sound ⊢
  rw [ready, sound]
  rfl

theorem coreStore_written (fresh : (s.core n r).sent = false) (aligned : (s.core n r).file.ea o % sizeBytes z = 0) :
    let x := s.core n r
    let q := s.vwrite (s.scalarWho n r) (s.scalarSpace n r true) (x.file.ea o) (leBytes (sizeBytes z) (x.file.rg (rdOf o)).toNat) needW
    q.wait = false → q.fail = none → s.coreStore n r z o =
      if s.spaceRemote (s.scalarSpace n r true) (x.file.ea o) needW then (q.s.commitOwner (ownerCore n)).storeCloses n r z o
      else q.s.endSeq n r SeqFile.adv := by
  intro x q ready sound
  rw [State.coreStore, fresh, if_neg Bool.false_ne_true, if_neg (absurd aligned)]
  simp only [q, x] at ready sound ⊢
  rw [ready, sound]
  rfl

theorem coreAmo_done (aligned : (s.core n r).file.ea o % 8 = 0) :
    let x := s.core n r
    let q := s.atomicAt (s.scalarWho n r) false (.store n) (.scalar r) (s.ctxTag x.ctx) (x.file.ea o) 8 fun v => v + (x.file.rg (rdOf o)).toNat
    q.wait = false → q.fail = none → s.coreAmo n r o = q.s.endSeq n r fun f => f.result o (BitVec.ofNat 64 q.old) := by
  intro x q ready sound
  rw [State.coreAmo, if_neg (absurd aligned)]
  simp only [q, x] at ready sound ⊢
  rw [ready, sound]
  rfl

theorem coreStore_misaligned (fresh : (s.core n r).sent = false) (misaligned : (s.core n r).file.ea o % sizeBytes z ≠ 0) :
    s.coreStore n r z o = s.seqFault n r fScalarAlign := by
  rw [State.coreStore, fresh, if_neg Bool.false_ne_true, if_pos misaligned]

end

/-! ## Scalar accesses of a command processor (R89, R96) -/

section
variable {s t : State} {i v : Nat} {p : Pred} {o : Ops}

theorem cpGoesOn_of_canIssue (issues : s.cpCanIssue i = true) (code : Nat) (o : Ops) : s.cpGoesOn i code o = false := by
  simp only [State.cpCanIssue, Bool.and_eq_true, Option.isNone_iff_eq_none] at issues
  simp [State.cpGoesOn, issues.2]

/-- An access that has been made at once, and leaves no group open to a remote window. -/
theorem cpAccess_done {n : Nat} {f : Nat → CpAns} (issues : s.cpCanIssue i = true) (holds : (s.cp i).file.holds p = true)
    (aligned : (s.cp i).file.ea o % n = 0) (made : f ((s.cp i).file.ea o) = .done t v)
    (near : (isRemote ((s.cp i).file.ea o) && (t.openGroup (ownerCp i)).isSome) = false) (code : Nat) (g : SeqFile → Nat → SeqFile) :
    s.cpAccess i code p o n f g = t.endCp i fun y => (g y v).adv := by
  simp [State.cpAccess, cpGoesOn_of_canIssue issues, issues, holds, aligned, made, near]

end

/-- Settles O11: each access by what its read, write or atomic answers. A remote store ends when its group has closed (DEDUCED, log 19), where it is
commanded again (DESIGN CHOICE, log 120). -/
theorem scalarAccesses : Obligations.ScalarAccesses := by
  unfold Obligations.ScalarAccesses
  refine ⟨fun n r z p o s named issues holds => ?load, fun n r z p o s named issues holds => ?store, fun n r z p o s named on sent closed sound => ?closed,
    fun n r p o s named issues holds => ?amo, fun n r z p o s named issues holds => ?align,
    fun i v z p o s t bound issues holds aligned made near => ?cpLoad, fun i v z p o s t bound issues holds aligned made near => ?cpStore⟩
  case load =>
    intro x q aligned ready sound
    rw [exec_seqLd_core named issues holds, coreLoad_arrives aligned ready sound]
  case store =>
    intro x q c aligned ready sound
    rw [exec_seqSt_core named issues holds, coreStore_written (sent_of_canIssue issues) aligned ready sound]
    exact ⟨fun near => by rw [near]; rfl, fun remote pending => by rw [remote, if_pos rfl, storeCloses_open pending]⟩
  case closed =>
    refine (checked_core named _).trans (congrArg Host.Outcome.next ?_)
    exact (coreBlock_goesOn on 0 p _).trans ((if_pos sent).trans (storeCloses_sound closed sound))
  case amo =>
    intro x q aligned ready sound
    rw [exec_seqAmoAddD_core named issues holds, coreAmo_done aligned ready sound]
  case align =>
    refine ⟨fun misaligned => ⟨?_, ?_⟩, fun misaligned => ?_⟩
    · exact (exec_seqLd_core named issues holds z o).trans (congrArg Host.Outcome.next (if_pos misaligned))
    · exact (exec_seqSt_core named issues holds z o).trans
        (congrArg Host.Outcome.next (coreStore_misaligned (sent_of_canIssue issues) misaligned))
    · exact (exec_seqAmoAddD_core named issues holds o).trans (congrArg Host.Outcome.next (if_pos misaligned))
  case cpLoad => exact (checked_cp bound _).trans (congrArg Host.Outcome.next (cpAccess_done issues holds aligned made near ..))
  case cpStore => exact (checked_cp bound _).trans (congrArg Host.Outcome.next (cpAccess_done issues holds aligned made near ..))

/-! ## The operations of a command processor (R96 to R98) -/

section
variable {s : State} {i : Nat} {p : Pred} {o : Ops}

/-- An operation of a command processor that begins, its zero bits zero. -/
theorem cpOp_runs (issues : s.cpCanIssue i = true) (holds : (s.cp i).file.holds p = true) {enc : Nat} (legal : enc = 0) (code : Nat) (o : Ops)
    (f : Nat → State → State) : s.cpOp (.cp i) code o enc p f = f i s := by
  simp [State.cpOp, issues, legal, holds]

theorem checked_cpOp (bound : i < 16) (issues : s.cpCanIssue i = true) (holds : (s.cp i).file.holds p = true) {enc : Nat} (legal : enc = 0)
    (code : Nat) (o : Ops) (f : Nat → State → State) : checked (seqrOk (.cp i)) (s.cpOp (.cp i) code o enc p f) = .next (f i s) := by
  rw [cpOp_runs issues holds legal, checked_cp bound]

theorem endSleep_of_sleep {rd d : Nat} (sleeps : (s.cp i).sleep = some (rd, d)) (cause : Nat) :
    s.endSleep i cause =
      s.setCp i { s.cp i with sleep := none, file := ((s.cp i).file.wg rd (BitVec.ofNat 64 cause)).adv } := by
  rw [State.endSleep, sleeps]

end

/-- Settles O16: each operation by what the scheduler, the fences and the accounts answer it. Where `cp.next` puts the record it takes is the model's
choice (DESIGN CHOICE, log 49). -/
theorem commandProcessorOps : Obligations.CommandProcessorOps := by
  unfold Obligations.CommandProcessorOps
  refine ⟨fun i p o s bound issues holds legal => ?next, fun i p o s bound issues holds legal => ?sleep, fun i rd d s bound sleeps pos due => ?wakes,
    fun i raw k p o s t u bound issues holds legal => ?issue, fun i p o s bound issues holds legal => ?fsig,
    fun i p o s c bound issues holds legal => ?acct⟩
  case next =>
    intro t
    refine ⟨fun idle => (checked_cpOp bound issues holds legal ..).trans ?_, fun r chosen => ?_⟩
    · dsimp only
      rw [idle]
    · obtain ⟨u, arrives⟩ := (commandsGoOn (.commandRecordArrive r) (t.takenRecord i r)).1 rfl
      refine ⟨u, arrives, (checked_cpOp bound issues holds legal ..).trans (congrArg Host.Outcome.next ?_)⟩
      dsimp only
      rw [chosen]
      change (match exec (.commandRecordArrive r) (t.takenRecord i r) with
        | .next v => v.cpResult i o (BitVec.ofNat 64 (recordPlace (t.cp i).fwData i r))
        | _ => t.takenRecord i r) = _
      rw [arrives]
  case sleep =>
    intro t d
    have wakes : (t.cp i).wakes = (s.cp i).wakes := by simp [t]
    have count : ((t.cp i).file.rg (raOf o)).toNat = d := by simp [t, d]
    refine ⟨fun w rest pending => ?_, fun none pos due => ?_, fun none early => ?_⟩ <;>
      refine (checked_cpOp bound issues holds legal ..).trans (congrArg Host.Outcome.next ?_)
    · rw [pending] at wakes
      dsimp only
      rw [wakes]
    · rw [none] at wakes
      dsimp only
      rw [wakes]
      dsimp only
      rw [count, if_pos ⟨pos, due⟩]
    · rw [none] at wakes
      dsimp only
      rw [wakes]
      dsimp only
      rw [count, if_neg (fun h => early.elim h.1 (Nat.not_lt.2 h.2))]
  case wakes =>
    refine checked_next.2 ⟨decide_eq_true bound, ?_⟩
    simp only [sleeps]
    rw [if_pos ⟨pos, due⟩, endSleep_of_sleep sleeps]
  case issue => 
    intro a read found runs
    have issued : exec (.cpIssue (.cp i) p o) s = .next (u.issueFor i o k) := by
      refine (checked_cpOp bound issues holds legal ..).trans (congrArg Host.Outcome.next ?_)
      dsimp only
      rw [read]
      dsimp only
      rw [found]
    rw [issued, State.issueFor, ← Option.not_isSome, runs, if_neg (by decide)]
    exact ⟨fun taken => by rw [taken], fun st refused => by rw [refused]⟩
  case fsig => 
    intro id q small
    exact (checked_cpOp bound issues holds legal ..).trans (congrArg Host.Outcome.next (if_neg (Nat.not_le.2 small)))
  case acct => 
    intro ctx t found
    refine (checked_cpOp bound issues holds legal ..).trans (congrArg Host.Outcome.next ?_)
    dsimp only
    rw [found]
  
end Sys2Proof.Machine
end

section
/-! PROOFS of the scope: a DMA chain, its descriptors, its pulses and its waits. -/

namespace Sys2Proof.Machine

/-! ## The registers of a channel (R217) -/

section
variable {x : Nat}

theorem dmaStatus_hasCopy (bound : x < 1344) : RegName.hasCopy .DMA_CH_STATUS x = true := Bool.and_eq_true_iff.2 ⟨decide_eq_true bound, rfl⟩

theorem dmaHead_hasCopy (bound : x < 1344) : RegName.hasCopy .DMA_CH_HEAD x = true := Bool.and_eq_true_iff.2 ⟨decide_eq_true bound, rfl⟩

theorem dmaPos_hasCopy (bound : x < 1344) : RegName.hasCopy .DMA_CH_POS x = true := Bool.and_eq_true_iff.2 ⟨decide_eq_true bound, rfl⟩

theorem chState_setChState (s : State) (x st : Nat) : (s.setChState x st).chState x = st % 8 :=
  fld_setFld_same s F.DMA_CH_STATUS_state x st (by decide) (by decide)

/-! ## Asking for a descriptor (R203) -/

variable (s : State) (addr : Nat) (phys : Bool)

theorem chState_aimAt (bound : x < 1344) : (s.aimAt x addr phys).chState x = s.chState x := by
  have pos : RegName.key .DMA_CH_STATUS x ≠ RegName.key .DMA_CH_POS x := key_ne (dmaStatus_hasCopy bound) (dmaPos_hasCopy bound) (by simp)
  have head : RegName.key .DMA_CH_STATUS x ≠ RegName.key .DMA_CH_HEAD x := key_ne (dmaStatus_hasCopy bound) (dmaHead_hasCopy bound) (by simp)
  calc (s.aimAt x addr phys).chState x
      = ((s.setFld F.DMA_CH_HEAD_addr x (addr % 2 ^ 52)).setReg .DMA_CH_POS x 0#64).chState x := rfl
    _ = (s.setFld F.DMA_CH_HEAD_addr x (addr % 2 ^ 52)).chState x := congrArg (fun w : Word => bits w.toNat 2 0) (reg_setReg_ne _ pos _)
    _ = s.chState x := fld_setFld_elsewhere s _ head

theorem head_aimAt (bound : x < 1344) : (s.aimAt x addr phys).fld F.DMA_CH_HEAD_addr x = addr % 2 ^ 52 := by
  have pos : RegName.key .DMA_CH_HEAD x ≠ RegName.key .DMA_CH_POS x := key_ne (dmaHead_hasCopy bound) (dmaPos_hasCopy bound) (by simp)
  calc (s.aimAt x addr phys).fld F.DMA_CH_HEAD_addr x
      = ((s.setFld F.DMA_CH_HEAD_addr x (addr % 2 ^ 52)).setReg .DMA_CH_POS x 0#64).fld F.DMA_CH_HEAD_addr x := rfl
    _ = (s.setFld F.DMA_CH_HEAD_addr x (addr % 2 ^ 52)).fld F.DMA_CH_HEAD_addr x :=
      congrArg (fun w : Word => bits w.toNat 51 0) (reg_setReg_ne _ pos _)
    _ = addr % 2 ^ 52 % 2 ^ 52 := fld_setFld_same s _ x _ (by decide) (by decide)
    _ = addr % 2 ^ 52 := Nat.mod_mod ..

theorem pos_aimAt (x : Nat) : (s.aimAt x addr phys).reg .DMA_CH_POS x = 0#64 :=
  reg_setReg_same (s.setFld F.DMA_CH_HEAD_addr x (addr % 2 ^ 52)) .DMA_CH_POS x 0#64

theorem chan_aimAt (x : Nat) : (s.aimAt x addr phys).chan x =
    { s.chan x with descr := none, fetching := true, slotWait := false, movedAt := s.aon.dt, headPhys := phys, ahead := none, issued := 0,
                    groups := [] } := chan_setChan_same ..

end

/-- The address that a write of DMA_CH_HEAD gives fits the field. -/
theorem headAddr_of_mod (addr : Word) : F.DMA_CH_HEAD_addr.of addr % 2 ^ 52 = F.DMA_CH_HEAD_addr.of addr :=
  Nat.mod_eq_of_lt (bits_lt addr.toNat 51 0)

/-- A chain starts at an IDLE channel of an ON island, by one that may start chains, or a physical function stores its address (R203, R217). -/
theorem exec_dmaChainStart {x : Nat} {s : State} (bound : x < 1344) (idle : s.chState x = chIdle) (on : s.domOn (x / 16) = true) (who : Accessor)
    (addr : Word) (ctx : Nat) : exec (.dmaChainStart who x addr ctx) s = .next
      (if mayStart who then
        (s.setChan x { DmaCh.init with ctx := if ctx = noCtx then none else some ctx, own := ctx == noCtx, starter := whoCp who }).fetchDescr x
          (F.DMA_CH_HEAD_addr.of addr) (ctx == noCtx)
      else if accPf who then s.setFld F.DMA_CH_HEAD_addr x (F.DMA_CH_HEAD_addr.of addr)
      else s) :=
  checked_next.2 ⟨decide_eq_true bound, if_neg (by simp [idle, on])⟩

theorem mayStart_of_not_fn {who : Accessor} (other : ∀ f, who ≠ .fn f) : mayStart who = true := by
  cases who with
  | fn f => exact absurd rfl (other f)
  | fw | cp => rfl

/-! ## The end of a fetch (R203, R206) -/

section
variable {x : Nat} {s u : State} (bound : x < 1344) (going : (s.chan x).stopped = false)
include bound going

/-- The fetch of the current descriptor fails. -/
theorem exec_descriptorFetchDone_failed (fetching : (s.chan x).fetching = true) (running : s.chState x = chRunning) {st : MemStatus}
    (failed : st ≠ .ok) : exec (.descriptorFetchDone x st) s = .next (s.fetchFailed x) :=
  checked_next.2 ⟨decide_eq_true bound, by simp [going, fetching, running, failed]⟩

/-- The fetch of the current descriptor waits. -/
theorem exec_descriptorFetchDone_waits (fetching : (s.chan x).fetching = true) (running : s.chState x = chRunning)
    (reads : s.readDescr x (s.fld F.DMA_CH_HEAD_addr x) (s.chan x).headPhys = (u, none)) :
    exec (.descriptorFetchDone x .ok) s = .next u :=
  checked_next.2 ⟨decide_eq_true bound, by simp [going, fetching, running, reads]⟩

/-- The current descriptor is there. -/
theorem exec_descriptorFetchDone_reads (fetching : (s.chan x).fetching = true) (running : s.chState x = chRunning) {b : List Byte}
    (reads : s.readDescr x (s.fld F.DMA_CH_HEAD_addr x) (s.chan x).headPhys = (u, some (some b))) :
    exec (.descriptorFetchDone x .ok) s = .next (u.takeDescr x b) :=
  checked_next.2 ⟨decide_eq_true bound, by simp [going, fetching, running, reads]⟩

/-- The next descriptor, fetched while the current one runs, is held, read or failed. -/
theorem exec_descriptorFetchDone_ahead (resting : (s.chan x).fetching = false) {d : Descr} (held : (s.chan x).descr = some d)
    (may : s.mayFetchNext x d = true) {r : Option (List Byte)} (reads : s.readDescr x (d.u 0x68 8) d.phys = (u, some r)) :
    exec (.descriptorFetchDone x .ok) s = .next (u.setChan x { u.chan x with ahead := some r }) :=
  checked_next.2 ⟨decide_eq_true bound, by simp [going, resting, held, may, reads]⟩

end

/-! ## A running descriptor (R205, R208, R210) -/

/-- A running channel with its descriptor moves the pieces that are still to be issued. -/
theorem exec_descriptorComplete {x : Nat} {s : State} {d : Descr} (bound : x < 1344) (held : (s.chan x).descr = some d)
    (running : s.chState x = chRunning) (resting : (s.chan x).fetching = false) (going : (s.chan x).stopped = false)
    (sound : s.poisonedAt x = none) : exec (.descriptorComplete x) s = .next (s.runDescr x d) := by
  refine checked_next.2 ⟨decide_eq_true bound, ?_⟩
  simp only [held]
  rw [if_neg (by simp [running, resting, going]), sound]
  exact if_pos running

/-- A descriptor whose pieces have all been issued, its groups closed and sound, is complete (R210). -/
theorem settleDescr_complete {x : Nat} {s : State} {d : Descr}
    (closed : ((s.issuedTo x d d.total).commitOwner (ownerDma x)).groupsClosed (ownerDma x) = true)
    (sound : ((s.issuedTo x d d.total).commitOwner (ownerDma x)).poisonedAt x = none) :
    s.settleDescr x d = (((s.issuedTo x d d.total).commitOwner (ownerDma x)).freeClosed (ownerDma x)).descrDone x d := by
  rw [State.settleDescr, closed, sound]
  rfl

/-- Settles O36: a chain starts, fetches, runs and pulses as R203 to R212 say, and a waiter without a slot arms its watch again. A physical function's
write of DMA_CH_HEAD only stores the address (DEDUCED, log 137), and the first descriptor of the device's own work is read at a physical address
(DEDUCED, log 18). -/
theorem dmaChains : Obligations.DmaChains := by
  unfold Obligations.DmaChains
  refine ⟨fun who x addr ctx s bound idle on => ?start, fun x st s bound fetching running going => ?fetched,
    fun x s u d r bound resting going held may reads => ?ahead, fun x s m d bound held running resting going sound => ?complete,
    fun p s u rest bound queue mine => ?pulse, fun x s d bound held waiting slot => ?retry⟩
  case start =>
    intro c
    have outcome := exec_dmaChainStart bound idle on who addr ctx
    refine ⟨fun other => ?_, fun pf barred => ?_⟩
    · rw [mayStart_of_not_fn other, if_pos rfl] at outcome
      refine ⟨_, outcome, rfl, ?_, pos_aimAt .., ?_, ?_⟩
      · exact (chState_aimAt _ _ _ bound).trans (chState_setChState ..)
      · exact (head_aimAt _ _ _ bound).trans (headAddr_of_mod addr)
      · have fresh : ((s.setChan x c).setChState x chRunning).chan x = c := chan_setChan_same ..
        rw [State.fetchDescr, chan_aimAt, fresh]
        rfl
    · rw [outcome, barred, pf]
      rfl
  case fetched =>
    intro t a
    refine ⟨fun failed => exec_descriptorFetchDone_failed bound going fetching running failed, fun u ok reads => ?_, fun u b ok reads => ?_⟩ <;>
      subst ok
    · exact exec_descriptorFetchDone_waits bound going fetching running reads
    · exact exec_descriptorFetchDone_reads bound going fetching running reads
  case ahead => exact exec_descriptorFetchDone_ahead bound going resting held may reads
  case complete =>
    intro k c e
    rw [exec_descriptorComplete bound held running resting going sound]
    refine ⟨fun moved closed clean => ?_, fun j moved => ?_⟩
    · rw [State.runDescr, moved]
      exact congrArg Host.Outcome.next (settleDescr_complete closed clean)
    · rw [State.runDescr, moved]
  case pulse =>
    have oldest : s.pulses.find? (fun v => v.cp == p) = some u := by rw [queue, List.find?_cons_of_pos (by simp [mine])]
    have left : s.pulses.erase u = rest := by rw [queue, List.erase_cons_head]
    refine ⟨fun on kept room => checked_next.2 ⟨decide_eq_true bound, ?_⟩, fun seg => checked_next.2 ⟨decide_eq_true bound, ?_⟩⟩
    · have few (f : Wake → Bool) : ((s.cp p).wakes.filter f).length < 1024 := Nat.lt_of_le_of_lt (List.length_filter_le ..) room
      simp only [oldest, left]
      exact if_neg (by simp [on, kept, few])
    · simp only [oldest, left]
  case retry => exact checked_next.2 ⟨decide_eq_true bound, by simp only [held]; exact if_pos ⟨waiting, slot⟩⟩

end Sys2Proof.Machine
end

section
/-! PROOFS of the scope: the lines of memory, their marks, and what reads and writes of them answer and leave. -/

namespace Sys2Proof.Machine

/-! ## Counting changes registers and outputs alone (R472, R473) -/

theorem noticeAll_frame (s : State) (kind arg : Nat) : ∃ o, s.noticeAll kind arg = { s with outputs := o } := by
  have notices (l : List Nat) (s : State) : ∃ o, l.foldl (fun s i => s.emit (.notice i kind arg)) s = { s with outputs := o } := by
    induction l generalizing s with
    | nil => exact ⟨s.outputs, rfl⟩
    | cons i rest ih => exact ih (s.emit (.notice i kind arg))
  exact notices s.sessions s

theorem counterEvent_frame (s : State) (F0 : Fld) (isl : Nat) (name : String) :
    ∃ r o, s.counterEvent F0 isl name = { s with regs := r, outputs := o } := by
  unfold State.counterEvent
  split
  · exact ⟨_, _, rfl⟩
  · obtain ⟨o, notices⟩ := noticeAll_frame ((s.setFld F0 0 1).setFld F.MON_EVT_island 0 isl) 1 isl
    dsimp only
    rw [notices]
    exact ⟨((s.setFld F0 0 1).setFld F.MON_EVT_island 0 isl).regs, _ :: o, rfl⟩

theorem bumpEvent_frame (s : State) (cnt : Fld) (sat : Option Fld) (i isl : Nat) :
    ∃ r o, s.bumpEvent cnt sat i isl = { s with regs := r, outputs := o } := by
  unfold State.bumpEvent
  dsimp only
  split
  · cases sat with
    | none => exact counterEvent_frame (s.bump cnt i 1) ..
    | some b => exact counterEvent_frame ((s.bump cnt i 1).setFld b i 1) ..
  · exact ⟨(s.bump cnt i 1).regs, s.outputs, rfl⟩

/-! ## The marks of a line (R165, R167, R171) -/

@[simp] theorem tagOf_markLine (s : State) (l k : Nat) : (s.markLine l k).tagOf l = k := SMap.get_set_same ..

@[simp] theorem poison_markLine (s : State) (l k : Nat) : (s.markLine l k).poison.get l false = false := by
  simp [State.markLine, SMap.get]

/-- A line that has just been written verifies under its selector. -/
theorem sealOk_markLine (s : State) (l k : Nat) : (s.markLine l k).sealOk (64 * l) k = true := by
  have line : 64 * l / 64 = l := by omega
  have mark : (s.markLine l k).seals.get l 0 = if isFar (64 * l) && k ≠ 0 then s.installCount k else 0 := by
    rw [Nat.mul_comm]
    exact SMap.get_set_same ..
  rw [State.sealOk, line, mark]
  cases isFar (64 * l) with
  | false => rfl
  | true =>
    by_cases dev : k = 0
    · simp [dev]
    · simp [dev, State.installCount, State.markLine]

/-! ## What a read of a line answers (R165, R167, R172) -/

section
variable {s : State} {a sel : Nat}

theorem readLine_otherTag (other : s.tagOf (a / 64) ≠ sel) (n : Nat) : s.readLine a n sel = ⟨s.tagMismatch a, .ok, zeros n⟩ := if_pos other

variable (own : s.tagOf (a / 64) = sel)
include own

theorem readLine_poisoned (bad : s.poison.get (a / 64) false = true) (n : Nat) : s.readLine a n sel = ⟨s, .poison, []⟩ := by
  simp [State.readLine, own, bad]

variable (clean : s.poison.get (a / 64) false = false)
include clean

theorem readLine_macFails (fails : s.sealOk a sel = false) (n : Nat) :
    s.readLine a n sel = ⟨s.countErr F.MON_ERR_B_integ F.MON_ERR_STK_integ_sat (memIsl a), .integrity, []⟩ := by
  simp [State.readLine, own, clean, fails]

theorem readLine_own (verifies : s.sealOk a sel = true) (n : Nat) : s.readLine a n sel = ⟨s, .ok, s.bytes a n⟩ := by
  simp [State.readLine, own, clean, verifies]

end

/-- The MAC of a far line fails where its slot's key has been installed anew (R171). -/
theorem sealOk_installedAnew {s : State} {a sel : Nat} (far : isFar a = true) (keyed : sel ≠ 0)
    (anew : s.seals.get (a / 64) 0 ≠ s.installCount sel) : s.sealOk a sel = false := by
  simp [State.sealOk, far, keyed, anew]

/-! ## What a write of a line leaves (R165, R167, R171, R173) -/

section
variable {s : State} {a sel : Nat} {data : List Byte}

theorem writeLine_whole (whole : data.length = 64) : s.writeLine a data sel = ⟨(s.store a data).markLine (a / 64) sel, .ok, []⟩ := if_pos whole

variable (part : data.length ≠ 64)
include part

theorem writeLine_otherTag (other : s.tagOf (a / 64) ≠ sel) :
    s.writeLine a data sel = ⟨((s.store (a / 64 * 64) (zeros 64)).store a data).markLine (a / 64) sel, .ok, []⟩ := by
  simp [State.writeLine, part, other]

variable (own : s.tagOf (a / 64) = sel)
include own

theorem writeLine_poisoned (bad : s.poison.get (a / 64) false = true) : s.writeLine a data sel = ⟨s, .poison, []⟩ := by
  simp [State.writeLine, part, own, bad]

variable (clean : s.poison.get (a / 64) false = false)
include clean

theorem writeLine_macFails (fails : s.sealOk a sel = false) :
    s.writeLine a data sel = ⟨s.countErr F.MON_ERR_B_integ F.MON_ERR_STK_integ_sat (memIsl a), .integrity, []⟩ := by
  simp [State.writeLine, part, own, clean, fails]

theorem writeLine_own (verifies : s.sealOk a sel = true) :
    s.writeLine a data sel = ⟨(s.store a data).markLine (a / 64) sel, .ok, []⟩ := by
  simp [State.writeLine, part, own, clean, verifies]

end

/-- A byte of a line of which a part has been stored. -/
theorem byte_store_line (s : State) (l i j : Nat) (data : List Byte) :
    (s.store (64 * l + i) data).byte (64 * l + j) =
      if i ≤ j ∧ j < i + data.length then data.getD (j - i) 0#8 else s.byte (64 * l + j) := by
  have within : (64 * l + i ≤ 64 * l + j ∧ 64 * l + j < 64 * l + i + data.length) ↔ (i ≤ j ∧ j < i + data.length) := by omega
  rw [byte_store, Nat.add_sub_add_left]
  simp only [within]

theorem getD_zeros (n i : Nat) : (zeros n).getD i 0#8 = 0#8 := by
  rw [zeros, List.getD_eq_getElem?_getD, List.getElem?_replicate]
  split <;> rfl

/-- Settles O30, by what a write of a whole line leaves and a read of a line answers. -/
theorem lineSelectors : Obligations.LineSelectors := by
  unfold Obligations.LineSelectors
  refine ⟨fun s l k data whole => ?written, fun s a n data bad part => ⟨readLine_poisoned rfl bad n, writeLine_poisoned part rfl bad⟩,
    fun s a n far keyed clean anew => ?anew⟩
  case written =>
    have line (i : Nat) (h : i < 64) : (64 * l + i) / 64 = l := by omega
    rw [writeLine_whole whole, show 64 * l / 64 = l from line 0 (by decide)]
    refine ⟨rfl, tagOf_markLine .., ?own, fun a outside => ?frame, fun i n j inside _ other => ?other⟩
    case own =>
      have start : 64 * l / 64 = l := line 0 (by decide)
      rw [readLine_own (by rw [start, tagOf_markLine]) (by rw [start, poison_markLine]) (sealOk_markLine ..)]
      exact congrArg _ (whole ▸ bytes_store s (64 * l) data)
    case frame => exact byte_store_outside (by omega)
    case other =>
      have tag : ((s.store (64 * l) data).markLine l k).tagOf ((64 * l + i) / 64) ≠ j := by
        rw [line i inside, tagOf_markLine]
        exact other.symm
      rw [readLine_otherTag tag]
      obtain ⟨r, o, counted⟩ := bumpEvent_frame ((s.store (64 * l) data).markLine l k) F.MON_ERR_B_tagmis (some F.MON_ERR_STK_tagmis_sat)
        (memIsl (64 * l + i)) (memIsl (64 * l + i))
      exact ⟨rfl, rfl, congrArg (·.mem) counted⟩
  case anew =>
    rw [readLine_macFails rfl clean (sealOk_installedAnew far keyed anew)]
    exact ⟨rfl, rfl⟩

/-- Settles O31, by the branches of a write of a line: another tag, its own with and without its MAC, the whole line (R173). -/
theorem partialWrites : Obligations.PartialWrites := by
  unfold Obligations.PartialWrites
  refine ⟨fun s l i k data short start inside clean => ?part, fun s l k data whole => ?whole⟩
  case part =>
    have line : (64 * l + i) / 64 = l := by omega
    have part : data.length ≠ 64 := by omega
    rw [← line] at clean
    refine ⟨fun other => ?_, fun own verifies => ?_, fun own fails => ?_⟩
    · rw [writeLine_otherTag part (by rwa [line]), line]
      refine ⟨rfl, tagOf_markLine .., fun j hj => ?_⟩
      have cleared : (s.store (l * 64) (zeros 64)).byte (64 * l + j) = 0#8 := by
        rw [byte_store, getD_zeros, if_pos (by rw [zeros, List.length_replicate]; omega)]
      rw [byte_markLine, byte_store_line, cleared]
    · rw [writeLine_own part (by rwa [line]) clean verifies, line]
      refine ⟨rfl, tagOf_markLine .., fun j hj => ?_⟩
      rw [byte_markLine, byte_store_line]
    · rw [writeLine_macFails part (by rwa [line]) clean fails]
      obtain ⟨r, o, counted⟩ := bumpEvent_frame s F.MON_ERR_B_integ (some F.MON_ERR_STK_integ_sat) (memIsl (64 * l + i)) (memIsl (64 * l + i))
      rw [State.countErr, counted]
      exact ⟨rfl, rfl, rfl, rfl, rfl⟩
  case whole =>
    rw [writeLine_whole whole, show 64 * l / 64 = l by omega]
    refine ⟨rfl, tagOf_markLine .., poison_markLine .., fun j hj => ?_⟩
    rw [byte_markLine, byte_store, if_pos (by omega), Nat.add_sub_cancel_left]

end Sys2Proof.Machine
end

section
/-! PROOFS of the scope: the registers that a report of the device changes. -/

namespace Sys2Proof.Machine

/-! ## The registers that a report of the device changes -/

/-- A copy that exists lies apart from every copy of another register, of a per-function register also from those of functions that do not exist. -/
theorem key_ne_of_ne {r q : RegName} {i j : Nat} (copyR : r.row.perFn = true ∨ r.hasCopy i = true) (copyQ : q.hasCopy j = true) (other : q ≠ r) :
    q.key j ≠ r.key i := by
  have counted : r.counted (r.windowCopy i) = true := by
    rcases copyR with own | copy
    · simpa [RegName.windowCopy, own] using counted_zero own
    · exact counted_windowCopy copy
  obtain ⟨-, -, -, endR⟩ := row_bounds r
  obtain ⟨-, -, -, endQ⟩ := row_bounds q
  have belowR := (offset_bounds counted).2
  have belowQ := (offset_bounds (counted_windowCopy copyQ)).2
  have apart := offset_ne (counted_windowCopy copyQ) counted other
  rw [key_eq, key_eq]
  omega

/-- The registers in which events, fault records and the counters of memory are noted. -/
def reportRegs : List RegName := [.CTX_EVR_WR, .CTX_FN_STATUS, .FLT_RING_STATUS, .MON_ACT, .MON_ERR_B, .MON_ERR_STK, .MON_EVT]

/-- Copy `i` of a register is one in which a report is noted. -/
def RegName.noted (r : RegName) (i : Nat) : Prop := r ∈ reportRegs ∧ (r.row.perFn = true ∨ r.hasCopy i = true)

theorem noted_perFn {r : RegName} (reports : r ∈ reportRegs) (own : r.row.perFn = true) (i : Nat) : r.noted i := ⟨reports, .inl own⟩

theorem noted_shared {r : RegName} {i : Nat} (reports : r ∈ reportRegs) (copy : r.hasCopy i = true) : r.noted i := ⟨reports, .inr copy⟩

/-- The registers of memory islands that errors and lines are counted in have a copy for each island. -/
theorem noted_island {r : RegName} (counter : r ∈ [RegName.MON_ACT, .MON_ERR_B, .MON_ERR_STK]) {i : Nat} (bound : i < 148) : r.noted i := by
  simp only [List.mem_cons, List.not_mem_nil, or_false] at counter
  rcases counter with rfl | rfl | rfl <;> exact noted_shared (by decide) (Bool.and_eq_true_iff.2 ⟨decide_eq_true bound, rfl⟩)

section
variable {q : RegName} {j : Nat} (other : q ∉ reportRegs) (copy : q.hasCopy j = true)
include other copy

theorem setFld_keeps_reg {F : Fld} {i : Nat} (noted : F.reg.noted i) (s : State) (v : Nat) : (s.setFld F i v).reg q j = s.reg q j := by
  obtain ⟨reports, place⟩ := noted
  have ne : q ≠ F.reg := fun same => other (same ▸ reports)
  exact reg_setReg_ne s (key_ne_of_ne place copy ne) _

theorem bump_keeps_reg {F : Fld} {i : Nat} (noted : F.reg.noted i) (s : State) (n : Nat) : (s.bump F i n).reg q j = s.reg q j :=
  setFld_keeps_reg other copy noted ..

omit other copy in
theorem noticeAll_reg (s : State) (kind arg : Nat) : (s.noticeAll kind arg).reg q j = s.reg q j := by
  obtain ⟨o, notices⟩ := noticeAll_frame s kind arg
  rw [notices]
  rfl

theorem counterEvent_keeps_reg {F0 : Fld} (event : F0.reg = .MON_EVT) (s : State) (isl : Nat) (name : String) :
    (s.counterEvent F0 isl name).reg q j = s.reg q j := by
  have noted : RegName.noted .MON_EVT 0 := noted_shared (by decide) (by decide)
  unfold State.counterEvent
  split
  · rfl
  · dsimp only
    rw [emit_read_reg, noticeAll_reg, setFld_keeps_reg other copy noted, setFld_keeps_reg other copy (event ▸ noted)]

theorem countErr_keeps_reg {cnt sat : Fld} {i : Nat} (counter : cnt.reg.noted i) (sticky : sat.reg.noted i) (s : State) :
    (s.countErr cnt sat i).reg q j = s.reg q j := by
  unfold State.countErr State.bumpEvent
  dsimp only
  split
  · rw [counterEvent_keeps_reg other copy rfl, setFld_keeps_reg other copy sticky, bump_keeps_reg other copy counter]
  · rw [bump_keeps_reg other copy counter]

/-! Writes of memory. -/

omit other copy in
theorem memIsl_near {a st p : Nat} (near : region a = .near st p) : memIsl a < 148 := by
  rw [memIsl, near]
  by_cases low : a < 0x000900000000
  · rw [region, if_pos low, Region.near.injEq] at near
    dsimp only
    omega
  · rw [region, if_neg low] at near
    repeat' split at near
    all_goals cases near

omit other copy in
theorem memIsl_far {a : Nat} (far : isFar a = true) : memIsl a < 148 := by
  have bound : 108 + (a - 0x010000000000) / 256 % 24 / 2 < 148 := by omega
  unfold isFar at far
  rw [memIsl]
  split at far
  · next g place => rw [place]; exact bound
  · next place => rw [place]; exact bound
  · cases far

theorem countLine_keeps_reg (s : State) (a : Nat) : (s.countLine a).reg q j = s.reg q j := by
  have counted (bound : memIsl a < 148) : (s.bump F.MON_ACT_count (memIsl a) 1).reg q j = s.reg q j :=
    bump_keeps_reg other copy (noted_island (by decide) bound) ..
  unfold State.countLine
  split
  · next near => exact counted (memIsl_near near)
  · next far => exact counted (memIsl_far (by rw [isFar, far]))
  · next dump => exact counted (memIsl_far (by rw [isFar, dump]))
  · rfl

omit other copy in
theorem markLine_reg (s : State) (l sel : Nat) : (s.markLine l sel).reg q j = s.reg q j := rfl

theorem writeLine_keeps_reg (s : State) (a : Nat) (data : List Byte) (sel : Nat) : (s.writeLine a data sel).s.reg q j = s.reg q j := by
  by_cases whole : data.length = 64
  · rw [writeLine_whole whole, markLine_reg, store_read_reg]
  by_cases tag : s.tagOf (a / 64) ≠ sel
  · rw [writeLine_otherTag whole tag, markLine_reg, store_read_reg, store_read_reg]
  have own := Decidable.not_not.1 tag
  cases clean : s.poison.get (a / 64) false with
  | true => rw [writeLine_poisoned whole own clean]
  | false =>
    cases verifies : s.sealOk a sel with
    | true =>
      rw [writeLine_own whole own clean verifies, markLine_reg, store_read_reg]
    | false =>
      have far : isFar a = true := by
        cases place : isFar a with
        | true => rfl
        | false => simp [State.sealOk, place] at verifies
      have island {r : RegName} (counter : r ∈ [RegName.MON_ACT, .MON_ERR_B, .MON_ERR_STK]) := noted_island counter (memIsl_far far)
      rw [writeLine_macFails whole own clean verifies]
      exact countErr_keeps_reg other copy (island (by decide)) (island (by decide)) s

theorem writeLines_keeps_reg (fuel a : Nat) (data : List Byte) (sel : Nat) (s : State) :
    (s.writeLines fuel a data sel).s.reg q j = s.reg q j := by
  induction fuel generalizing s a data with
  | zero => rfl
  | succ k ih =>
    unfold State.writeLines
    dsimp only
    split
    · rfl
    split
    · rw [writeLine_keeps_reg other copy, countLine_keeps_reg other copy]
    · rw [ih, writeLine_keeps_reg other copy, countLine_keeps_reg other copy]

theorem writePhys_keeps_reg (s : State) (w : Who) (sel a : Nat) (data : List Byte) : (s.writePhys w sel a data).s.reg q j = s.reg q j := by
  unfold State.writePhys
  dsimp only
  split
  · rfl
  · exact writeLines_keeps_reg other copy ..

/-! Events (R365). -/

omit other copy in
theorem hostStore_reg (s : State) (h a : Nat) (data : List Byte) : (s.hostStore h a data).reg q j = s.reg q j := by
  unfold State.hostStore
  split <;> rfl

omit other copy in
theorem msix_reg (s : State) (f v : Nat) : (s.msix f v).reg q j = s.reg q j := by
  unfold State.msix
  split <;> rfl

theorem evrPut_keeps_reg (s : State) (f : Nat) (e : Event) : (s.evrPut f e).reg q j = s.reg q j := by
  unfold State.evrPut
  dsimp only
  rw [msix_reg, setFld_keeps_reg other copy (noted_perFn (by decide) rfl f), hostStore_reg]

theorem noSpace_keeps_reg (s : State) (f : Nat) (e : Event) : (s.noSpace f e).reg q j = s.reg q j := by
  unfold State.noSpace
  split
  · rfl
  · dsimp only
    rw [setFn_read_reg, setFld_keeps_reg other copy (noted_perFn (by decide) rfl f), bump_keeps_reg other copy (noted_perFn (by decide) rfl f)]

theorem noteOverflow_keeps_reg (s : State) (f dt : Nat) : (s.noteOverflow f dt).reg q j = s.reg q j := by
  unfold State.noteOverflow
  split
  · exact evrPut_keeps_reg other copy ..
  · rfl

theorem raise_keeps_reg (s : State) (f : Nat) (e : Event) : (s.raise f e).reg q j = s.reg q j := by
  unfold State.raise
  dsimp only
  split
  · split <;> rfl
  split
  · exact noSpace_keeps_reg other copy ..
  split
  · rw [noSpace_keeps_reg other copy, noteOverflow_keeps_reg other copy]
  · rw [evrPut_keeps_reg other copy, noteOverflow_keeps_reg other copy]

/-! Fault records (R402 to R408). -/

omit other copy in
theorem logWr_reg (s : State) (n : Nat) : State.reg { s with logWr := n } q j = s.reg q j := rfl

theorem logRecord_keeps_reg (s : State) (r : FaultRec) : (s.logRecord r).reg q j = s.reg q j := by
  unfold State.logRecord
  dsimp only
  rw [writePhys_keeps_reg other copy, logWr_reg, writePhys_keeps_reg other copy]

theorem fltPut_keeps_reg (s : State) (f : Nat) (r : FaultRec) : (s.fltPut f r).reg q j = s.reg q j := by
  unfold State.fltPut
  dsimp only
  rw [raise_keeps_reg other copy, setFld_keeps_reg other copy (noted_perFn (by decide) rfl f), setFn_read_reg, hostStore_reg, hostStore_reg]

theorem fltOverflow_keeps_reg (s : State) (f : Nat) (r : FaultRec) : (s.fltOverflow f r).reg q j = s.reg q j := by
  unfold State.fltOverflow
  dsimp only
  split
  · rfl
  · rw [logRecord_keeps_reg other copy, msix_reg, hostStore_reg, setFld_keeps_reg other copy (noted_perFn (by decide) rfl f)]

theorem fltDrop_keeps_reg (s : State) (f : Nat) (r : FaultRec) : (s.fltDrop f r).reg q j = s.reg q j := by
  unfold State.fltDrop
  have lost (F : Fld) (h : F.reg = .FLT_RING_STATUS) : F.reg.noted f := noted_perFn (by rw [h]; decide) (by rw [h]; rfl) f
  split
  · rfl
  dsimp only
  split
  · rw [setFld_keeps_reg other copy (lost _ rfl), bump_keeps_reg other copy (lost _ rfl)]
  · rw [bump_keeps_reg other copy (lost _ rfl)]

theorem fltMerge_keeps_reg (s : State) (f : Nat) (r : FaultRec) : (s.fltMerge f r).reg q j = s.reg q j := by
  unfold State.fltMerge
  split
  · rfl
  split
  · rfl
  · exact fltDrop_keeps_reg other copy ..

theorem faultRec_keeps_reg (s : State) (r : FaultRec) (who : Stalled) : (s.faultRec r who).1.reg q j = s.reg q j := by
  have logged := logRecord_keeps_reg other copy s r
  have full (f : Nat) : ((s.logRecord r).when ((s.logRecord r).fltFull f) fun s => s.fltOverflow f r).reg q j = s.reg q j := by
    unfold State.when
    split
    · rw [fltOverflow_keeps_reg other copy, logged]
    · exact logged
  unfold State.faultRec
  dsimp only
  split
  · dsimp only
    exact logged
  split
  · dsimp only
    exact logged
  next f _ =>
  split
  · split
    · rw [setFld_keeps_reg other copy (noted_perFn (by decide) rfl f), setFn_read_reg, full]
    · rw [fltMerge_keeps_reg other copy, full]
  · rw [fltPut_keeps_reg other copy, logged]

omit other copy in
theorem stamp_reg (s : State) (isl : Nat) : (s.stamp isl).2.reg q j = s.reg q j := rfl

theorem report_keeps_reg (s : State) (isl cause comp engine ctx addr pos code : Nat) (detail : List Byte) (who : Stalled) :
    (s.report isl cause comp engine ctx addr pos code detail who).1.reg q j = s.reg q j := by
  unfold State.report
  dsimp only
  rw [faultRec_keeps_reg other copy, stamp_reg]

end

end Sys2Proof.Machine
end

section
/-! PROOFS of the scope: pressure, reservations, and the sum of reserved rates that their admission bounds. -/

namespace Sys2Proof.Machine

/-! ## The registers of the regulator (R193, R194) -/

theorem rsvCfg_hasCopy {i : Nat} (bound : i < 256) : RegName.hasCopy .MEM_RSV_CFG i = true :=
  Bool.and_eq_true_iff.2 ⟨decide_eq_true bound, rfl⟩

theorem resStatus_hasCopy {c : Nat} (bound : c < 256) : RegName.hasCopy .MEM_RES_STATUS c = true :=
  Bool.and_eq_true_iff.2 ⟨decide_eq_true bound, rfl⟩

/-- A field of another copy that exists reads as before. -/
theorem fld_setFld_ne (s : State) {F G : Fld} {i j : Nat} (v : Nat) (copyF : F.reg.hasCopy i = true) (copyG : G.reg.hasCopy j = true)
    (other : (G.reg, j) ≠ (F.reg, i)) : (s.setFld F i v).fld G j = s.fld G j := fld_setFld_elsewhere s v (key_ne copyG copyF other)

theorem resource_lt (s : State) (i : Nat) : s.fld F.MEM_RSV_CFG_resource i < 256 := bits_lt _ 47 40

theorem lt_of_resourceOk {code : Nat} (ok : resourceOk code = true) : code < 256 := by
  simp [resourceOk] at ok
  omega

/-! ## Pressure (R188, R190) -/

theorem pubCodes_lt {pub c : Nat} (bound : pub < 64) (fed : c ∈ pubCodes pub) : c < 256 := by
  unfold pubCodes at fed
  split at fed
  · simp at fed
    omega
  split at fed <;> simp at fed <;> omega

theorem pressure_foldl_setFld (F : Fld) (v : Nat) (l : List Nat) (s : State) : (l.foldl (fun s c => s.setFld F c v) s).pressure = s.pressure := by
  induction l generalizing s with
  | nil => rfl
  | cons c l ih => rw [List.foldl_cons, ih, setFld_pressure]

/-- Setting one level at several resources sets it at each. -/
theorem level_foldl_setFld {l : List Nat} (bound : ∀ c ∈ l, c < 256) {v c : Nat} (level : v < 8) {s : State}
    (set : c ∈ l ∨ (c < 256 ∧ s.fld F.MEM_RES_STATUS_level c = v)) :
    (l.foldl (fun s c => s.setFld F.MEM_RES_STATUS_level c v) s).fld F.MEM_RES_STATUS_level c = v := by
  induction l generalizing s with
  | nil => exact (set.resolve_left (by simp)).2
  | cons d l ih =>
    have here : (s.setFld F.MEM_RES_STATUS_level d v).fld F.MEM_RES_STATUS_level d = v :=
      (fld_setFld_same s F.MEM_RES_STATUS_level d v (by decide) (by decide)).trans (Nat.mod_eq_of_lt level)
    have dBound := bound d List.mem_cons_self
    refine ih (fun e he => bound e (List.mem_cons_of_mem _ he)) ?_
    by_cases same : c = d
    · subst same
      exact .inr ⟨dBound, here⟩
    · rcases set with fed | ⟨cBound, before⟩
      · exact .inl ((List.mem_cons.1 fed).resolve_left same)
      · refine .inr ⟨cBound, ?_⟩
        rw [fld_setFld_ne s v (resStatus_hasCopy dBound) (resStatus_hasCopy cBound) (by simpa using same), before]

theorem exec_publisherStale {pub : Nat} (bound : pub < 64) (s : State) : exec (.publisherStale pub) s =
    .next (if ∀ p, s.pressure.find pub = some p → p.2 + 512 ≤ s.aon.dt then s.setLevel pub 7 else s) := by
  refine checked_next.2 ⟨decide_eq_true bound, ?_⟩
  cases found : s.pressure.find pub with
  | none => simp
  | some p => simp

/-- Settles O33, by what setting a level leaves at each resource that the publisher feeds (R190). -/
theorem stalePublishers : Obligations.StalePublishers := by
  unfold Obligations.StalePublishers
  refine fun pub s bound => ⟨fun stale => ⟨_, (exec_publisherStale bound s).trans (congrArg _ (if_pos stale)), ?_, fun c fed => ?_⟩,
    fun p found fresh => ?_⟩
  · rw [State.setLevel, pressure_foldl_setFld]
    exact SMap.find_put_same ..
  · exact level_foldl_setFld (fun c => pubCodes_lt bound) (by decide) (.inl fed)
  · rw [exec_publisherStale bound, if_neg fun stale => absurd (stale p found) (by omega)]

/-! ## The request that an entry holds (R194) -/

theorem bits_and (x m hi lo : Nat) : bits (x &&& m) hi lo = bits x hi lo &&& bits m hi lo := by
  rw [bits, Nat.and_div_two_pow, Nat.and_mod_two_pow, bits, bits]

/-- The bits of MEM_RSV_CFG that a request stores: class, transit, rank, resource, composition, rate. -/
def rsvKept : Nat := 0x1CFFFFFCFFFF0000

/-- The state with entry `i` holding the request `v`, which is the latest of its DT. -/
def State.rsvRequest (s : State) (i : Nat) (v : Word) : State :=
  State.setReg { s with rsvNew := (s.aon.dt, (s.rsvNow.filter fun j => j != i) ++ [i]) } .MEM_RSV_CFG i (BitVec.ofNat 64 (v.toNat &&& rsvKept))

theorem exec_reservationAdmission {i : Nat} (bound : i < 256) (v : Word) (s : State) : exec (.reservationAdmission i v) s =
    .next (if s.rsvLive i || F.MEM_RSV_CFG_valid.of v == 0 then s else (s.rsvRequest i v).admitRsv i) :=
  checked_next.2 ⟨decide_eq_true bound, rfl⟩

section
variable (s : State) (v : Word) {i : Nat}

theorem reg_rsvRequest (i : Nat) : ((s.rsvRequest i v).reg .MEM_RSV_CFG i).toNat = v.toNat &&& rsvKept := by
  rw [State.rsvRequest, reg_setReg_same, BitVec.toNat_ofNat]
  exact Nat.mod_eq_of_lt (Nat.lt_of_le_of_lt Nat.and_le_right (by decide))

/-- A field that the request stores reads as it was written. -/
theorem fld_rsvRequest_kept {F : Fld} (row : F.reg = .MEM_RSV_CFG) (kept : bits rsvKept F.hi F.lo = 2 ^ (F.hi + 1 - F.lo) - 1) (i : Nat) :
    (s.rsvRequest i v).fld F i = F.of v := by
  rw [State.fld, row, reg_rsvRequest, bits_and, kept, Nat.and_two_pow_sub_one_eq_mod]
  exact Nat.mod_eq_of_lt (bits_lt ..)

/-- A request is not admitted before it is judged. -/
theorem rsvLive_rsvRequest (i : Nat) : (s.rsvRequest i v).rsvLive i = false := by
  have state : (s.rsvRequest i v).fld F.MEM_RSV_CFG_state i = 0 := by
    rw [State.fld, show F.MEM_RSV_CFG_state.reg = .MEM_RSV_CFG from rfl, reg_rsvRequest, bits_and, show bits rsvKept _ _ = 0 by decide, Nat.and_zero]
  simp [State.rsvLive, state]

theorem fld_rsvRequest_ne (bound : i < 256) {G : Fld} {j : Nat} (copy : G.reg.hasCopy j = true) (other : (G.reg, j) ≠ (.MEM_RSV_CFG, i)) :
    (s.rsvRequest i v).fld G j = s.fld G j :=
  congrArg (fun w : Word => bits w.toNat G.hi G.lo) (reg_setReg_ne _ (key_ne copy (rsvCfg_hasCopy bound) other) _)

end

/-! ## The sum of the reserved rates (R195) -/

/-- What entry `j` reserves of a resource: its rate where it is admitted there. -/
def State.share (s : State) (code j : Nat) : Nat :=
  if s.rsvLive j && s.fld F.MEM_RSV_CFG_resource j == code then s.fld F.MEM_RSV_CFG_rate j else 0

theorem rsvSum_eq_sum_share (s : State) (code : Nat) : s.rsvSum code = ((List.range 256).map (s.share code)).sum := by
  have filtered (p : Nat → Bool) (f : Nat → Nat) (l : List Nat) : ((l.filter p).map f).sum = (l.map fun j => if p j then f j else 0).sum := by
    induction l with
    | nil => rfl
    | cons a l ih => cases keep : p a <;> simp [keep, ih]
  rw [State.rsvSum, ← List.sum_eq_foldl, State.rsvOf, filtered]
  rfl

/-- The sums agree where every entry reserves the same. -/
theorem rsvSum_congr {s t : State} {code : Nat} (same : ∀ j < 256, t.share code j = s.share code j) : t.rsvSum code = s.rsvSum code := by
  rw [rsvSum_eq_sum_share, rsvSum_eq_sum_share]
  exact congrArg List.sum (List.map_congr_left fun j hj => same j (List.mem_range.1 hj))

/-- Two sums that differ in one term, which is 0 in the second. -/
theorem sum_map_of_one_more {f g : Nat → Nat} {i : Nat} {l : List Nat} (once : l.Nodup) (mem : i ∈ l) (zero : g i = 0)
    (same : ∀ j ∈ l, j ≠ i → f j = g j) : (l.map f).sum = (l.map g).sum + f i := by
  induction l with
  | nil => cases mem
  | cons a l ih =>
    obtain ⟨fresh, once⟩ := List.nodup_cons.1 once
    simp only [List.map_cons, List.sum_cons]
    by_cases here : a = i
    · have rest : l.map f = l.map g := List.map_congr_left fun j hj =>
        same j (List.mem_cons_of_mem _ hj) fun again => fresh (here ▸ again ▸ hj)
      rw [rest, here, zero]
      omega
    · rw [ih once ((List.mem_cons.1 mem).resolve_left (Ne.symm here)) fun j hj => same j (List.mem_cons_of_mem _ hj),
        same a List.mem_cons_self here]
      omega

/-- One entry more that reserves adds what it reserves. -/
theorem rsvSum_of_one_more {s t : State} {code i : Nat} (bound : i < 256) (idle : s.share code i = 0)
    (same : ∀ j < 256, j ≠ i → t.share code j = s.share code j) : t.rsvSum code = s.rsvSum code + t.share code i := by
  rw [rsvSum_eq_sum_share, rsvSum_eq_sum_share]
  exact sum_map_of_one_more List.nodup_range (List.mem_range.2 bound) idle fun j hj => same j (List.mem_range.1 hj)

theorem share_of_not_live {s : State} {i : Nat} (idle : s.rsvLive i = false) (code : Nat) : s.share code i = 0 := by
  simp [State.share, idle]

theorem share_congr {s t : State} {j : Nat} (live : t.rsvLive j = s.rsvLive j)
    (resource : t.fld F.MEM_RSV_CFG_resource j = s.fld F.MEM_RSV_CFG_resource j) (rate : t.fld F.MEM_RSV_CFG_rate j = s.fld F.MEM_RSV_CFG_rate j)
    (code : Nat) : t.share code j = s.share code j := by
  rw [State.share, State.share, live, resource, rate]

theorem rsvLive_congr {s t : State} {j : Nat} (same : ∀ F : Fld, F.reg = .MEM_RSV_CFG → t.fld F j = s.fld F j) : t.rsvLive j = s.rsvLive j := by
  rw [State.rsvLive, State.rsvLive, same _ rfl]

/-- An entry whose fields stand reserves what it did. -/
theorem share_of_fld {s t : State} {j : Nat} (same : ∀ F : Fld, F.reg = .MEM_RSV_CFG → t.fld F j = s.fld F j) (code : Nat) :
    t.share code j = s.share code j := share_congr (rsvLive_congr same) (same _ rfl) (same _ rfl) code

/-- A request that no admission has judged leaves the sums as they were. -/
theorem rsvSum_rsvRequest {s : State} {i : Nat} (bound : i < 256) (idle : s.rsvLive i = false) (v : Word) (code : Nat) :
    (s.rsvRequest i v).rsvSum code = s.rsvSum code := by
  refine rsvSum_congr fun j hj => ?_
  by_cases here : j = i
  · rw [here, share_of_not_live (rsvLive_rsvRequest ..), share_of_not_live idle]
  · exact share_of_fld (fun F row => fld_rsvRequest_ne s v bound (row ▸ rsvCfg_hasCopy hj) (by simp [here])) code

theorem derated_rsvRequest {i code : Nat} (bound : i < 256) (hc : code < 256) (s : State) (v : Word) :
    (s.rsvRequest i v).fld F.MEM_RES_STATUS_derated code = s.fld F.MEM_RES_STATUS_derated code :=
  fld_rsvRequest_ne s v bound (resStatus_hasCopy hc) (by simp [F.MEM_RES_STATUS_derated])

/-! ## Judging a request (R195) -/

theorem admitOk_rsvRequest {s : State} {i : Nat} (bound : i < 256) (idle : s.rsvLive i = false) (v : Word) :
    (s.rsvRequest i v).admitOk i = true ↔ F.MEM_RSV_CFG_class.of v < 2 ∧ resourceOk (F.MEM_RSV_CFG_resource.of v) = true ∧
      s.rsvSum (F.MEM_RSV_CFG_resource.of v) + F.MEM_RSV_CFG_rate.of v ≤
        s.fld F.MEM_RES_STATUS_derated (F.MEM_RSV_CFG_resource.of v) * 9 / 10 ∧
      (F.MEM_RSV_CFG_transit.of v = 1 ∨ s.holds (F.MEM_RSV_CFG_composition.of v) (F.MEM_RSV_CFG_resource.of v) = true) := by
  have holds (c code : Nat) : (s.rsvRequest i v).holds c code = s.holds c code := rfl
  have derated := derated_rsvRequest bound (code := F.MEM_RSV_CFG_resource.of v) (bits_lt v.toNat 47 40) s v
  have class_ := fld_rsvRequest_kept s v (F := F.MEM_RSV_CFG_class) rfl (by decide) i
  have resource := fld_rsvRequest_kept s v (F := F.MEM_RSV_CFG_resource) rfl (by decide) i
  have rate := fld_rsvRequest_kept s v (F := F.MEM_RSV_CFG_rate) rfl (by decide) i
  have transit := fld_rsvRequest_kept s v (F := F.MEM_RSV_CFG_transit) rfl (by decide) i
  have composition := fld_rsvRequest_kept s v (F := F.MEM_RSV_CFG_composition) rfl (by decide) i
  simp only [State.admitOk, class_, resource, rate, transit, composition, derated, holds, rsvSum_rsvRequest bound idle, Bool.and_eq_true,
    Bool.or_eq_true, decide_eq_true_eq, beq_iff_eq, and_assoc]

/-- The state with entry `i` ACTIVE under a grant. -/
def State.rsvActive (s : State) (i g : Nat) : State :=
  ((s.setFld F.MEM_RSV_CFG_valid i 1).setFld F.MEM_RSV_CFG_state i 1).setFld F.MEM_RSV_CFG_granted i g

section
variable (s : State) (i g : Nat)

/-- The fields between the grant and the state of an entry that becomes ACTIVE stand. -/
theorem fld_rsvActive_between {G : Fld} (row : G.reg = .MEM_RSV_CFG) (above : 15 < G.lo) (below : G.hi < 61) :
    (s.rsvActive i g).fld G i = s.fld G i := by
  rw [State.rsvActive, fld_setFld_other _ (F := F.MEM_RSV_CFG_granted) i _ (by decide) (by decide) row (.inr above),
    fld_setFld_other _ (F := F.MEM_RSV_CFG_state) i _ (by decide) (by decide) row (.inl below),
    fld_setFld_other _ (F := F.MEM_RSV_CFG_valid) i _ (by decide) (by decide) row (.inl (Nat.lt_trans below (by decide)))]

theorem rsvLive_rsvActive : (s.rsvActive i g).rsvLive i = true := by
  have state : (s.rsvActive i g).fld F.MEM_RSV_CFG_state i = 1 := by
    rw [State.rsvActive,
      fld_setFld_other _ (F := F.MEM_RSV_CFG_granted) (G := F.MEM_RSV_CFG_state) i _ (by decide) (by decide) rfl (.inr (by decide))]
    exact fld_setFld_same _ F.MEM_RSV_CFG_state i 1 (by decide) (by decide)
  simp [State.rsvLive, state]

theorem fld_rsvActive_ne {i : Nat} (bound : i < 256) {G : Fld} {j : Nat} (copy : G.reg.hasCopy j = true) (other : (G.reg, j) ≠ (.MEM_RSV_CFG, i)) :
    (s.rsvActive i g).fld G j = s.fld G j := by
  have own := rsvCfg_hasCopy bound
  rw [State.rsvActive, fld_setFld_ne _ (F := F.MEM_RSV_CFG_granted) _ own copy other, fld_setFld_ne _ (F := F.MEM_RSV_CFG_state) _ own copy other,
    fld_setFld_ne _ (F := F.MEM_RSV_CFG_valid) _ own copy other]

end

theorem admitRsv_refused {s : State} {i : Nat} (refused : ¬s.admitOk i = true) : s.admitRsv i = s.setFld F.MEM_RSV_CFG_state i 3 := if_neg refused

theorem admitRsv_admitted {s : State} {i : Nat} (ok : s.admitOk i = true) :
    s.admitRsv i = (s.rsvActive i (s.fld F.MEM_RSV_CFG_rate i)).regrant (s.fld F.MEM_RSV_CFG_resource i) := by
  have code := fld_rsvActive_between s i (s.fld F.MEM_RSV_CFG_rate i) (G := F.MEM_RSV_CFG_resource) rfl (by decide) (by decide)
  rw [← code]
  exact if_pos ok

/-- Settles O34, by what a request stores, when it is admitted, and what precedes the admissions of its DT. That a refused request shows valid 0 is
DEDUCED (log 88); a release comes before the admissions of its DT by R200. -/
theorem reservationRows : Obligations.ReservationRows := by
  unfold Obligations.ReservationRows
  refine ⟨fun pub occ cap s bound entries => checked_next.2 ⟨by simp [bound, entries], rfl⟩, fun i v s bound => ?admission,
    fun i s bound => ?release, fun ws s bound => ⟨fun due => ?due, fun judged => checked_next.2 ⟨bound, if_pos judged⟩⟩,
    fun w s idle => ?idle⟩
  case admission =>
    dsimp only
    rw [exec_reservationAdmission bound]
    refine ⟨fun live => by rw [live]; rfl, fun idle valid within => ?_, fun idle valid refused => ?_⟩
    · have ok := (admitOk_rsvRequest bound idle v).2 within
      rw [idle, valid, admitRsv_admitted ok, fld_rsvRequest_kept s v rfl (by decide), fld_rsvRequest_kept s v rfl (by decide)]
      rfl
    · rw [idle, valid, admitRsv_refused (mt (admitOk_rsvRequest bound idle v).1 refused)]
      rfl
  case release =>
    have released : exec (.reservationRelease i) s = .next
        (State.beforeAdmissions { s with rsvNew := (s.rsvNew.1, s.rsvNew.2.filter fun j => j != i) } fun s => s.releaseRsv i) :=
      checked_next.2 ⟨decide_eq_true bound, rfl⟩
    refine ⟨released, fun none => ?_⟩
    rw [released, State.beforeAdmissions, none]
    rfl
  case due => exact checked_next.2 ⟨bound, if_neg (Nat.not_le.2 due)⟩
  case idle =>
    rw [State.judgeWindow, idle]
    rfl

/-! ## Grants keep what is reserved (R196) -/

theorem guarantee_keeps_reg {q : RegName} {j : Nat} (other : q ∉ reportRegs) (copy : q.hasCopy j = true) (s : State) (i cause : Nat) :
    (s.guarantee i cause).reg q j = s.reg q j := by
  unfold State.guarantee
  dsimp only
  split
  · split
    · exact noticeAll_reg ..
    · rw [raise_keeps_reg other copy, noticeAll_reg]
  · exact noticeAll_reg ..

/-- The entries admitted, their resources and their rates, and the derated bandwidths, are the same in two states. -/
def State.sameReserved (s t : State) : Prop :=
  (∀ j < 256, t.rsvLive j = s.rsvLive j ∧ t.fld F.MEM_RSV_CFG_resource j = s.fld F.MEM_RSV_CFG_resource j ∧
    t.fld F.MEM_RSV_CFG_rate j = s.fld F.MEM_RSV_CFG_rate j) ∧
  ∀ c < 256, t.fld F.MEM_RES_STATUS_derated c = s.fld F.MEM_RES_STATUS_derated c

namespace State.sameReserved

variable {s t u : State}

theorem refl (s : State) : s.sameReserved s := ⟨fun _ _ => ⟨rfl, rfl, rfl⟩, fun _ _ => rfl⟩

theorem trans (first : s.sameReserved t) (second : t.sameReserved u) : s.sameReserved u := by
  refine ⟨fun j hj => ?_, fun c hc => (second.2 c hc).trans (first.2 c hc)⟩
  obtain ⟨live, resource, rate⟩ := first.1 j hj
  obtain ⟨live', resource', rate'⟩ := second.1 j hj
  exact ⟨live'.trans live, resource'.trans resource, rate'.trans rate⟩

/-- A change of no register of the regulator. -/
theorem of_reg (cfg : ∀ j < 256, t.reg .MEM_RSV_CFG j = s.reg .MEM_RSV_CFG j)
    (status : ∀ c < 256, t.reg .MEM_RES_STATUS c = s.reg .MEM_RES_STATUS c) :
    s.sameReserved t := by
  have fld (j : Nat) (hj : j < 256) (F : Fld) (row : F.reg = .MEM_RSV_CFG) : t.fld F j = s.fld F j := by
    rw [State.fld, row, cfg j hj, ← row, State.fld]
  exact ⟨fun j hj => ⟨rsvLive_congr (fld j hj), fld j hj _ rfl, fld j hj _ rfl⟩,
    fun c hc => congrArg (fun w : Word => bits w.toNat 63 48) (status c hc)⟩

theorem of_guarantee (s : State) (i cause : Nat) : s.sameReserved (s.guarantee i cause) :=
  of_reg (fun _ hj => guarantee_keeps_reg (by decide) (rsvCfg_hasCopy hj) ..) fun _ hc => guarantee_keeps_reg (by decide) (resStatus_hasCopy hc) ..

theorem of_report (s : State) (isl cause comp engine ctx addr pos code : Nat) (detail : List Byte) (who : Stalled) :
    s.sameReserved (s.report isl cause comp engine ctx addr pos code detail who).1 :=
  of_reg (fun _ hj => report_keeps_reg (by decide) (rsvCfg_hasCopy hj) ..) fun _ hc => report_keeps_reg (by decide) (resStatus_hasCopy hc) ..

/-- A change of what is granted or reserved, or of the level, of a resource. -/
theorem of_status {F : Fld} (row : F.reg = .MEM_RES_STATUS) (low : F.hi < 48) (word : F.lo ≤ F.hi + 1) {c : Nat} (bound : c < 256)
    (s : State) (v : Nat) :
    s.sameReserved (s.setFld F c v) := by
  have copy : F.reg.hasCopy c = true := row ▸ resStatus_hasCopy bound
  have cfg (j : Nat) (hj : j < 256) (G : Fld) (hG : G.reg = .MEM_RSV_CFG) : (s.setFld F c v).fld G j = s.fld G j :=
    fld_setFld_ne s v copy (hG ▸ rsvCfg_hasCopy hj) (by simp [hG, row])
  refine ⟨fun j hj => ⟨rsvLive_congr (cfg j hj), cfg j hj _ rfl, cfg j hj _ rfl⟩, fun d hd => ?_⟩
  by_cases same : d = c
  · rw [same]
    exact fld_setFld_other s c v word (by omega) row.symm (.inr low)
  · exact fld_setFld_ne s v copy (resStatus_hasCopy hd) (by simp [same])

/-- A change of the grant of a live entry. -/
theorem of_granted {i : Nat} (bound : i < 256) (live : s.rsvLive i = true) (g : Nat) {now : Nat} (cutOrActive : now = 1 ∨ now = 2) :
    s.sameReserved ((s.setFld F.MEM_RSV_CFG_granted i g).setFld F.MEM_RSV_CFG_state i now) := by
  have own := rsvCfg_hasCopy bound
  have elsewhere {G : Fld} {j : Nat} (copy : G.reg.hasCopy j = true) (other : (G.reg, j) ≠ (.MEM_RSV_CFG, i)) :
      ((s.setFld F.MEM_RSV_CFG_granted i g).setFld F.MEM_RSV_CFG_state i now).fld G j = s.fld G j := by
    rw [fld_setFld_ne _ (F := F.MEM_RSV_CFG_state) _ own copy other, fld_setFld_ne _ (F := F.MEM_RSV_CFG_granted) _ own copy other]
  have between {G : Fld} (row : G.reg = .MEM_RSV_CFG) (above : 15 < G.lo) (below : G.hi < 61) :
      ((s.setFld F.MEM_RSV_CFG_granted i g).setFld F.MEM_RSV_CFG_state i now).fld G i = s.fld G i := by
    rw [fld_setFld_other _ (F := F.MEM_RSV_CFG_state) i _ (by decide) (by decide) row (.inl below),
      fld_setFld_other _ (F := F.MEM_RSV_CFG_granted) i _ (by decide) (by decide) row (.inr above)]
  have state : ((s.setFld F.MEM_RSV_CFG_granted i g).setFld F.MEM_RSV_CFG_state i now).fld F.MEM_RSV_CFG_state i = now % 4 :=
    fld_setFld_same _ F.MEM_RSV_CFG_state i now (by decide) (by decide)
  refine ⟨fun j hj => ?_, fun c hc => elsewhere (resStatus_hasCopy hc) (by simp [F.MEM_RES_STATUS_derated])⟩
  by_cases same : j = i
  · subst same
    refine ⟨?_, between rfl (by decide) (by decide), between rfl (by decide) (by decide)⟩
    rw [live, State.rsvLive, state]
    rcases cutOrActive with rfl | rfl <;> rfl
  · have other (G : Fld) (row : G.reg = .MEM_RSV_CFG) := elsewhere (G := G) (j := j) (row ▸ rsvCfg_hasCopy hj) (by simp [same])
    exact ⟨rsvLive_congr other, other _ rfl, other _ rfl⟩

theorem of_grant {i : Nat} (bound : i < 256) (live : s.rsvLive i = true) (g : Nat) : s.sameReserved (s.grant i g) := by
  have cutOrActive : (if g < s.fld F.MEM_RSV_CFG_rate i then 2 else 1) = 1 ∨ (if g < s.fld F.MEM_RSV_CFG_rate i then 2 else 1) = 2 := by
    by_cases cut : g < s.fld F.MEM_RSV_CFG_rate i
    · exact .inr (if_pos cut)
    · exact .inl (if_neg cut)
  unfold State.grant
  dsimp only
  generalize (if g < s.fld F.MEM_RSV_CFG_rate i then 2 else 1) = now at cutOrActive ⊢
  have granted := of_granted bound live g cutOrActive
  split
  · exact (granted.trans (of_guarantee ..)).trans (of_report ..)
  · exact granted

theorem of_grants {l : List (Nat × Nat)} (live : ∀ p ∈ l, p.1 < 256 ∧ s.rsvLive p.1 = true) :
    s.sameReserved (l.foldl (fun s p => s.grant p.1 p.2) s) := by
  induction l generalizing s with
  | nil => exact refl s
  | cons p l ih =>
    obtain ⟨bound, own⟩ := live p List.mem_cons_self
    have granted := of_grant bound own p.2
    refine granted.trans (ih fun e he => ?_)
    obtain ⟨eBound, eLive⟩ := live e (List.mem_cons_of_mem _ he)
    exact ⟨eBound, (granted.1 e.1 eBound).1.trans eLive⟩

end State.sameReserved

theorem mem_rsvOf {s : State} {code i : Nat} (mem : i ∈ s.rsvOf code) : i < 256 ∧ s.rsvLive i = true := by
  simp only [State.rsvOf, List.mem_filter, List.mem_range, Bool.and_eq_true] at mem
  exact ⟨mem.1, mem.2.1⟩

/-- Entries granted in turn from a budget stand in the plan, behind those of the plan before. -/
theorem mem_foldl_grants (rate : Nat → Nat) (l : List Nat) (acc : List (Nat × Nat) × Nat) {p : Nat × Nat}
    (mem : p ∈ (l.foldl (fun (acc : List (Nat × Nat) × Nat) i => (acc.1 ++ [(i, min (rate i) acc.2)], acc.2 - min (rate i) acc.2)) acc).1) :
    p ∈ acc.1 ∨ p.1 ∈ l := by
  induction l generalizing acc with
  | nil => exact .inl mem
  | cons i l ih =>
    rcases ih _ mem with planned | later
    · rcases List.mem_append.1 planned with before | here
      · exact .inl before
      · exact .inr (by simp [List.mem_singleton.1 here])
    · exact .inr (List.mem_cons_of_mem _ later)

/-- Recomputing the grants of a resource touches live entries alone, and of those no rate. -/
theorem sameReserved_regrant {code : Nat} (bound : code < 256) (s : State) : s.sameReserved (s.regrant code) := by
  unfold State.regrant
  refine ((State.sameReserved.of_grants fun p hp => ?_).trans (.of_status rfl (by decide) (by decide) bound ..)).trans
    (.of_status rfl (by decide) (by decide) bound ..)
  rcases mem_foldl_grants (s.fld F.MEM_RSV_CFG_rate) _ _ hp with planned | guaranteed
  · obtain ⟨i, rt, rfl⟩ := List.mem_map.1 planned
    exact mem_rsvOf (List.mem_filter.1 rt).1
  · obtain ⟨k, -, ranked⟩ := List.mem_flatMap.1 guaranteed
    exact mem_rsvOf (List.mem_filter.1 (List.mem_filter.1 ranked).1).1

/-- What is reserved of a resource is within nine tenths of its derated bandwidth (R195). -/
def State.withinDerated (s : State) (code : Nat) : Prop := s.rsvSum code ≤ s.fld F.MEM_RES_STATUS_derated code * 9 / 10

theorem withinDerated_of_sameReserved {s t : State} (same : s.sameReserved t) {code : Nat} (bound : code < 256) (within : s.withinDerated code) :
    t.withinDerated code := by
  have sum : t.rsvSum code = s.rsvSum code := rsvSum_congr fun j hj =>
    have ⟨live, resource, rate⟩ := same.1 j hj
    share_congr live resource rate code
  rw [State.withinDerated, sum, same.2 code bound]
  exact within

/-- The sums after an entry that was not live becomes ACTIVE. -/
theorem rsvSum_rsvActive {s : State} {i : Nat} (bound : i < 256) (idle : s.rsvLive i = false) (g code : Nat) :
    (s.rsvActive i g).rsvSum code =
      s.rsvSum code + if s.fld F.MEM_RSV_CFG_resource i = code then s.fld F.MEM_RSV_CFG_rate i else 0 := by
  have own : (s.rsvActive i g).share code i = if s.fld F.MEM_RSV_CFG_resource i = code then s.fld F.MEM_RSV_CFG_rate i else 0 := by
    rw [State.share, rsvLive_rsvActive, fld_rsvActive_between s i g rfl (by decide) (by decide),
      fld_rsvActive_between s i g rfl (by decide) (by decide)]
    simp
  rw [← own]
  refine rsvSum_of_one_more bound (share_of_not_live idle code) fun j hj other => ?_
  exact share_of_fld (fun F row => fld_rsvActive_ne s g bound (row ▸ rsvCfg_hasCopy hj) (by simp [other])) code

/-- A refused request reserves nothing. -/
theorem withinDerated_refused {s : State} {i : Nat} (bound : i < 256) (idle : s.rsvLive i = false) {code : Nat} (hc : code < 256)
    (within : s.withinDerated code) : (s.setFld F.MEM_RSV_CFG_state i 3).withinDerated code := by
  have own := rsvCfg_hasCopy bound
  have state : (s.setFld F.MEM_RSV_CFG_state i 3).fld F.MEM_RSV_CFG_state i = 3 := fld_setFld_same s F.MEM_RSV_CFG_state i 3 (by decide) (by decide)
  have sum : (s.setFld F.MEM_RSV_CFG_state i 3).rsvSum code = s.rsvSum code := by
    refine rsvSum_congr fun j hj => ?_
    by_cases here : j = i
    · rw [here, share_of_not_live idle, share_of_not_live (by simp [State.rsvLive, state])]
    · exact share_of_fld (fun G row => fld_setFld_ne s 3 own (row ▸ rsvCfg_hasCopy hj) (by simp [here])) code
  rw [State.withinDerated, sum, fld_setFld_ne s (G := F.MEM_RES_STATUS_derated) 3 own (resStatus_hasCopy hc)
    (by simp [F.MEM_RES_STATUS_derated, F.MEM_RSV_CFG_state])]
  exact within

/-- Judging a request keeps every resource within its bound: an admitted one has been weighed against it. -/
theorem withinDerated_admitRsv {s : State} {i : Nat} (bound : i < 256) (idle : s.rsvLive i = false) {code : Nat} (hc : code < 256)
    (within : s.withinDerated code) : (s.admitRsv i).withinDerated code := by
  by_cases ok : s.admitOk i = true
  · rw [admitRsv_admitted ok]
    refine withinDerated_of_sameReserved (sameReserved_regrant (resource_lt s i) _) hc ?_
    rw [State.withinDerated, rsvSum_rsvActive bound idle,
      fld_rsvActive_ne s _ bound (G := F.MEM_RES_STATUS_derated) (resStatus_hasCopy hc) (by simp [F.MEM_RES_STATUS_derated])]
    simp only [State.admitOk, Bool.and_eq_true, decide_eq_true_eq] at ok
    obtain ⟨⟨-, room⟩, -⟩ := ok
    split
    · next here => exact here ▸ room
    · exact within
  · rw [admitRsv_refused ok]
    exact withinDerated_refused bound idle hc within

/-- Settles O35: a request that is not yet judged reserves nothing, an admitted one has been weighed against the bound, a refused one reserves
nothing, and recomputing the grants changes neither rates nor derated bandwidths. -/
theorem reservationsNeverOvercommit : Obligations.ReservationsNeverOvercommit := by
  unfold Obligations.ReservationsNeverOvercommit
  intro i v s t bound within outcome code ok
  have hc := lt_of_resourceOk ok
  obtain rfl := Host.Outcome.next.inj ((exec_reservationAdmission bound v s).symm.trans outcome)
  split
  · exact within code ok
  · next judged =>
    have idle : s.rsvLive i = false := by
      simp only [Bool.or_eq_true, not_or, Bool.not_eq_true] at judged
      exact judged.1
    refine withinDerated_admitRsv bound (rsvLive_rsvRequest s v i) hc ?_
    rw [State.withinDerated, rsvSum_rsvRequest bound idle, derated_rsvRequest bound hc]
    exact within code ok

end Sys2Proof.Machine
end

section
/-! PROOFS of the scope: addresses that no memory answers for, zero-fills, the windows of partners, the ledger's copies, a refused PREPARE. -/

namespace Sys2Proof

theorem SMap.find_filter_of_drop {β : Type} {p : Nat × β → Bool} {k : Nat} (drop : ∀ v, p (k, v) = false) (m : SMap β) :
    SMap.find (m.filter p) k = none := by
  induction m with
  | nil => rfl
  | cons e m ih =>
    obtain ⟨j, v⟩ := e
    cases keep : p (j, v) with
    | false => rwa [List.filter_cons_of_neg (by simp [keep])]
    | true =>
      have other : k ≠ j := fun same => by simp [← same, drop v] at keep
      rwa [List.filter_cons_of_pos keep, SMap.find_cons, if_neg other]

/-- A range that has been cleared lists nothing. -/
theorem SMap.get_clear {β : Type} {lo hi k : Nat} (low : lo ≤ k) (high : k < hi) (m : SMap β) (d : β) :
    SMap.get (SMap.clear m lo hi) k d = d := by
  rw [SMap.get, SMap.clear, SMap.find_filter_of_drop (fun v => by simp [low, high])]
  rfl

end Sys2Proof

namespace Sys2Proof.Machine

/-! ## Addresses that no memory answers for (R159) -/

theorem region_carveOut {a : Nat} (low : 0x01A800000000 ≤ a) (high : a ≤ 0x01BFFFFFFFFF) : region a = .unmapped := by
  unfold region
  repeat rw [if_neg (by omega)]
  exact if_pos (by omega)

theorem ownerActor_eq_fw {o : Owner} : ownerActor o = .fw ↔ o = .fw := by cases o <;> simp [ownerActor]

theorem judge_unmapped {a : Nat} (unmapped : region a = .unmapped) (s : State) (w : Who) (sel : Nat) : s.judge w sel a = .decode := by
  simp [State.judge, unmapped]

/-- The crash-dump region answers DECODE to all but management firmware. -/
theorem judge_dump {a : Nat} (dump : region a = .dump) {w : Who} (other : w.own ≠ .fw) (s : State) (sel : Nat) : s.judge w sel a = .decode := by
  simp [State.judge, dump, mt ownerActor_eq_fw.1 other]

/-- To management firmware it answers as its island and the key do. -/
theorem judge_dump_fw {a : Nat} (dump : region a = .dump) (s : State) (sel : Nat) : s.judge .fw sel a ≠ .decode := by
  have fw : ownerActor Who.fw.own = .fw := rfl
  simp only [State.judge, dump, fw, if_true, ne_eq, not_true_eq_false, if_false]
  split
  · decide
  · split <;> decide

/-- A request that its target does not decode is answered where it is injected, a half asleep or not. -/
theorem inject_decode {s : State} {q : MemReq} (unheld : s.seamHeld (ownerIsl q.owner) (memIsl q.addr) = false)
    (noRemote : ∀ k off, region q.addr ≠ .remote k off) (clean : q.fabErr = .none)
    (decode : s.judge (reqWho q) q.sel q.addr = .decode) (key : Nat) :
    s.inject key q = s.putReply key .decode [] := by
  have judged : s.performLocal q = ⟨s, .decode, []⟩ := performLocal_judgedBad decode (by decide)
  have awake : ¬(s.intoSleep (ownerIsl q.owner) q.addr && s.judge (reqWho q) q.sel q.addr == .islandOff) = true := by simp [decode]
  simp only [State.inject, unheld, Bool.false_eq_true, if_false, if_neg awake]
  rw [perform_local noRemote clean, judged]

theorem reqShapeOk_local {q : MemReq} (noRemote : ∀ k off, region q.addr ≠ .remote k off) : reqShapeOk q = true := by
  unfold reqShapeOk
  dsimp only
  split
  · next remote _ => exact (noRemote _ _ remote).elim
  · next remote _ => exact (noRemote _ _ remote).elim
  · rfl

theorem isRemote_local {a : Nat} (noRemote : ∀ k off, region a ≠ .remote k off) : isRemote a = false := by
  unfold isRemote
  split
  · next remote => exact (noRemote _ _ remote).elim
  · rfl

/-- The entry that a request takes. -/
def State.entryOf (s : State) (q : MemReq) : Outstanding :=
  { req := q, gen := s.fld F.FLT_ISL_STAT_gen (ownerIsl q.owner), resent := false, at_ := s.aon.dt, remote := isRemote q.addr, old := false,
    discarded := false }

theorem exec_requestAtBoundary {s : State} {q : MemReq} (named : q.owner.named = true) (on : s.domOn (ownerIsl q.owner) = true)
    (free : s.outst.find (entryKey (ownerIsl q.owner) q.entry) = none) (room : s.ownerRoom q.owner = true) (shape : reqShapeOk q = true) :
    exec (.requestAtBoundary q) s = .next
      (State.inject { s with outst := s.outst.put (entryKey (ownerIsl q.owner) q.entry) (s.entryOf q) } (entryKey (ownerIsl q.owner) q.entry) q) := by
  have enters : ¬(!s.domOn (ownerIsl q.owner) || (s.outst.find (entryKey (ownerIsl q.owner) q.entry)).isSome || !s.ownerRoom q.owner ||
      !reqShapeOk q) = true := by
    simp [on, free, room, shape]
  exact checked_next.2 ⟨(ownerOk_eq_named _).trans named, if_neg enters⟩

/-- Settles O28: the judgement of such an address is DECODE whatever the state, and neither memory nor a half asleep is asked. -/
theorem unmappedIsDecode : Obligations.UnmappedIsDecode := by
  unfold Obligations.UnmappedIsDecode
  refine ⟨fun q s named clean on free room unheld place => ?_, fun s sel a dump _ => judge_dump_fw dump s sel⟩
  have region_eq : region q.addr = .unmapped ∨ (region q.addr = .dump ∧ q.owner ≠ .fw) := by
    rcases place with unmapped | ⟨low, high⟩ | dump
    · exact .inl unmapped
    · exact .inl (region_carveOut low high)
    · exact .inr dump
  have noRemote (k off : Nat) : region q.addr ≠ .remote k off := by
    rcases region_eq with unmapped | ⟨dump, -⟩
    · simp [unmapped]
    · simp [dump]
  have decode (t : State) : t.judge (reqWho q) q.sel q.addr = .decode := by
    rcases region_eq with unmapped | ⟨dump, other⟩
    · exact judge_unmapped unmapped ..
    · exact judge_dump dump other ..
  have entry : s.entryOf q = { req := q, gen := s.fld F.FLT_ISL_STAT_gen (ownerIsl q.owner), resent := false, at_ := s.aon.dt, remote := false,
                               old := false, discarded := false } := by rw [State.entryOf, isRemote_local noRemote]
  intro key o
  rw [exec_requestAtBoundary named on free room (reqShapeOk_local noRemote), entry]
  exact congrArg _ (inject_decode (s := { s with outst := s.outst.put key o }) unheld noRemote clean (decode _) key)

/-! ## Zero-fills (R169) -/

section
variable {lo hi a : Nat} (low : lo ≤ a) (high : a < hi) (s : State)
include low high

theorem byte_wipe : (s.wipe lo hi).byte a = 0#8 := SMap.get_clear low high ..

theorem tagOf_wipe (lines : hi % 64 = 0) : (s.wipe lo hi).tagOf (a / 64) = 0 :=
  SMap.get_clear (Nat.div_le_div_right low) (by omega) ..

end

/-- The zero-fill of a core's scratchpad ends: the core is ready, and its composition's launches go on. -/
theorem exec_zeroFillEnd_core {n : Nat} (core : n < 672) {s : State} (filling : s.zeroFills.contains (.core n) = true) (on : s.domOn (n / 8) = true) :
    let t : State := { s with zeroFills := s.zeroFills.erase (.core n) }
    let u : State := { t.wipe (scratchBase n) (scratchBase n + 0x140000) with coreReady := s.coreReady.put n true }
    exec (.zeroFillEnd (.core n)) s = .next (match s.coreOwner.find n with
      | some b => (u.startReady b.comp 0).startReady b.comp 1
      | none => u) := by
  have begun : ¬(!s.zeroFills.contains (.core n)) = true := by simp only [filling, Bool.not_true, Bool.false_eq_true, not_false_eq_true]
  have here : ¬(!s.domOn (n / 8)) = true := by simp [on]
  exact checked_next.2 ⟨decide_eq_true core, (if_neg begun).trans (if_neg here)⟩

/-! ## Timeouts of the ledger (R183) -/

theorem groupTimedOut_of_late {s : State} {g : Group}
    (late : (∃ t rest, g.unacked = t :: rest ∧ t + us 50 ≤ s.aon.dt) ∨ ((g.state = 2 ∨ g.state = 3) ∧ g.dtCommit + us 50 ≤ s.aon.dt)) :
    s.groupTimedOut g = true := by
  rcases late with ⟨t, rest, oldest, due⟩ | ⟨committed, due⟩
  · simp [State.groupTimedOut, oldest, due]
  · simp [State.groupTimedOut, committed, due]

theorem exec_remoteRequestTimeout_group {i : Nat} (bound : i < 65536) {s : State} {g : Group} (found : s.ledger.find i = some g)
    (late : s.groupTimedOut g = true) :
    exec (.remoteRequestTimeout (2 ^ 24 + i)) s = .next (if g.state = 3 then s.alternateLost i else s.primaryLost i) := by
  refine checked_next.2 ⟨decide_eq_true (by omega), ?_⟩
  rw [if_neg (by omega)]
  simp only [Nat.add_sub_cancel_left, found, late, Bool.not_true, Bool.false_eq_true, if_false]

/-! ## The windows that partners reach memory by (R177) -/

/-- Whether a write of MEM_PXW_CFG leaves the window not enabled: it moves an enabled one, or R177 does not allow it. -/
def State.exportBarred (s : State) (k w : Nat) (v : Word) : Bool :=
  let i := 16 * k + w
  s.fld F.MEM_PXW_CFG_enable i == 1 &&
      (F.MEM_PXW_CFG_roff.of v != s.fld F.MEM_PXW_CFG_roff i || F.MEM_PXW_CFG_size.of v != s.fld F.MEM_PXW_CFG_size i) ||
    !(s.setReg .MEM_PXW_CFG i (BitVec.ofNat 64 (v.toNat / 64 * 64))).exportOk k w

theorem exportBarred_eq_false_iff {s : State} {k w : Nat} {v : Word} : s.exportBarred k w v = false ↔
    (s.fld F.MEM_PXW_CFG_enable (16 * k + w) = 1 → F.MEM_PXW_CFG_roff.of v = s.fld F.MEM_PXW_CFG_roff (16 * k + w) ∧
      F.MEM_PXW_CFG_size.of v = s.fld F.MEM_PXW_CFG_size (16 * k + w)) ∧
    (s.setReg .MEM_PXW_CFG (16 * k + w) (BitVec.ofNat 64 (v.toNat / 64 * 64))).exportOk k w = true := by
  simp [State.exportBarred]

theorem exec_exportWindowWrite {k w : Nat} (port : k < 8) (window : w < 16) (v : Word) (s : State) :
    let t := s.setReg .MEM_PXW_CFG (16 * k + w) (BitVec.ofNat 64 (v.toNat / 64 * 64))
    exec (.exportWindowWrite k w v) s = .next
      (if F.MEM_PXW_CFG_enable.of v = 0 then t
      else if s.exportBarred k w v then t.setFld F.MEM_PXW_CFG_enable (16 * k + w) 0
      else t) :=
  checked_next.2 ⟨by simp [port, window], rfl⟩

/-- Settles O32, by what each row does where the condition of its event holds (R164, R169, R177, R183, R186). -/
theorem fillsAndLedgerCopies : Obligations.FillsAndLedgerCopies := by
  unfold Obligations.FillsAndLedgerCopies
  refine ⟨fun st p s stack part filling => ?part, fun n s core filling on => ?core, fun k w v s port window => ?window, fun b s => ?copyFails,
    fun stack part s hs hp lost free half => ?rebuilt,
    fun i s g bound found late => exec_remoteRequestTimeout_group bound found (groupTimedOut_of_late late)⟩
  case part =>
    have outcome : exec (.zeroFillEnd (.part st p)) s =
        .next (State.wipe { s with zeroFills := s.zeroFills.erase (.part st p) } (partBase st p) (partBase st p + 0x10000000)) :=
      checked_next.2 ⟨by simp [stack, part], if_neg (by simp only [filling, Bool.not_true, Bool.false_eq_true, not_false_eq_true])⟩
    exact ⟨_, outcome, rfl, fun a low high => ⟨byte_wipe low high _, tagOf_wipe low high _ (by unfold partBase; omega)⟩⟩
  case core =>
    dsimp only
    have outcome := exec_zeroFillEnd_core core filling on
    exact ⟨fun unowned => by rw [outcome, unowned], fun b owned => by rw [outcome, owned]⟩
  case window =>
    dsimp only
    rw [exec_exportWindowWrite port window]
    refine ⟨fun off => congrArg _ (if_pos off), fun enable same ok => ?_, fun enable barred => ?_⟩
    · rw [if_neg (by simp [enable]), if_neg (by simpa using exportBarred_eq_false_iff.2 ⟨same, ok⟩)]
    · rw [if_neg (by simp [enable]), if_pos (by simpa using mt exportBarred_eq_false_iff.1 barred)]
  case copyFails =>
    intro lost t fails
    have outcome : exec (.ledgerCopyFail b) s =
        .next (if lost = 3 then t.ledger.foldl (fun s e => if e.2.state = 4 then s else s.closeGroup e.1 true) t else t) :=
      checked_next.2 ⟨rfl, if_neg fails⟩
    exact ⟨fun left => outcome.trans (congrArg _ (if_neg left)), fun none => outcome.trans (congrArg _ (if_pos none))⟩
  case rebuilt =>
    refine checked_next.2 ⟨by simp [hs, hp], ?_⟩
    rw [if_neg (by simp [lost, free, half])]
    have copyA : decide (s.ledgerLost % 2 = 1) = true := by rw [lost]; rfl
    rw [copyA]
    simp only [if_true, setFld_ledgerLost, lost, Nat.sub_self, ledgerState]

/-! ## A refused PREPARE (R183, R283) -/

/-- A refusal answers the oldest PREPARE of its group that had no answer: it waits for none any more, and the owner takes the status. -/
theorem exec_prepAck_refused {k i : Nat} (port : k < 8) {m : PortMsg} {s : State} {g : Group} (found : s.groupOf m.group = some (i, g))
    (own : g.port = k) (primary : g.state ≠ 3) (refused : m.status ≠ 0) (present : m.status ≠ 6) :
    exec (.prepAck k m) s =
      .next ((s.setGroup i { g with unacked := g.unacked.drop 1 }).prepareRefused g (msgStatus m.status)) := by
  refine checked_next.2 ⟨decide_eq_true port, ?_⟩
  simp only [found, own, primary, refused, present, ne_eq, not_true_eq_false, or_self, if_false]

/-- The times of the PREPAREs of ledger entry `i` that have had no answer. -/
def State.unansweredAt (s : State) (i : Nat) : Option (List Nat) := (s.ledger.find i).map (·.unacked)

/-- A group of command processor 0 on port 0, whose one PREPARE was sent at DT 0 and has had no answer. -/
def unansweredGroup : Group :=
  { seq := 0, state := 1, port := 0, alt := 0xFF, altBase := 0, mode := 0, range := 16, comp := 0, writes := 1, acked := 0, lo := 0, hi := 0,
    owner := ownerCp 0, fence := 0xFFFFFFFF, fenceValue := 0, dtOpen := 0, dtCommit := 0, cls := clsBulk, unacked := [0] }

/-- The device after reset with that group in entry 0 of its ledger. -/
def unansweredState : State := { State.reset with ledger := [(0, unansweredGroup)] }

/-- The PREP_ACK that refuses its PREPARE with DECODE. -/
def decodeAck : PortMsg := { PortMsg.of 5 with status := 1 }

/-- Refutes O44: its clause on a refused PREPARE has the owner take the status and the ledger stand, while the refusal also answers the group's oldest
PREPARE, whose time R183 counts no longer. In `unansweredState` the model leaves entry 0 with no unanswered PREPARE, the statement with the one of
DT 0. -/
theorem not_portMessages : ¬ Obligations.PortMessages := by
  unfold Obligations.PortMessages
  rintro ⟨-, -, -, -, -, -, -, answers, -⟩
  obtain ⟨-, -, refusal, -⟩ := answers 0 0 decodeAck unansweredState unansweredGroup (by decide) rfl rfl (by decide)
  have claimed := refusal (by decide) (by decide)
  have evaluated := exec_prepAck_refused (k := 0) (i := 0) (m := decodeAck) (s := unansweredState) (g := unansweredGroup) (by decide) rfl rfl
    (by decide) (by decide) (by decide)
  have states := Host.Outcome.next.inj (evaluated.symm.trans claimed)
  have modelled : ((unansweredState.setGroup 0 { unansweredGroup with unacked := [] }).prepareRefused unansweredGroup .decode).unansweredAt 0 =
      some [] := rfl
  have stated : (unansweredState.prepareRefused unansweredGroup .decode).unansweredAt 0 = some [0] := rfl
  have same : some [] = some [0] := modelled.symm.trans ((congrArg (State.unansweredAt · 0) states).trans stated)
  cases same

end Sys2Proof.Machine
end

section
/-! PROOFS of the scope: the pieces of a LINEAR descriptor, what halts a DMA channel, and the actions that end a halt. -/

namespace Sys2Proof.Machine

/-! ## The pieces of a LINEAR descriptor (R205) -/

section
variable {d : Descr} (linear : d.type = 1)
include linear

theorem total_linear : d.total = (d.u 0x10 8 % 4096 + d.len + 4095) / 4096 := by
  rw [Descr.total, linear]
  rfl

/-- Piece `k` starts at the destination or at its own boundary of 4 KiB, whichever comes later, and lasts to the next boundary or to the end. -/
theorem piece_linear (k : Nat) :
    let dst := d.u 0x10 8
    let b := max dst ((dst / 4096 + k) * 4096)
    d.piece k 0 = ⟨some (d.u 8 8 + (b - dst)), some b, min ((dst / 4096 + k + 1) * 4096) (dst + d.len) - b⟩ := by
  intro dst b
  have start : (if k = 0 then dst else (dst / 4096 + k) * 4096) = b := by split <;> omega
  rw [Descr.piece, linear, ← start]
  rfl

end

/-- Settles O38: where each piece starts and how long it lasts gives every clause (R205, R208). -/
theorem linearPieces : Obligations.LinearPieces := by
  unfold Obligations.LinearPieces
  intro d linear nonempty src dst
  have total : d.total = (dst % 4096 + d.len + 4095) / 4096 := total_linear linear
  have piece := piece_linear linear
  refine ⟨by omega, ?first, ?last, fun k below => ⟨max dst ((dst / 4096 + k) * 4096), ?start, ?source, Nat.le_max_left .., ?nonempty, ?span,
    fun more => ⟨?next, ?boundary⟩⟩⟩
  case last =>
    intro b start
    rw [piece] at start ⊢
    obtain rfl := Option.some.inj start
    dsimp only
    omega
  case start | source => rw [piece]
  case first | next => simp only [piece, Option.some.injEq]; omega
  case nonempty | span | boundary => simp only [piece]; omega

/-! ## What halts a channel (R207, R209, R214, R215) -/

/-- A running channel one of whose groups has closed POISONED halts at that group's first write (R183, R214). -/
theorem exec_descriptorComplete_poisoned {x : Nat} {s : State} {d : Descr} (bound : x < 1344) (held : (s.chan x).descr = some d)
    (running : s.chState x = chRunning) (resting : (s.chan x).fetching = false) (going : (s.chan x).stopped = false) {k a : Nat}
    (poisoned : s.poisonedAt x = some (k, a)) :
    exec (.descriptorComplete x) s = .next ((s.latchFail x a true d.phys).haltChan x 3 a k) := by
  refine checked_next.2 ⟨decide_eq_true bound, ?_⟩
  simp only [held]
  rw [if_neg (by simp [running, resting, going]), poisoned]
  rfl

/-- A line that the prefetcher reads for a channel, where the engine is not halted, fails or is read (R209, R215). -/
theorem exec_indexLineArrive {e line x : Nat} {s : State} {d : Descr} (bound : e < 84) (sound : s.fld F.DMA_ENG_STATUS_index_halt e = 0)
    (wanted : s.idxFor e line = some x) (held : (s.chan x).descr = some d) (st : MemStatus) :
    let q := s.vread (s.chanWho x (.indexLine e line) clsBulk) (s.chanSpace x d.phys .index) line 256 needR
    exec (.indexLineArrive e line st) s = .next
      (if st ≠ .ok then s.lineFailed e line x
       else if q.wait then q.s
       else if q.fail.isSome then q.s.lineFailed e line x
       else q.s.keepLine e ⟨s.chComp x, if d.phys then none else some (s.chanTag x), line, q.data⟩) := by
  refine checked_next.2 ⟨decide_eq_true bound, ?_⟩
  simp only [wanted, held]
  exact if_neg (by simp [sound])

/-- Outside the period of single service a line that fails halts the engine (R215). -/
theorem lineFailed_of_shared {s : State} {e : Nat} (shared : s.serialOf e = []) (line x : Nat) : s.lineFailed e line x = s.indexFail e line :=
  if_pos (by simp [shared])

/-- In the period of single service a line that fails halts its requester alone (R215). -/
theorem lineFailed_of_serial {s : State} {e x : Nat} {d : Descr} (serial : s.serialOf e ≠ []) (held : (s.chan x).descr = some d) (line : Nat) :
    s.lineFailed e line x = ((s.latchFail x line false d.phys).serialDone x).haltChan x haltIndex line (s.chan x).issued := by
  rw [State.lineFailed, if_neg (by simpa using serial), held]
  rfl

/-! ## The actions that end a halt (R216) -/

section
variable {x : Nat} {s : State} (bound : x < 1344) (who : Accessor)
include bound

/-- RESUME of a channel halted with its descriptor starts that again at its position; it halts again where the key's refusal stands, or where the
descriptor no longer passes. -/
theorem exec_dmaResume_held (halted : s.chState x = chHalted) (may : s.mayAct who x = true) {d : Descr} (held : (s.chan x).descr = some d) :
    exec (.dmaResume who x) s = .next
      (if s.keyStands x then s.haltChan x 7 (s.fld F.DMA_CH_FAIL_addr x) (s.reg .DMA_CH_POS x).toNat
       else if s.descrOk (s.chan x) d then s.startDescr x d
       else s.haltChan x haltFormat d.addr (s.reg .DMA_CH_POS x).toNat) := by
  refine checked_next.2 ⟨decide_eq_true bound, ?_⟩
  rw [if_pos ⟨halted, may⟩, held]

/-- RESUME of a channel halted with no descriptor fetches it. -/
theorem exec_dmaResume_unread (halted : s.chState x = chHalted) (may : s.mayAct who x = true) (unread : (s.chan x).descr = none) :
    exec (.dmaResume who x) s = .next (s.fetchDescr x (s.fld F.DMA_CH_HEAD_addr x) (s.chan x).headPhys) := by
  refine checked_next.2 ⟨decide_eq_true bound, ?_⟩
  rw [if_pos ⟨halted, may⟩, unread]

/-- ABORT stops a channel that is halted, runs or waits. -/
theorem exec_dmaAbort (live : s.chState x ∈ [chHalted, chRunning, chWaiting]) (may : s.mayAct who x = true) :
    exec (.dmaAbort who x) s = .next (s.abortChan x) :=
  checked_next.2 ⟨decide_eq_true bound, if_pos ⟨by simpa using live, may⟩⟩

end

/-- What stopping a channel leaves it to do at its end. -/
theorem ending_stopIssue (s : State) (x : Nat) (e : ChanEnd) : ((s.stopIssue x e).chan x).ending = some e := by
  have marked : (s.stopIssue x e).chan x = { (s.commitOwner (ownerDma x)).chan x with ending := some e } := chan_setChan_same ..
  rw [marked]

/-- A channel that is to abort discards its chain once nothing of it is outstanding. -/
theorem settleEnd_abort {s : State} {x : Nat} (ending : (s.chan x).ending = some .abort) :
    s.settleEnd x = if s.chanQuiet x then s.abortNow x else s := by
  rw [State.settleEnd, ending]

theorem abortChan_eq (s : State) (x : Nat) :
    let t := (s.setChan x { s.chan x with waitRecord := none }).stopIssue x .abort
    s.abortChan x = if t.chanQuiet x then t.abortNow x else t :=
  settleEnd_abort (ending_stopIssue ..)

theorem chState_chanIdle (s : State) (x : Nat) : (s.chanIdle x).chState x = chIdle := chState_setChState s x chIdle

theorem chan_chanIdle (s : State) (x : Nat) : (s.chanIdle x).chan x = DmaCh.init := chan_setChan_same ..

/-- Settles O37: a failing piece, a poisoned group and a failing index line halt a channel with its cause; recovery, RESUME, SKIP and ABORT end a
halt (R207, R209, R214 to R217). What a line that fails for the whole engine keeps of the channels' positions is the model's (DEDUCED, log 137). -/
theorem dmaHalts : Obligations.DmaHalts := by
  unfold Obligations.DmaHalts
  refine ⟨fun x s d bound held running resting going => ⟨fun m k cause addr write clean failed => ?piece, fun k a poisoned => ?group⟩,
    fun e line x st s d bound sound wanted held => ?line, fun e s bound halt => ?recovery, fun who x s bound halted may => ?act,
    fun who x s bound live may => ?abort, fun f x s bound barred => ?barred⟩
  case piece =>
    rw [exec_descriptorComplete bound held running resting going clean, State.runDescr, failed]
  case group => exact exec_descriptorComplete_poisoned bound held running resting going poisoned
  case line =>
    intro q
    have outcome := exec_indexLineArrive bound sound wanted held st
    refine ⟨fun failed shared => ?_, fun failed serial => ?_, fun ok here readable => ?_⟩
    · rw [outcome, if_pos failed, lineFailed_of_shared shared]
    · rw [outcome, if_pos failed, lineFailed_of_serial serial held]
    · rw [outcome, if_neg (by simp [ok]), if_neg (by simp [q, here]), if_neg (by simp [q, readable])]
  case recovery =>
    intro hit comps t
    refine checked_next.2 ⟨decide_eq_true bound, ?_⟩
    exact if_neg (by simp [halt])
  case act =>
    refine ⟨fun d held free ok => ?_, fun d held stands => ?_, exec_dmaResume_unread bound who halted may,
      checked_next.2 ⟨decide_eq_true bound, if_pos ⟨halted, may⟩⟩⟩
    · rw [exec_dmaResume_held bound who halted may held, if_neg (by simp [free]), if_pos ok]
    · rw [exec_dmaResume_held bound who halted may held, if_pos stands]
  case abort =>
    intro t
    have outcome : exec (.dmaAbort who x) s = .next (if t.chanQuiet x then t.abortNow x else t) :=
      (exec_dmaAbort bound who live may).trans (congrArg Host.Outcome.next (abortChan_eq s x))
    refine ⟨fun busy => ?_, fun quiet => ⟨_, ?_, rfl, chState_chanIdle .., chan_chanIdle ..⟩⟩
    · rw [outcome, if_neg (by simp [busy])]
    · rw [outcome, if_pos quiet]
  case barred =>
    have refuses {p : Prop} : ¬ (p ∧ s.mayAct (.fn f) x = true) := fun h => by simp [barred] at h
    exact ⟨checked_next.2 ⟨decide_eq_true bound, if_neg refuses⟩, checked_next.2 ⟨decide_eq_true bound, if_neg refuses⟩,
      checked_next.2 ⟨decide_eq_true bound, if_neg refuses⟩⟩

end Sys2Proof.Machine
end

section
/-! PROOFS of the scope: the pools of tables, the end of a walk, invalidations at a translation unit, and the dirty log. -/

namespace Sys2Proof.Machine

/-! ## The pools of tables (R225, R226) -/

section
variable {i : Nat} (bound : i < 8) {v : Word} {s : State}
include bound

/-- Enabling an entry whose partition R226 allows; that of entry 0 gets a new root table (DESIGN CHOICE, log 136). -/
theorem exec_tlxPoolWrite_enables (on : F.TLX_POOL_enable.of v = 1) (was : s.poolOn i = false) :
    let t := s.writeReg .TLX_POOL i v.toNat (2 ^ 64 - 1)
    t.poolAllowed i = true →
      exec (.tlxPoolWrite i v) s = .next (((t.setFld F.TLX_POOL_enable i 1).when (i == 0) State.newRoot).showPools) := by
  intro t allowed
  exact checked_next.2 ⟨decide_eq_true bound, (if_pos on).trans ((if_neg (by simp [was])).trans (if_pos allowed))⟩

/-- A write with the enable bit to an entry that is enabled, or whose partition R226 does not allow, stores the word alone. -/
theorem exec_tlxPoolWrite_stores (on : F.TLX_POOL_enable.of v = 1) :
    let t := s.writeReg .TLX_POOL i v.toNat (2 ^ 64 - 1)
    (s.poolOn i = true ∨ t.poolAllowed i = false) → exec (.tlxPoolWrite i v) s = .next t := by
  intro t barred
  refine checked_next.2 ⟨decide_eq_true bound, (if_pos on).trans ?_⟩
  by_cases was : s.poolOn i = true
  · exact if_pos was
  · exact (if_neg was).trans (if_neg (Bool.eq_false_iff.1 (barred.resolve_left was)))

/-- Disabling an entry other than entry 0 that holds no table frees it. -/
theorem exec_tlxPoolWrite_frees (off : F.TLX_POOL_enable.of v = 0) (was : s.poolOn i = true) (other : i ≠ 0) :
    let t := s.writeReg .TLX_POOL i v.toNat (2 ^ 64 - 1)
    (t.tables.any fun x => spansMeet x.addr 1 (t.poolBase i) 0x10000000) = false →
      exec (.tlxPoolWrite i v) s = .next ((t.setFld F.TLX_POOL_enable i 0).setFld F.TLX_POOL_free i 0) := by
  intro t empty
  have frees : ¬(!s.poolOn i || i == 0 || t.tables.any fun x => spansMeet x.addr 1 (t.poolBase i) 0x10000000) = true := by
    rw [was, empty]
    simpa using other
  exact checked_next.2 ⟨decide_eq_true bound, (if_neg (by simp [off])).trans (if_neg frees)⟩

end

/-! ## The commands of a translation unit (R230, R235, R236) -/

theorem unitOk_eq_named (u : TlbUnit) : unitOk u = u.named := by cases u <;> rfl

/-- A unit and a tag that exist are all that the commands of a unit name. -/
theorem checked_unit {u : TlbUnit} (named : u.named = true) {tag : Nat} (bound : tag < 65536) {s t : State}
    (effect : s = t) : checked (unitOk u && decide (tag < 65536)) s = .next t :=
  checked_next.2 ⟨by simp [unitOk_eq_named, named, bound], effect⟩

/-- Discarding read-ahead touches no translation unit. -/
theorem dropAhead_tlbs (s : State) (n r : Nat) (f : Ahead → Bool) : (s.dropAhead n r f).tlbs = s.tlbs := by
  unfold State.dropAhead
  exact List.foldlRecOn (motive := fun t : State => t.tlbs = s.tlbs) _ _ rfl fun _ kept _ _ => kept

/-- Of the entries of all units, dropping a unit's entries of a tag removes those alone. -/
theorem dropTag_tlbs (s : State) (u : TlbUnit) (tag : Nat) :
    (s.dropTag u tag).tlbs = s.tlbs.filter fun e => !(e.1 == u && e.2.tag == tag) := by
  cases u with
  | load n =>
    refine List.foldlRecOn (motive := fun t : State => t.tlbs = s.tlbs.filter fun e => !(e.1 == .load n && e.2.tag == tag)) _ _ rfl fun t kept r _ => ?_
    split
    · exact (dropAhead_tlbs ..).trans kept
    · exact kept
  | store | eng | half => rfl

/-! ## The dirty log (R242, R243) -/

section
variable {c : Nat} (bound : c < 64) {s : State}
include bound

/-- Enabling a log that is disabled, where its base is free far memory, with an empty filter. -/
theorem exec_dlogEnable_enables {v : Word} (on : F.TLX_DLOG_CFG_enable.of v = 1) (was : s.fld F.TLX_DLOG_CFG_enable c = 0) :
    let t := s.writeReg .TLX_DLOG_CFG c v.toNat (2 ^ 64 - 1)
    t.dlogAllowed c = true → exec (.dlogEnable c v) s = .next ((t.emptyFilter c).setFld F.TLX_DLOG_CFG_enable c 1) := by
  intro t allowed
  exact checked_next.2 ⟨decide_eq_true bound, (if_pos on).trans ((if_neg (by simp [was])).trans (if_pos allowed))⟩

theorem exec_dlogEnable_disables {v : Word} (off : F.TLX_DLOG_CFG_enable.of v = 0) :
    exec (.dlogEnable c v) s = .next ((s.writeReg .TLX_DLOG_CFG c v.toNat (2 ^ 64 - 1)).setFld F.TLX_DLOG_CFG_enable c 0) :=
  checked_next.2 ⟨decide_eq_true bound, if_neg (by simp [off])⟩

/-- A flip of an enabled log that is not flipping begins with the filters empty. -/
theorem exec_dlogFlip (idle : s.fld F.TLX_DLOG_CFG_flip_busy c = 0) (on : s.fld F.TLX_DLOG_CFG_enable c = 1) :
    exec (.dlogFlip c) s = .next ((s.emptyFilter c).setFld F.TLX_DLOG_CFG_flip_busy c 1) :=
  checked_next.2 ⟨decide_eq_true bound, if_neg (by simp [idle, on])⟩

/-- The end of a flip toggles gen. -/
theorem exec_dlogFlipDone (busy : s.fld F.TLX_DLOG_CFG_flip_busy c = 1) :
    exec (.dlogFlipDone c) s =
      .next ((s.setFld F.TLX_DLOG_CFG_gen c (1 - s.fld F.TLX_DLOG_CFG_gen c)).setFld F.TLX_DLOG_CFG_flip_busy c 0) :=
  checked_next.2 ⟨decide_eq_true bound, if_pos busy⟩

end

/-- Writing flip_busy, one bit wide, leaves gen as it was. -/
theorem gen_setFld_flip_busy (s : State) (c v : Nat) : (s.setFld F.TLX_DLOG_CFG_flip_busy c v).fld F.TLX_DLOG_CFG_gen c = s.fld F.TLX_DLOG_CFG_gen c :=
  fld_setFld_other s c v (by decide) (by decide) rfl (.inr (by decide))

theorem flip_busy_setFld (s : State) (c v : Nat) : (s.setFld F.TLX_DLOG_CFG_flip_busy c v).fld F.TLX_DLOG_CFG_flip_busy c = v % 2 :=
  fld_setFld_same s F.TLX_DLOG_CFG_flip_busy c v (by decide) (by decide)

theorem gen_setFld (s : State) (c v : Nat) : (s.setFld F.TLX_DLOG_CFG_gen c v).fld F.TLX_DLOG_CFG_gen c = v % 2 :=
  fld_setFld_same s F.TLX_DLOG_CFG_gen c v (by decide) (by decide)

/-- Writing a field changes nothing but the registers. -/
theorem setFld_with_regs (s : State) (F : Fld) (i v : Nat) (r : SMap Word) :
    ({ s.setFld F i v with regs := r } : State) = { s with regs := r } := rfl

/-- An emptied filter holds no page of its composition. -/
theorem ne_of_mem_emptyFilter {s : State} {c : Nat} : ∀ e ∈ (s.emptyFilter c).dlogFilter, e.2.1 ≠ c := by
  intro e mem
  simpa using (List.mem_filter.1 mem).2

/-- Settles O39: each write of a pool, each end of a walk, each step of an invalidation and of the dirty log by its branch (R225, R226, R230, R235, R236,
R242, R243). The root table of entry 0 is the model's (DESIGN CHOICE, log 136). -/
theorem translationRows : Obligations.TranslationRows := by
  unfold Obligations.TranslationRows
  refine ⟨fun i v s bound => ⟨exec_tlxPoolWrite_enables bound, exec_tlxPoolWrite_stores bound, exec_tlxPoolWrite_frees bound⟩,
    fun u tag va s named bound on => ?walk,
    fun u tag s named bound => ⟨fun heard => ⟨?broadcast, fun seg => ?lost⟩, fun v found => ⟨fun off => ?acksOff, fun on told clear => ?acks⟩, ?late⟩,
    fun u tag s e mem => ?dropped,
    fun c v s bound => ⟨exec_dlogEnable_enables bound, exec_dlogEnable_disables bound⟩,
    fun c s bound => ⟨fun idle on => ?flip, fun busy => ?done⟩⟩
  case walk =>
    intro h hits waiting
    have served : ¬(!s.domOn (unitIsl u) || hits.isEmpty) = true := by simp [on, waiting]
    refine ⟨fun fails => checked_unit named bound ((if_neg served).trans ?_),
      fun e leaf => checked_unit named bound ((if_neg served).trans ?_)⟩
    · rw [fails]
    · rw [leaf]
  case broadcast | lost => exact checked_unit named bound (if_pos heard)
  case acksOff =>
    refine checked_unit named bound ?_
    rw [found]
    exact if_pos (by simpa using off)
  case acks =>
    refine checked_unit named bound ?_
    rw [found]
    exact (if_neg (by simp [on])).trans (if_pos (by simp only [told, clear, Bool.not_false, Bool.and_self]))
  case late => exact fun late => checked_unit named bound (if_pos late)
  case dropped =>
    rw [dropTag_tlbs] at mem
    rintro ⟨unit, tagged⟩
    simp only [List.mem_filter, unit, tagged, beq_self_eq_true, Bool.and_self, Bool.not_true, Bool.false_eq_true, and_false] at mem
  case flip =>
    refine ⟨_, exec_dlogFlip bound idle on, ?_, flip_busy_setFld .., gen_setFld_flip_busy ..⟩
    rw [setFld_dlogFilter]
    exact ne_of_mem_emptyFilter
  case done =>
    refine ⟨_, exec_dlogFlipDone bound busy, flip_busy_setFld .., ?_, ?_⟩
    · rw [gen_setFld_flip_busy, gen_setFld]
      exact Nat.mod_eq_of_lt (by omega)
    · rw [setFld_with_regs, setFld_with_regs]

end Sys2Proof.Machine
end

section
/-! PROOFS of the scope: the rekeying of a port, the route table, and the stalls, replays and repairs of the seam. -/

namespace Sys2Proof.Machine

/-! ## Ports beside their registers -/

section
variable {k : Nat} {s : State}

theorem port_onPort_same (f : Port → Port) : (s.onPort k f).port k = f (s.port k) := port_setPort_same ..

/-- Of what is done to a port, only what it makes of that port counts. -/
theorem onPort_congr {f g : Port → Port} (same : f (s.port k) = g (s.port k)) : s.onPort k f = s.onPort k g := congrArg (s.setPort k) same

/-! ## Rekeying (R276) -/

theorem startRekey_idle (up : s.ptState k = ptUp) (idle : (s.port k).rekey = none) :
    let q := s.free 64
    s.startRekey k =
      (q.2.onPort k fun p => { p with rekey := some { priv := q.1.toNat, txNext := none, acked := false } }).sendCtl k
        { PortMsg.of 0x32 with ndata := 1, length := 128 } (rekeyData q.1.toNat) :=
  if_pos ⟨up, by rw [idle]; rfl⟩

/-- A rekey stays open until this side has derived the new phase. -/
theorem settleRekey_underived {r : Rekey} (runs : (s.port k).rekey = some r) (underived : r.txNext = none) : s.settleRekey k = s := by
  obtain ⟨priv, txNext, acked⟩ := r
  subst underived
  simp only [State.settleRekey, runs]

/-- A rekey ends once this side has both the key of the new phase and REKEY_ACK. -/
theorem settleRekey_complete {r : Rekey} {key : LinkKey} (runs : (s.port k).rekey = some r) (derived : r.txNext = some key)
    (acked : r.acked = true) :
    s.settleRekey k = ((s.setFld F.PRT_STATUS_key_phase k (1 - s.fld F.PRT_STATUS_key_phase k)).setReg .PRT_TX_CTR k 0#64).onPort k
      fun p => { p with rekey := none, txKey := some key } := by
  obtain ⟨priv, txNext, ack⟩ := r
  subst derived acked
  simp only [State.settleRekey, runs]

section
variable (bound : k < 8)
include bound

theorem exec_rekeyStart_due (due : 2 ^ 39 ≤ (s.reg .PRT_TX_CTR k).toNat) : exec (.rekeyStart k) s = .next (s.startRekey k) :=
  checked_next.2 ⟨decide_eq_true bound, if_pos due⟩

theorem exec_prtRekey : exec (.prtRekey k) s = .next (s.startRekey k) := checked_next.2 ⟨decide_eq_true bound, rfl⟩

/-- A REKEY whose signature fails. -/
theorem exec_rekey_unverified {m : PortMsg} {data : List Byte} (up : s.ptState k = ptUp)
    (bad : Config.verifySig (leBytes 2 (s.fld F.PRT_STATUS_peer_node k)) (data.take 64) ((data.drop 64).take 64) = false) :
    exec (.rekey k m data) s = .next (s.portDown k pcRekey) :=
  checked_next.2 ⟨decide_eq_true bound, (if_neg (by simp [up])).trans (if_pos (by simp [bad]))⟩

/-- A REKEY that verifies, where the new phase is not yet derived. -/
theorem exec_rekey_verified {m : PortMsg} {data : List Byte} {priv : Nat} {acked : Bool} (up : s.ptState k = ptUp)
    (good : Config.verifySig (leBytes 2 (s.fld F.PRT_STATUS_peer_node k)) (data.take 64) ((data.drop 64).take 64) = true)
    (runs : ((s.startRekey k).port k).rekey = some { priv := priv, txNext := none, acked := acked }) :
    exec (.rekey k m data) s =
      .next ((((s.startRekey k).newPhase k priv (data.take 64)).sendCtl k
        { PortMsg.of 0x33 with tag := m.tag, ndata := 1, length := 128 } (rekeyData priv)).settleRekey k) := by
  refine checked_next.2 ⟨decide_eq_true bound, (if_neg (by simp [up])).trans ((if_neg (by simp [good])).trans ?_)⟩
  simp only [runs]

/-- REKEY_ACK is noted in the rekey that runs, which it may complete. -/
theorem exec_rekeyAck {m : PortMsg} {r : Rekey} (up : s.ptState k = ptUp) (runs : (s.port k).rekey = some r) (ok : m.status = 0) :
    exec (.rekeyAck k m) s = .next ((s.onPort k fun p => { p with rekey := some { r with acked := true } }).settleRekey k) := by
  refine checked_next.2 ⟨decide_eq_true bound, (if_neg (by simp [up, ok])).trans ?_⟩
  exact congrArg (State.settleRekey · k) (onPort_congr (by rw [runs]; rfl))

end

theorem rekey_acknowledged (r : Rekey) :
    ((s.onPort k fun p => { p with rekey := some { r with acked := true } }).port k).rekey = some { r with acked := true } := by
  rw [port_onPort_same]

end

/-! ## The route table (R291) -/

/-- What an access to the route entry that PRT_RT_ADDR names does before the index advances. -/
def State.routeAccess (s : State) (w : Option Word) : State :=
  let i := s.fld F.PRT_RT_ADDR_index 0
  match w with
  | some v =>
    let e := F.PRT_RT_DATA_egress.of v
    { s with route := s.route.set 15 i (if 8 ≤ e then 15 else e), lastAccess := some { unsupported := false, value := 0#64 } }
  | none => { s with lastAccess := some { unsupported := false, value := BitVec.ofNat 64 (s.route.get i 15) } }

/-- Where autoinc is set, the index of PRT_RT_ADDR advances. -/
def State.advanceRoute (s : State) : State :=
  if s.fld F.PRT_RT_ADDR_autoinc 0 = 1 then s.setFld F.PRT_RT_ADDR_index 0 ((s.fld F.PRT_RT_ADDR_index 0 + 1) % 65536) else s

theorem routeAccess_regs (s : State) (w : Option Word) : (s.routeAccess w).regs = s.regs := by cases w <;> rfl

theorem routeAccess_fld (s : State) (w : Option Word) (G : Fld) (i : Nat) : (s.routeAccess w).fld G i = s.fld G i := by
  simp only [State.fld, State.reg, routeAccess_regs]

theorem advanceRoute_route (s : State) : s.advanceRoute.route = s.route := by unfold State.advanceRoute; split <;> rfl

theorem advanceRoute_lastAccess (s : State) : s.advanceRoute.lastAccess = s.lastAccess := by unfold State.advanceRoute; split <;> rfl

theorem advanceRoute_index (s : State) : s.advanceRoute.fld F.PRT_RT_ADDR_index 0 =
    if s.fld F.PRT_RT_ADDR_autoinc 0 = 1 then (s.fld F.PRT_RT_ADDR_index 0 + 1) % 65536 else s.fld F.PRT_RT_ADDR_index 0 := by
  unfold State.advanceRoute
  split
  · exact (fld_setFld_same s F.PRT_RT_ADDR_index 0 _ (by decide) (by decide)).trans (Nat.mod_mod ..)
  · rfl

theorem exec_prtRtDataAccess (w : Option Word) (s : State) : exec (.prtRtDataAccess w) s = .next (s.routeAccess w).advanceRoute := by
  refine checked_next.2 ⟨rfl, ?_⟩
  rw [State.advanceRoute, routeAccess_fld, routeAccess_fld]
  cases w <;> rfl

/-! ## The seam (R254, R259 to R264) -/

section
variable {seg ch : Nat} {s : State} (segment : seg < 2)
include segment

theorem exec_seamRetryWindow (limited : s.fld F.FAB_SEAM_CFG_retry_limit 0 ≠ 0) :
    exec (.seamRetryWindow seg) s =
      .next ((List.range 21).foldl
        (fun t ch => if s.fld F.FAB_SEAM_CFG_retry_limit 0 < (t.seamWindow seg ch).length then t.startSeamRepair seg ch else t) s) :=
  checked_next.2 ⟨decide_eq_true segment, if_neg limited⟩

variable (channel : ch < 21)
include channel

/-- Flits have waited too long for credits of an ON mesh segment whose stall is not yet noted (R254). -/
theorem exec_seamCreditStall {east : Bool} (live : ch < s.seamN seg) :
    let mesh := (if seg = 0 then 141 else 142) + if east then 4 else 0
    (s.dom mesh).state = .on → (s.dom mesh).trans = .none → s.stalls.contains (seg, mesh) = false → s.creditWaits seg ch mesh = true →
    exec (.seamCreditStall seg ch east) s =
      .next (((State.setFld { s with stalls := s.stalls ++ [(seg, mesh)] } F.FAB_SEAM_STATUS_credit_stall seg 1).reportDev (136 + seg) 5
          (engineCode 7 (136 + seg)) 0 ch []).askReset { step := 2, engine := none, island := mesh, hang := true }) := by
  intro mesh on resting fresh waits
  have unbarred : ¬(s.seamN seg ≤ ch ∨ (s.dom mesh).state ≠ .on ∨ (s.dom mesh).trans != .none ∨ s.stalls.contains (seg, mesh) ∨
      !s.creditWaits seg ch mesh) := by
    rw [on, resting, fresh, waits]
    simp [live]
  exact checked_next.2 ⟨by simp [segment, channel], if_neg unbarred⟩

/-- A replay on a channel in service counts as a retry; what follows goes by how the replay and those before it went. -/
theorem exec_seamFlitReplay {good : Bool} (serves : (s.flacon.seam seg).state ch = 0) (sound : (s.seamFix.get seg []).contains ch = false) :
    let key := seamKey seg ch
    let c := s.fabCount (136 + seg) false
    let t : State := { c with seamRetries := c.seamRetries.put key (c.seamWindow seg ch ++ [c.aon.dt]) }
    let n := t.seamFails.get key 0 + 1
    exec (.seamFlitReplay seg ch good) s =
      .next (if good then { t with seamFails := t.seamFails.del key }
        else if n < 8 then { t with seamFails := t.seamFails.put key n }
        else (State.fabCount { t with seamFails := t.seamFails.del key } (136 + seg) true).startSeamRepair seg ch) :=
  checked_next.2 ⟨by simp [segment, channel], if_neg (by simpa [serves] using sound)⟩

theorem exec_seamRepair (failed : (s.seamFix.get seg []).contains ch = true) :
    let rest := (s.seamFix.get seg []).filter fun c => c != ch
    let t := s.onFlacon fun f => { f with seams := splice f.seams seg [(f.seam seg).repaired ch] }
    let u : State := { t with seamFix := t.seamFix.put seg rest, seamRetries := t.seamRetries.del (seamKey seg ch),
                              seamFails := t.seamFails.del (seamKey seg ch) }
    let w := if rest.isEmpty then u.setFld F.FAB_SEAM_STATUS_repair_busy seg 0 else u
    exec (.seamRepair seg ch) s = .next (w.showSeams.reportDev (136 + seg) 6 (engineCode 7 (136 + seg)) 0 ch []) :=
  checked_next.2 ⟨by simp [segment, channel], if_neg (by simpa using failed)⟩

end

/-- Settles O45, by what each command does where the condition of its event holds (R254, R259 to R261, R263, R264, R276, R291). That a REKEY whose
signature fails takes the port DOWN at once is log 43, that REKEY and REKEY_ACK leave in frames of their own log 138, and that a stall asks for step 2
on the mesh segment that receives log 101 (each DEDUCED). -/
theorem rekeyRoutesAndSeams : Obligations.RekeyRoutesAndSeams := by
  unfold Obligations.RekeyRoutesAndSeams
  refine ⟨fun k s bound up idle => ?start,
    fun k m data s bound up => ⟨exec_rekey_unverified bound up, fun priv acked good runs => exec_rekey_verified bound up good runs⟩,
    fun k priv peer s => ?phase, fun k m s r key bound up runs ok => ⟨fun underived => ?early, fun derived => ?complete⟩, fun w s => ?route,
    fun seg ch east s segment channel live => exec_seamCreditStall segment channel live,
    fun seg ch good s segment channel serves sound => ?replay,
    fun seg s segment limited => exec_seamRetryWindow segment limited,
    fun seg ch s segment channel failed => exec_seamRepair segment channel failed⟩
  case start =>
    dsimp only
    rw [← startRekey_idle up idle]
    exact ⟨exec_rekeyStart_due bound, exec_prtRekey bound⟩
  case phase =>
    dsimp only
    rw [State.newPhase, port_onPort_same]
    exact ⟨rfl, rfl, rfl, rfl, rfl, rfl⟩
  case early => rw [exec_rekeyAck bound up runs ok, settleRekey_underived (rekey_acknowledged r) underived]
  case complete => rw [exec_rekeyAck bound up runs ok, settleRekey_complete (rekey_acknowledged r) derived rfl]
  case route =>
    refine ⟨_, exec_prtRtDataAccess w s, ?_, ?_, ?_⟩
    · rintro v rfl
      rw [advanceRoute_route]
      exact ⟨SMap.get_set_same .., fun j other => SMap.get_set_ne other ..⟩
    · rintro rfl
      exact ⟨advanceRoute_route _, advanceRoute_lastAccess _⟩
    · rw [advanceRoute_index, routeAccess_fld, routeAccess_fld]
  case replay =>
    dsimp only
    rw [exec_seamFlitReplay segment channel serves sound]
    refine ⟨fun well => congrArg _ (if_pos well), fun badly few => ?_, fun badly many => ?_⟩
    · exact congrArg _ ((if_neg (by simp [badly])).trans (if_pos few))
    · exact congrArg _ ((if_neg (by simp [badly])).trans (if_neg (Nat.not_lt.2 many)))

end Sys2Proof.Machine
end

section
/-! PROOFS of the scope: the counting of codewords, and what the acceptance of a frame does to the replay buffers of the ports. -/

namespace Sys2Proof.Machine

/-! ## The registers of a port -/

section
variable {k : Nat} (bound : k < 8)
include bound

/-- Each register of a port stands once for each of the eight. -/
theorem port_hasCopy {r : RegName} (perPort : r.row.perFn = false ∧ r.row.count = 8) (other : r ≠ .MON_TW_HIST) : r.hasCopy k = true := by
  simp [RegName.hasCopy, perPort, bound, other]

theorem prtStatus_hasCopy : RegName.hasCopy .PRT_STATUS k = true := port_hasCopy bound (by decide) (by decide)

end

/-- A counter event writes the copies of its counter and its sticky bit, and the event's own register. -/
theorem bumpEvent_keeps_reg {q : RegName} {i j : Nat} (copy : q.hasCopy j = true) (unreported : q ∉ reportRegs) {cnt sat : Fld}
    (counter : cnt.reg.hasCopy i = true) (sticky : sat.reg.hasCopy i = true) (uncounted : q ≠ cnt.reg) (unstuck : q ≠ sat.reg) (s : State)
    (isl : Nat) : (s.bumpEvent cnt (some sat) i isl).reg q j = s.reg q j := by
  have apart {F : Fld} (place : F.reg.hasCopy i = true) (other : q ≠ F.reg) (s : State) (v : Nat) : (s.setFld F i v).reg q j = s.reg q j :=
    reg_setReg_ne s (key_ne_of_ne (.inr place) copy other) _
  unfold State.bumpEvent State.bump
  dsimp only
  split
  · rw [counterEvent_keeps_reg unreported copy rfl, apart sticky unstuck, apart counter uncounted]
  · rw [apart counter uncounted]

/-- What every step of a fold keeps, the fold keeps. -/
theorem foldl_keeps {α β γ : Type} {f : β → α → β} {P : β → γ} (keeps : ∀ b a, P (f b a) = P b) (l : List α) (b : β) :
    P (l.foldl f b) = P b :=
  l.foldlRecOn f (motive := fun c => P c = P b) rfl fun c kept a _ => (keeps c a).trans kept

theorem bumpEvent_port (s : State) (cnt : Fld) (sat : Option Fld) (i isl j : Nat) : (s.bumpEvent cnt sat i isl).port j = s.port j := by
  obtain ⟨r, o, counted⟩ := bumpEvent_frame s cnt sat i isl
  rw [counted]
  rfl

/-! Counting codewords leaves the ports and their states (R291, R292). -/

theorem fecCount_port (s : State) (k : Nat) (f : Frame) (j : Nat) : (s.fecCount k f).port j = s.port j :=
  (foldl_keeps (P := fun s : State => s.port j) (fun s _ => bumpEvent_port s ..) _ _).trans
    (foldl_keeps (P := fun s : State => s.port j) (fun s _ => bumpEvent_port s ..) _ _)

theorem fecCount_status {k : Nat} (bound : k < 8) (s : State) (f : Frame) : (s.fecCount k f).reg .PRT_STATUS k = s.reg .PRT_STATUS k := by
  have keeps {cnt sat : Fld} (counter : cnt.reg = .PRT_FEC_CNT) (sticky : sat.reg = .PRT_ERR_STK) (s : State) (_ : Nat) :
      (s.bumpEvent cnt (some sat) k (120 + k)).reg .PRT_STATUS k = s.reg .PRT_STATUS k :=
    bumpEvent_keeps_reg (prtStatus_hasCopy bound) (by decide) (counter ▸ port_hasCopy bound (by decide) (by decide))
      (sticky ▸ port_hasCopy bound (by decide) (by decide)) (by simp [counter]) (by simp [sticky]) s _
  exact (foldl_keeps (P := fun s : State => s.reg .PRT_STATUS k) (keeps rfl rfl) _ _).trans
    (foldl_keeps (P := fun s : State => s.reg .PRT_STATUS k) (keeps rfl rfl) _ _)

theorem fecCount_fld {k : Nat} (bound : k < 8) {F : Fld} (row : F.reg = .PRT_STATUS) (s : State) (f : Frame) :
    (s.fecCount k f).fld F k = s.fld F k := by
  rw [State.fld, State.fld, row, fecCount_status bound]

/-! ## Replay buffers (R273, R274) -/

/-- The frames that port `k` keeps for replay. -/
def State.replayOf (s : State) (k : Nat) : List Sent := (s.port k).replay

@[simp] theorem setReg_replayOf (s : State) (r : RegName) (i : Nat) (w : Word) (k : Nat) : (s.setReg r i w).replayOf k = s.replayOf k := rfl

@[simp] theorem setFld_replayOf (s : State) (F : Fld) (i v k : Nat) : (s.setFld F i v).replayOf k = s.replayOf k := rfl

theorem onPort_replayOf {f : Port → Port} (keeps : ∀ p, (f p).replay = p.replay) (s : State) (j k : Nat) :
    (s.onPort j f).replayOf k = s.replayOf k := by
  by_cases same : k = j
  · subst same
    rw [State.replayOf, port_onPort_same, keeps]
    rfl
  · rw [State.replayOf, State.onPort, port_setPort_ne s same]
    rfl

theorem transitDrop_replayOf (s : State) (j n k : Nat) : (s.transitDrop j n).replayOf k = s.replayOf k :=
  foldl_keeps (P := fun s : State => s.replayOf k) (fun s _ => congrArg Port.replay (bumpEvent_port s ..)) _ _

/-- A message for another device goes to another port's transit, or is dropped. -/
theorem forward_replayOf (s : State) (j : Nat) (gs : List Segment) (k : Nat) : (s.forward j gs).replayOf k = s.replayOf k := by
  unfold State.forward
  split
  · rfl
  split
  · rfl
  dsimp only
  split
  · exact onPort_replayOf (fun _ => by rfl) ..
  · exact transitDrop_replayOf ..

theorem delaySample_replayOf (s : State) (j : Nat) (d : Int) (k : Nat) : (s.delaySample j d).replayOf k = s.replayOf k := by
  unfold State.delaySample
  dsimp only
  rw [setFld_replayOf, setFld_replayOf, setFld_replayOf, setReg_replayOf]
  exact onPort_replayOf (fun _ => by rfl) ..

/-! The acceptance of a frame in two parts: what every type does, and what a heartbeat does besides. -/

/-- What an accepted frame of any type does: the expected counter advances, the ack releases, segments for others pass on (R272 to R274, R276, R287). -/
def State.takeFrame (s : State) (k : Nat) (f : Frame) : State :=
  let advanced (p : Port) : Port :=
    if f.phase = p.phase then { p with expect := p.expect + 1, old := none, rxOld := none } else { p with old := p.old.map (· + 1) }
  let s := s.onPort k fun p =>
    { advanced p with replay := ackLeaves (s.fld F.PRT_STATUS_key_phase k) f.ack (advanced p).replay, asked := none }
  (frameGroups f.segs).foldl (fun s g => s.forward k g) (s.bump F.MON_ACT_count (120 + k) 1)

/-- What an accepted heartbeat does besides: it is heard, brings credits, and is a delay sample where no replay came before it (R275, R304). -/
def State.hearBeat (s : State) (k : Nat) (f : Frame) (replayed : Bool) : State :=
  let s := s.onPort k fun p => { p with heardAt := s.aon.dt }
  let s := ((f.segs.flatMap segMsgs).find? fun m => m.op == 0x30).elim s fun m => s.onPort k fun p => { p with credits := creditsOf m.aux }
  if replayed || s.ptState k != ptUp then s else s.delaySample k ((s.dtOf (120 + k) : Int) - f.dt)

theorem acceptFrame_data {f : Frame} (data : f.ftype = 1) (s : State) (k : Nat) : s.acceptFrame k f = s.takeFrame k f :=
  (if_neg (by simp [data])).trans (if_neg (by simp [data]))

theorem acceptFrame_heartbeat {f : Frame} (beat : f.ftype = 2) (s : State) (k : Nat) :
    s.acceptFrame k f = (s.takeFrame k f).hearBeat k f (s.port k).asked.isSome := if_pos beat

theorem takeFrame_replayOf (s : State) (k : Nat) (f : Frame) :
    (s.takeFrame k f).replayOf k = ackLeaves (s.fld F.PRT_STATUS_key_phase k) f.ack (s.replayOf k) := by
  unfold State.takeFrame
  dsimp only
  rw [foldl_keeps (P := fun s : State => s.replayOf k) (fun s g => forward_replayOf s k g k), State.bump, setFld_replayOf, State.replayOf,
    port_onPort_same]
  dsimp only
  split <;> rfl

theorem hearBeat_replayOf (s : State) (k : Nat) (f : Frame) (replayed : Bool) : (s.hearBeat k f replayed).replayOf k = s.replayOf k := by
  have heard (t : State) : (t.onPort k fun p => { p with heardAt := t.aon.dt }).replayOf k = t.replayOf k := onPort_replayOf (fun _ => by rfl) ..
  have credited (t : State) (m : Option PortMsg) :
      (m.elim t fun m => t.onPort k fun p => { p with credits := creditsOf m.aux }).replayOf k = t.replayOf k := by
    cases m with
    | none => rfl
    | some m =>
      dsimp only [Option.elim_some]
      exact onPort_replayOf (fun _ => by rfl) ..
  unfold State.hearBeat
  dsimp only
  split
  · rw [credited, heard]
  · rw [delaySample_replayOf, credited, heard]

/-- An accepted DATA frame or heartbeat leaves of the replay buffer what its ack leaves; what else it does touches no replay buffer. -/
theorem acceptFrame_replayOf {f : Frame} (kind : f.ftype = 1 ∨ f.ftype = 2) (s : State) (k : Nat) :
    (s.acceptFrame k f).replayOf k = ackLeaves (s.fld F.PRT_STATUS_key_phase k) f.ack (s.replayOf k) := by
  rcases kind with data | beat
  · rw [acceptFrame_data data, takeFrame_replayOf]
  · rw [acceptFrame_heartbeat beat, hearBeat_replayOf, takeFrame_replayOf]

/-- Where every frame kept is of the key phase that the port sends under, only its counter counts (R274). -/
theorem ackLeaves_of_phase {phase : Nat} {fs : List Sent} (current : (fs.all fun g => g.frame.phase == phase) = true) (ack : Nat) :
    ackLeaves phase ack fs = fs.filter fun g => decide ((g.frame.ctr + 2 ^ 32 - ack % 2 ^ 32) % 2 ^ 32 < 2 ^ 31) := by
  have own : ∀ g ∈ fs, (g.frame.phase == phase) = true := List.all_eq_true.1 current
  refine (if_neg fun theirs => ?_).trans (List.filter_congr fun g mem => ?_)
  · obtain ⟨g, mem, other⟩ := List.any_eq_true.1 theirs
    simp [bne, own g mem] at other
  · rw [own g mem, Bool.true_and]

/-- A whole and well-formed frame with the counter that its key phase expects and a tag that verifies is accepted (R272). -/
theorem exec_frameReceive_accepted {k : Nat} {f : Frame} {s : State} (bound : k < 8) (session : s.sessionOn k = true)
    (on : s.domOn (120 + k) = true) (kind : f.ftype ≠ 4) (whole : f.uncorrected = 0) (formed : frameFormed f = true)
    (expected : (s.port k).expected f.phase = some f.ctr) (verifies : f.tagOk = true) :
    exec (.frameReceive k f) s = .next ((s.fecCount k f).acceptFrame k f) := by
  refine checked_next.2 ⟨decide_eq_true bound, (if_neg (by simp [session, on])).trans ?_⟩
  refine (if_neg (by simp [whole, formed])).trans ((if_neg kind).trans ?_)
  rw [fecCount_port, expected]
  exact (if_neg (Nat.lt_irrefl _)).trans ((if_neg (by simp [verifies])).trans (if_neg (by simp)))

/-- Settles O43, by what the acceptance of the frame leaves in the replay buffer (R274). Its premise on the key phase leaves out the buffers of a rekey,
whose frames of the phase before are told apart by log 139 (DEDUCED). -/
theorem acksRelease : Obligations.AcksRelease := by
  unfold Obligations.AcksRelease
  intro k f s bound session on kind whole formed expected verifies current
  have notTrain : f.ftype ≠ 4 := by omega
  refine ⟨_, exec_frameReceive_accepted bound session on notTrain whole formed expected verifies, ?_⟩
  have phase : (s.fecCount k f).fld F.PRT_STATUS_key_phase k = s.fld F.PRT_STATUS_key_phase k := fecCount_fld bound rfl s f
  have buffer : (s.fecCount k f).replayOf k = s.replayOf k := congrArg Port.replay (fecCount_port ..)
  calc ((s.fecCount k f).acceptFrame k f).replayOf k
    _ = ackLeaves (s.fld F.PRT_STATUS_key_phase k) f.ack (s.replayOf k) := by rw [acceptFrame_replayOf kind, phase, buffer]
    _ = _ := ackLeaves_of_phase current f.ack

end Sys2Proof.Machine
end

section
/-! PROOFS of the scope: the bring-up of a port. -/

namespace Sys2Proof.Machine

/-! ## The state of a port (R291) -/

theorem ptState_setPtState (s : State) (k st : Nat) : (s.setPtState k st).ptState k = st % 16 :=
  fld_setFld_same s F.PRT_STATUS_state k st (by decide) (by decide)

theorem ptState_onPort (s : State) (j : Nat) (f : Port → Port) (k : Nat) : (s.onPort j f).ptState k = s.ptState k := rfl

theorem ptState_portOff (s : State) (k : Nat) : (s.portOff k).ptState k = ptOff := by
  unfold State.portOff
  dsimp only
  rw [ptState_onPort, ptState_setPtState]
  rfl

theorem step_portOff (s : State) (k : Nat) : ((s.portOff k).port k).step = 0 := by
  unfold State.portOff
  dsimp only
  rw [port_onPort_same]

theorem ptState_setReg {k : Nat} (bound : k < 8) {r : RegName} (perPort : r.hasCopy k = true) (other : r ≠ .PRT_STATUS) (s : State) (w : Word) :
    (s.setReg r k w).ptState k = s.ptState k :=
  congrArg (fun w : Word => bits w.toNat F.PRT_STATUS_state.hi F.PRT_STATUS_state.lo)
    (reg_setReg_ne s (key_ne (prtStatus_hasCopy bound) perPort fun same => other (Prod.ext_iff.1 same).1.symm) w)

theorem ptState_portUpNow {k : Nat} (bound : k < 8) (s : State) : (s.portUpNow k).ptState k = ptUp := by
  unfold State.portUpNow
  dsimp only
  rw [ptState_onPort, ptState_setReg bound (port_hasCopy bound (by decide) (by decide)) (by decide),
    ptState_setReg bound (port_hasCopy bound (by decide) (by decide)) (by decide), ptState_setPtState]
  rfl

/-! ## The commands of bring-up (R277 to R279, R291) -/

section
variable {k : Nat} {s : State} (bound : k < 8)
include bound

theorem exec_portEnable {v : Word} (on : F.PRT_CFG_enable.of v = 1) :
    let t := (s.writePrtCfg k v).setFld F.PRT_CFG_enable k 1
    exec (.portEnable k v) s = .next (if s.ptState k = ptOff ∨ s.ptState k = ptRefused then t.startBringUp k else t) :=
  checked_next.2 ⟨decide_eq_true bound, if_neg (by simp [on])⟩

theorem exec_portDisable {v : Word} (off : F.PRT_CFG_enable.of v = 0) :
    let t := (s.writePrtCfg k v).setFld F.PRT_CFG_enable k 0
    exec (.portDisable k v) s = .next (if t.ptState k = ptUp then t.startAway k 2 else t.portOff k) :=
  checked_next.2 ⟨decide_eq_true bound, if_neg (by simp [off])⟩

/-- A DARK enabled port whose check of the feed is due (R277). -/
theorem exec_feedRecheck_due {wl : Nat} (dark : s.ptState k = ptDark) (enabled : s.fld F.PRT_CFG_enable k = 1)
    (due : s.aon.dt = (s.port k).startAt ∨ (s.port k).startAt + us 1000 ≤ s.aon.dt) :
    let t := (s.setFld F.PRT_LOS_STATUS_feed_wl k wl).setFld F.PRT_LOS_STATUS_feed_los k (if wl % 256 = 255 then 1 else 0)
    let u := t.onPort k fun p => { p with step := 1, startAt := t.aon.dt }
    exec (.feedRecheck k wl) s = .next (if wl % 256 = 255 then u else u.setPtState k ptSearch) :=
  checked_next.2 ⟨decide_eq_true bound, if_neg (by
    rintro (awake | disabled | ⟨notNow, early⟩)
    · exact awake dark
    · omega
    · omega)⟩

/-- Signal reaches a port that looks for it, or one that listens. -/
theorem exec_linkSignalDetect
    (awaits : (s.ptState k = ptSearch ∧ (s.port k).step = 2) ∨
      (s.ptState k = ptGone ∧ s.domOn (120 + k) = true ∧ s.fld F.PRT_LOS_STATUS_feed_los k = 0)) :
    let t := (s.setFld F.PRT_LOS_STATUS_los k 0).setFld F.PRT_LOS_STATUS_rx_lane k 0
    let u := t.setPtState k ptTrain
    exec (.linkSignalDetect k) s = .next (u.onPort k fun p => { p with step := 3, sigAt := u.aon.dt }) := by
  intro t u
  have clock : u.aon = t.aon := setFld_aon ..
  rw [clock]
  exact checked_next.2 ⟨decide_eq_true bound, if_pos awaits⟩

theorem exec_bringupStepTimeout (signalled : 3 ≤ (s.port k).step) (passed : (s.port k).sigAt + stepBound (s.port k).step ≤ s.aon.dt) :
    exec (.bringupStepTimeout k) s = .next (s.portDown k pcStep) :=
  checked_next.2 ⟨decide_eq_true bound, if_pos ⟨signalled, passed⟩⟩

theorem exec_retrainBackoff {t : Nat} (armed : (s.port k).retryAt = some t) (down : s.ptState k = ptDown)
    (auto : s.fld F.PRT_CFG_auto_retrain k = 1) (due : t ≤ s.aon.dt) : exec (.retrainBackoff k) s = .next (s.searchAgain k) := by
  refine checked_next.2 ⟨decide_eq_true bound, ?_⟩
  rw [armed]
  exact if_pos ⟨down, auto, due⟩

theorem exec_prtRetrain (running : s.ptState k ≠ ptOff) :
    exec (.prtRetrain k) s = .next ((if s.sessionOn k then s.lossSteps k else s).searchAgain k) :=
  checked_next.2 ⟨decide_eq_true bound, if_neg running⟩

end

/-! ## The end of a step of bring-up (R277, R278) -/

/-- What follows step `n` of port `k`'s bring-up where it ends well, having found `b`. -/
def State.stepDone (s : State) (k : Nat) (b : BringUp) (n : Nat) : State :=
  match n with
  | 1 => s.onPort k fun p => { p with step := 2 }
  | 3 => s.startTraining k
  | 4 => s.lanesTrained k b
  | 5 => (s.onPort k fun p => { p with step := 6 }).setPtState k ptAuth
  | 6 => s.authenticated k b
  | _ => s.portUpNow k

section
variable {k n : Nat} {b : BringUp} {s : State} (bound : k < 8) (lit : s.ptState k ≠ ptDark) (step : (s.port k).step = n) (runs : n ≠ 0)
  (past : n ≠ 2)
include bound lit step runs past

/-- A step that runs ends well; step 1 does so only once the port's domain is ON. -/
theorem exec_bringupStepDone_well (well : b.ok = true) (powered : n = 1 → s.domOn (120 + k) = true) :
    exec (.bringupStepDone k b) s = .next (s.stepDone k b n) := by
  subst step
  refine checked_next.2 ⟨decide_eq_true bound, (if_neg (by simp [lit, runs, past])).trans ?_⟩
  exact (if_neg (by simpa [well] using powered)).trans (if_neg (by simp [well]))

/-- A step that runs ends badly, with AUTH or STEP_TIMEOUT for its cause (DEDUCED, log 42). -/
theorem exec_bringupStepDone_badly (badly : b.ok = false) :
    exec (.bringupStepDone k b) s = .next (s.portDown k (if n = 6 then pcAuth else pcStep)) := by
  subst step
  refine checked_next.2 ⟨decide_eq_true bound, (if_neg (by simp [lit, runs, past])).trans ?_⟩
  exact (if_neg (by simp [badly])).trans (if_pos (by simp [badly]))

end

/-- Settles O40, by what each command does where the condition of its event holds (R267, R277 to R279, R291). The causes of a step that ends badly,
AUTH at step 6 and STEP_TIMEOUT at the others, are log 42 (DEDUCED), and the layout of the TRAIN frame after step 3 is log 41 (DESIGN CHOICE). -/
theorem portBringUp : Obligations.PortBringUp := by
  unfold Obligations.PortBringUp
  refine ⟨fun k v s bound on => exec_portEnable bound on, fun k v s bound off => ?disable,
    fun k wl s bound dark enabled due => exec_feedRecheck_due bound dark enabled due, fun k s bound awaits => exec_linkSignalDetect bound awaits,
    fun k b s bound lit => ⟨fun well => ?well, fun badly runs past => exec_bringupStepDone_badly bound lit rfl runs past badly⟩,
    fun k s bound signalled passed => exec_bringupStepTimeout bound signalled passed,
    fun k t s bound armed down auto due => exec_retrainBackoff bound armed down auto due, fun k s bound running => exec_prtRetrain bound running⟩
  case disable =>
    have disabled := exec_portDisable (s := s) bound off
    exact ⟨fun up => disabled.trans (congrArg _ (if_pos up)),
      fun notUp => ⟨_, disabled.trans (congrArg _ (if_neg notUp)), rfl, ptState_portOff .., step_portOff ..⟩⟩
  case well =>
    have done {n : Nat} (step : (s.port k).step = n) (runs : n ≠ 0 ∧ n ≠ 2) (powered : n = 1 → s.domOn (120 + k) = true) :
        exec (.bringupStepDone k b) s = .next (s.stepDone k b n) :=
      exec_bringupStepDone_well bound lit step runs.1 runs.2 well powered
    exact ⟨fun one on => done one (by decide) fun _ => on, fun three => done three (by decide) (by simp),
      fun four => done four (by decide) (by simp), fun five => done five (by decide) (by simp),
      fun six => done six (by decide) (by simp), fun seven => ⟨done seven (by decide) (by simp), ptState_portUpNow bound s⟩⟩

end Sys2Proof.Machine
end

section
/-! PROOFS of the scope: what takes a port down, and the going-away sequence. -/

namespace Sys2Proof.Machine

/-! ## The entry into DOWN (R280, R281) -/

theorem portDown_resting {s : State} {k : Nat} (resting : s.ptState k = ptOff ∨ s.ptState k = ptDown) (cause : Nat) : s.portDown k cause = s :=
  if_pos resting

theorem portDown_running {s : State} {k : Nat} (on : s.ptState k ≠ ptOff) (notDown : s.ptState k ≠ ptDown) (cause : Nat) :
    let a := ((s.setPtState k ptDown).setFld F.PRT_STATUS_cause k cause).bump F.PRT_STATUS_downs k 1
    let b := (a.lossSteps k).onPort k fun p => { p with step := 0 }
    s.portDown k cause = (((b.portEvent k cause).reportDev (120 + k) 8 (engineCode 4 k) 0 cause []).armRetrain k) :=
  if_neg (not_or.2 ⟨on, notDown⟩)

/-- What PRT_LOS_STATUS notes of a port's light stands apart from its state. -/
theorem ptState_setFld_los {k : Nat} (bound : k < 8) {F : Fld} (row : F.reg = .PRT_LOS_STATUS) (s : State) (v : Nat) :
    (s.setFld F k v).ptState k = s.ptState k :=
  ptState_setReg bound (row ▸ port_hasCopy bound (by decide) (by decide)) (by simp [row]) s _

theorem lanesLive_of_up {s : State} {k : Nat} (up : s.ptState k = ptUp) : s.lanesLive k = true := by
  simp [State.lanesLive, up]

/-! ## What takes a port down (R266, R267, R276, R280) -/

section
variable {k : Nat} {s : State} (bound : k < 8)
include bound

section
variable {w : Nat} (wave : w < 8)
include wave

/-- A wavelength fails and another is left. -/
theorem exec_feedWavelengthFail_lit :
    let t := s.setFeed k (s.fld F.PRT_LOS_STATUS_feed_wl k ||| 2 ^ w)
    t.fld F.PRT_LOS_STATUS_feed_los k = 0 → exec (.feedWavelengthFail k w) s = .next (t.lanesChanged k true pcLanes) :=
  fun lit => checked_next.2 ⟨by simp [bound, wave], if_neg (by simp [lit])⟩

/-- The last wavelength fails under a port that does not run. -/
theorem exec_feedWavelengthFail_resting :
    let t := s.setFeed k (s.fld F.PRT_LOS_STATUS_feed_wl k ||| 2 ^ w)
    t.fld F.PRT_LOS_STATUS_feed_los k = 1 → (t.ptState k = ptOff ∨ t.ptState k = ptRefused) → exec (.feedWavelengthFail k w) s = .next t :=
  fun lost resting => checked_next.2 ⟨by simp [bound, wave], (if_pos lost).trans (if_pos resting)⟩

/-- The last wavelength fails under a port that runs: it is DARK. -/
theorem exec_feedWavelengthFail_dark :
    let t := s.setFeed k (s.fld F.PRT_LOS_STATUS_feed_wl k ||| 2 ^ w)
    t.fld F.PRT_LOS_STATUS_feed_los k = 1 → t.ptState k ≠ ptOff → t.ptState k ≠ ptRefused →
      let u := (t.when (t.ptState k == ptUp) fun t => t.onPort k fun p => { p with downAt := t.aon.dt }).setPtState k ptDark
      exec (.feedWavelengthFail k w) s = .next (u.onPort k fun p => { p with step := 1, startAt := u.aon.dt, retryAt := none }) := by
  intro t lost on accepted u
  have clock : u.aon = (t.when (t.ptState k == ptUp) fun t => t.onPort k fun p => { p with downAt := t.aon.dt }).aon := setFld_aon ..
  rw [clock]
  exact checked_next.2 ⟨by simp [bound, wave], (if_pos lost).trans (if_neg (not_or.2 ⟨on, accepted⟩))⟩

end

theorem exec_laneFail (tx : Bool) (lanes : Nat) :
    let t := s.onPort k fun p =>
      if tx then { p with txBad := (p.txBad ||| lanes) % 2 ^ 32 } else { p with rxBad := (p.rxBad ||| lanes) % 2 ^ 32 }
    exec (.laneFail k tx lanes) s = .next (t.lanesChanged k tx pcLanes) :=
  checked_next.2 ⟨decide_eq_true bound, rfl⟩

theorem exec_prtDown : exec (.prtDown k) s = .next (s.portDown k pcOperator) := checked_next.2 ⟨decide_eq_true bound, rfl⟩

section
variable (up : s.ptState k = ptUp)
include up

/-- An UP port without the lanes that have lost their signal is still UP when it is judged. -/
theorem ptState_laneless (lanes : Nat) : (s.setFld F.PRT_LOS_STATUS_rx_lane k lanes).ptState k = ptUp := (ptState_setFld_los bound rfl ..).trans up

/-- It runs on where R267 lets it. -/
theorem exec_lossOfSignal_runs {lanes : Nat} :
    let t := s.setFld F.PRT_LOS_STATUS_rx_lane k (s.fld F.PRT_LOS_STATUS_rx_lane k ||| lanes)
    (t.judgeLanes k false).2 = true → exec (.lossOfSignal k lanes) s = .next (t.judgeLanes k false).1 :=
  fun runs => checked_next.2 ⟨decide_eq_true bound, (if_pos runs).trans (if_pos (lanesLive_of_up (ptState_laneless bound up _)))⟩

/-- Else it goes DOWN with cause LOS. -/
theorem exec_lossOfSignal_fails {lanes : Nat} :
    let t := s.setFld F.PRT_LOS_STATUS_rx_lane k (s.fld F.PRT_LOS_STATUS_rx_lane k ||| lanes)
    (t.judgeLanes k false).2 = false → exec (.lossOfSignal k lanes) s =
      .next (((t.setFld F.PRT_LOS_STATUS_los k 1).setFld F.PRT_LOS_STATUS_los_stk k 1).portDown k pcLos) := by
  intro t fails
  have stillUp : t.ptState k = ptUp := ptState_laneless bound up _
  refine checked_next.2 ⟨decide_eq_true bound, (if_neg (Bool.not_eq_true _ ▸ fails)).trans ((if_pos (lanesLive_of_up stillUp)).trans ?_)⟩
  exact congrArg (State.portDown · k pcLos) (if_pos (beq_iff_eq.2 stillUp))

theorem exec_heartbeatTimeout (signalled : s.fld F.PRT_LOS_STATUS_los k = 0) (silent : (s.port k).heardAt + us 16 ≤ s.aon.dt) :
    exec (.heartbeatTimeout k) s = .next (s.portDown k pcHeartbeat) :=
  checked_next.2 ⟨decide_eq_true bound, if_pos ⟨up, signalled, silent⟩⟩

theorem exec_rekeyDeadline (passed : 2 ^ 40 - 2 ^ 20 ≤ (s.reg .PRT_TX_CTR k).toNat ∨ 2 ^ 40 - 2 ^ 20 ≤ (s.port k).expect) :
    exec (.rekeyDeadline k) s = .next (s.portDown k pcRekey) :=
  checked_next.2 ⟨decide_eq_true bound, if_pos ⟨up, passed⟩⟩

/-! ## Going away (R289) -/

/-- The GOING_AWAY frame leaves once nothing is owed either way, or after 50 µs. -/
theorem exec_goingAwaySend_leaves (leaving : (s.port k).away = 1)
    (free : (s.remoteBusy k = false ∧ (s.port k).waiting = [] ∧ s.tx.get k [] = []) ∨ (s.port k).awayAt + us 50 ≤ s.aon.dt) :
    let t := s.absentOnPort k
    let u := t.sendFrame k 3 (msgSegs (t.fld F.PRT_STATUS_peer_node k) [{ msg := t.awayMessage k, data := [], cls := 0 }])
    exec (.goingAwaySend k) s = .next (u.onPort k fun p => { p with away := 2, awayAt := u.aon.dt }) := by
  have due : ((s.remoteBusy k || !(s.port k).waiting.isEmpty || !(s.tx.get k []).isEmpty) && decide (s.aon.dt < (s.port k).awayAt + us 50)) =
      false := by
    rcases free with ⟨idle, served, sent⟩ | late
    · simp [idle, served, sent]
    · simp [Nat.not_lt.2 late]
  refine checked_next.2 ⟨decide_eq_true bound, (if_neg (by simp [up])).trans ?_⟩
  rw [leaving]
  exact if_neg (Bool.not_eq_true _ ▸ due)

/-- After the frame the port is GONE, or OFF where it has been disabled. -/
theorem exec_goingAwaySend_ends (left : (s.port k).away = 2) :
    let t := (s.heartbeat k).portGone k
    exec (.goingAwaySend k) s = .next (if t.fld F.PRT_CFG_enable k = 0 then t.portOff k else t) := by
  refine checked_next.2 ⟨decide_eq_true bound, (if_neg (by simp [up])).trans ?_⟩
  rw [left]
  rfl

end

end

/-- Settles O41, by what each command does where the condition of its event holds and by what the entry into DOWN does (R266, R267, R276, R280, R281,
R289, R291). The layout of the GOING_AWAY frame is log 41 (DESIGN CHOICE). -/
theorem portFailures : Obligations.PortFailures := by
  unfold Obligations.PortFailures
  refine ⟨fun k w s bound wave => ⟨exec_feedWavelengthFail_lit bound wave, exec_feedWavelengthFail_resting bound wave,
      exec_feedWavelengthFail_dark bound wave⟩,
    fun k lanes tx s bound => exec_laneFail bound tx lanes,
    fun k lanes s bound up => ⟨exec_lossOfSignal_runs bound up, exec_lossOfSignal_fails bound up⟩,
    fun k s bound up => ⟨exec_heartbeatTimeout bound up, exec_rekeyDeadline bound up⟩, fun k s bound => exec_prtDown bound,
    fun k cause s => ⟨fun resting => portDown_resting resting cause, fun on notDown => portDown_running on notDown cause⟩,
    fun k s bound up => ⟨exec_goingAwaySend_leaves bound up, exec_goingAwaySend_ends bound up⟩⟩

end Sys2Proof.Machine
end

section
/-! PROOFS of the scope: a step of the block, device time with its reference, its replicas and its pulses, and trace records. -/

namespace Sys2Proof.Machine

/-- Settles O1: the empty queue is the case in which one AON cycle passes, which is the model's choice (DESIGN CHOICE, log 9). -/
theorem stepTakesFront : Obligations.StepTakesFront := by
  unfold Obligations.StepTakesFront
  refine ⟨fun c rest s => rfl, fun s waitsNone => ?_⟩
  rw [step, waitsNone]
  rfl

/-- Settles O48: a record of a composition in confidential mode is decided before a stamp is taken (R313). -/
theorem confidentialLeavesNoTrace : Obligations.ConfidentialLeavesNoTrace := by
  unfold Obligations.ConfidentialLeavesNoTrace
  intro s isl kind comp status layer operator engine ctx arg confidential
  exact if_pos confidential

/-! ## Registers under a field that is written -/

theorem reg_setFld_elsewhere (s : State) {F : Fld} {q : RegName} {i j : Nat} (v : Nat) (h : q.key j ≠ F.reg.key i) :
    (s.setFld F i v).reg q j = s.reg q j := reg_setReg_ne s h _

theorem fld_setReg_elsewhere (s : State) {r : RegName} {G : Fld} {i j : Nat} (h : G.reg.key j ≠ r.key i) (w : Word) :
    (s.setReg r i w).fld G j = s.fld G j := congrArg (fun w : Word => bits w.toNat G.hi G.lo) (reg_setReg_ne s h w)

/-- A field of one bit that has been set reads as 1. -/
theorem fld_setFld_one (s : State) {F : Fld} (i : Nat) (bit : F.lo = F.hi) (t : F.hi < 64) : (s.setFld F i 1).fld F i = 1 := by
  simp [fld_setFld_same s F i 1 (by omega) t, bit]

/-- The fields share a register and no bit. -/
def Fld.apart (F G : Fld) : Bool := decide (F.lo ≤ F.hi + 1 ∧ F.hi < 64 ∧ G.reg = F.reg ∧ (G.hi < F.lo ∨ F.hi < G.lo))

theorem fld_setFld_apart (s : State) {F G : Fld} (apart : F.apart G = true) (i v : Nat) : (s.setFld F i v).fld G i = s.fld G i := by
  obtain ⟨order, width, row, disjoint⟩ := of_decide_eq_true apart
  exact fld_setFld_other s i v order width row disjoint

/-! Registers where something that is no register changes. -/

theorem fld_withAon (s : State) (a : Aon) (G : Fld) (j : Nat) : ({ s with aon := a } : State).fld G j = s.fld G j := rfl

theorem fld_withSilLoss (s : State) (m : SMap Nat) (G : Fld) (j : Nat) : ({ s with silLoss := m } : State).fld G j = s.fld G j := rfl

theorem reg_withSilLoss (s : State) (m : SMap Nat) (q : RegName) (j : Nat) : ({ s with silLoss := m } : State).reg q j = s.reg q j := rfl

/-! ## The pulse that comes in (R297) -/

/-- The distance of a PPS edge from the one before is out of bounds (R297). -/
def State.ppsAmiss (s : State) : Bool :=
  let d := s.aon.dt - (s.reg .TIM_PPS_LATCH 0).toNat
  s.aon.ppsEver && (decide (d < 1998000000) || decide (2002000000 < d))

theorem ppsAmiss_iff (s : State) : s.ppsAmiss = true ↔ s.aon.ppsEver = true ∧
    (s.aon.dt - (s.reg .TIM_PPS_LATCH 0).toNat < 1998000000 ∨ 2002000000 < s.aon.dt - (s.reg .TIM_PPS_LATCH 0).toNat) := by
  simp [State.ppsAmiss]

/-- The state in which a PPS edge has been latched (R297). -/
def State.ppsLatched (s : State) : State :=
  (({ s with aon := { s.aon with ppsEver := true } } : State).setReg .TIM_PPS_LATCH 0 (BitVec.ofNat 64 s.aon.dt)).setFld F.TIM_STATUS_pps_seen 0 1

section
variable {s : State}

section
variable (enabled : s.fld F.TIM_CFG_pps_in_en 0 = 1) (powered : s.aon.powered = true)
include enabled powered

theorem exec_ppsInEdge_well (well : s.ppsAmiss = false) : exec .ppsInEdge s = .next s.ppsLatched :=
  checked_next.2 ⟨rfl, (if_neg (by simp [enabled, powered])).trans (if_neg (Bool.not_eq_true _ ▸ well))⟩

theorem exec_ppsInEdge_amiss (amiss : s.ppsAmiss = true) :
    exec .ppsInEdge s = .next (s.ppsLatched.setFld F.TIM_STATUS_pps_err_stk 0 1) :=
  checked_next.2 ⟨rfl, (if_neg (by simp [enabled, powered])).trans (if_pos amiss)⟩

end

theorem latch_ppsLatched (small : s.aon.dt < 2 ^ 64) : (s.ppsLatched.reg .TIM_PPS_LATCH 0).toNat = s.aon.dt := by
  rw [State.ppsLatched, reg_setFld_elsewhere _ _ (by decide), reg_setReg_same, BitVec.toNat_ofNat, Nat.mod_eq_of_lt small]

theorem seen_ppsLatched (s : State) : s.ppsLatched.fld F.TIM_STATUS_pps_seen 0 = 1 := fld_setFld_one _ _ rfl (by decide)

theorem err_ppsLatched (s : State) : s.ppsLatched.fld F.TIM_STATUS_pps_err_stk 0 = s.fld F.TIM_STATUS_pps_err_stk 0 :=
  (fld_setFld_apart _ (by decide) ..).trans (fld_setReg_elsewhere _ (by decide) _)

theorem exec_ppsInTimeout (silent : 2200000000 ≤ s.aon.dt - (s.reg .TIM_PPS_LATCH 0).toNat) :
    exec .ppsInTimeout s = .next (s.setFld F.TIM_STATUS_pps_seen 0 0) := by
  have due : (s.reg .TIM_PPS_LATCH 0).toNat + 2200000000 ≤ s.aon.dt := by omega
  exact checked_next.2 ⟨rfl, if_pos due⟩

end

/-- Settles O46, by what latching an edge leaves in the latch and in each field of TIM_STATUS. -/
theorem ppsInput : Obligations.PpsInput := by
  unfold Obligations.PpsInput
  intro s powered small _
  refine ⟨fun enabled => ?_, fun silent => ⟨_, exec_ppsInTimeout silent, fld_setFld_same _ _ _ _ (by decide) (by decide),
    reg_setFld_elsewhere _ _ (by decide), setFld_with_regs ..⟩⟩
  rw [← ppsAmiss_iff]
  cases amiss : s.ppsAmiss with
  | true =>
    refine ⟨_, exec_ppsInEdge_amiss enabled powered amiss, ?_, ?_, fun _ => fld_setFld_one _ _ rfl (by decide), fun well => absurd rfl well,
      rfl, rfl⟩
    · rw [reg_setFld_elsewhere _ _ (by decide), latch_ppsLatched small]
    · rw [fld_setFld_apart _ (by decide), seen_ppsLatched]
  | false =>
    exact ⟨_, exec_ppsInEdge_well enabled powered amiss, latch_ppsLatched small, seen_ppsLatched s, fun bad => absurd bad (by decide),
      fun _ => err_ppsLatched s, rfl, rfl⟩

/-! ## The reference (R293, R296) -/

section
variable {s : State}

/-- The state in which device time starts and the mask ROM runs (R293, R462). -/
def State.firstLocked (s : State) : State :=
  let t := s.setFld F.TIM_STATUS_ref_ok 0 1
  { t with aon := { t.aon with dt := 0, dtRuns := true, stage := .rom } }

theorem firstLocked_aon (s : State) : s.firstLocked.aon = { s.aon with dt := 0, dtRuns := true, stage := .rom } := by
  rw [← setFld_aon s F.TIM_STATUS_ref_ok 0 1]
  rfl

theorem ref_ok_firstLocked (s : State) : s.firstLocked.fld F.TIM_STATUS_ref_ok 0 = 1 :=
  (fld_withAon (s.setFld F.TIM_STATUS_ref_ok 0 1) ..).trans (fld_setFld_one s _ rfl (by decide))

theorem exec_referenceFirstLock (first : s.aon.stage = .aon) (powered : s.aon.powered = true) :
    exec .referenceFirstLock s = .next s.firstLocked :=
  checked_next.2 ⟨rfl, if_neg (by simp [first, powered])⟩

/-- The fields of TIM_STATUS where the reference has been lost (R296). -/
def State.inHoldover (s : State) : State :=
  ((s.setFld F.TIM_STATUS_ref_ok 0 0).setFld F.TIM_STATUS_holdover 0 1).setFld F.TIM_STATUS_ref_lost_stk 0 1

theorem exec_referenceLost (powered : s.aon.powered = true) (present : s.fld F.TIM_STATUS_ref_ok 0 = 1) :
    exec .referenceLost s = .next (s.inHoldover.counterEvent F.MON_EVT_reference 255 "TIM_STATUS") :=
  checked_next.2 ⟨rfl, if_neg (by simp [powered, present])⟩

theorem inHoldover_aon (s : State) : s.inHoldover.aon = s.aon := by
  rw [State.inHoldover, setFld_aon, setFld_aon, setFld_aon]

theorem fields_inHoldover (s : State) : s.inHoldover.fld F.TIM_STATUS_ref_ok 0 = 0 ∧ s.inHoldover.fld F.TIM_STATUS_holdover 0 = 1 ∧
    s.inHoldover.fld F.TIM_STATUS_ref_lost_stk 0 = 1 := by
  unfold State.inHoldover
  refine ⟨?_, ?_, fld_setFld_one _ _ rfl (by decide)⟩
  · rw [fld_setFld_apart _ (by decide), fld_setFld_apart _ (by decide)]
    exact fld_setFld_same _ _ _ _ (by decide) (by decide)
  · rw [fld_setFld_apart _ (by decide)]
    exact fld_setFld_one _ _ rfl (by decide)

/-- The counter event leaves the fields of a register that no report is noted in. -/
theorem counterEvent_keeps_fld {G F0 : Fld} {j : Nat} (other : G.reg ∉ reportRegs) (copy : G.reg.hasCopy j = true) (event : F0.reg = .MON_EVT)
    (s : State) (isl : Nat) (name : String) : (s.counterEvent F0 isl name).fld G j = s.fld G j :=
  congrArg (fun w : Word => bits w.toNat G.hi G.lo) (counterEvent_keeps_reg other copy event s isl name)

theorem counterEvent_aon (s : State) (F0 : Fld) (isl : Nat) (name : String) : (s.counterEvent F0 isl name).aon = s.aon := by
  obtain ⟨r, o, raised⟩ := counterEvent_frame s F0 isl name
  rw [raised]

theorem noticeAll_fld (s : State) (kind arg : Nat) (G : Fld) (j : Nat) : (s.noticeAll kind arg).fld G j = s.fld G j :=
  congrArg (fun w : Word => bits w.toNat G.hi G.lo) (noticeAll_reg s kind arg)

theorem reference_counterEvent (s : State) (isl : Nat) (name : String) :
    (s.counterEvent F.MON_EVT_reference isl name).fld F.MON_EVT_reference 0 = 1 := by
  unfold State.counterEvent
  split
  · assumption
  · dsimp only
    rw [emit_read_fld, noticeAll_fld, fld_setFld_apart _ (by decide)]
    exact fld_setFld_one _ _ rfl (by decide)

theorem exec_referenceRelock (held : s.fld F.TIM_STATUS_holdover 0 = 1) :
    exec .referenceRelock s = .next ((s.setFld F.TIM_STATUS_ref_ok 0 1).setFld F.TIM_STATUS_holdover 0 0) :=
  checked_next.2 ⟨rfl, if_pos held⟩

end

/-! ## Replicas (R294) -/

/-- The replica of island `i` aligned to its skew, its floor at the DT that the island read last (R294). -/
def State.alignReplica (skews : List Int) (s : State) (i : Nat) : State :=
  s.setDom i { s.dom i with floor := s.dtOf i, skew := skews.getD i (s.dom i).skew }

theorem dtOf_alignReplica_ne (skews : List Int) (s : State) {i j : Nat} (h : j ≠ i) : (s.alignReplica skews i).dtOf j = s.dtOf j := by
  simp only [State.dtOf, State.alignReplica, dom_setDom_ne s h, setDom_aon]

/-- Aligning replicas of islands named once each: the others stand, each of these is aligned as it was. -/
theorem foldl_alignReplica (skews : List Int) {on : List Nat} (once : on.Nodup) (s : State) :
    let t := on.foldl (State.alignReplica skews) s
    (∀ i ∉ on, t.dom i = s.dom i) ∧
    ∀ i ∈ on, t.dom i = { s.dom i with floor := s.dtOf i, skew := skews.getD i (s.dom i).skew } := by
  induction on generalizing s with
  | nil => exact ⟨fun _ _ => rfl, fun _ mem => absurd mem List.not_mem_nil⟩
  | cons k rest ih =>
    obtain ⟨fresh, once⟩ := List.nodup_cons.1 once
    obtain ⟨others, aligned⟩ := ih once (s.alignReplica skews k)
    refine ⟨fun i out => ?_, fun i mem => ?_⟩
    · obtain ⟨ne, out⟩ := List.ne_and_not_mem_of_not_mem_cons out
      exact (others i out).trans (dom_setDom_ne s ne _)
    · rcases List.mem_cons.1 mem with rfl | mem
      · exact (others i fresh).trans (dom_setDom_same ..)
      · have ne : i ≠ k := fun same => fresh (same ▸ mem)
        have dom : (s.alignReplica skews k).dom i = s.dom i := dom_setDom_ne s ne _
        exact (aligned i mem).trans (by rw [dom, dtOf_alignReplica_ne skews s ne])

/-- The islands that are ON. -/
def State.onIslands (s : State) : List Nat := (List.range 148).filter fun i => (s.dom i).state == .on

theorem mem_onIslands {s : State} {i : Nat} (bound : i < 148) : i ∈ s.onIslands ↔ (s.dom i).state = .on := by
  simp [State.onIslands, bound]

theorem exec_replicaAlign {skews : List Int} {s : State} (runs : s.aon.dtRuns = true)
    (within : agree (s.onIslands.map fun i => skews.getD i (s.dom i).skew) = true) :
    exec (.replicaAlign skews) s = .next (s.onIslands.foldl (State.alignReplica skews) s) := by
  have granted : (!s.aon.dtRuns || !agree (s.onIslands.map fun i => skews.getD i (s.dom i).skew)) = false := by rw [runs, within]; rfl
  exact checked_next.2 ⟨rfl, if_neg (Bool.not_eq_true _ ▸ granted)⟩

theorem floor_le_dtOf {s : State} {i : Nat} (island : i ≠ 255) : (s.dom i).floor ≤ s.dtOf i := by
  rw [State.dtOf, if_neg island]
  exact Nat.le_max_left ..

/-! ## The pulse that goes out (R298) -/

section
variable {s : State}

/-- The state in which PPS_OUT has risen (R298). -/
def State.ppsRisen (s : State) : State := { s with aon := { s.aon with ppsRose := some s.aon.dt } }

theorem ppsOut_ppsRisen (powered : s.aon.powered = true) (enabled : s.fld F.TIM_CFG_pps_out_en 0 = 1) : s.ppsRisen.ppsOut = true := by
  have cfg : s.ppsRisen.fld F.TIM_CFG_pps_out_en 0 = 1 := (fld_withAon s ..).trans enabled
  have power : s.ppsRisen.aon.powered = true := powered
  rw [State.ppsOut, cfg, power]
  rfl

theorem exec_ppsOutRise (powered : s.aon.powered = true) (runs : s.aon.dtRuns = true) (enabled : s.fld F.TIM_CFG_pps_out_en 0 = 1)
    (due : (s.aon.dt + 2000000000 - s.fld F.TIM_CFG_pps_out_phase 0) % 2000000000 < 10) :
    exec .ppsOutRise s = .next s.ppsRisen :=
  checked_next.2 ⟨rfl, if_pos ⟨powered, runs, enabled, due⟩⟩

theorem exec_ppsOutFall {a : Nat} (rose : s.aon.ppsRose = some a) (due : a + 200000000 ≤ s.aon.dt) :
    exec .ppsOutFall s = .next { s with aon := { s.aon with ppsRose := none } } := by
  refine checked_next.2 ⟨rfl, ?_⟩
  rw [rose]
  exact if_pos due

end

/-! ## Delays and trace records (R304, R312, R315) -/

theorem exec_timOwdRead {k : Nat} (bound : k < 8) (s : State) :
    exec (.timOwdRead k) s = .next (({ s with owdAux := s.owdAux.put k (s.reg .TIM_OWD_AUX k) }).answer false (s.reg .TIM_OWD k)) :=
  checked_next.2 ⟨decide_eq_true bound, rfl⟩

theorem exec_sillageRecord {h : Nat} (bound : h < 2) {s : State} {r : SilRec} {rest : List SilRec} (oldest : s.sil.get h [] = r :: rest) :
    exec (.sillageRecord h) s =
      .next ((List.range 16).foldl (fun s i => if s.silAccepts i r then s.silDeliver h i r else s) { s with sil := s.sil.put h rest }) := by
  refine checked_next.2 ⟨decide_eq_true bound, ?_⟩
  rw [oldest]

/-- The ring of buffer `i` lies wholly in near or far memory, bound to no composition and in no window (R315). -/
def State.silFree (s : State) (i : Nat) : Bool :=
  let a := s.fld F.TIM_SIL_CFG_base i * 4096
  inPlainMemory a (32 * s.silCap i) && !s.meetsBound a (32 * s.silCap i) && !s.meetsWindow a (32 * s.silCap i)

/-- The registers of a trace buffer that enabling it writes. -/
def silRegs : List RegName := [.TIM_SIL_CFG, .TIM_SIL_WR, .TIM_SIL_RD, .TIM_SIL_LOST]

/-- The registers of buffer `i` where it is enabled anew: its indices and its count are 0 (R315). -/
def State.silCleared (s : State) (i : Nat) : State :=
  (((s.setFld F.TIM_SIL_CFG_enable i 1).setReg .TIM_SIL_WR i 0#64).setReg .TIM_SIL_RD i 0#64).setReg .TIM_SIL_LOST i 0#64

/-- The state in which buffer `i` is enabled anew, no loss counted (R315). -/
def State.silEnabled (s : State) (i : Nat) : State := { s.silCleared i with silLoss := s.silLoss.del i }

section
variable {i : Nat} (bound : i < 16)
include bound

section
variable {v : Word} {s : State}

theorem exec_sillageEnable_off (off : F.TIM_SIL_CFG_enable.of v = 0) :
    exec (.sillageEnable i v) s = .next ((s.writeReg .TIM_SIL_CFG i v.toNat (2 ^ 64 - 1)).setFld F.TIM_SIL_CFG_enable i 0) :=
  checked_next.2 ⟨decide_eq_true bound, if_pos off⟩

theorem exec_sillageEnable_held (on : F.TIM_SIL_CFG_enable.of v = 1)
    (taken : (s.writeReg .TIM_SIL_CFG i v.toNat (2 ^ 64 - 1)).silFree i = false) :
    exec (.sillageEnable i v) s = .next ((s.writeReg .TIM_SIL_CFG i v.toNat (2 ^ 64 - 1)).setFld F.TIM_SIL_CFG_enable i 0) :=
  checked_next.2 ⟨decide_eq_true bound, (if_neg (by simp [on])).trans (if_neg (Bool.not_eq_true _ ▸ taken))⟩

theorem exec_sillageEnable_on (on : F.TIM_SIL_CFG_enable.of v = 1)
    (free : (s.writeReg .TIM_SIL_CFG i v.toNat (2 ^ 64 - 1)).silFree i = true) :
    exec (.sillageEnable i v) s = .next ((s.writeReg .TIM_SIL_CFG i v.toNat (2 ^ 64 - 1)).silEnabled i) :=
  checked_next.2 ⟨decide_eq_true bound, (if_neg (by simp [on])).trans (if_pos free)⟩

end

/-- The registers that enabling a trace buffer writes stand once for each of the sixteen, so that each copy is apart from the others. -/
theorem sil_key_ne {r q : RegName} (regs : q ∈ silRegs ∧ r ∈ silRegs ∧ q ≠ r) : q.key i ≠ r.key i := by
  obtain ⟨memQ, memR, other⟩ := regs
  have perBuffer : ∀ r ∈ silRegs, r.row.perFn = false ∧ r.row.count = 16 ∧ r ≠ .MON_TW_HIST := by decide
  have copy {r : RegName} (mem : r ∈ silRegs) : r.hasCopy i = true := by simp [RegName.hasCopy, perBuffer r mem, bound]
  exact key_ne (copy memQ) (copy memR) fun same => other (Prod.ext_iff.1 same).1

theorem enable_silEnabled (s : State) : (s.silEnabled i).fld F.TIM_SIL_CFG_enable i = 1 := by
  rw [State.silEnabled, fld_withSilLoss, State.silCleared, fld_setReg_elsewhere _ (sil_key_ne bound (by decide)),
    fld_setReg_elsewhere _ (sil_key_ne bound (by decide)), fld_setReg_elsewhere _ (sil_key_ne bound (by decide)),
    fld_setFld_one _ _ rfl (by decide)]

theorem indices_silEnabled (s : State) : (s.silEnabled i).reg .TIM_SIL_WR i = 0#64 ∧ (s.silEnabled i).reg .TIM_SIL_RD i = 0#64 ∧
    (s.silEnabled i).reg .TIM_SIL_LOST i = 0#64 := by
  have cleared (q : RegName) : (s.silEnabled i).reg q i = (s.silCleared i).reg q i := reg_withSilLoss (s.silCleared i) ..
  rw [cleared, cleared, cleared, State.silCleared]
  refine ⟨?_, ?_, reg_setReg_same ..⟩
  · rw [reg_setReg_ne _ (sil_key_ne bound (by decide)), reg_setReg_ne _ (sil_key_ne bound (by decide)), reg_setReg_same]
  · rw [reg_setReg_ne _ (sil_key_ne bound (by decide)), reg_setReg_same]

end

/-- Settles O47, by what each command does where the condition of its event holds; the replicas by what aligning islands that are named
once each leaves. That the rise of PPS_OUT is judged to the ten ticks of an AON cycle is log 86 (DEDUCED). -/
theorem timeRows : Obligations.TimeRows := by
  unfold Obligations.TimeRows
  refine ⟨fun s first powered => ⟨_, exec_referenceFirstLock first powered, firstLocked_aon s, ref_ok_firstLocked s⟩,
    fun s powered present => ⟨_, exec_referenceLost powered present, ?lost⟩,
    fun s held => ⟨_, exec_referenceRelock held, ?relock⟩,
    fun skews s runs within => ⟨_, exec_replicaAlign runs within, ?align⟩,
    fun s powered runs enabled due => ⟨_, exec_ppsOutRise powered runs enabled due, ppsOut_ppsRisen powered enabled, rfl⟩,
    fun a s rose due => ⟨_, exec_ppsOutFall rose due, Bool.and_false _⟩,
    fun k s bound => ⟨_, exec_timOwdRead bound s, rfl, ?delay, rfl⟩,
    fun h s r rest bound oldest => exec_sillageRecord bound oldest,
    fun i v s bound => ⟨exec_sillageEnable_off bound, exec_sillageEnable_held bound,
      fun on free => ⟨_, exec_sillageEnable_on bound on free, ?sil⟩⟩⟩
  case lost =>
    obtain ⟨absent, held, noted⟩ := fields_inHoldover s
    have keeps {G : Fld} (row : G.reg = .TIM_STATUS) :
        (s.inHoldover.counterEvent F.MON_EVT_reference 255 "TIM_STATUS").fld G 0 = s.inHoldover.fld G 0 :=
      counterEvent_keeps_fld (row ▸ by decide) (row ▸ by decide) rfl ..
    exact ⟨(keeps rfl).trans absent, (keeps rfl).trans held, (keeps rfl).trans noted,
      (counterEvent_aon ..).trans (inHoldover_aon s), reference_counterEvent ..⟩
  case relock =>
    refine ⟨?_, fld_setFld_same _ _ _ _ (by decide) (by decide), by rw [setFld_with_regs, setFld_with_regs]⟩
    rw [fld_setFld_apart _ (by decide), fld_setFld_one _ _ rfl (by decide)]
  case align =>
    obtain ⟨others, aligned⟩ := foldl_alignReplica skews (List.nodup_range.filter _) s
    have frame := foldl_keeps (f := State.alignReplica skews) (P := fun t : State => { t with doms := s.doms }) (fun _ _ => rfl) s.onIslands s
    refine ⟨frame, fun i bound => ⟨fun off => ?_, fun on => ?_⟩⟩
    · exact others i (mt (mem_onIslands bound).1 off)
    · have dom := aligned i ((mem_onIslands bound).2 on)
      refine ⟨dom, ?_⟩
      calc s.dtOf i = _ := (congrArg Dom.floor dom).symm
        _ ≤ _ := floor_le_dtOf (by omega)
  case delay => simp [State.regView, State.answer]
  case sil =>
    obtain ⟨wr, rd, lost⟩ := indices_silEnabled bound (s.writeReg .TIM_SIL_CFG i v.toNat (2 ^ 64 - 1))
    exact ⟨enable_silEnabled bound _, wr, rd, lost, SMap.find_del_same ..⟩

end Sys2Proof.Machine
end

section
/-! PROOFS of the scope: timed launches, charges, lanes that change hands, the cyclic table and the mixer. -/

namespace Sys2Proof.Machine

/-! ## Launches (R299 to R302, R383 to R389) -/

section
variable {c lane : Nat} {s : State} (comp : c < 64) (named : lane < 2)
include comp named

theorem exec_timedLaunchFire {e : Nat × Launch} (due : s.dueLaunch c = some e) (may : s.mayLaunch c = true) (hers : lane ∈ s.lanes c)
    (free : s.laneFree c lane = true) (closes : s.closesBefore e.2.dt = false) (opens : s.opensBefore e.2.dt = false)
    (target : s.targetBefore e.2.dt = false) :
    exec (.timedLaunchFire c lane) s = .next (({ s with armed := s.armed.filter fun x => x != e }).runLaunch c lane e.2) := by
  refine checked_next.2 ⟨by simp [comp, named], ?_⟩
  rw [due]
  exact if_pos (by simp [may, hers, free, closes, opens, target])

theorem exec_quantumPreemption {k k2 : Nat} {rest : List Nat} (shared : s.shared c = true) (taken0 : s.laneFree c 0 = false)
    (taken1 : s.laneFree c 1 = false) (goes0 : s.laneStopping c 0 = false) (goes1 : s.laneStopping c 1 = false)
    (loser : s.greaterPass c (s.quantumOver c) = some lane) (free : s.freeSets c = k :: k2 :: rest) :
    exec (.quantumPreemption c lane) s = .next (s.askSpill c lane k) := by
  refine checked_next.2 ⟨by simp [comp, named], (if_pos (by simp [shared, taken0, taken1, goes0, goes1, loser])).trans ?_⟩
  rw [free]

theorem exec_launchResume {ctx first : Nat} {l : Launch} {x : Ctx} (bound : ctx < 40960)
    (waits : (s.suspended.find? fun l => l.ctx == ctx) = some l) (spilled : l.state = .suspended first) (may : s.mayLaunch c = true)
    (found : s.ctxs.find ctx = some x) (own : x.comp = c) (hers : lane ∈ s.lanes c) (free : s.laneFree c lane = true) :
    exec (.launchResume c ctx lane) s =
      .next (({ s with suspended := s.suspended.filter fun x => x != l }).resumeLaunch c lane first l) := by
  refine checked_next.2 ⟨by simp [comp, named, bound], ?_⟩
  rw [waits]
  dsimp only
  rw [spilled]
  exact if_pos (by simp [may, found, own, hers, free])

end

theorem exec_engineCharge {q : QRef} {s : State} {k : Cur} (runs : (s.ring q).cur = some k) (due : k.charged + 2000000 ≤ s.aon.dt) :
    exec (.engineCharge q) s = .next (s.chargeCur q) := by
  have charges : ((s.ring q).cur.any fun k => decide (k.charged + 2000000 ≤ s.aon.dt)) = true := by
    rw [runs, Option.any_some]
    exact decide_eq_true due
  exact checked_next.2 ⟨rfl, if_pos charges⟩

/-! ## The cyclic table (R394 to R396) -/

section
variable {s : State}

theorem exec_schCycStartWrite_armed (armed : s.fld F.SCH_CYC_CFG_pending 0 = 1) (v : Word) : exec (.schCycStartWrite v) s = .next s :=
  checked_next.2 ⟨rfl, if_pos armed⟩

section
variable {v : Word} (idle : s.fld F.SCH_CYC_CFG_pending 0 ≠ 1)
include idle

theorem exec_schCycStartWrite_refused (late : s.aon.dt + 2 ^ 48 < v.toNat) :
    exec (.schCycStartWrite v) s = .next (s.setReg .SCH_CYC_START 0 v) :=
  checked_next.2 ⟨rfl, (if_neg idle).trans (if_pos late)⟩

theorem exec_schCycStartWrite_arms (within : v.toNat ≤ s.aon.dt + 2 ^ 48) :
    exec (.schCycStartWrite v) s = .next ((s.setReg .SCH_CYC_START 0 v).setFld F.SCH_CYC_CFG_pending 0 1) :=
  checked_next.2 ⟨rfl, (if_neg idle).trans (if_neg (Nat.not_lt.2 within))⟩

end

/-- SCH_CYC_CFG where the other bank and the next period have come into force (R394). -/
def State.bankCfg (s : State) : State :=
  ((s.setFld F.SCH_CYC_CFG_active 0 (1 - s.fld F.SCH_CYC_CFG_active 0)).setFld F.SCH_CYC_CFG_period 0
    (s.fld F.SCH_CYC_CFG_next_period 0)).setFld F.SCH_CYC_CFG_pending 0 0

/-- The state in which the bank that was written holds, its cycles counted from the DT that armed it (R394). -/
def State.bankSwitched (s : State) : State := { s.bankCfg with cycleStart := (s.reg .SCH_CYC_START 0).toNat }

theorem exec_cycleBankSwitch (armed : s.fld F.SCH_CYC_CFG_pending 0 = 1) (due : (s.reg .SCH_CYC_START 0).toNat ≤ s.aon.dt)
    (shut : s.openWindows = []) :
    exec .cycleBankSwitch s = .next s.bankSwitched := by
  refine checked_next.2 ⟨rfl, (if_pos ⟨armed, due⟩).trans ?_⟩
  rw [shut]
  rfl

theorem setFld_frame (s : State) (F : Fld) (i v : Nat) : s.setFld F i v = { s with regs := (s.setFld F i v).regs } := rfl

theorem bankCfg_frame (s : State) : ∃ r, s.bankCfg = { s with regs := r } := by
  unfold State.bankCfg
  rw [setFld_frame, setFld_frame (State.setFld _ _ _ _), setFld_frame s]
  exact ⟨_, rfl⟩

theorem bankSwitched_frame (s : State) : { s.bankSwitched with regs := s.regs, cycleStart := s.cycleStart } = s := by
  obtain ⟨r, frame⟩ := bankCfg_frame s
  rw [State.bankSwitched, frame]

theorem fld_withCycleStart (s : State) (n : Nat) (G : Fld) (j : Nat) : ({ s with cycleStart := n } : State).fld G j = s.fld G j := rfl

theorem fields_bankCfg (s : State) : s.bankCfg.fld F.SCH_CYC_CFG_active 0 = 1 - s.fld F.SCH_CYC_CFG_active 0 ∧
    s.bankCfg.fld F.SCH_CYC_CFG_period 0 = s.fld F.SCH_CYC_CFG_next_period 0 ∧ s.bankCfg.fld F.SCH_CYC_CFG_pending 0 = 0 := by
  unfold State.bankCfg
  refine ⟨?_, ?_, fld_setFld_same _ _ _ _ (by decide) (by decide)⟩
  · rw [fld_setFld_apart _ (by decide), fld_setFld_apart _ (by decide),
      fld_setFld_same _ _ _ _ (by decide) (by decide)]
    exact Nat.mod_eq_of_lt (Nat.lt_of_le_of_lt (Nat.sub_le ..) (by decide))
  · rw [fld_setFld_apart _ (by decide), fld_setFld_same _ _ _ _ (by decide) (by decide)]
    exact Nat.mod_eq_of_lt (bits_lt ..)

end

section
variable {i : Nat} {s : State} (bound : i < 2048)
include bound

section
variable {o e : Nat} (times : s.windowTimes i = some (o, e)) (shut : i ∉ s.openWindows) (begun : o ≤ s.aon.dt) (runs : s.aon.dt < e)
  (closed : s.closesBefore o = false) (target : s.targetBefore o = false) (powered : s.fld F.PWR_TARGET_STATUS_dev_state 0 ≠ 2)
include times shut begun runs closed target powered

theorem exec_cyclicWindowOpen_inert (dead : s.liveRt (s.fld F.SCH_CYC_ENT_composition i) = false) :
    exec (.cyclicWindowOpen i) s = .next (s.setFld F.SCH_CYC_ENT_inert i 1) := by
  refine checked_next.2 ⟨decide_eq_true bound, ?_⟩
  rw [times]
  exact (if_neg (by simp [shut, begun, runs, closed, target, powered])).trans (if_pos (by simp [dead]))

theorem exec_cyclicWindowOpen_opens :
    let c := s.fld F.SCH_CYC_ENT_composition i
    let t := s.setFld F.SCH_CYC_ENT_inert i 0
    let t : State := { t with openWindows := t.openWindows ++ [i], windowEnds := t.windowEnds.put i e }
    let t := (List.range 48).foldl (fun s code => if resourceOk code then s.regrant code else s) t
    s.liveRt c = true → exec (.cyclicWindowOpen i) s = .next ((t.boundaryRecord c o).resumeInPlace (some c)) := by
  intro c t t t live
  refine checked_next.2 ⟨decide_eq_true bound, ?_⟩
  rw [times]
  exact (if_neg (by simp [shut, begun, runs, closed, target, powered])).trans (if_neg (by simp [c, live]))

end

theorem exec_cyclicWindowClose {e : Nat} (opened : s.windowEnds.find i = some e) (due : e ≤ s.aon.dt) (target : s.targetBefore e = false) :
    exec (.cyclicWindowClose i) s = .next ((s.boundaryRecord (s.fld F.SCH_CYC_ENT_composition i) e).closeWindow i) := by
  refine checked_next.2 ⟨decide_eq_true bound, ?_⟩
  rw [opened]
  exact if_pos ⟨due, by simp [target]⟩

theorem exec_windowPreempt {e : Nat} (opened : s.windowEnds.find i = some e) :
    let c := s.fld F.SCH_CYC_ENT_composition i
    (s.windowEnds.any fun w => s.fld F.SCH_CYC_ENT_composition w.1 == c && decide (e < w.2)) = false →
    e ≤ s.aon.dt + us (s.fld F.SCH_COMP_CFG_tile_budget_us c) →
    exec (.windowPreempt i) s = .next (s.res.foldl (fun s x =>
      if x.2.comp = c ∧ x.2.status = .running ∧ x.2.stopReq.isNone then s.askStop (x.1 / 2) (x.1 % 2) .inPlace else s) s) := by
  intro c last near
  refine checked_next.2 ⟨decide_eq_true bound, ?_⟩
  rw [opened]
  have due : (decide (s.aon.dt + s.tileBudget c < e)) = false := decide_eq_false (Nat.not_lt.2 near)
  exact if_neg (by rw [Bool.or_eq_true, not_or]; exact ⟨Bool.not_eq_true _ ▸ last, Bool.not_eq_true _ ▸ due⟩)

end

/-! ## The mixer (R397 to R401) -/

section
variable {c : Nat} {s : State} (comp : c < 64)
include comp

section
variable {v : Word}

theorem exec_mixerEnable_on {x : Ctx} (on : F.SCH_MIX_CFG_enable.of v = 1) (was : s.fld F.SCH_MIX_CFG_enable c = 0) :
    let t := s.writeReg .SCH_MIX_CFG c v.toNat (2 ^ 64 - 1)
    t.ctxs.find (t.fld F.SCH_MIX_CFG_context c) = some x → x.comp = c → x.state = .live →
    exec (.mixerEnable c v) s = .next { t.setFld F.SCH_MIX_CFG_enable c 1 with mixers := t.mixers.put c Mixer.init } := by
  intro t found own live
  refine checked_next.2 ⟨decide_eq_true comp, (if_pos on).trans ((if_neg (by simp [was])).trans (if_pos ?_))⟩
  change ((t.ctxs.find (t.fld F.SCH_MIX_CFG_context c)).map fun x => x.comp == c && x.state == .live).getD false = true
  simp [found, own, live]

section
variable (off : F.SCH_MIX_CFG_enable.of v = 0)
include off

theorem exec_mixerEnable_off :
    let t := s.writeReg .SCH_MIX_CFG c v.toNat (2 ^ 64 - 1)
    (t.mixer c).busy = false → exec (.mixerEnable c v) s = .next { t.setFld F.SCH_MIX_CFG_enable c 0 with mixers := t.mixers.del c } :=
  fun idle => checked_next.2 ⟨decide_eq_true comp, (if_neg (by simp [off])).trans (if_neg (Bool.not_eq_true _ ▸ idle))⟩

theorem exec_mixerEnable_waits :
    let t := s.writeReg .SCH_MIX_CFG c v.toNat (2 ^ 64 - 1)
    (t.mixer c).busy = true → exec (.mixerEnable c v) s = .next t :=
  fun busy => checked_next.2 ⟨decide_eq_true comp, (if_neg (by simp [off])).trans (if_pos busy)⟩

end

end

theorem exec_mixerStepForm {lane : Nat} {x : Ctx} (found : s.ctxs.find (s.fld F.SCH_MIX_CFG_context c) = some x)
    (free : s.freeLane c = some lane) (on : s.fld F.SCH_MIX_CFG_enable c = 1) (idle : (s.mixer c).running = false) (live : x.state = .live)
    (may : s.mayLaunch c = true) : exec (.mixerStepForm c) s = .next (s.formStep c lane (s.fld F.SCH_MIX_CFG_context c) x) := by
  refine checked_next.2 ⟨decide_eq_true comp, ?_⟩
  dsimp only
  rw [found, free]
  exact if_pos ⟨on, by simp [idle], live, may⟩

theorem exec_mixerStepEnd {st : Nat} {m : Mixer} (found : s.mixers.find c = some m) (ended : m.ended = some st) :
    let a := match s.launches.find? fun e => e.1 / 2 == c && e.2.step with
      | some e => s.charge e.2.ctx ((s.aon.dt - e.2.since) * e.2.cores.length)
      | none => s
    let a : State := { a with mixers := a.mixers.put c { m with running := false, ended := none, contrib := [] } }
    exec (.mixerStepEnd c) s = .next (m.placed.foldl (fun s e => if m.contrib.contains e.1 then s.endContrib st e.1 e.2 else s) a) := by
  refine checked_next.2 ⟨decide_eq_true comp, ?_⟩
  rw [found]
  dsimp only
  generalize m.ended = e at ended ⊢
  subst ended
  rfl

end

/-- Settles O54, by what each command does where the condition of its event holds; a bank switch by the fields of SCH_CYC_CFG that it writes
(R299 to R302, R383 to R389, R394 to R401). -/
theorem schedulingRows : Obligations.SchedulingRows := by
  unfold Obligations.SchedulingRows
  refine ⟨fun c lane s e comp named => exec_timedLaunchFire comp named, fun q s k => exec_engineCharge,
    fun c lane k k2 rest s comp named => exec_quantumPreemption comp named,
    fun c ctx lane first s l x comp bound named => exec_launchResume comp named bound,
    fun v s => ⟨fun armed => exec_schCycStartWrite_armed armed v, exec_schCycStartWrite_refused, exec_schCycStartWrite_arms⟩,
    fun s armed due shut => ⟨_, exec_cycleBankSwitch armed due shut, ?switch⟩,
    fun i o e s bound times shut begun runs closed target powered =>
      ⟨exec_cyclicWindowOpen_inert bound times shut begun runs closed target powered,
        exec_cyclicWindowOpen_opens bound times shut begun runs closed target powered⟩,
    fun i e s bound => exec_cyclicWindowClose bound,
    fun i e s bound => exec_windowPreempt bound,
    fun c v s comp => ⟨fun x on was => exec_mixerEnable_on comp on was, exec_mixerEnable_off comp, exec_mixerEnable_waits comp⟩,
    fun c lane s x comp => exec_mixerStepForm comp, fun c st s m comp => exec_mixerStepEnd comp⟩
  case switch =>
    obtain ⟨active, period, pending⟩ := fields_bankCfg s
    have cfg (G : Fld) : s.bankSwitched.fld G 0 = s.bankCfg.fld G 0 := fld_withCycleStart ..
    exact ⟨(cfg _).trans active, (cfg _).trans period, (cfg _).trans pending, rfl, bankSwitched_frame s⟩

end Sys2Proof.Machine
end

section
/-! PROOFS of the scope: the commands of a composition. -/

namespace Sys2Proof.Machine

/-! ## Composition commands (R327 to R329, R332 to R335) -/

/-- A composition that is busy, or in none of the states that a command asks for, holds the command off (R332). -/
theorem cmpBlocked_iff {s : State} {c : Nat} {ok : List Nat} :
    s.cmpBlocked c ok = true ↔ s.fld F.CMP_STATUS_busy c = 1 ∨ s.fld F.CMP_STATUS_state c ∉ ok := by
  simp [State.cmpBlocked, State.cmpState]

section
variable {c : Nat} {s : State} (bound : c < 64)
include bound

/-! Each command where its composition holds it off. -/

theorem exec_create_blocked (blocked : s.cmpBlocked c [0] = true) : exec (.create c) s = .next (s.cmpRefuse c 6) :=
  checked_next.2 ⟨decide_eq_true bound, if_pos blocked⟩

theorem exec_rebind_blocked (blocked : s.cmpBlocked c [2] = true) : exec (.rebind c) s = .next (s.cmpRefuse c 6) :=
  checked_next.2 ⟨decide_eq_true bound, if_pos blocked⟩

theorem exec_park_blocked (blocked : s.cmpBlocked c [2, 8] = true) : exec (.park c) s = .next (s.cmpRefuse c 6) :=
  checked_next.2 ⟨decide_eq_true bound, if_pos blocked⟩

theorem exec_resume_blocked (blocked : s.cmpBlocked c [5] = true) : exec (.resume c) s = .next (s.cmpRefuse c 6) :=
  checked_next.2 ⟨decide_eq_true bound, if_pos (by simp [blocked])⟩

theorem exec_release_blocked (blocked : s.cmpBlocked c [2, 5, 8, 9] = true) : exec (.release c) s = .next (s.cmpRefuse c 6) :=
  checked_next.2 ⟨decide_eq_true bound, if_pos blocked⟩

theorem exec_promote_blocked (blocked : s.cmpBlocked c [9] = true) : exec (.promote c) s = .next (s.cmpRefuse c 6) :=
  checked_next.2 ⟨decide_eq_true bound, if_pos blocked⟩

/-! CREATE where the composition is FREE. -/

section
variable (suits : s.cmpBlocked c [0] = false)
include suits

theorem exec_create_faulty :
    let q := s.readMap c
    q.1.mapCheck c 1 q.2 ≠ 0 → exec (.create c) s = .next (q.1.cmpRefuse c (q.1.mapCheck c 1 q.2)) :=
  fun faulty => checked_next.2 ⟨decide_eq_true bound, (if_neg (by simp [suits])).trans (if_pos faulty)⟩

/-- A record without faults begins the change, with the cores that a sliced one is given. -/
theorem exec_create_sound :
    let q := s.readMap c
    let r := MapRec.parse q.2
    let t := q.1.setComp c { Comp.init with heldCores := r.demand, heldChans := r.channels }
    q.1.mapCheck c 1 q.2 = 0 → exec (.create c) s = .next (t.beginChange c 1
      (if !r.sliced then r else if r.demand ≤ t.freeCores.length then { r with cores := t.freeCores.take r.demand } else r.bare) 0 none 0) :=
  fun sound => checked_next.2 ⟨decide_eq_true bound, (if_neg (by simp [suits])).trans (if_neg (not_not_intro sound))⟩

theorem exec_create_whole :
    let q := s.readMap c
    let r := MapRec.parse q.2
    let t := q.1.setComp c { Comp.init with heldCores := r.demand, heldChans := r.channels }
    q.1.mapCheck c 1 q.2 = 0 → r.sliced = false → exec (.create c) s = .next (t.beginChange c 1 r 0 none 0) := by
  intro q r t sound whole
  rw [exec_create_sound bound suits sound, if_pos (by rw [whole]; rfl)]

theorem exec_create_sliced :
    let q := s.readMap c
    let r := MapRec.parse q.2
    let t := q.1.setComp c { Comp.init with heldCores := r.demand, heldChans := r.channels }
    q.1.mapCheck c 1 q.2 = 0 → r.sliced = true → exec (.create c) s =
      .next (t.beginChange c 1 (if r.demand ≤ t.freeCores.length then { r with cores := t.freeCores.take r.demand } else r.bare) 0 none 0) := by
  intro q r t sound sliced
  rw [exec_create_sound bound suits sound, if_neg (by rw [sliced]; decide)]

end

/-! REBIND where the composition is ACTIVE. -/

section
variable (suits : s.cmpBlocked c [2] = false)
include suits

theorem exec_rebind_faulty :
    let q := s.readMap c
    q.1.mapCheck c 2 q.2 ≠ 0 → exec (.rebind c) s = .next (q.1.cmpRefuse c (q.1.mapCheck c 2 q.2)) :=
  fun faulty => checked_next.2 ⟨decide_eq_true bound, (if_neg (by simp [suits])).trans (if_pos faulty)⟩

theorem exec_rebind_whole :
    let q := s.readMap c
    let r := MapRec.parse q.2
    q.1.mapCheck c 2 q.2 = 0 → r.sliced = false → exec (.rebind c) s = .next (q.1.beginChange c 2 r 0 none 0) := by
  intro q r sound whole
  refine checked_next.2 ⟨decide_eq_true bound, (if_neg (by simp [suits])).trans ((if_neg (not_not_intro sound)).trans ?_)⟩
  exact congrArg (fun r => q.1.beginChange c 2 r 0 none 0) (if_pos (by rw [whole]; rfl))

end

theorem exec_park_begins (suits : s.cmpBlocked c [2, 8] = false) :
    exec (.park c) s = .next (s.beginChange c 3 (s.recordOf c).bare 0 none 0) :=
  checked_next.2 ⟨decide_eq_true bound, if_neg (by simp [suits])⟩

/-! RESUME of a composition that power has not parked. -/

section
variable (suits : s.cmpBlocked c [5] = false) (powered : s.fld F.PWR_COMP_CFG_power_parked c = 0)
include suits powered

theorem exec_resume_open : exec (.resume c) s = .next (s.resumeNow c 4).1 :=
  checked_next.2 ⟨decide_eq_true bound, if_neg (by simp [suits, powered])⟩

theorem exec_resume_short (short : s.resumeRecord c = none) : exec (.resume c) s = .next (s.cmpRefuse c 4) := by
  rw [exec_resume_open bound suits powered, State.resumeNow, short]

theorem exec_resume_begins {r : MapRec} (fits : s.resumeRecord c = some r) :
    exec (.resume c) s = .next (s.beginChange c 4 r 0 none 0) := by
  rw [exec_resume_open bound suits powered, State.resumeNow, fits]

end

/-! RELEASE. -/

section
variable (suits : s.cmpBlocked c [2, 5, 8, 9] = false)
include suits

theorem exec_release_used (used : s.hasCtx c = true) : exec (.release c) s = .next (s.cmpRefuse c 7) :=
  checked_next.2 ⟨decide_eq_true bound, (if_neg (by simp [suits])).trans (if_pos used)⟩

theorem exec_release_begins (unused : s.hasCtx c = false) :
    let t := ((s.slots.filter fun e => e.2.owner == c && e.2.state == 1).map (·.1)).foldl (fun s k => s.startRetire k false) s
    exec (.release c) s = .next (t.beginChange c 5 { (t.recordOf c).bare with parts := [], far := [], ports := [] } 0 none 0) :=
  checked_next.2 ⟨decide_eq_true bound, (if_neg (by simp [suits])).trans (if_neg (by simp [unused]))⟩

end

/-! PROMOTE. -/

section
variable (suits : s.cmpBlocked c [9] = false)
include suits

theorem exec_promote_open : exec (.promote c) s = .next (s.promote c).1 :=
  checked_next.2 ⟨decide_eq_true bound, if_neg (by simp [suits])⟩

theorem exec_promote_short (short : s.promoteRecord c = none) : exec (.promote c) s = .next (s.cmpRefuse c 4) := by
  rw [exec_promote_open bound suits, State.promote, short]

theorem exec_promote_begins {r : MapRec} (fits : s.promoteRecord c = some r) :
    let t := (s.liveShadows c).beginChange c 6 r 0 none 0
    exec (.promote c) s = .next (t.setComp c { t.comp c with promoting := none, promoted := true }) := by
  rw [exec_promote_open bound suits, State.promote, fits]

end

end

/-- Settles O49, by the checks of each command in their order. A record that cannot be read has a fault like any other (DEDUCED, log 51), and a
command that is refused changes nothing beside its status. A sliced REBIND that is sound has no clause. -/
theorem compositionCommands : Obligations.CompositionCommands := by
  unfold Obligations.CompositionCommands
  refine ⟨?blocked, fun c s bound suits => ⟨exec_create_faulty bound suits, exec_create_whole bound suits, exec_create_sliced bound suits⟩,
    fun c s bound suits => ⟨exec_rebind_faulty bound suits, exec_rebind_whole bound suits⟩, fun c s bound => exec_park_begins bound,
    fun c s bound suits powered => ⟨exec_resume_short bound suits powered, fun r => exec_resume_begins bound suits powered⟩,
    fun c s bound suits => ⟨exec_release_used bound suits, exec_release_begins bound suits⟩,
    fun c s bound suits => ⟨exec_promote_short bound suits, fun r => exec_promote_begins bound suits⟩⟩
  case blocked =>
    intro e named c s bound held
    have blocked : s.cmpBlocked c e.2 = true := cmpBlocked_iff.2 held
    simp only [List.mem_cons, List.not_mem_nil, or_false] at named
    obtain rfl | rfl | rfl | rfl | rfl | rfl := named
    · exact exec_create_blocked bound blocked
    · exact exec_rebind_blocked bound blocked
    · exact exec_park_blocked bound blocked
    · exact exec_resume_blocked bound blocked
    · exact exec_release_blocked bound blocked
    · exact exec_promote_blocked bound blocked

end Sys2Proof.Machine
end

section
/-! PROOFS of the scope: twins, their messages, their loss and their log. -/

namespace Sys2Proof.Machine

/-! ## The side that mirrors (R339, R341, R342) -/

section
variable {s : State}

section
variable {v : Word}

theorem exec_twinEnable_off (off : F.CMP_TWIN_enable.of v = 0) (was : s.fld F.CMP_TWIN_enable 0 = 1) :
    exec (.twinEnable v) s =
      .next (((s.writeReg .CMP_TWIN 0 v.toNat (2 ^ 64 - 1)).setFld F.CMP_TWIN_enable 0 0).stopMirror 0) :=
  checked_next.2 ⟨rfl, (if_pos off).trans (if_pos (by simp [was]))⟩

section
variable (on : F.CMP_TWIN_enable.of v = 1) (was : s.fld F.CMP_TWIN_enable 0 = 0)
include on was

theorem exec_twinEnable_noPort :
    let t := s.writeReg .CMP_TWIN 0 v.toNat (2 ^ 64 - 1)
    t.twinPort = false → exec (.twinEnable v) s = .next t := by
  intro t other
  have bars : (s.fld F.CMP_TWIN_enable 0 == 1 || !t.twinPort) = true := by rw [was, other]; rfl
  exact checked_next.2 ⟨rfl, (if_neg (by simp [on])).trans (if_pos bars)⟩

theorem exec_twinEnable_syncs :
    let t := s.writeReg .CMP_TWIN 0 v.toNat (2 ^ 64 - 1)
    let u := (((t.setFld F.CMP_TWIN_enable 0 1).setFld F.CMP_TWIN_state 0 1).setFld F.CMP_TWIN_unacked 0 0).setReg .CMP_TWIN_ACK 0 0#64
    t.twinPort = true → exec (.twinEnable v) s = .next (State.copyToTwin { u with mirrorSeq := 0, mirrorHeld := [], twinLost := none }) := by
  intro t u twin
  have bars : (s.fld F.CMP_TWIN_enable 0 == 1 || !t.twinPort) = false := by rw [was, twin]; rfl
  exact checked_next.2 ⟨rfl, (if_neg (by simp [on])).trans (if_neg (ne_true_of_eq_false bars))⟩

end

end

theorem exec_twinSyncDone (syncing : s.fld F.CMP_TWIN_state 0 = 1) (acked : s.fld F.CMP_TWIN_unacked 0 = 0) (sent : s.mirrorHeld = []) :
    exec .twinSyncDone s = .next (s.setFld F.CMP_TWIN_state 0 2) :=
  checked_next.2 ⟨rfl, if_pos ⟨syncing, acked, by rw [sent]; rfl⟩⟩

section
variable {k : Nat} {m : PortMsg} (bound : k < 8) (up : s.ptState k = ptUp) (on : s.fld F.CMP_TWIN_enable 0 = 1)
  (own : k = s.fld F.CMP_TWIN_port 0) (mirrors : s.fld F.CMP_TWIN_state 0 = 1 ∨ s.fld F.CMP_TWIN_state 0 = 2)
include bound up on own mirrors

theorem exec_mirrorAck_absent (absent : m.status = 6) : exec (.mirrorAck k m) s = .next (s.stopMirror 4) :=
  checked_next.2 ⟨decide_eq_true bound, (if_neg (by rw [← own]; simp only [up, on]; omega)).trans (if_pos absent)⟩

theorem exec_mirrorAck_acks (present : m.status ≠ 6) :
    let left := min (s.fld F.CMP_TWIN_unacked 0) (s.mirrorSeq - s.mirrorHeld.length - (m.group + 1))
    let t := (s.setFld F.CMP_TWIN_unacked 0 left).setReg .CMP_TWIN_ACK 0
      (BitVec.ofNat 64 (max ((s.setFld F.CMP_TWIN_unacked 0 left).reg .CMP_TWIN_ACK 0).toNat m.group))
    let u : State := { t with twinAckAt := t.aon.dt }
    exec (.mirrorAck k m) s = .next ((u.releaseTwin fun w => decide (w.upto ≤ u.mirrorAcked)).sendHeld 4096) := by
  intro left
  rw [reg_setFld_elsewhere s left (by decide : RegName.key .CMP_TWIN_ACK 0 ≠ RegName.key F.CMP_TWIN_unacked.reg 0)]
  exact checked_next.2 ⟨decide_eq_true bound, (if_neg (by rw [← own]; simp only [up, on]; omega)).trans (if_neg present)⟩

end

/-! ## The side that is mirrored to (R340, R341) -/

section
variable {k : Nat}

/-- A port that serves and where one request waits serves that request, where no access of it has to wait. -/
theorem serveAgent_single {q : Incoming} (serves : s.portServes k = true) (waits : (s.port k).waiting = [q]) (free : s.agentBlocked k q = none) :
    s.serveAgent k = (s.onPort k fun p => { p with waiting := [] }).agentServe k q := by
  rw [State.serveAgent, if_pos serves, waits, List.length_singleton, State.serveWaits, waits]
  dsimp only
  rw [free]
  rfl

theorem portServes_onPort (f : Port → Port) (j : Nat) : (s.onPort k f).portServes j = s.portServes j := rfl

theorem exec_mirror_served (m : PortMsg) (data : List Byte) (bound : k < 8) (serves : s.portServes k = true) (idle : (s.port k).waiting = []) :
    let q : Incoming := ⟨{ m with op := 0x20 }, data, clsBulk, s.aon.dt⟩
    let t := s.onPort k fun p => { p with waiting := [q] }
    t.agentBlocked k q = none → exec (.mirror k m data) s = .next ((t.onPort k fun p => { p with waiting := [] }).agentServe k q) := by
  intro q t free
  have queued : (s.onPort k fun p => { p with waiting := p.waiting ++ [q] }) = t := onPort_congr (by rw [idle]; rfl)
  have taken : s.takeRequest k q = t.serveAgent k := by
    rw [State.takeRequest, if_neg (by simp [serves]), if_neg (by simp [q]), queued]
  refine checked_next.2 ⟨decide_eq_true bound, taken.trans (serveAgent_single ?_ (by rw [port_onPort_same]) free)⟩
  exact (portServes_onPort ..).trans serves

theorem agentServe_mirror {q : Incoming} (mirror : q.msg.op = 0x20) :
    s.agentServe k q = ({ s with heldAcc := s.heldAcc.filter fun h => h.own != Owner.agent k } : State).serveMirror k q := by
  rw [State.agentServe, mirror]
  rfl

theorem mirrorRefusal_noStandby {m : PortMsg} (other : s.cmpState (bits m.aux 21 16) ≠ 9) :
    s.mirrorRefusal m = if (s.comp (bits m.aux 21 16)).promoted then 6 else 4 := if_pos other

theorem mirrorRefusal_owned {m : PortMsg} (standby : s.cmpState (bits m.aux 21 16) = 9)
    (owned : s.selOwned (bits m.aux 15 8) (bits m.aux 21 16) = true) : s.mirrorRefusal m = 0 :=
  (if_neg (not_not_intro standby)).trans (if_pos owned)

/-! What a port does with a MIRROR, by its role, by what the device has sent there, and by the composition that the message names. -/

section
variable {q : Incoming}

theorem serveMirror_otherRole (other : s.fld F.PRT_CFG_role k ≠ roleTwin) : s.serveMirror k q = s.mirrorAck k q.msg 1 := if_pos other

section
variable (twin : s.fld F.PRT_CFG_role k = roleTwin)
include twin

theorem serveMirror_leaving (leaving : 2 ≤ (s.port k).away) : s.serveMirror k q = s.mirrorAck k q.msg 6 :=
  (if_neg (not_not_intro twin)).trans (if_pos leaving)

section
variable (stays : (s.port k).away < 2)
include stays

theorem serveMirror_noStandby (other : s.cmpState (bits q.msg.aux 21 16) ≠ 9) :
    s.serveMirror k q = s.mirrorDrop k q.msg (if (s.comp (bits q.msg.aux 21 16)).promoted then 6 else 4) := by
  have refusal := mirrorRefusal_noStandby other
  have refused : s.mirrorRefusal q.msg ≠ 0 := by rw [refusal]; split <;> decide
  exact (if_neg (not_not_intro twin)).trans ((if_neg (Nat.not_le.2 stays)).trans ((if_pos refused).trans (congrArg _ refusal)))

section
variable (standby : s.cmpState (bits q.msg.aux 21 16) = 9) (owned : s.selOwned (bits q.msg.aux 15 8) (bits q.msg.aux 21 16) = true)
include standby owned

theorem serveMirror_write (kind : bits q.msg.aux 7 0 = 1) :
    let c := bits q.msg.aux 21 16
    let w := s.writePhys { agentWho k clsBulk with comp := some c, epoch := s.epochOf c } (bits q.msg.aux 15 8) q.msg.offset
      (q.data.take q.msg.length)
    s.serveMirror k q = if w.st ≠ .ok then w.s.mirrorDrop k q.msg (statusMsg w.st) else (w.s.twinLog q.msg).mirrorAck k q.msg 0 := by
  refine (if_neg (not_not_intro twin)).trans ((if_neg (Nat.not_le.2 stays)).trans
    ((if_neg (not_not_intro (mirrorRefusal_owned standby owned))).trans ?_))
  rw [mirrorKind, kind]
  rfl

theorem serveMirror_object (kind : bits q.msg.aux 7 0 ∈ [2, 3, 4]) :
    s.serveMirror k q = ((s.keepShadow (bits q.msg.aux 21 16) (bits q.msg.aux 7 0) q.msg.offset (q.data.take q.msg.length)).twinLog
      q.msg).mirrorAck k q.msg 0 := by
  simp only [List.mem_cons, List.not_mem_nil, or_false] at kind
  refine (if_neg (not_not_intro twin)).trans ((if_neg (Nat.not_le.2 stays)).trans
    ((if_neg (not_not_intro (mirrorRefusal_owned standby owned))).trans ?_))
  rw [mirrorKind]
  obtain object | object | object := kind <;> rw [object] <;> rfl

end

end

end

end

end

/-! ## The loss of a twin and the log of its messages (R342, R346) -/

theorem exec_twinLost (gone : s.twinGone = true) (undeclared : s.twinLost ≠ some (s.port (s.fld F.CMP_TWIN_port 0)).downAt) :
    let t : State := { s with twinLost := some (s.port (s.fld F.CMP_TWIN_port 0)).downAt }
    exec .twinLost s =
      .next ((if t.fld F.CMP_TWIN_state 0 = 1 ∨ t.fld F.CMP_TWIN_state 0 = 2 then t.primaryTwinLost else t).standbyTwinLost) :=
  checked_next.2 ⟨rfl, if_neg (by simp [gone, undeclared])⟩

theorem exec_twinLogEnable_on {v : Word} (on : F.CMP_TWIN_LOG_enable.of v = 1) :
    let t := s.writeReg .CMP_TWIN_LOG 0 v.toNat (2 ^ 64 - 1)
    let a := t.fld F.CMP_TWIN_LOG_base 0 * 4096
    let n := 0x20000 * 2 ^ t.fld F.CMP_TWIN_LOG_size 0
    exec (.twinLogEnable v) s =
      .next (if inPlainMemory a n && !t.meetsBound a n && !t.meetsWindow a n then (t.setFld F.CMP_TWIN_LOG_enable 0 1).setReg .CMP_TWIN_LOGWR 0 0#64
             else t.setFld F.CMP_TWIN_LOG_enable 0 0) :=
  checked_next.2 ⟨rfl, if_neg (by simp [on])⟩

end

/-- Settles O51, by what each command does where the condition of its event holds, and a MIRROR by the checks of the agent in their order. A twin's
loss is declared once for each time that its port goes down (DEDUCED, log 85). A MIRROR of a STANDBY composition under a slot that it does not own,
which is dropped too, has no clause. -/
theorem twinRows : Obligations.TwinRows := by
  unfold Obligations.TwinRows
  refine ⟨fun v s => ⟨exec_twinEnable_off, exec_twinEnable_noPort, exec_twinEnable_syncs⟩, fun s => exec_twinSyncDone,
    fun k m s bound up on own mirrors => ⟨exec_mirrorAck_absent bound up on own mirrors, exec_mirrorAck_acks bound up on own mirrors⟩,
    fun k m data s => exec_mirror_served m data, ?served, fun s => exec_twinLost, fun v s => exec_twinLogEnable_on⟩
  case served =>
    intro k q s mirror t m c sel data
    rw [agentServe_mirror mirror]
    exact ⟨serveMirror_otherRole, serveMirror_leaving, serveMirror_noStandby, serveMirror_write, serveMirror_object⟩

end Sys2Proof.Machine
end

section
/-! PROOFS of the scope: doorbells, the commands of the host and the memory and objects they change. -/

namespace Sys2Proof.Machine

/-! ## Doorbells (R355) -/

section
variable {f d : Nat} {v : Word} {s : State} {q : QRef} {c : Nat} (fn : f < 128) (bell : d < 4096) (up : s.hostUp (f / 64) = true)
  (rings : s.doorbellRing f d = some q) (live : ((s.ringCtx q).any fun p => p.2.state != .live) = false) (home : s.ringComp q = some c)
include fn bell up rings live home

theorem exec_doorbell_rings :
    let x := s.ring q
    let t := s.setRing q { x with prod := v.toNat }
    let u := match q with
      | .queue _ => if s.ctxReady x.ctx then t else t.becomeReady x.ctx
      | .admin _ => t
    v.toNat < 2 ^ 32 → x.accepts v.toNat = true → exec (.doorbell f d v) s = .next (u.giveWake (u.homeCp c) (.doorbell q)) := by
  intro x t u small fits
  refine checked_next.2 ⟨by simp [fn, bell], (if_neg (by simp [up])).trans ?_⟩
  rw [rings]
  refine (if_neg (ne_true_of_eq_false live)).trans ((if_pos ⟨small, fits⟩).trans ?_)
  generalize s.ringComp q = o at home ⊢
  subst home
  rfl

theorem exec_doorbell_reports (misfit : (s.ring q).accepts v.toNat = false) :
    exec (.doorbell f d v) s = .next (s.report (cpIsl (s.homeCp c)) 0x11 c (engineCode 0 (s.homeCp c)) (match q with
      | .queue _ => (s.ring q).ctx
      | .admin _ => noCtx) 0 0 (qNum q) [] .none).1 := by
  refine checked_next.2 ⟨by simp [fn, bell], (if_neg (by simp [up])).trans ?_⟩
  rw [rings]
  refine (if_neg (ne_true_of_eq_false live)).trans ((if_neg (by simp [misfit])).trans ?_)
  rw [home]
  rfl

end

/-! ## A command from its arrival to its completion (R356, R358 to R360) -/

section
variable {q : QRef} {s : State}

/-! What a command that has been taken comes to, by its condition. -/

section
variable {c : CmdRec}

theorem settleTaken_abandoned (abandoned : s.waitNow c = .abandoned) : s.settleTaken q c = s.endCommand q 2 0 0 := by
  rw [State.settleTaken, abandoned]

theorem settleTaken_waits (waits : s.waitNow c = .waits) : s.settleTaken q c = s.onCur q fun k => { k with waiting := true } := by
  rw [State.settleTaken, waits]

theorem settleTaken_holds (holds : s.waitNow c = .holds) :
    let u := s.onCur q fun k => { k with waiting := false, at_ := s.aon.dt, charged := s.aon.dt }
    s.settleTaken q c = if c.opcode = 1 then u.preemptFor q else u := by
  rw [State.settleTaken, holds]

end

section
variable (served : s.ringServed q = true) (free : (s.ring q).cur = none) (filled : (s.ring q).rd ≠ (s.ring q).prod)
  (up : s.hostUp (s.ringFn q / 64) = true)
include served free filled up

/-- The command at hand is the oldest one of its queue. -/
theorem exec_commandRecordArrive :
    let x := s.ring q
    let c := s.recordAt q x.rd
    let t := (s.setRing q { x with cur := some (Cur.of c s.aon.dt) }).cmdTrace q c 1 0
    exec (.commandRecordArrive q) s = .next (if x.aborts.contains x.rd then t.endCommand q 1 0 0
      else match t.takenStatus q c with
        | some st => t.endCommand q st 0 0
        | none => t.settleTaken q c) :=
  checked_next.2 ⟨rfl, if_neg (by simp [served, free, filled, up])⟩

theorem exec_commandRecordArrive_aborted (aborted : (s.ring q).aborts.contains (s.ring q).rd = true) :
    let c := s.recordAt q (s.ring q).rd
    let t := (s.setRing q { s.ring q with cur := some (Cur.of c s.aon.dt) }).cmdTrace q c 1 0
    exec (.commandRecordArrive q) s = .next (t.endCommand q 1 0 0) := by
  intro c t
  rw [exec_commandRecordArrive served free filled up, if_pos aborted]

section
variable (kept : (s.ring q).aborts.contains (s.ring q).rd = false)
include kept

theorem exec_commandRecordArrive_refused {st : Nat} :
    let c := s.recordAt q (s.ring q).rd
    let t := (s.setRing q { s.ring q with cur := some (Cur.of c s.aon.dt) }).cmdTrace q c 1 0
    t.takenStatus q c = some st → exec (.commandRecordArrive q) s = .next (t.endCommand q st 0 0) := by
  intro c t refused
  rw [exec_commandRecordArrive served free filled up, if_neg (ne_true_of_eq_false kept), refused]

theorem exec_commandRecordArrive_taken :
    let c := s.recordAt q (s.ring q).rd
    let t := (s.setRing q { s.ring q with cur := some (Cur.of c s.aon.dt) }).cmdTrace q c 1 0
    t.takenStatus q c = none → exec (.commandRecordArrive q) s = .next (t.settleTaken q c) := by
  intro c t taken
  rw [exec_commandRecordArrive served free filled up, if_neg (ne_true_of_eq_false kept), taken]

end

end

theorem when_not (s : State) (b : Bool) (f : State → State) : s.when (!b) f = if b then s else f s := by
  cases b <;> rfl

section
variable {k : Cur} (current : (s.ring q).cur = some k)
include current

theorem exec_commandWaitSatisfied (waiting : k.waiting = true) (unended : k.ended = none) (met : s.waitNow k.rec_ ≠ .waits) :
    exec (.commandWaitSatisfied q) s = .next (s.settleTaken q k.rec_) := by
  refine checked_next.2 ⟨rfl, ?_⟩
  rw [current]
  exact if_pos (by simp [waiting, unended, met])

theorem exec_commandCompletion {st det res : Nat} (ended : k.ended = some (st, det, res))
    (live : ((s.ringCtx q).any fun p => p.2.state != .live) = false) (clear : s.suspected q = false) :
    let t := if k.written then s else s.writeCompletion q st (if k.late then 2 else 0) det res
    let u := (((t.cpDebt q).chargeCur q).answerAborts q st).signalCmd q k.rec_ st
    exec (.commandCompletion q) s = .next ((u.cmdTrace q k.rec_ 2 st).retireCmd q) := by
  intro t u
  refine checked_next.2 ⟨rfl, ?_⟩
  rw [current]
  dsimp only
  rw [ended]
  refine (if_neg (ne_true_of_eq_false live)).trans ((if_neg (ne_true_of_eq_false clear)).trans ?_)
  rw [when_not]

end

/-! ## Launches, copies and fills (R97, R300, R361) -/

section
variable {k : Cur}

theorem exec_launch_runs {ctx r : Nat} {x : Ctx} {l : Launch} (runs : s.runnable q 1 = some k) (owner : s.ringCtx q = some (ctx, x))
    (fresh : k.started = false) (header : s.readHeader q ctx x k.rec_ = .ok l) (plain : s.mixerQueue q = false) (untimed : k.rec_.flag 3 = false)
    (may : s.mayLaunch x.comp = true) (free : s.freeLane x.comp = some r) :
    exec (.launch q) s = .next ((s.startCmd q).runLaunch x.comp r l) := by
  refine checked_next.2 ⟨rfl, ?_⟩
  rw [State.issue, runs, owner]
  dsimp only
  rw [if_neg (ne_true_of_eq_false fresh), header]
  dsimp only
  rw [if_neg (ne_true_of_eq_false plain), if_neg (by simp [untimed]), if_neg (by simp [untimed]), if_neg (by simp [may]), free]

theorem exec_nop (runs : s.runnable q 0 = some k) : exec (.nop q) s = .next ((s.startCmd q).endCommand q 0 0 0) :=
  checked_next.2 ⟨rfl, by rw [runs]⟩

theorem exec_copyH2d (runs : s.runnable q 2 = some k) :
    exec (.copyH2d q) s = .next (s.moveUnit q k (fromHost (s.ringFn q / 64) k.rec_.a0) (toDevice q k.rec_ k.rec_.a1)) :=
  checked_next.2 ⟨rfl, by rw [runs]⟩

theorem exec_copyD2h (runs : s.runnable q 3 = some k) :
    exec (.copyD2h q) s = .next (s.moveUnit q k (fromDevice q k.rec_ k.rec_.a0) (toHost (s.ringFn q / 64) k.rec_.a1)) :=
  checked_next.2 ⟨rfl, by rw [runs]⟩

theorem exec_fill (runs : s.runnable q 4 = some k) :
    exec (.fill q) s = .next (s.moveUnit q k
      (fun s _ _ n => (s, some ((List.range n).map fun i => (leBytes 8 k.rec_.a1).getD (i % 8) 0#8), none)) (toDevice q k.rec_ k.rec_.a0)) :=
  checked_next.2 ⟨rfl, by rw [runs]⟩

/-! ## Invalidations and the end of a context (R363, R372) -/

section
variable (fresh : k.started = false)
include fresh

theorem exec_tableSync (runs : s.runnable q 5 = some k) :
    let t := s.startCmd q
    let us := (List.range k.rec_.a2).map fun i =>
      (leNat (t.hostBytes (s.ringFn q / 64) (k.rec_.a1 + 16 * i) 8), leNat (t.hostBytes (s.ringFn q / 64) (k.rec_.a1 + 16 * i + 8) 8))
    let r := t.tableUpdates k.rec_.a0 false 0 us
    t.mayName q k.rec_.a0 = true → t.hostUp (s.ringFn q / 64) = true →
    exec (.tableSync q) s = .next (if r.2.1 then r.1.startInval k.rec_.a0 (.command q r.2.2.1 r.2.2.2)
      else r.1.endCommand q r.2.2.1 r.2.2.2 0) := by
  intro t us r names up
  refine checked_next.2 ⟨rfl, ?_⟩
  rw [runs]
  exact (if_neg (ne_true_of_eq_false fresh)).trans ((if_neg (ne_true_of_eq_false (congrArg not names))).trans
    (if_neg (ne_true_of_eq_false (congrArg not up))))

theorem exec_invalidate (runs : s.runnable q 6 = some k) :
    let t := s.startCmd q
    exec (.invalidate q) s =
      .next (if t.mayName q k.rec_.a0 then t.startInval k.rec_.a0 (.command q 0 0) else t.endCommand q 4 0 0) := by
  refine checked_next.2 ⟨rfl, ?_⟩
  rw [runs]
  exact if_neg (ne_true_of_eq_false fresh)

theorem exec_ctxDestroy (runs : s.runnable q 0x41 = some k) :
    let t := s.startCmd q
    exec (.ctxDestroy q) s =
      .next (if t.liveCtx (t.ringFn q) k.rec_.a0 then t.startDestroy k.rec_.a0 (some q) else t.endCommand q 4 0 0) := by
  refine checked_next.2 ⟨rfl, ?_⟩
  rw [runs]
  exact if_neg (ne_true_of_eq_false fresh)

end

/-! ## Objects that are made (R352, R357) -/

theorem exec_ctxCreate {i tag : Nat} {u : State} (runs : s.runnable q 0x40 = some k) :
    let f := s.ringFn q
    let rt := k.rec_.a0 == 1
    let t := s.startCmd q
    let c := (t.compOf f).getD 0
    t.ctxRefusal f rt = none → lowestFree 40960 0 (t.ctxs.map (·.1)) = some i → t.freeTag = some tag → t.assignTag tag c rt = some u →
    let r := u.free 64
    let x : Ctx := { fn := f, comp := c, tag := tag, state := .live, rt := rt, prio := false, weight := 65536, pass := 0, time := 0, overrun := 0,
                     ovf := 0, ovfSat := false, srseed := r.1.toNat, sel := u.fld F.SEC_COMP_CFG_ctx_sel c, lastQ := 0, destroyBy := none,
                     destroyAt := 0, invalidating := false, guilty := false }
    let w : State := { r.2 with ctxs := r.2.ctxs.put i x, tagsUsed := tag :: r.2.tagsUsed }
    let w := (w.setComp c { w.comp c with exclusiveUsed := true }).showFn f
    exec (.ctxCreate q) s = .next ((w.mirrorCtx i).endCommand q 0 tag i) := by
  intro f rt t c allowed lowest tagged assigned r x w w
  refine checked_next.2 ⟨rfl, ?_⟩
  rw [runs]
  dsimp only
  rw [allowed]
  dsimp only
  rw [lowest, tagged]
  dsimp only
  rw [assigned]

theorem exec_qCreate {i d : Nat} (runs : s.runnable q 0x42 = some k) :
    let f := s.ringFn q
    let t := s.startCmd q
    let bells := (t.queues.filter fun e => e.2.fn == f).map fun e => e.2.doorbell
    t.liveCtx f k.rec_.a2 = true → t.fld F.CTX_FN_STATUS_queues f < t.fld F.CTX_QUOTA_max_queues f →
    lowestFree 81920 0 (t.queues.map (·.1)) = some i →
    (((List.range (bells.length + 1)).map (· + 1)).find? fun d => decide (d < 4096) && !bells.contains d) = some d →
    let x : Ring := { Ring.init with fn := f, base := bits k.rec_.a0 63 12 * 4096, n := bits k.rec_.a0 3 0 + 4, cplBase := k.rec_.a1,
                                     ctx := k.rec_.a2, kind := bits k.rec_.a0 5 4, doorbell := d }
    exec (.qCreate q) s = .next (((({ t with queues := t.queues.put i x } : State).showFn f).mirrorCtx k.rec_.a2).endCommand q 0 d i) := by
  intro f t bells live quota lowest bell x
  refine checked_next.2 ⟨rfl, ?_⟩
  rw [runs]
  refine (if_neg (ne_true_of_eq_false (congrArg not live))).trans ((if_neg (Nat.not_le.2 quota)).trans ?_)
  rw [lowest, bell]

theorem exec_fAlloc {i : Nat} (runs : s.runnable q 0x44 = some k) :
    let f := s.ringFn q
    let t := s.startCmd q
    t.liveCtx f k.rec_.a2 = true → t.fld F.CTX_FN_STATUS_fences f < t.fld F.CTX_QUOTA_max_fences f →
    lowestFree 262144 0 ((t.fences.filter fun e => e.2.taken).map (·.1)) = some i →
    let g := nextGen i (t.fences.get i Fence.init).gen
    let x : Fence := { gen := g, taken := true, abandoned := false, value := k.rec_.a0, last := 0, fn := f, ctx := k.rec_.a2,
                       tag := bits k.rec_.a1 47 0, vector := bits k.rec_.a1 58 48 }
    exec (.fAlloc q) s =
      .next (((({ t with fences := t.fences.put i x } : State).showFn f).mirrorFence i).endCommand q 0 0 (i + g * 2 ^ 18)) := by
  intro f t live quota lowest g x
  refine checked_next.2 ⟨rfl, ?_⟩
  rw [runs]
  refine (if_neg (ne_true_of_eq_false (congrArg not live))).trans ((if_neg (Nat.not_le.2 quota)).trans ?_)
  rw [lowest]

/-! ## Objects that are given back, and waiters (R357, R365) -/

theorem exec_qDestroy {x : Ring} (runs : s.runnable q 0x43 = some k) (found : (s.startCmd q).queues.find k.rec_.a0 = some x) :
    let t := s.startCmd q
    exec (.qDestroy q) s = .next (if x.fn ≠ s.ringFn q then t.endCommand q 4 0 0
      else if x.rd ≠ x.prod then t.endCommand q 19 0 0
      else (((({ t with queues := t.queues.del k.rec_.a0 } : State).showFn (s.ringFn q)).mirrorCtx x.ctx).endCommand q 0 0 0)) := by
  refine checked_next.2 ⟨rfl, ?_⟩
  rw [runs]
  dsimp only
  rw [found]

theorem exec_fFree {x : Fence} (runs : s.runnable q 0x45 = some k) :
    let f := s.ringFn q
    let t := s.startCmd q
    let busy := !x.abandoned && ((t.fn f).waiters.any (fun w => w.fence == k.rec_.a0) || t.fenceNamed f k.rec_.a0 q)
    t.fnFence f k.rec_.a0 = true → t.fence k.rec_.a0 = some x →
    exec (.fFree q) s = .next (if busy then t.endCommand q 19 0 0
      else ((((t.setFence k.rec_.a0 { Fence.init with gen := x.gen }).showFn f).recheckFence k.rec_.a0).endCommand q 0 0 0)) := by
  intro f t busy own found
  refine checked_next.2 ⟨rfl, ?_⟩
  rw [runs]
  dsimp only
  rw [if_pos own, found]

theorem exec_fArm {x : Fence} (runs : s.runnable q 0x46 = some k) :
    let f := s.ringFn q
    let t := s.startCmd q
    let w : Waiter := { fence := k.rec_.a0, value := k.rec_.a1, tag := bits k.rec_.a2 47 0, vector := bits k.rec_.a2 58 48 }
    let u := t.setFn f { t.fn f with waiters := (t.fn f).waiters ++ [w] }
    t.fnFence f k.rec_.a0 = true → t.fence k.rec_.a0 = some x →
    (t.fns.map fun e => e.2.waiters.length).foldl (· + ·) 0 < 524288 →
    exec (.fArm q) s = .next ((if x.abandoned then u.deliverWaiters f k.rec_.a0 3 u.aon.dt fun v => v == w
      else if k.rec_.a1 ≤ x.value then u.deliverWaiters f k.rec_.a0 x.last u.aon.dt fun v => v == w
      else u).endCommand q 0 0 0) := by
  intro f t w u own found room
  refine checked_next.2 ⟨rfl, ?_⟩
  rw [runs]
  dsimp only
  rw [if_pos own, found]
  exact if_neg (Nat.not_le.2 room)

end

end

/-! ## Aborts and squashes (R371, R372) -/

/-- An index between a ring's read and producer indices names a command that has not been begun, unless it is the one at hand. -/
theorem exec_ctxAbort_notes {f : Nat} {v : Word} {s : State} {x : Ring} (fn : f < 128) (found : s.queues.find (F.CTX_ABORT_queue.of v) = some x)
    (own : x.fn = f) (room : (s.fn f).aborts.length < 64) :
    let d := (F.CTX_ABORT_index.of v + 2 ^ 32 - x.rd) % 2 ^ 32
    d < (x.prod + 2 ^ 32 - x.rd) % 2 ^ 32 → (d ≠ 0 ∨ x.cur = none) →
    exec (.ctxAbort f v) s = .next ((s.setRing (.queue (F.CTX_ABORT_queue.of v)) { x with aborts := F.CTX_ABORT_index.of v :: x.aborts }).abortCookie
      f (F.CTX_ABORT_queue.of v) (F.CTX_ABORT_index.of v) 0) := by
  intro d pends unbegun
  have inside : ¬ (x.prod + 2 ^ 32 - x.rd) % 2 ^ 32 ≤ d := Nat.not_le.2 pends
  have named : ¬ ((x.prod + 2 ^ 32 - x.rd) % 2 ^ 32 ≤ d ∧ d < 2 ^ 31) := fun h => inside h.1
  have noneBegun : (if d = 0 then x.cur else none) = none := by
    obtain later | idle := unbegun
    · exact if_neg later
    · rw [idle, ite_self]
  refine checked_next.2 ⟨decide_eq_true fn, ?_⟩
  extract_lets qn i q
  rw [found]
  refine (if_neg (not_not_intro own)).trans ((if_neg named).trans ((if_neg (Nat.not_le.2 room)).trans ((if_neg inside).trans ?_)))
  rw [noneBegun]

theorem exec_launchAbortSquash {c lane t : Nat} {s : State} {l : Launch} (comp : c < 64) (named : lane < 2)
    (found : s.launches.find (laneKey c lane) = some l) (aborting : l.aborting = some t) (due : t + us 200 ≤ s.aon.dt) :
    exec (.launchAbortSquash c lane) s = .next (l.cores.foldl (fun s n =>
      if (s.core n lane).inLaunch && (s.core n lane).comp == c then s.squashCore n lane false else s) s) := by
  refine checked_next.2 ⟨by simp [comp, named], ?_⟩
  rw [found]
  dsimp only
  rw [aborting]
  exact if_pos due

theorem foldl_unchanged {α β : Type} {f : β → α → β} {l : List α} {b : β} (same : ∀ a ∈ l, f b a = b) : l.foldl f b = b :=
  l.foldlRecOn f (motive := fun c => c = b) rfl fun c kept a mem => by rw [kept, same a mem]

/-- A destruction that no launch outlives: the queues of the context are emptied, its channels squashed and its tag invalidated. -/
theorem exec_destroySquash {ctx : Nat} {s : State} {x : Ctx} (bound : ctx < 40960) (found : s.ctxs.find ctx = some x) (ending : x.state = .destroying)
    (waits : x.invalidating = false) (due : x.destroyAt + us 500 ≤ s.aon.dt) (unlaunched : ∀ e ∈ s.launches, e.2.ctx ≠ ctx) :
    let t := (s.ctxQueues ctx).foldl (fun s i => s.setRing (.queue i) { s.ring (.queue i) with prod := (s.ring (.queue i)).rd, cur := none }) s
    let t := t.squashChans ctx
    exec (.destroySquash ctx) s = .next ((t.onCtx ctx fun c => { c with invalidating := true }).startInval x.tag (.destroy ctx)) := by
  refine checked_next.2 ⟨decide_eq_true bound, ?_⟩
  rw [found]
  refine (if_pos ⟨ending, by simp [waits], due⟩).trans ?_
  rw [foldl_unchanged fun e mem => if_neg (unlaunched e mem)]

/-! ## The event ring (R349) -/

section
variable {f : Nat} {v : Word} {s : State} (fn : f < 128)
include fn

theorem exec_evrEnable_on (on : F.CTX_EVR_BASE_enable.of v = 1) :
    let t := s.writeReg .CTX_EVR_BASE f v.toNat (2 ^ 64 - 1)
    let u := ((t.setFld F.CTX_EVR_BASE_enable f 1).setReg .CTX_EVR_RD f 0#64).setReg .CTX_EVR_WR f 0#64
    exec (.evrEnable f v) s = .next (u.drainCookies (u.fn f).cookies.length f) :=
  checked_next.2 ⟨decide_eq_true fn, if_pos on⟩

theorem exec_evrEnable_off (off : F.CTX_EVR_BASE_enable.of v = 0) :
    exec (.evrEnable f v) s = .next ((s.writeReg .CTX_EVR_BASE f v.toNat (2 ^ 64 - 1)).setFld F.CTX_EVR_BASE_enable f 0) :=
  checked_next.2 ⟨decide_eq_true fn, if_neg (by simp [off])⟩

theorem exec_ctxEvrRdWrite_drains (fits : rdOk 32 (s.fld F.CTX_EVR_WR_wr f) (s.evrCap f) (F.CTX_EVR_RD_rd.of v) = true) :
    let t := s.setFld F.CTX_EVR_RD_rd f (F.CTX_EVR_RD_rd.of v)
    exec (.ctxEvrRdWrite f v) s = .next (t.drainCookies (t.fn f).cookies.length f) :=
  checked_next.2 ⟨decide_eq_true fn, if_pos fits⟩

theorem exec_ctxEvrRdWrite_misfit (misfit : rdOk 32 (s.fld F.CTX_EVR_WR_wr f) (s.evrCap f) (F.CTX_EVR_RD_rd.of v) = false) :
    exec (.ctxEvrRdWrite f v) s = .next s :=
  checked_next.2 ⟨decide_eq_true fn, if_neg (ne_true_of_eq_false misfit)⟩

end

/-- Settles O55, by what each command does where the condition of its event holds. That the lowest free object is given, and that a doorbell which
does not advance its index is none, are the model's readings (DEDUCED, logs 53 and 54). -/
theorem hostCommands : Obligations.HostCommands := by
  unfold Obligations.HostCommands
  refine ⟨fun f d v s q fn bell up rings live => ⟨fun c small fits home => exec_doorbell_rings fn bell up rings live home small fits,
      fun c misfit home => exec_doorbell_reports fn bell up rings live home misfit⟩,
    fun q s served free filled up => ⟨exec_commandRecordArrive_aborted served free filled up,
      fun st kept => exec_commandRecordArrive_refused served free filled up kept, fun kept taken => ?taken⟩,
    fun q s k current => ⟨exec_commandWaitSatisfied current, fun st det res => exec_commandCompletion current⟩,
    fun q s k ctx x l r => exec_launch_runs, fun q s k => exec_nop, fun q s k => exec_copyH2d, fun q s k => exec_copyD2h, fun q s k => exec_fill,
    fun q s k fresh => ⟨exec_tableSync fresh, exec_invalidate fresh, exec_ctxDestroy fresh⟩,
    fun q s u k i tag => exec_ctxCreate, fun q s k x runs found => ?destroyed, fun q s k i d => exec_qCreate, fun q s k i => exec_fAlloc,
    fun q s k x runs => ?freed, fun q s k x => exec_fArm,
    fun f v s x fn found own room => exec_ctxAbort_notes fn found own room,
    fun c lane t s l => exec_launchAbortSquash, fun ctx s x => exec_destroySquash,
    fun f v s fn => ⟨exec_evrEnable_on fn, exec_evrEnable_off fn⟩,
    fun f v s fn => ⟨exec_ctxEvrRdWrite_drains fn, exec_ctxEvrRdWrite_misfit fn⟩⟩
  case taken =>
    rw [exec_commandRecordArrive_taken served free filled up kept taken]
    exact ⟨fun holds => congrArg _ (settleTaken_holds holds), fun waits => congrArg _ (settleTaken_waits waits),
      fun abandoned => congrArg _ (settleTaken_abandoned abandoned)⟩
  case destroyed =>
    rw [exec_qDestroy runs found]
    exact ⟨fun other => congrArg _ (if_pos other),
      fun own filled => congrArg _ ((if_neg (not_not_intro own)).trans (if_pos filled)),
      fun own empty => congrArg _ ((if_neg (not_not_intro own)).trans (if_neg (not_not_intro empty)))⟩
  case freed =>
    intro f t busy own found
    rw [exec_fFree runs own found]
    exact ⟨fun used => congrArg _ (if_pos used), fun unused => congrArg _ (if_neg (ne_true_of_eq_false unused))⟩

end Sys2Proof.Machine
end

section
/-! PROOFS of the host ports and the mailboxes (R367 to R369, R373 to R375). -/
namespace Sys2Proof.Machine

/-! ## Resets and links of a host port (R373 to R375) -/

section
variable {h : Nat} {s : State} (port : h < 2)
include port

theorem exec_perstAssert :
    exec (.perstAssert h) s = .next ((s.onHost h fun p => { p with perst := true, up := false }).portReset h) :=
  checked_next.2 ⟨decide_eq_true port, rfl⟩

theorem exec_perstRelease : exec (.perstRelease h) s = .next (s.onHost h fun p => { p with perst := false }) :=
  checked_next.2 ⟨decide_eq_true port, rfl⟩

theorem exec_hotReset : exec (.hotReset h) s = .next (s.portReset h) := checked_next.2 ⟨decide_eq_true port, rfl⟩

theorem exec_hostLinkDown : exec (.hostLinkDown h) s = .next ((s.onHost h fun p => { p with up := false }).portReset h) :=
  checked_next.2 ⟨decide_eq_true port, rfl⟩

theorem exec_hostLinkUp_trains (trains : s.hostTrains h = true) :
    exec (.hostLinkUp h) s = .next (s.onHost h fun p => { p with up := true }) :=
  checked_next.2 ⟨decide_eq_true port, if_pos trains⟩

theorem exec_hostLinkUp_held (held : s.hostTrains h = false) : exec (.hostLinkUp h) s = .next s :=
  checked_next.2 ⟨decide_eq_true port, if_neg (ne_true_of_eq_false held)⟩

theorem exec_functionLevelReset_physical : exec (.functionLevelReset (64 * h)) s = .next (s.portReset h) := by
  have half : 64 * h / 64 = h := by omega
  refine checked_next.2 ⟨decide_eq_true (by omega), (if_pos (by omega)).trans ?_⟩
  rw [half]

theorem exec_functionLevelReset_virtual {i : Nat} (first : 1 ≤ i) (last : i < 64) :
    exec (.functionLevelReset (64 * h + i)) s = .next (s.functionReset (64 * h + i)) :=
  checked_next.2 ⟨decide_eq_true (by omega), if_neg (by omega)⟩

end

/-- The state with the outbound message of composition `c` acknowledged: out_valid and out_length 0, the area empty (R368). -/
def State.mbxAcked (s : State) (c : Nat) : State :=
  let t := (s.setFld F.MBX_STATUS_out_valid c 0).setFld F.MBX_STATUS_out_length c 0
  { t with mailbox := t.mailbox.del (mbxIn c + 1) }

/-- The state whose next outbound message that waits, where there is one, has left (R369). -/
def State.mbxNext (s : State) (c : Nat) : State :=
  match s.mbxOut.get c [] with
  | [] => s
  | m :: rest => State.mbxPut { s with mbxOut := s.mbxOut.put c rest } c m.1 m.2

@[simp] theorem mbxAcked_mbxOut (s : State) (c : Nat) : (s.mbxAcked c).mbxOut = s.mbxOut := by
  unfold State.mbxAcked
  rw [setFld_mbxOut, setFld_mbxOut]

theorem mbxNext_none {s : State} {c : Nat} (empty : s.mbxOut.get c [] = []) : s.mbxNext c = s := by
  rw [State.mbxNext, empty]

theorem mbxNext_some {s : State} {c : Nat} {m : Nat × List Byte} {rest : List (Nat × List Byte)} (waits : s.mbxOut.get c [] = m :: rest) :
    s.mbxNext c = State.mbxPut { s with mbxOut := s.mbxOut.put c rest } c m.1 m.2 := by
  rw [State.mbxNext, waits]

/-! ## The mailbox from the host's side (R367 to R369) -/

section
variable {f c : Nat} {s : State} {v : Word} (fn : f < 128) (home : s.compOf f = some c)
include fn home

section
variable {body : List Byte}

theorem exec_mbxDoorbell_rings (long : 8 ≤ F.MBX_DOORBELL_length.of v) (short : F.MBX_DOORBELL_length.of v ≤ 4096)
    (idle : s.fld F.MBX_STATUS_in_busy c = 0) :
    let t : State := { s with mailbox := s.mailbox.put (mbxIn c) ((splice (s.mailbox.get (mbxIn c) []) 0 body).take 4096) }
    exec (.mbxDoorbell f v body) s = .next (t.setFld F.MBX_STATUS_in_busy c 1) := by
  intro t
  have accepts : ¬ (t.fld F.MBX_STATUS_in_busy c = 1 ∨ F.MBX_DOORBELL_length.of v < 8 ∨ 4096 < F.MBX_DOORBELL_length.of v) := by
    have idle : t.fld F.MBX_STATUS_in_busy c = 0 := idle
    omega
  refine checked_next.2 ⟨decide_eq_true fn, ?_⟩
  rw [home]
  exact if_neg accepts

theorem exec_mbxDoorbell_misfit (misfit : F.MBX_DOORBELL_length.of v < 8 ∨ 4096 < F.MBX_DOORBELL_length.of v) :
    exec (.mbxDoorbell f v body) s =
      .next { s with mailbox := s.mailbox.put (mbxIn c) ((splice (s.mailbox.get (mbxIn c) []) 0 body).take 4096) } := by
  refine checked_next.2 ⟨decide_eq_true fn, ?_⟩
  rw [home]
  exact if_pos (.inr misfit)

end

theorem exec_mbxAck_without (without : F.MBX_ACK_ack.of v = 0) : exec (.mbxAck f v) s = .next s := by
  refine checked_next.2 ⟨decide_eq_true fn, ?_⟩
  rw [home]
  exact if_pos without

section
variable (acked : F.MBX_ACK_ack.of v = 1)
include acked

theorem exec_mbxAck : exec (.mbxAck f v) s = .next ((s.mbxAcked c).mbxNext c) := by
  refine checked_next.2 ⟨decide_eq_true fn, ?_⟩
  rw [home]
  exact if_neg (by omega)

theorem exec_mbxAck_last (waits : s.mbxOut.get c [] = []) : exec (.mbxAck f v) s = .next (s.mbxAcked c) := by
  rw [exec_mbxAck fn home acked, mbxNext_none (by rwa [mbxAcked_mbxOut])]

theorem exec_mbxAck_next {m : Nat × List Byte} {rest : List (Nat × List Byte)} (waits : s.mbxOut.get c [] = m :: rest) :
    exec (.mbxAck f v) s = .next (State.mbxPut { s.mbxAcked c with mbxOut := (s.mbxAcked c).mbxOut.put c rest } c m.1 m.2) := by
  rw [exec_mbxAck fn home acked, mbxNext_some (by rwa [mbxAcked_mbxOut])]

end

end

/-! ## The mailbox from the side of management firmware (R367, R369) -/

section
variable {c : Nat} {s : State} (comp : c < 64)
include comp

theorem exec_mailboxInboundTaken_tells {f : Nat} (busy : s.fld F.MBX_STATUS_in_busy c = 1) :
    let t := s.setFld F.MBX_STATUS_in_busy c 0
    t.attached c = some f → exec (.mailboxInboundTaken c) s =
      .next (t.raise f { kind := 7, status := 1, payload := t.fld F.MBX_STATUS_out_length c, dt := t.aon.dt, vector := 0 }) := by
  intro t attached
  refine checked_next.2 ⟨decide_eq_true comp, (if_neg (by omega)).trans ?_⟩
  extract_lets
  rw [attached]

theorem exec_mailboxInboundTaken_silent (busy : s.fld F.MBX_STATUS_in_busy c = 1)
    (detached : (s.setFld F.MBX_STATUS_in_busy c 0).attached c = none) :
    exec (.mailboxInboundTaken c) s = .next (s.setFld F.MBX_STATUS_in_busy c 0) := by
  refine checked_next.2 ⟨decide_eq_true comp, (if_neg (by omega)).trans ?_⟩
  extract_lets u
  rw [detached]

section
variable {ty : Nat} {payload : List Byte}

theorem exec_mailboxOutboundMessage_waits (out : s.fld F.MBX_STATUS_out_valid c = 1) :
    exec (.mailboxOutboundMessage c ty payload) s =
      .next { s with mbxOut := s.mbxOut.put c (s.mbxOut.get c [] ++ [(ty, payload)]) } :=
  checked_next.2 ⟨decide_eq_true comp, if_neg (by omega)⟩

theorem exec_mailboxOutboundMessage_leaves (idle : s.fld F.MBX_STATUS_out_valid c = 0) :
    exec (.mailboxOutboundMessage c ty payload) s = .next (s.mbxPut c ty payload) :=
  checked_next.2 ⟨decide_eq_true comp, if_pos idle⟩

end

end

/-- The state that has an outbound message in place, before its event. -/
def State.mbxPlaced (s : State) (c ty : Nat) (payload : List Byte) : State :=
  let n := min 4096 (8 + payload.length)
  let seq := s.mbxSeq.get c 0
  let body := (leBytes 2 ty ++ leBytes 2 n ++ leBytes 4 seq ++ payload).take 4096
  let t : State := { s with mailbox := s.mailbox.put (mbxIn c + 1) body, mbxSeq := s.mbxSeq.put c ((seq + 1) % 2 ^ 32) }
  (t.setFld F.MBX_STATUS_out_valid c 1).setFld F.MBX_STATUS_out_length c n

section
variable {c ty f : Nat} {payload : List Byte} {s : State}

theorem mbxPut_attached (attached : (s.mbxPlaced c ty payload).attached c = some f) :
    s.mbxPut c ty payload = (s.mbxPlaced c ty payload).raise f
      { kind := 7, status := 0, payload := min 4096 (8 + payload.length), dt := (s.mbxPlaced c ty payload).aon.dt, vector := 0 } := by
  unfold State.mbxPlaced at attached ⊢
  rw [State.mbxPut, attached]

theorem mbxPut_detached (detached : (s.mbxPlaced c ty payload).attached c = none) : s.mbxPut c ty payload = s.mbxPlaced c ty payload := by
  unfold State.mbxPlaced at detached ⊢
  rw [State.mbxPut, detached]

end

/-- Settles O56: what a reset, a link, a doorbell, an acknowledgement and a message do, where the event of each has come (R367 to R369, R373 to
R375). -/
theorem hostPortsAndMailbox : Obligations.HostPortsAndMailbox := by
  unfold Obligations.HostPortsAndMailbox
  refine ⟨fun h s port => ⟨exec_perstAssert port, exec_perstRelease port, exec_hotReset port, exec_hostLinkDown port, exec_hostLinkUp_trains port,
      exec_hostLinkUp_held port, exec_functionLevelReset_physical port, fun i => exec_functionLevelReset_virtual port⟩,
    fun f c s fn home => ⟨fun v body => ⟨exec_mbxDoorbell_rings fn home, exec_mbxDoorbell_misfit fn home⟩,
      fun v => ⟨exec_mbxAck_without fn home, exec_mbxAck_last fn home, fun m rest acked => exec_mbxAck_next fn home acked⟩⟩,
    fun c s comp => ⟨fun f => exec_mailboxInboundTaken_tells comp, exec_mailboxInboundTaken_silent comp⟩,
    fun c ty payload s comp => ⟨exec_mailboxOutboundMessage_waits comp, fun idle => ?_⟩⟩
  rw [exec_mailboxOutboundMessage_leaves comp idle]
  exact ⟨fun f attached => congrArg _ (mbxPut_attached attached), fun detached => congrArg _ (mbxPut_detached detached)⟩

end Sys2Proof.Machine
end

section
/-! PROOFS of the fault rings, the watchdogs, the ladder, quarantine and the crash dump (R405 to R419). -/
namespace Sys2Proof.Machine

/-! ## Fault rings (R405 to R408, R420) -/

section
variable {f : Nat} {s : State} (fn : f < 128)
include fn

theorem exec_pendingFaultWrite_full (full : s.fltFull f = true) : exec (.pendingFaultWrite f) s = .next s :=
  checked_next.2 ⟨decide_eq_true fn, if_pos full⟩

section
variable (room : s.fltFull f = false)
include room

theorem exec_pendingFaultWrite_merged {m : FaultRec} (merged : (s.fn f).merge = some m) :
    exec (.pendingFaultWrite f) s = .next ((s.setFn f { s.fn f with merge := none }).fltPut f m) := by
  refine checked_next.2 ⟨decide_eq_true fn, (if_neg (ne_true_of_eq_false room)).trans ?_⟩
  rw [merged]

theorem exec_pendingFaultWrite_stalled {r : FaultRec} {who : Stalled} {rest : List (FaultRec × Stalled)} (unmerged : (s.fn f).merge = none)
    (waits : (s.fn f).stalled = (r, who) :: rest) :
    exec (.pendingFaultWrite f) s =
      .next ((((s.setFn f { s.fn f with stalled := rest }).showStalled f).fltPut f r).recordGone who) := by
  refine checked_next.2 ⟨decide_eq_true fn, (if_neg (ne_true_of_eq_false room)).trans ?_⟩
  rw [unmerged, waits]

end

theorem exec_fltRingEnable_on {v : Word} (on : F.FLT_RING_BASE_enable.of v = 1) :
    let t := s.writeReg .FLT_RING_BASE f v.toNat (2 ^ 64 - 1)
    let u := ((t.setFld F.FLT_RING_BASE_enable f 1).setReg .FLT_RING_RD f 0#64).setFld F.FLT_RING_STATUS_wr f 0
    let u := (u.setFld F.FLT_RING_STATUS_lost f 0).setFld F.FLT_RING_STATUS_overflow f 0
    exec (.fltRingEnable f v) s = .next (u.setFn f { u.fn f with fltWr := 0 }) :=
  checked_next.2 ⟨decide_eq_true fn, if_pos on⟩

theorem exec_fltRingEnable_off {v : Word} (off : F.FLT_RING_BASE_enable.of v = 0) :
    exec (.fltRingEnable f v) s = .next ((s.writeReg .FLT_RING_BASE f v.toNat (2 ^ 64 - 1)).setFld F.FLT_RING_BASE_enable f 0) :=
  checked_next.2 ⟨decide_eq_true fn, if_neg (by omega)⟩

theorem exec_overflowClear (overflown : s.fld F.FLT_RING_STATUS_overflow f = 1) :
    exec (.overflowClear f) s =
      .next ((s.setFld F.FLT_RING_STATUS_overflow f 0).hostStore (f / 64) (s.fld F.FLT_RING_BASE_base f * 4096 + 8) (zeros 8)) :=
  checked_next.2 ⟨decide_eq_true fn, if_neg (by omega)⟩

end

/-! ## Watchdogs and requests of the ladder (R409, R411) -/

section
variable {e : Engine} {s : State} (named : engineOk e = true)
include named

theorem exec_watchdogExpire_alive (alive : s.hung e = false) : exec (.watchdogExpire e) s = .next s :=
  checked_next.2 ⟨named, if_neg (ne_true_of_eq_false alive)⟩

theorem exec_watchdogExpire_hung (hung : s.hung e = true) :
    exec (.watchdogExpire e) s =
      .next ((s.report (engineIsl e) 0x0B (s.engineOwner e).1 (engineNo e) (s.engineOwner e).2 0 0 (watchClass e) [] .none).1.toLadder e) :=
  checked_next.2 ⟨named, if_pos hung⟩

end

theorem exec_fltResetWrite_busy {v : Word} {s : State} (busy : s.fld F.FLT_LADDER_busy 0 = 1) : exec (.fltResetWrite v) s = .next s :=
  checked_next.2 ⟨rfl, if_pos busy⟩

section
variable {v : Word} {s : State} (idle : s.fld F.FLT_LADDER_busy 0 = 0)
include idle

theorem exec_fltResetWrite_engine {e : Engine} (step : F.FLT_RESET_step.of v = 1) (engine : engineOf (F.FLT_RESET_engine.of v) = some e) :
    exec (.fltResetWrite v) s = .next (s.askReset { step := 1, engine := some e, island := engineIsl e, hang := false }) := by
  refine checked_next.2 ⟨rfl, (if_neg (by omega)).trans ?_⟩
  rw [step, engine]
  rfl

theorem exec_fltResetWrite_island {n : Nat} (step : F.FLT_RESET_step.of v = n) (above : 2 ≤ n) (below : n ≤ 4)
    (island : F.FLT_RESET_island.of v < 148) (half : n = 3 → F.FLT_RESET_island.of v ≠ 136 ∧ F.FLT_RESET_island.of v ≠ 137) :
    exec (.fltResetWrite v) s =
      .next (s.askReset { step := n, engine := none, island := F.FLT_RESET_island.of v, hang := false }) := by
  refine checked_next.2 ⟨rfl, (if_neg (by omega)).trans ?_⟩
  rw [step]
  obtain rfl | rfl | rfl : n = 2 ∨ n = 3 ∨ n = 4 := by omega
  · exact if_pos island
  · exact if_pos ⟨island, half rfl⟩
  · rfl

end

/-! ## Steps of the ladder that end (R411, R413, R414) -/

section
variable {s : State} {r : LadderReq}

theorem exec_engineReset {e d : Engine} (named : engineOk e = true) (asked : s.inStepNo 1 = some r) (engine : r.engine = some d)
    (same : sameEngine d e = true) :
    let a := s.endCollection r
    exec (.engineReset e) s =
      .next ((((((a.markHung r).holdSuspects r (a.suspectsOf r)).abortSteps r).resetEngine e).noteReset 1 r.island).completeStep r) := by
  intro a
  refine checked_next.2 ⟨named, ?_⟩
  rw [asked]
  exact if_neg (by simp [engine, same])

theorem exec_islandReset (asked : s.inStepNo 2 = some r) (island : r.island < 148) :
    let a := s.endCollection r
    exec (.islandReset r.island) s =
      .next (((((a.markHung r).holdSuspects r (a.suspectsOf r)).abortSteps r).resetDomains r).completeStep r) := by
  intro a
  refine checked_next.2 ⟨decide_eq_true island, ?_⟩
  rw [asked]
  exact if_neg (not_not_intro rfl)

theorem exec_halfReset {h : Nat} (half : h < 2) (asked : s.inStepNo 3 = some r) (east : (islEast r.island).toNat = h) :
    exec (.halfReset h) s =
      .next (((((((s.endCollection r).endDump r true).markHung r).abortSteps r).resetDomains r).halfLost r).completeStep r) := by
  refine checked_next.2 ⟨decide_eq_true half, ?_⟩
  rw [asked]
  exact if_neg (not_not_intro east)

theorem exec_deviceReset (asked : s.inStepNo 4 = some r) :
    exec .deviceReset s = .next ((s.endCollection r).endDump r true).deviceReset := by
  refine checked_next.2 ⟨rfl, ?_⟩
  rw [asked]

end

/-! ## Steps of the ladder that run past their bound (R411, R413, R418) -/

section
variable {s : State} {r : LadderReq} {rest : List LadderReq} (asked : s.ladder.reqs = r :: rest)
include asked

theorem exec_ladderStepTimeout (step : r.step < 4)
    (late : s.ladder.at_ + ((if s.ladder.collecting then us 200 else 0) + if s.ladder.dumping.isSome then us 10000 else 0) + stepTicks r.step ≤
      s.aon.dt) :
    let a := (s.endCollection r).endDump r true
    exec .ladderStepTimeout s =
      .next ({ a with ladder := { a.ladder with reqs := { r with step := r.step + 1, engine := none } :: rest } }).beginStep := by
  intro a
  refine checked_next.2 ⟨rfl, ?_⟩
  rw [asked]
  exact if_neg (not_or.2 ⟨Nat.not_le.2 step, Nat.not_lt.2 late⟩)

theorem exec_collectionTimeout (collecting : s.ladder.collecting = true) (late : s.ladder.at_ + us 200 ≤ s.aon.dt) :
    let l := s.collection r
    let q := s.free 16
    let t := q.2.writeCollected r (l.take (1 + q.1.toNat % (l.length + 1))) true
    exec .collectionTimeout s = .next { t with ladder := { t.ladder with collecting := false, at_ := t.aon.dt } } := by
  intro l q t
  refine checked_next.2 ⟨rfl, ?_⟩
  rw [asked]
  exact if_neg (by simp [collecting, late])

theorem exec_dumpTimeout {begun : Nat} (dumping : s.ladder.dumping = some begun) (late : begun + us 10000 ≤ s.aon.dt) :
    let t := (s.endCollection r).endDump r false
    exec .dumpTimeout s = .next { t with ladder := { t.ladder with at_ := t.aon.dt } } := by
  intro t
  refine checked_next.2 ⟨rfl, ?_⟩
  rw [asked, dumping]
  exact if_neg (Nat.not_lt.2 late)

end

/-! ## Quarantine (R414, R415) -/

/-- The state in which suspect `p`, whose command is `k`, begins its replay, or is judged UNRESOLVED where its program uses a port. -/
def State.beginReplay (s : State) (p : Suspect) (k : Cur) (portUse : Bool) : State :=
  if portUse && k.rec_.opcode == 1 then s.unresolved p
  else match k.rec_.opcode with
    | 1 => s.startReplay p k
    | 2 | 3 | 4 => s.startCopyReplay p
    | _ => (s.setSuspect p { p with replay := some 64 }).onCur p.q fun k => { k with started := false, ended := none }

section
variable {s : State} {p : Suspect} {k : Cur}

theorem beginReplay_launch (launch : k.rec_.opcode = 1) : s.beginReplay p k false = s.startReplay p k := by
  rw [State.beginReplay, launch]
  rfl

theorem beginReplay_port (launch : k.rec_.opcode = 1) : s.beginReplay p k true = s.unresolved p := if_pos (by simp [launch])

theorem beginReplay_copy {portUse : Bool} (first : 2 ≤ k.rec_.opcode) (last : k.rec_.opcode ≤ 4) :
    s.beginReplay p k portUse = s.startCopyReplay p := by
  have other : ¬ (portUse && k.rec_.opcode == 1) = true := by simp; omega
  obtain copy | copy | copy : k.rec_.opcode = 2 ∨ k.rec_.opcode = 3 ∨ k.rec_.opcode = 4 := by omega
  all_goals
    rw [State.beginReplay, if_neg other, copy]
    rfl

end

section
variable {ctx : Nat} {s : State} {p : Suspect} {k : Cur} (bound : ctx < 40960)
include bound

theorem exec_quarantineReplay {portUse : Bool} (quiet : ∀ x ∈ s.suspects, x.replay = none) (lowest : ∀ x ∈ s.waitingSuspects, ctx ≤ x.ctx)
    (found : (s.waitingSuspects.find? fun p => p.ctx == ctx) = some p) (current : (s.ring p.q).cur = some k) :
    exec (.quarantineReplay ctx portUse) s = .next (s.beginReplay p k portUse) := by
  have next : ¬ (s.suspects.any (fun p => p.replay.isSome) || s.waitingSuspects.any fun p => decide (p.ctx < ctx)) = true := by
    simp only [Bool.or_eq_true, List.any_eq_true, decide_eq_true_eq, not_or, not_exists, not_and]
    exact ⟨fun x mem => by simp [quiet x mem], fun x mem => Nat.not_lt.2 (lowest x mem)⟩
  refine checked_next.2 ⟨decide_eq_true bound, (if_neg next).trans ?_⟩
  rw [found]
  dsimp only
  rw [current]
  rfl

section
variable (found : (s.suspects.find? fun p => p.ctx == ctx && p.replay.isSome) = some p)
include found

theorem exec_quarantineOutcome_clean (current : (s.ring p.q).cur = some k) (ended : k.ended.isSome = true) (clear : p.hung = false) :
    exec (.quarantineOutcome ctx .clean) s = .next (((s.verdict causeCleared ctx).judged p).hangCleared p) := by
  refine checked_next.2 ⟨decide_eq_true bound, ?_⟩
  rw [found]
  exact if_pos (by simp [current, ended, clear])

theorem exec_quarantineOutcome_hang (hung : p.hung = true) :
    exec (.quarantineOutcome ctx .hang) s =
      .next (((((s.onCtx ctx fun c => { c with guilty := true }).verdict causeGuilty ctx).judged p).hangUnclear p).endAborted p) := by
  refine checked_next.2 ⟨decide_eq_true bound, ?_⟩
  rw [found]
  exact if_neg (by simp [hung])

end

end

theorem exec_spanHang_copy {q : QRef} {s : State} {k : Cur} {x : Nat} (current : (s.ring q).cur = some k) (started : k.started = true)
    (unended : k.ended = none) (clear : s.suspected q = false) (copy : k.rec_.opcode ≠ 1)
    (late : k.unitAt + spanMax (spanClass k.rec_.opcode) ≤ s.aon.dt) (chan : k.chan = some x) :
    exec (.spanHang q) s = .next (s.spanHung q k (.chan x)) := by
  refine checked_next.2 ⟨rfl, ?_⟩
  rw [current]
  refine (if_neg (by simp [started, unended, clear])).trans ((if_neg copy).trans ((if_pos late).trans ?_))
  rw [chan]

/-! ## The crash dump (R417 to R419, R470) -/

section
variable {s : State}

theorem exec_dumpCopy {h : Nat} (port : h < 2) (idle : s.fld F.FLT_DUMP_STATUS_copy_busy 0 = 0) (held : s.dumpState ≠ 0) :
    exec (.dumpCopy h) s = .next { s.setFld F.FLT_DUMP_STATUS_copy_busy 0 1 with ladder := { s.ladder with copyTo := some h } } :=
  checked_next.2 ⟨decide_eq_true port, if_neg (by omega)⟩

theorem exec_dumpCopyDone {h : Nat} (copying : s.ladder.copyTo = some h) :
    let t := s.hostStore h (s.fld F.FLT_DUMP_HOST_addr 0 * 4096) s.dumpBytes
    exec .dumpCopyDone s = .next { t.setFld F.FLT_DUMP_STATUS_copy_busy 0 0 with ladder := { t.ladder with copyTo := none } } := by
  intro t
  refine checked_next.2 ⟨rfl, ?_⟩
  rw [copying]

theorem exec_dumpRelease (idle : s.fld F.FLT_DUMP_STATUS_copy_busy 0 = 0) :
    exec .dumpRelease s = .next ((s.dumpPut 0xC (leBytes 4 0)).setFld F.FLT_DUMP_STATUS_state 0 0) :=
  checked_next.2 ⟨rfl, if_neg (by omega)⟩

section
variable {x : DumpXfer} (sends : s.console.xfer = some x)
include sends

theorem exec_dumpAckByte_next : exec (.dumpAckByte 0x41#8) s = .next ((s.nextBlock (x.block + 1)).runHeld 256) := by
  refine checked_next.2 ⟨rfl, ?_⟩
  rw [sends]
  exact if_pos rfl

theorem exec_dumpAckByte_again : exec (.dumpAckByte 0x4E#8) s = .next ((s.resendBlock x).runHeld 256) := by
  refine checked_next.2 ⟨rfl, ?_⟩
  rw [sends]
  exact (if_neg (by decide)).trans (if_pos rfl)

theorem exec_dumpAckByte_abort : exec (.dumpAckByte 0x58#8) s = .next ((s.endXfer "ERR ABORTED").runHeld 256) := by
  refine checked_next.2 ⟨rfl, ?_⟩
  rw [sends]
  exact (if_neg (by decide)).trans ((if_neg (by decide)).trans (if_pos rfl))

theorem exec_dumpResendTimeout (late : x.at_ + us 100000 ≤ s.aon.dt) :
    exec .dumpResendTimeout s = .next ((s.resendBlock x).runHeld 256) := by
  refine checked_next.2 ⟨rfl, ?_⟩
  rw [sends]
  exact if_neg (Nat.not_lt.2 late)

end

theorem exec_mgmtCrashDumpRetrieval {n : Nat} (bound : n < 8) (opened : n ∈ s.sessions) (maintain : s.sessionRole n 2 = true)
    (held : s.dumpState ≠ 0) : exec (.mgmtCrashDumpRetrieval n) s = .next (s.reply n 0 s.dumpBytes) :=
  checked_next.2 ⟨decide_eq_true bound, (if_neg (by simp [opened])).trans (if_neg (by simp [maintain, held]))⟩

/-! ## DEV_RESET_N (R460) -/

theorem exec_devResetNAssert :
    exec .devResetNAssert s = .next ((if s.aon.powered && s.aon.dtRuns then s.deviceReset else s).setPin true) :=
  checked_next.2 ⟨rfl, (apply_ite (State.setPin · true) ..).symm⟩

theorem exec_devResetNRelease : exec .devResetNRelease s = .next (s.setPin false) := checked_next.2 ⟨rfl, rfl⟩

end

/-- Settles O57, by what each command does where the condition of its event holds. The bound of a step that runs from the end of collection and dump
(DEDUCED, log 28) and the free number of records that a cut collection leaves (DESIGN CHOICE, log 29) are the model's readings. -/
theorem faultRows : Obligations.FaultRows := by
  unfold Obligations.FaultRows
  refine ⟨fun f s fn => ⟨exec_pendingFaultWrite_full fn, fun m room => exec_pendingFaultWrite_merged fn room,
      fun r who rest room => exec_pendingFaultWrite_stalled fn room⟩,
    fun f v s fn => ⟨exec_fltRingEnable_on fn, exec_fltRingEnable_off fn⟩,
    fun f s fn => exec_overflowClear fn,
    fun e s named => ⟨exec_watchdogExpire_alive named, exec_watchdogExpire_hung named⟩,
    fun v s idle => ⟨fun e => exec_fltResetWrite_engine idle, fun n => exec_fltResetWrite_island idle⟩,
    fun v s => exec_fltResetWrite_busy,
    fun s r => ⟨fun e d => exec_engineReset, exec_islandReset, fun h => exec_halfReset, exec_deviceReset⟩,
    fun s r rest asked => ⟨exec_ladderStepTimeout asked, exec_collectionTimeout asked, fun begun => exec_dumpTimeout asked⟩,
    fun ctx s p k bound quiet lowest found current => ?replay,
    fun ctx s p k bound found current => ⟨exec_quarantineOutcome_clean bound found current, exec_quarantineOutcome_hang bound found⟩,
    fun h s => exec_dumpCopy, fun h s => exec_dumpCopyDone, fun s => exec_dumpRelease,
    fun s x sends => ⟨exec_dumpAckByte_next sends, exec_dumpAckByte_again sends, exec_dumpAckByte_abort sends, exec_dumpResendTimeout sends⟩,
    fun n s => exec_mgmtCrashDumpRetrieval, fun s => ⟨exec_devResetNAssert, exec_devResetNRelease⟩, fun q s k x => exec_spanHang_copy⟩
  case replay =>
    have begins (portUse : Bool) := exec_quarantineReplay (portUse := portUse) bound quiet lowest found current
    exact ⟨fun launch => (begins false).trans (congrArg _ (beginReplay_launch launch)),
      fun launch => (begins true).trans (congrArg _ (beginReplay_port launch)),
      fun portUse first last => (begins portUse).trans (congrArg _ (beginReplay_copy first last))⟩

end Sys2Proof.Machine
end

section
/-! PROOFS of boot, attestation, management sessions, key slots, the scrub, confidential mode and the stages of start-up (R424 to R442, R462). -/
namespace Sys2Proof.Machine

/-! ## Boot and images (R424 to R428) -/

section
variable {s : State}

/-- Whether the image that is next has failed its three starts (R426). -/
def State.bootTired (s : State) : Bool := !s.flacon.confirmed && s.flacon.attempts == 3

/-- The image that the ROM tries first. -/
def State.bootFirst (s : State) : Nat := if s.bootTired then 1 - s.flacon.next else s.flacon.next

section
variable (rom : s.aon.stage = .rom) (released : s.aon.resetPin = false)
include rom released

theorem exec_bootRom_first (verified : imageOk (s.flacon.image s.bootFirst) s.flacon.minSvn = true) :
    exec .bootRom s = .next (s.startImage s.bootFirst s.bootTired) :=
  checked_next.2 ⟨rfl, (if_neg (by simp [rom, released])).trans (if_pos verified)⟩

section
variable (refused : imageOk (s.flacon.image s.bootFirst) s.flacon.minSvn = false)
include refused

theorem exec_bootRom_other (verified : imageOk (s.flacon.image (1 - s.bootFirst)) s.flacon.minSvn = true) :
    exec .bootRom s = .next ((s.onFlacon fun f => { f with next := 1 - s.bootFirst }).startImage (1 - s.bootFirst) true) :=
  checked_next.2 ⟨rfl, (if_neg (by simp [rom, released])).trans ((if_neg (ne_true_of_eq_false refused)).trans (if_pos verified))⟩

theorem exec_bootRom_recovery (both : imageOk (s.flacon.image (1 - s.bootFirst)) s.flacon.minSvn = false) :
    exec .bootRom s = .next { s with aon := { s.aon with stage := .recovery } } :=
  checked_next.2 ⟨rfl, (if_neg (by simp [rom, released])).trans
    ((if_neg (ne_true_of_eq_false refused)).trans (if_neg (ne_true_of_eq_false both)))⟩

end

end

theorem exec_recoveryImageLoad {img : List Byte} (recovery : s.aon.stage = .recovery) (verified : imageOk img s.flacon.minSvn = true) :
    exec (.recoveryImageLoad img) s =
      .next { s with flacon := s.flacon.setImage s.flacon.next img, aon := { s.aon with stage := .rom } } :=
  checked_next.2 ⟨rfl, if_pos ⟨recovery, verified⟩⟩

theorem exec_fwSwitch_verified (verified : imageOk (s.flacon.image (1 - s.flacon.next)) s.flacon.minSvn = true) :
    exec .fwSwitch s = .next (s.onFlacon fun f => { f with next := 1 - f.next, attempts := 0, confirmed := false }).showBoot :=
  checked_next.2 ⟨rfl, if_pos verified⟩

theorem exec_fwSwitch_refused (refused : imageOk (s.flacon.image (1 - s.flacon.next)) s.flacon.minSvn = false) :
    exec .fwSwitch s = .next s :=
  checked_next.2 ⟨rfl, if_neg (ne_true_of_eq_false refused)⟩

theorem exec_fwCommit_raises (confirmed : s.fld F.SEC_BOOT_confirmed 0 = 1)
    (above : s.flacon.minSvn < imgSvn (s.flacon.image (s.fld F.SEC_BOOT_booted 0))) :
    exec .fwCommit s = .next (s.onFlacon fun f => { f with minSvn := imgSvn (s.flacon.image (s.fld F.SEC_BOOT_booted 0)) }).showBoot :=
  checked_next.2 ⟨rfl, if_pos ⟨confirmed, above⟩⟩

theorem exec_fwCommit_keeps (below : imgSvn (s.flacon.image (s.fld F.SEC_BOOT_booted 0)) ≤ s.flacon.minSvn) : exec .fwCommit s = .next s :=
  checked_next.2 ⟨rfl, if_neg fun h => Nat.not_lt.2 below h.2⟩

theorem exec_fwLoad_busy {v : Word} (busy : s.fld F.SEC_BOOT_load_state 0 = 1) : exec (.fwLoad v) s = .next s :=
  checked_next.2 ⟨rfl, if_pos busy⟩

theorem exec_fwLoad_starts {v : Word} (idle : s.fld F.SEC_BOOT_load_state 0 ≠ 1) :
    let target := 1 - s.fld F.SEC_BOOT_booted 0
    let t := (s.setFld F.SEC_FW_LOAD_addr 0 (F.SEC_FW_LOAD_addr.of v)).setFld F.SEC_BOOT_load_state 0 1
    let t : State := { t with fwTarget := some target }
    t.flacon.next ≠ target → exec (.fwLoad v) s = .next t.showBoot := by
  intro target t u other
  exact checked_next.2 ⟨rfl, (if_neg idle).trans (congrArg State.showBoot (if_neg other))⟩

/-- The end of a load into image `k`: the image that verifies is programmed, another leaves the target erased (R428). -/
def State.endLoad (s : State) (k : Nat) (img : List Byte) : State :=
  if imageOk img s.flacon.minSvn then ((s.onFlacon fun f => f.setImage k img).setFld F.SEC_BOOT_load_state 0 2).showBoot
  else ((s.onFlacon fun f => f.setImage k []).setFld F.SEC_BOOT_load_state 0 3).showBoot

theorem exec_fwLoadDone {k : Nat} {img : List Byte} (target : s.fwTarget = some k) :
    let a := s.fld F.SEC_FW_LOAD_addr 0 * 4096
    let h := s.readStaged a 4096
    let n := (h.2.map imgLen).getD 0
    let q := h.1.readStaged a (n + 64)
    let t : State := { q.1 with fwTarget := none }
    4096 ≤ n → n ≤ 24 * 2 ^ 20 → q.2 = some img →
    exec .fwLoadDone s = .next (t.endLoad k img) := by
  intro a h n q t long short staged
  refine checked_next.2 ⟨rfl, ?_⟩
  rw [target]
  dsimp only
  rw [if_pos ⟨long, short⟩, staged]
  rfl

end

/-! ## SPDM requests (R429, R430) -/

theorem spdm_up {s : State} {ch : SpdmChan} (up : s.chanUp ch = true) (a : SpdmAnswer) : s.spdm ch a = s.emit (.spdm ch a) := if_pos up

section
variable {s : State} {ch : SpdmChan} (named : chanOk ch = true) (up : s.chanUp ch = true)
include named up

theorem exec_getVersion : exec (.getVersion ch) s = .next (s.emit (.spdm ch (.version 0x12))) :=
  checked_next.2 ⟨named, spdm_up up _⟩

theorem exec_getCapabilities : exec (.getCapabilities ch) s = .next (s.emit (.spdm ch (.capabilities true true true))) :=
  checked_next.2 ⟨named, spdm_up up _⟩

theorem exec_negotiateAlgorithms : exec (.negotiateAlgorithms ch) s = .next (s.emit (.spdm ch .algorithms)) :=
  checked_next.2 ⟨named, spdm_up up _⟩

theorem exec_getDigests :
    exec (.getDigests ch) s = .next (s.emit (.spdm ch (.digests (([0, 1].filterMap s.chainOf).map Config.sha256)))) :=
  checked_next.2 ⟨named, spdm_up up _⟩

theorem exec_getCertificate_held {slot : Nat} {chain : List Byte} (held : s.chainOf slot = some chain) :
    exec (.getCertificate ch slot) s = .next (s.emit (.spdm ch (.certificate slot chain))) := by
  refine checked_next.2 ⟨named, ?_⟩
  rw [held]
  exact spdm_up up _

theorem exec_getCertificate_empty {slot : Nat} (empty : s.chainOf slot = none) :
    exec (.getCertificate ch slot) s = .next (s.emit (.spdm ch .unsupportedRequest)) := by
  refine checked_next.2 ⟨named, ?_⟩
  rw [empty]
  exact spdm_up up _

theorem exec_challenge {nonce : List Byte} :
    let q := s.freeBytes 32
    exec (.challenge ch nonce) s = .next (q.2.spdm ch (.challengeAuth q.1 (Config.sign 0 (nonce ++ q.1)))) :=
  checked_next.2 ⟨named, if_neg (by simp [up])⟩

theorem exec_getMeasurements {ix : Nat} {v : List Byte} {sgn : Bool} {nonce : List Byte} (measured : s.measurement ix = some v) :
    exec (.getMeasurements ch ix sgn nonce) s =
      .next (s.emit (.spdm ch (.measurements ix v (if sgn then some (Config.sign 0 (nonce ++ v)) else none)))) := by
  refine checked_next.2 ⟨named, ?_⟩
  rw [measured]
  exact spdm_up up _

theorem exec_spdmUnsupported {code : Nat} : exec (.spdmUnsupported ch code) s = .next (s.emit (.spdm ch .unsupportedRequest)) :=
  checked_next.2 ⟨named, spdm_up up _⟩

end

/-! ## Management sessions (R431, R432, R455) -/

section
variable {c : ClientHello} {s : State} {i : Nat} (up : s.mgmtUp = true) (free : ((List.range 8).find? fun i => !s.sessions.contains i) = some i)
include up free

theorem exec_mgmtSessionOpen_opens {r : Nat} (version : c.tls13 = true) (suite : c.suite = true) (group : c.group = true) (scheme : c.scheme = true)
    (roles : s.rolesOf c = some r) :
    exec (.mgmtSessionOpen c) s =
      .next ({ s with sessions := s.sessions ++ [i], roles := s.roles.put i r } : State).showSessions := by
  refine checked_next.2 ⟨rfl, (if_neg (by simp [up])).trans ?_⟩
  rw [free]
  dsimp only
  rw [if_pos (by simp [version, suite, group, scheme]), roles]

theorem exec_mgmtSessionOpen_fails
    (bad : c.tls13 = false ∨ c.suite = false ∨ c.group = false ∨ c.scheme = false ∨ s.rolesOf c = none) :
    exec (.mgmtSessionOpen c) s = .next (s.bump F.MON_MGMT_tls_fail 0 1) := by
  have roleless : (if c.tls13 && c.suite && c.group && c.scheme then s.rolesOf c else none) = none := by
    obtain h | h | h | h | h := bad <;> simp [h]
  refine checked_next.2 ⟨rfl, (if_neg (by simp [up])).trans ?_⟩
  rw [free]
  dsimp only
  rw [roleless]

end

section
variable {n : Nat} {s : State} (bound : n < 8) (opened : n ∈ s.sessions)
include bound opened

section
variable {off : Nat} (aligned : off % 8 = 0)
include aligned

theorem exec_mgmtRegisterAccess_read :
    exec (.mgmtRegisterAccess n off none) s =
      .next ((s.clearRc (.fn 0) off 8).reply n 0 (leBytes 8 (s.regRead (.fn 0) off 8).toNat)) :=
  checked_next.2 ⟨decide_eq_true bound, (if_neg (by simp [opened])).trans (if_neg (not_not_intro aligned))⟩

/-- A write goes on where the session holds the role of the register at the offset. -/
theorem exec_mgmtRegisterAccess_write {p : RegName × Nat} {b : Nat} {v : Word} (place : RegName.locate off = some p)
    (role : writeRole p.1 = some b) :
    exec (.mgmtRegisterAccess n off (some v)) s =
      .next (if s.sessionRole n b then (s.regWrite (.fn 0) off 8 v).reply n 0 [] else s.reply n 1 []) := by
  refine checked_next.2 ⟨decide_eq_true bound, (if_neg (by simp [opened])).trans ((if_neg (not_not_intro aligned)).trans ?_)⟩
  dsimp only
  rw [place, Option.bind_some, role, Option.map_some, Option.getD_some]

end

theorem exec_mgmtAdminWrite_done {a : AdminChange} {f : Flacon} (admin : s.sessionRole n 3 = true) (changed : s.flacon.admin a = some f) :
    exec (.mgmtAdminWrite n a) s = .next ((s.onFlacon fun _ => f).reply n 0 []) := by
  refine checked_next.2 ⟨decide_eq_true bound, (if_neg (by simp [opened])).trans ((if_neg (by simp [admin])).trans ?_)⟩
  rw [changed]

theorem exec_mgmtAdminWrite_refused {a : AdminChange} (other : s.sessionRole n 3 = false) :
    exec (.mgmtAdminWrite n a) s = .next (s.reply n 1 []) :=
  checked_next.2 ⟨decide_eq_true bound, (if_neg (by simp [opened])).trans (if_pos (by simp [other]))⟩

theorem exec_mgmtDrydownRequest_done (operate : s.sessionRole n 1 = true) :
    exec (.mgmtDrydownRequest n) s = .next ((s.startDrydown dryPolicy).reply n 0 []) :=
  checked_next.2 ⟨decide_eq_true bound, (if_neg (by simp [opened])).trans (if_pos operate)⟩

theorem exec_mgmtDrydownRequest_refused (other : s.sessionRole n 1 = false) :
    exec (.mgmtDrydownRequest n) s = .next (s.reply n 1 []) :=
  checked_next.2 ⟨decide_eq_true bound, (if_neg (by simp [opened])).trans (if_neg (ne_true_of_eq_false other))⟩

end

/-! ## Key slots (R433 to R437, R441, R442) -/

/-- The end of UNWRAP once the bundle is read whole: its result, or its key installed (R436, R437). -/
def State.endUnwrap (s : State) (owner : Nat) (b : List Byte) : State :=
  match s.unwrapBundle b with
  | .inl r => s.slotResult r
  | .inr k => s.install owner k.2 k.1

theorem endUnwrap_refused {s : State} {owner r : Nat} {b : List Byte} (bad : s.unwrapBundle b = .inl r) :
    s.endUnwrap owner b = s.slotResult r := by
  rw [State.endUnwrap, bad]

theorem endUnwrap_installs {s : State} {owner : Nat} {b : List Byte} {k : Nat × Nat} (good : s.unwrapBundle b = .inr k) :
    s.endUnwrap owner b = s.install owner k.2 k.1 := by
  rw [State.endUnwrap, good]

section
variable {v : Word} {s : State} (idle : s.slotBusy = false)
include idle

section
variable {r : Nat} (refused : s.installRefused (F.SEC_SLOT_CTL_owner.of v) = some r)
include refused

theorem exec_generate_refused : exec (.generate v) s = .next (s.slotResult r) := by
  refine checked_next.2 ⟨rfl, (if_neg (ne_true_of_eq_false idle)).trans ?_⟩
  rw [refused]

theorem exec_unwrap_refused : exec (.unwrap v) s = .next (s.slotResult r) := by
  refine checked_next.2 ⟨rfl, (if_neg (ne_true_of_eq_false idle)).trans ?_⟩
  rw [refused]

end

section
variable (allowed : s.installRefused (F.SEC_SLOT_CTL_owner.of v) = none)
include allowed

theorem exec_generate_installs :
    exec (.generate v) s = .next ((s.free 256).2.install (F.SEC_SLOT_CTL_owner.of v) 0 (s.free 256).1.toNat) := by
  refine checked_next.2 ⟨rfl, (if_neg (ne_true_of_eq_false idle)).trans ?_⟩
  rw [allowed]

theorem exec_unwrap_read {b0 b : List Byte} :
    let a := s.fld F.SEC_UNWRAP_addr 0 * 64
    let h := s.readStaged a 0x90
    let q := h.1.readStaged a (0x90 + 72 * leNat ((b0.drop 6).take 1) + 64)
    h.2 = some b0 → bundleHead b0 = true → q.2 = some b →
    exec (.unwrap v) s = .next (q.1.endUnwrap (F.SEC_SLOT_CTL_owner.of v) b) := by
  intro a h q headRead head bodyRead
  refine checked_next.2 ⟨rfl, (if_neg (ne_true_of_eq_false idle)).trans ?_⟩
  rw [allowed]
  dsimp only
  rw [headRead]
  refine (if_neg (by simp [head])).trans ?_
  rw [bodyRead]
  rfl

end

end

theorem exec_retire {v : Word} {s : State} : exec (.retire v) s = .next (s.retireSel false) := checked_next.2 ⟨rfl, rfl⟩

theorem exec_retireScrub {v : Word} {s : State} : exec (.retireScrub v) s = .next (s.retireSel true) := checked_next.2 ⟨rfl, rfl⟩

theorem exec_retireDrainEnd {slot : Nat} {s : State} {r : Retirement} (bound : slot < 256)
    (retiring : (s.retiring.find? fun r => r.slot == slot) = some r)
    (drained : (s.outst.any fun e => e.2.req.sel == slot) = false ∨ r.at_ + us 500 ≤ s.aon.dt) :
    exec (.retireDrainEnd slot) s = .next (s.endRetire r) := by
  refine checked_next.2 ⟨decide_eq_true bound, ?_⟩
  rw [retiring]
  refine if_neg fun waits => ?_
  obtain ⟨outstanding, early⟩ := (Bool.and_eq_true _ _).mp waits
  obtain none | late := drained
  · exact ne_true_of_eq_false none outstanding
  · exact Nat.not_lt.2 late (of_decide_eq_true early)

/-! ## The scrub (R442) -/

/-- The state whose entries of granule `g` are gone from the scrub list, and whose SCRUBBING slots with nothing left to rewrite are freed. -/
def State.granulePast (s : State) (g : Nat) : State :=
  let u : State := { s with scrubs := s.scrubs.filter fun y => y.granule != g }
  let past := (u.slots.filter fun e => e.2.state == 3 && !(u.scrubs.any fun y => y.slot == some e.1)).map (·.1)
  if past.isEmpty then u else (past.foldl (fun s k => s.freeKeySlot k) u).settleSlots

theorem granulePast_unchanged {s : State} {g : Nat} (unscrubbed : ∀ e ∈ s.slots, e.2.state ≠ 3) (absent : ∀ x ∈ s.scrubs, x.granule ≠ g) :
    s.granulePast g = s := by
  have kept : s.scrubs.filter (fun y => y.granule != g) = s.scrubs := List.filter_eq_self.2 fun x mem => by simp [absent x mem]
  have nonePast (p : Nat × Slot → Bool) : s.slots.filter (fun e => e.2.state == 3 && p e) = [] :=
    List.filter_eq_nil_iff.2 fun e mem => by simp [unscrubbed e mem]
  unfold State.granulePast
  dsimp only
  rw [kept, nonePast]
  rfl

section
variable {g : Nat} {s : State} (bound : g < 1343)
include bound

theorem exec_scrubGranuleDone :
    exec (.scrubGranuleDone g) s = .next (((s.scrubs.filter fun x => x.granule == g).foldl (fun s x => s.scrubOne x) s).granulePast g) :=
  checked_next.2 ⟨decide_eq_true bound, rfl⟩

theorem exec_scrubGranuleDone_absent (unscrubbed : ∀ e ∈ s.slots, e.2.state ≠ 3) (absent : ∀ x ∈ s.scrubs, x.granule ≠ g) :
    exec (.scrubGranuleDone g) s = .next s := by
  have todo : s.scrubs.filter (fun x => x.granule == g) = [] := List.filter_eq_nil_iff.2 fun x mem => by simp [absent x mem]
  rw [exec_scrubGranuleDone bound, todo, List.foldl_nil, granulePast_unchanged unscrubbed absent]

theorem exec_scrubGranuleDone_one {x : Scrub} {rest : List Scrub} (own : x.granule = g) (listed : s.scrubs = x :: rest)
    (others : ∀ y ∈ rest, y.granule ≠ g) : exec (.scrubGranuleDone g) s = .next ((s.scrubOne x).granulePast g) := by
  have todo : s.scrubs.filter (fun x => x.granule == g) = [x] := by
    rw [listed, List.filter_cons_of_pos (by simp [own]), List.filter_eq_nil_iff.2 fun y mem => by simp [others y mem]]
  rw [exec_scrubGranuleDone bound, todo, List.foldl_cons, List.foldl_nil]

end

/-! ## Confidential mode (R434, R438) -/

/-- The state after the selector of a write of SEC_COMP_CFG, which stands where the composition holds no context and the selector is its own. -/
def State.ctxSelWritten (s : State) (c : Nat) (v : Word) : State :=
  let k := F.SEC_COMP_CFG_ctx_sel.of v
  if !s.hasCtx c && s.selOwned k c then s.setFld F.SEC_COMP_CFG_ctx_sel c k else s

section
variable {c : Nat} {v : Word} {s : State} (comp : c < 64)
include comp

theorem exec_secCompCfgWrite_plain (plain : F.SEC_COMP_CFG_confidential.of v = 0) :
    exec (.secCompCfgWrite c v) s = .next ((s.ctxSelWritten c v).setFld F.SEC_COMP_CFG_confidential c 0) :=
  checked_next.2 ⟨decide_eq_true comp, if_pos plain⟩

section
variable (asked : F.SEC_COMP_CFG_confidential.of v = 1)
include asked

theorem exec_secCompCfgWrite_accepted (free : (s.ctxSelWritten c v).fld F.CMP_STATUS_state c = 0)
    (selected : (s.ctxSelWritten c v).fld F.SEC_COMP_CFG_ctx_sel c ≠ 0)
    (own : (s.ctxSelWritten c v).selOwned ((s.ctxSelWritten c v).fld F.SEC_COMP_CFG_ctx_sel c) c = true) :
    exec (.secCompCfgWrite c v) s = .next ((s.ctxSelWritten c v).setFld F.SEC_COMP_CFG_confidential c 1) :=
  checked_next.2 ⟨decide_eq_true comp, (if_neg (by omega)).trans (if_pos ⟨free, selected, own⟩)⟩

theorem exec_secCompCfgWrite_unselected (unselected : (s.ctxSelWritten c v).fld F.SEC_COMP_CFG_ctx_sel c = 0) :
    exec (.secCompCfgWrite c v) s = .next (s.ctxSelWritten c v) :=
  checked_next.2 ⟨decide_eq_true comp, (if_neg (by omega)).trans (if_neg fun ⟨_, selected, _⟩ => selected unselected)⟩

end

end

/-! ## The stages of start-up (R462) -/

/-- The fabric is ON, and each stack of near memory and pair of far memory too, but those of `failed`. -/
def State.memoryTrained (s : State) (failed : List Nat) : State :=
  ((List.range 36).map (84 + ·)).foldl (fun s i => if failed.contains i then s.notTrained i else s.domStarts i)
    (fabricIsls.foldl (fun s i => s.domStarts i) s)

/-- Start-up goes on to the links. -/
def State.enterLinks (s : State) : State := { s with aon := { s.aon with stage := .links } }

/-- The domains of port `k` come ON where it is fitted, and the port is brought up where the start-up mask names it. -/
def State.portStarts (s : State) (k : Nat) : State :=
  let s := s.when (s.flacon.hasPort k) fun s => [edgeOf k, 128 + k, 120 + k].foldl (fun s i => s.domStarts i) s
  s.when (bits s.flacon.portMask k k == 1 && s.flacon.hasPort k) fun s => (s.setFld F.PRT_CFG_enable k 1).startBringUp k

theorem portStarts_eq (s : State) (k : Nat) : s.portStarts k =
    let s := if s.flacon.hasPort k then [edgeOf k, 128 + k, 120 + k].foldl (fun s i => s.domStarts i) s else s
    if bits s.flacon.portMask k k = 1 ∧ s.flacon.hasPort k = true then (s.setFld F.PRT_CFG_enable k 1).startBringUp k else s := by
  simp only [State.portStarts, State.when, Bool.and_eq_true, beq_iff_eq]

section
variable {s : State} (released : s.aon.resetPin = false)
include released

theorem exec_firmwareStart (firmware : s.aon.stage = .firmware) :
    exec .firmwareStart s = .next { s with aon := { s.aon with stage := .training } } :=
  checked_next.2 ⟨rfl, if_neg (by simp [firmware, released])⟩

theorem exec_memoryTrainingDone {failed : List Nat} (memory : ∀ i ∈ failed, 84 ≤ i ∧ i < 120) (training : s.aon.stage = .training) :
    exec (.memoryTrainingDone failed) s = .next ((List.range 8).foldl (fun s k => s.portStarts k)
      ([138, 139].foldl (fun s i => s.domStarts i) (s.memoryTrained failed)).enterLinks) :=
  checked_next.2 ⟨List.all_eq_true.2 fun i mem => by simp [memory i mem], if_neg (by simp [training, released])⟩

theorem exec_enumerationReady (links : s.aon.stage = .links) :
    let a := ((s.onFlacon fun f => { f with confirmed := true, attempts := 0 }).loadBoot).setFld F.SEC_BOOT_confirmed 0 1
    let b := (a.onHost 0 fun p => { p with crs := false }).onHost 1 fun p => { p with crs := false }
    exec .enumerationReady s = .next { b with aon := { b.aon with stage := .running } } :=
  checked_next.2 ⟨rfl, if_neg (by simp [links, released])⟩

end

/-- Settles O58, by what each command does where the condition of its event holds. That FW_SWITCH leaves the image unconfirmed is the model's reading
(DEDUCED, log 115), and so are the layouts of an image (DESIGN CHOICE, log 44) and of a session's answers (log 71). -/
theorem securityRows : Obligations.SecurityRows := by
  unfold Obligations.SecurityRows
  refine ⟨fun s rom released => ⟨exec_bootRom_first rom released, exec_bootRom_other rom released, exec_bootRom_recovery rom released⟩,
    fun img s => exec_recoveryImageLoad, fun s => exec_fwSwitch_verified, fun s => exec_fwSwitch_refused,
    fun s => ⟨exec_fwCommit_raises, exec_fwCommit_keeps⟩, fun v s => ⟨exec_fwLoad_busy, exec_fwLoad_starts⟩,
    fun k img s target => ?loaded,
    fun ch s named up => ⟨exec_getVersion named up, exec_getCapabilities named up, exec_negotiateAlgorithms named up, exec_getDigests named up,
      fun slot chain => exec_getCertificate_held named up, fun slot => exec_getCertificate_empty named up, fun nonce => exec_challenge named up,
      fun ix v sgn nonce => exec_getMeasurements named up, fun code => exec_spdmUnsupported named up⟩,
    fun c s i up free => ⟨fun r => exec_mgmtSessionOpen_opens up free, exec_mgmtSessionOpen_fails up free⟩,
    fun n off s bound opened aligned => ⟨exec_mgmtRegisterAccess_read bound opened aligned,
      fun p b v place role holds => (exec_mgmtRegisterAccess_write bound opened aligned place role).trans (congrArg _ (if_pos holds)),
      fun p b v place role other =>
        (exec_mgmtRegisterAccess_write bound opened aligned place role).trans (congrArg _ (if_neg (ne_true_of_eq_false other)))⟩,
    fun n s bound opened => ⟨fun a f => exec_mgmtAdminWrite_done bound opened, fun a => exec_mgmtAdminWrite_refused bound opened,
      exec_mgmtDrydownRequest_done bound opened, exec_mgmtDrydownRequest_refused bound opened⟩,
    fun v s idle => ⟨fun r refused => ⟨exec_generate_refused idle refused, exec_unwrap_refused idle refused⟩,
      fun allowed => ⟨exec_generate_installs idle allowed, fun b0 b => ?unwrapped⟩⟩,
    fun v s => ⟨exec_retire, exec_retireScrub⟩, fun slot s r => exec_retireDrainEnd,
    fun g s bound => exec_scrubGranuleDone_absent bound, fun g s x rest bound => exec_scrubGranuleDone_one bound,
    fun c v s comp => ⟨exec_secCompCfgWrite_plain comp, exec_secCompCfgWrite_accepted comp, exec_secCompCfgWrite_unselected comp⟩,
    fun s released => ⟨exec_firmwareStart released, fun failed memory training => ?trained, exec_enumerationReady released⟩⟩
  case loaded =>
    intro a h n q t long short staged
    have ends : exec .fwLoadDone s = .next (t.endLoad k img) := exec_fwLoadDone target long short staged
    exact ⟨fun verified => ends.trans (congrArg Host.Outcome.next (if_pos verified)),
      fun refused => ends.trans (congrArg Host.Outcome.next (if_neg (ne_true_of_eq_false refused)))⟩
  case trained =>
    intro a b d e
    rw [exec_memoryTrainingDone released memory training, List.foldl_cons, List.foldl_cons, List.foldl_nil]
    exact congrArg (fun starts => Host.Outcome.next ((List.range 8).foldl starts e)) (funext₂ portStarts_eq)
  case unwrapped =>
    intro a h q headRead head bodyRead
    have ends := exec_unwrap_read idle allowed headRead head bodyRead
    exact ⟨fun r bad => ends.trans (congrArg _ (endUnwrap_refused bad)), fun k good => ends.trans (congrArg _ (endUnwrap_installs good))⟩

end Sys2Proof.Machine
end

section
/-! PROOFS of the feeds, the power targets, throttling, drydown, service, the monitor and the tile watches (R444 to R478). -/
namespace Sys2Proof.Machine

@[simp] theorem when_true (s : State) (f : State → State) : s.when true f = f s := rfl

@[simp] theorem when_false (s : State) (f : State → State) : s.when false f = s := rfl

/-! ## Feeds (R444 to R447) -/

/-- The state in which a feed has failed: its sticky bit is set and the power event told. -/
def State.feedFailed (s : State) (b : Bool) (dv : Nat) : State :=
  ((s.setFeedState b 0 dv).setFld (if b then F.PWR_FEED_STATUS_backup_fail_stk else F.PWR_FEED_STATUS_main_fail_stk) 0 1).powerEvent
    (if b then 3 else 2)

section
variable {b : Bool} {dv : Nat} {s : State} (measured : dv < 1024)
include measured

theorem exec_feedFail_ignored (ignored : failVolts dv = false ∨ s.power.feed b = 0) : exec (.feedFail b dv) s = .next s :=
  checked_next.2 ⟨decide_eq_true measured, if_pos (by simpa using ignored)⟩

section
variable (fails : failVolts dv = true) (fed : s.power.feed b ≠ 0) (powered : s.aon.powered = true)
include fails fed powered

theorem exec_feedFail_both (main : (s.feedFailed b dv).power.main = 0) (backup : (s.feedFailed b dv).power.backup = 0)
    (first : (s.feedFailed b dv).power.bothFailed = none) : exec (.feedFail b dv) s = .next (s.feedFailed b dv).bothFail :=
  checked_next.2 ⟨decide_eq_true measured, (if_neg (by simp [fails, fed])).trans ((if_neg (by simp [powered])).trans
    ((if_pos ⟨main, backup⟩).trans (if_neg (ne_true_of_eq_false (congrArg Option.isSome first)))))⟩

theorem exec_feedFail_single (single : (s.feedFailed b dv).power.main ≠ 0 ∨ (s.feedFailed b dv).power.backup ≠ 0) :
    let t := s.feedFailed b dv
    exec (.feedFail b dv) s = .next (if t.power.active = b.toNat ∧ t.power.feed (!b) = 2 then t.switchFeed else t).noteSingle :=
  checked_next.2 ⟨decide_eq_true measured, (if_neg (by simp [fails, fed])).trans ((if_neg (by simp [powered])).trans
    (if_neg (not_and_or.2 single)))⟩

end

section
variable (good : goodVolts dv = true)
include good

theorem exec_feedQualify (failed : s.power.feed b = 0) :
    exec (.feedQualify b dv) s =
      .next ((s.setFeedState b 1 dv).onPower fun p => if p.bothFailed.isSome then { p with carried := true } else p) :=
  checked_next.2 ⟨decide_eq_true measured, if_neg (by simp [good, failed])⟩

section
variable (qualifying : s.power.feed b = 1)
include qualifying

theorem exec_feedGood_unpowered (unpowered : (s.setFeedState b 2 dv).aon.powered = false) :
    let u := s.setFeedState b 2 dv
    exec (.feedGood b dv) s = .next { u.pickFeed with
      aon := { u.aon with powered := true, stage := .aon, intKey := Config.integrityKey (u.freeCtr + 1) }, freeCtr := u.freeCtr + 1 } :=
  checked_next.2 ⟨decide_eq_true measured, (if_neg (by simp [good, qualifying])).trans (if_pos (by simp [unpowered]))⟩

theorem exec_feedGood_afterBoth (powered : (s.setFeedState b 2 dv).aon.powered = true)
    (both : (s.setFeedState b 2 dv).power.bothFailed.isSome = true) :
    exec (.feedGood b dv) s = .next
      (((s.setFeedState b 2 dv).onPower fun p => { p with bothFailed := none, carried := false }).deviceReset.pickFeed.noteSingle) :=
  checked_next.2 ⟨decide_eq_true measured, (if_neg (by simp [good, qualifying])).trans ((if_neg (by simp [powered])).trans (if_pos both))⟩

end

end

end

section
variable {s : State}

section
variable (due : s.singleDue = true)
include due

theorem exec_singleFeedTimeout_goesOn (policy : (s.onPower fun p => { p with singleDone := true }).fld F.PWR_POLICY_on_single 0 = 0) :
    exec .singleFeedTimeout s = .next (s.onPower fun p => { p with singleDone := true }) := by
  refine checked_next.2 ⟨rfl, (if_neg (by simp [due])).trans ?_⟩
  dsimp only
  rw [policy]
  rfl

theorem exec_singleFeedTimeout_holds :
    let t := s.onPower fun p => { p with singleDone := true }
    let was := (t.fld F.PWR_TARGET_STATUS_target 0, t.fld F.PWR_TARGET_STATUS_slew 0)
    t.fld F.PWR_POLICY_on_single 0 = 1 → t.devState < 2 →
    exec .singleFeedTimeout s = .next ((t.setTarget 240 was.2).onPower fun p => { p with beforeHold := some was }) := by
  intro t was policy serving
  refine checked_next.2 ⟨rfl, (if_neg (by simp [due])).trans ?_⟩
  dsimp only
  rw [policy]
  exact if_neg (Nat.not_le.2 serving)

theorem exec_singleFeedTimeout_drydown (policy : (s.onPower fun p => { p with singleDone := true }).fld F.PWR_POLICY_on_single 0 = 2) :
    exec .singleFeedTimeout s = .next ((s.onPower fun p => { p with singleDone := true }).startDrydown dryFeed) := by
  refine checked_next.2 ⟨rfl, (if_neg (by simp [due])).trans ?_⟩
  dsimp only
  rw [policy]
  rfl

end

theorem exec_holdupExhausted (both : s.power.bothFailed.isSome = true) (alone : s.power.carried = false) :
    exec .holdupExhausted s = .next s.powerLoss :=
  checked_next.2 ⟨rfl, if_pos (by simp [both, alone])⟩

end

/-! ## Power targets (R449) -/

/-- The draw and the slew of a target that its register's bounds allow. -/
def targetLegal (w slew : Nat) : Prop := w ≤ 3000 ∧ (240 ≤ w → 1 ≤ slew ∧ slew ≤ 200)

theorem targetLegal_iff (w slew : Nat) : targetLegal w slew ↔ ¬ (3000 < w ∨ (240 ≤ w ∧ (slew = 0 ∨ 200 < slew))) := by
  unfold targetLegal
  omega

section
variable {v : Word} {s : State} (commit : F.PWR_TARGET_commit.of v = 1)
include commit

theorem exec_pwrTargetCommit_illegal (illegal : ¬ targetLegal (F.PWR_TARGET_watts.of v) (F.PWR_TARGET_slew.of v)) :
    exec (.pwrTargetCommit v) s = .next (s.setFld F.PWR_TARGET_STATUS_last_result 0 1) :=
  checked_next.2 ⟨rfl, (if_neg (by omega)).trans (if_pos (not_not.1 (mt (targetLegal_iff _ _).2 illegal)))⟩

section
variable (legal : targetLegal (F.PWR_TARGET_watts.of v) (F.PWR_TARGET_slew.of v))
include legal

theorem exec_pwrTargetCommit_tooFar (far : s.aon.dt + 2 ^ 48 < (s.reg .PWR_TARGET_DT 0).toNat) :
    exec (.pwrTargetCommit v) s = .next (s.setFld F.PWR_TARGET_STATUS_last_result 0 2) :=
  checked_next.2 ⟨rfl, (if_neg (by omega)).trans ((if_neg ((targetLegal_iff _ _).1 legal)).trans (if_pos far))⟩

theorem exec_pwrTargetCommit_atOnce (now : (s.reg .PWR_TARGET_DT 0).toNat = 0) :
    exec (.pwrTargetCommit v) s =
      .next ((s.fireTarget { dt := s.aon.dt, watts := F.PWR_TARGET_watts.of v, slew := F.PWR_TARGET_slew.of v }).setFld
        F.PWR_TARGET_STATUS_last_result 0 0) :=
  checked_next.2 ⟨rfl, (if_neg (by omega)).trans ((if_neg ((targetLegal_iff _ _).1 legal)).trans ((if_neg (by omega)).trans (if_pos now)))⟩

section
variable (near : (s.reg .PWR_TARGET_DT 0).toNat ≤ s.aon.dt + 2 ^ 48) (later : (s.reg .PWR_TARGET_DT 0).toNat ≠ 0)
include near later

theorem exec_pwrTargetCommit_tooMany (full : 16 ≤ (s.power.targets.filter fun t => t.dt != (s.reg .PWR_TARGET_DT 0).toNat).length) :
    exec (.pwrTargetCommit v) s = .next (s.setFld F.PWR_TARGET_STATUS_last_result 0 3) :=
  checked_next.2 ⟨rfl, (if_neg (by omega)).trans ((if_neg ((targetLegal_iff _ _).1 legal)).trans ((if_neg (Nat.not_lt.2 near)).trans
    ((if_neg later).trans (if_pos full))))⟩

theorem exec_pwrTargetCommit_placed :
    let dt := (s.reg .PWR_TARGET_DT 0).toNat
    let others := s.power.targets.filter fun t => t.dt != dt
    others.length < 16 → exec (.pwrTargetCommit v) s = .next
      ((s.onPower fun p => { p with targets := others ++ [{ dt := dt, watts := F.PWR_TARGET_watts.of v, slew := F.PWR_TARGET_slew.of v }] }
        ).showTargets.setFld F.PWR_TARGET_STATUS_last_result 0 0) := by
  intro dt others room
  exact checked_next.2 ⟨rfl, (if_neg (by omega)).trans ((if_neg ((targetLegal_iff _ _).1 legal)).trans ((if_neg (Nat.not_lt.2 near)).trans
    ((if_neg later).trans (if_neg (Nat.not_le.2 room)))))⟩

end

end

end

/-- The state whose list of pending targets has lost one. -/
def State.targetTaken (s : State) (t : Target) : State := (s.onPower fun p => { p with targets := p.targets.erase t }).showTargets

section
variable {s : State} {t : Target} (next : s.nextTarget = some t) (runs : s.aon.dtRuns = true) (due : t.dt ≤ s.aon.dt)
include next runs due

theorem exec_powerTargetFire :
    let a := s.targetTaken t
    exec .powerTargetFire s =
      .next ((a.when (decide (4 < a.aon.dt - t.dt)) fun a => a.lateRecord 255 0xFF (engineCode 0 0) noCtx (a.aon.dt - t.dt)).fireTarget t) := by
  intro a
  refine checked_next.2 ⟨rfl, ?_⟩
  rw [next]
  exact if_neg (by simp [runs, due])

theorem exec_powerTargetFire_onTime (punctual : s.aon.dt ≤ t.dt + 4) (same : (s.targetTaken t).aon = s.aon) :
    exec .powerTargetFire s = .next ((s.targetTaken t).fireTarget t) := by
  have onTime : decide (4 < s.aon.dt - t.dt) = false := decide_eq_false (by omega)
  rw [exec_powerTargetFire next runs due, same, onTime, when_false]

theorem exec_powerTargetFire_late (late : t.dt + 4 < s.aon.dt) (same : (s.targetTaken t).aon = s.aon) :
    exec .powerTargetFire s =
      .next (((s.targetTaken t).lateRecord 255 0xFF (engineCode 0 0) noCtx (s.aon.dt - t.dt)).fireTarget t) := by
  have tooLate : decide (4 < s.aon.dt - t.dt) = true := decide_eq_true (by omega)
  rw [exec_powerTargetFire next runs due, same, tooLate, when_true, same]

theorem exec_drydownStart_target (drydown : t.watts < 240) :
    exec (.drydownStart 3) s = .next ((s.targetTaken t).startDrydown dryTarget) := by
  refine checked_next.2 ⟨rfl, ?_⟩
  rw [next]
  exact if_pos (by simp [runs, due, drydown])

end

/-! ## The measured window (R450 to R454) -/

/-- The state after a window's measurement and energy. -/
def State.windowRead (s : State) (watts : Nat) : State :=
  let s := s.setFld F.PWR_MEAS_avg_w 0 watts
  s.setReg .PWR_ENERGY 0 (s.reg .PWR_ENERGY 0 + BitVec.ofNat 64 watts)

/-- The state that shows the package limit of a window and the throttling that stands. -/
def State.throttlingShown (s : State) (watts : Nat) : State :=
  let s := s.onPower fun p => { p with packageHot := decide (3000 < watts) || (p.packageHot && decide (2950 ≤ watts)) }
  s.setFld F.PWR_THERM_throttling 0 (if s.power.packageHot || !s.power.hot.isEmpty then 1 else 0)

/-- The state that a window leaves before the controller acts: the measurement, the line, whether the target is reached, the throttling. -/
def State.windowMeasured (s : State) (watts : Nat) : State :=
  let a := s.windowRead watts
  let line := a.ceiling
  let target := a.fld F.PWR_TARGET_STATUS_target 0
  let b := a.setFld F.PWR_TARGET_STATUS_ceiling 0 line
  (b.when (line == target && decide (100 * watts ≤ 102 * target)) fun s => s.setFld F.PWR_TARGET_STATUS_reached 0 1).throttlingShown watts

theorem when_beq_and_decide (s : State) (m n : Nat) (p : Prop) [Decidable p] (f : State → State) :
    s.when (m == n && decide p) f = if m = n ∧ p then f s else s := by simp [State.when]

theorem windowMeasured_eq (s : State) (watts : Nat) :
    let a := s.windowRead watts
    let line := a.ceiling
    let target := a.fld F.PWR_TARGET_STATUS_target 0
    let b := a.setFld F.PWR_TARGET_STATUS_ceiling 0 line
    s.windowMeasured watts =
      (if line = target ∧ 100 * watts ≤ 102 * target then b.setFld F.PWR_TARGET_STATUS_reached 0 1 else b).throttlingShown watts :=
  congrArg (State.throttlingShown · watts) (when_beq_and_decide ..)

section
variable {watts : Nat} {s : State} (measured : watts < 65536)
include measured

theorem exec_powerWindow_ignored (idle : s.aon.stage ≠ .running ∨ s.power.bothFailed.isSome = true) :
    exec (.powerWindow watts) s = .next s :=
  checked_next.2 ⟨decide_eq_true measured, if_pos idle⟩

section
variable (running : s.aon.stage = .running) (fed : s.power.bothFailed = none)
include running fed

theorem exec_powerWindow :
    let e := s.windowMeasured watts
    exec (.powerWindow watts) s = .next (if 2 ≤ e.devState then e
      else (if (s.windowRead watts).ceiling < watts then e.lowerDraw
        else if e.mayRaise watts then (e.setFld F.PWR_TARGET_STATUS_unreachable 0 0).raiseDraw else e).judgeHolding) :=
  checked_next.2 ⟨decide_eq_true measured, if_neg (by simp [running, fed])⟩

theorem exec_powerWindow_drydown (drydown : 2 ≤ (s.windowMeasured watts).devState) :
    exec (.powerWindow watts) s = .next (s.windowMeasured watts) := by
  rw [exec_powerWindow measured running fed, if_pos drydown]

theorem exec_powerWindow_lowers (serving : (s.windowMeasured watts).devState < 2) (above : (s.windowRead watts).ceiling < watts) :
    exec (.powerWindow watts) s = .next (s.windowMeasured watts).lowerDraw.judgeHolding := by
  rw [exec_powerWindow measured running fed, if_neg (Nat.not_le.2 serving), if_pos above]

theorem exec_powerWindow_raises (serving : (s.windowMeasured watts).devState < 2) (below : watts ≤ (s.windowRead watts).ceiling) :
    let e := s.windowMeasured watts
    exec (.powerWindow watts) s =
      .next (if e.mayRaise watts then (e.setFld F.PWR_TARGET_STATUS_unreachable 0 0).raiseDraw else e).judgeHolding := by
  intro e
  rw [exec_powerWindow measured running fed, if_neg (Nat.not_le.2 serving), if_neg (Nat.not_lt.2 below)]

end

end

/-! ## Temperatures (R454) -/

/-- The state after the sensor of island `i` reads `temp`. -/
def State.sensed (s : State) (i temp : Nat) : State := (s.setDom i { s.dom i with temp := temp }).showHottest

section
variable {i temp : Nat} {s : State} (isl : i < 148) (sensor : temp < 256)
include isl sensor

theorem exec_thermalThreshold_trips (untripped : ((s.sensed i temp).dom i).tripped = false) (hot : 95 ≤ temp) :
    exec (.thermalThreshold i temp) s = .next ((s.sensed i temp).trip i) :=
  checked_next.2 ⟨by simp [isl, sensor], (if_neg (ne_true_of_eq_false untripped)).trans (if_pos hot)⟩

theorem exec_thermalThreshold_derates (untripped : ((s.sensed i temp).dom i).tripped = false) (cool : temp < 95) (other : domKind i ≠ .cl) :
    exec (.thermalThreshold i temp) s = .next ((s.sensed i temp).derateIsl i) :=
  checked_next.2 ⟨by simp [isl, sensor], (if_neg (ne_true_of_eq_false untripped)).trans ((if_neg (Nat.not_le.2 cool)).trans (if_pos other))⟩

theorem exec_tripRecover_wakes (tripped : ((s.sensed i temp).dom i).tripped = true) (cool : temp < 85) :
    let t := s.sensed i temp
    let u := (t.setDom i { t.dom i with tripped := false }).derateIsl i
    u.aon.stage = .running → u.devState < 2 → u.inService i = true →
    exec (.tripRecover i temp) s = .next (u.requestDom i .on false) := by
  intro t u running serving used
  exact checked_next.2 ⟨by simp [isl, sensor], (if_neg (ne_true_of_eq_false (Bool.or_eq_false_iff.2
      ⟨congrArg not tripped, decide_eq_false (Nat.not_le.2 cool)⟩))).trans
    ((if_neg (not_or.2 ⟨not_not_intro running, Nat.not_le.2 serving⟩)).trans (if_neg (ne_true_of_eq_false (congrArg not used))))⟩

theorem exec_tripRecover_untripped (untripped : ((s.sensed i temp).dom i).tripped = false) :
    exec (.tripRecover i temp) s = .next (s.sensed i temp) :=
  checked_next.2 ⟨by simp [isl, sensor], if_pos (Bool.or_eq_true_iff.2 (.inl (congrArg not untripped)))⟩

end

theorem exec_throttleStep {s : State} :
    let hot := s.power.hot.filter fun i => s.domOn i && decide (89 ≤ (s.dom i).temp)
    let all := if s.power.packageHot then s.boundOn else []
    exec .throttleStep s = .next (s.lowerClocks (hot ++ all.filter fun i => !hot.contains i) 600) :=
  checked_next.2 ⟨rfl, rfl⟩

/-! ## Drydown (R455, R456) -/

section
variable {s : State}

theorem exec_drydownStart_policy {cause : Nat} (policy : cause = 1) :
    exec (.drydownStart cause) s = .next ((s.setFld F.PWR_POLICY_drydown 0 1).startDrydown dryPolicy) := by
  refine checked_next.2 ⟨by simp [policy], ?_⟩
  split
  · rfl
  · contradiction
  · next other _ => exact absurd policy other

theorem exec_drydownStart_feed (due : s.singleDue = true) (policy : s.fld F.PWR_POLICY_on_single 0 = 2) :
    exec (.drydownStart 2) s = .next ((s.onPower fun p => { p with singleDone := true }).startDrydown dryFeed) :=
  checked_next.2 ⟨rfl, if_pos (by simp [due, policy])⟩

section
variable (drydown : s.devState = 2)
include drydown

theorem exec_drydownPark (step : s.power.dryStep = 1) (finished : s.finishOver = true) :
    exec .drydownPark s = .next (((List.range 64).foldl (fun s c => s.powerPark c) s).dryTo 3) :=
  checked_next.2 ⟨rfl, if_neg (by simp [drydown, step, finished])⟩

theorem exec_drydownTwinWaitEnd (step : s.power.dryStep = 3) (parked : s.allParked = true)
    (waited : s.fld F.CMP_TWIN_state 0 ≠ 2 ∨ s.fld F.CMP_TWIN_unacked 0 = 0 ∨ s.power.dryAt + us 2000 ≤ s.aon.dt) :
    exec .drydownTwinWaitEnd s = .next (s.dryTo 4) :=
  checked_next.2 ⟨rfl, (if_neg (by simp [drydown, step, parked])).trans (if_neg (by omega))⟩

theorem exec_drydownPorts (step : s.power.dryStep = 4) :
    exec .drydownPorts s = .next (((List.range 8).foldl (fun s k => s.startAway k 1) s).dryTo 5) :=
  checked_next.2 ⟨rfl, if_neg (by simp [drydown, step])⟩

theorem exec_drydownParked (step : s.power.dryStep = 5) (late : s.power.dryAt + us 56 ≤ s.aon.dt) :
    let a := ((parkOrder.foldl (fun s i => s.parkDom i) s).dryTo 6).setFld F.PWR_TARGET_STATUS_dev_state 0 3
    let t := a.onPower fun p => { p with held := [] }
    a.power.held = [] → exec .drydownParked s = .next (if t.leavesAtOnce [] then t.leavePark else t) := by
  intro a t unheld
  refine checked_next.2 ⟨rfl, (if_neg (by simp [drydown, step])).trans ((if_neg (by simp [late])).trans ?_)⟩
  dsimp only
  rw [unheld]
  rfl

end

theorem exec_leaveParked_leaves (parked : (s.setFld F.PWR_POLICY_drydown 0 0).devState = 3) :
    exec .leaveParked s = .next (s.setFld F.PWR_POLICY_drydown 0 0).leavePark :=
  checked_next.2 ⟨rfl, if_pos parked⟩

theorem exec_leaveParked_stays (other : (s.setFld F.PWR_POLICY_drydown 0 0).devState ≠ 3) :
    exec .leaveParked s = .next (s.setFld F.PWR_POLICY_drydown 0 0) :=
  checked_next.2 ⟨rfl, if_neg other⟩

end

/-! ## Service (R458, R459) -/

section
variable {i : Nat} {s : State} (isl : i < 256)
include isl

section
variable (busy : s.fld F.PWR_DOM_STATUS_svc_busy 0 = 1)
include busy

theorem exec_reloadCp_busy : exec (.reloadCp i) s = .next (s.svcResult svcBusy) := checked_next.2 ⟨decide_eq_true isl, if_pos busy⟩

theorem exec_repair_busy : exec (.repair i) s = .next s := checked_next.2 ⟨decide_eq_true isl, if_pos busy⟩

end

section
variable (idle : s.fld F.PWR_DOM_STATUS_svc_busy 0 = 0)
include idle

theorem exec_reloadCp_invalid (other : i < 140 ∨ 147 < i) : exec (.reloadCp i) s = .next (s.svcResult svcInvalid) :=
  checked_next.2 ⟨decide_eq_true isl, (if_neg (by omega)).trans (if_pos other)⟩

theorem exec_reloadCp_begins (first : 140 ≤ i) (last : i ≤ 147) :
    let t := (s.setFld F.PWR_DOM_STATUS_svc_busy 0 1).onPower fun p => { p with svc := some (1, i) }
    exec (.reloadCp i) s = .next ((cpsOf i).foldl (fun s p => s.setCp p { s.cp p with reload := true }) t) :=
  checked_next.2 ⟨decide_eq_true isl, (if_neg (by omega)).trans (if_neg (by omega))⟩

theorem exec_repair_swaps (cl : i < 84) (serving : s.clState i = 0) (sound : s.failing.find i = none) :
    exec (.repair i) s = .next ((s.repairCluster i true).svcResult (if (s.spareFor i).isSome then svcOk else svcNoSpare)) :=
  checked_next.2 ⟨decide_eq_true isl, (if_neg (by omega)).trans (if_neg (by simp [cl, serving, sound]))⟩

end

end

theorem exec_reloadCpDone {s : State} {n i : Nat} (reloading : s.power.svc = some (n, i)) :
    let img := s.flacon.image s.flacon.next
    let ok := imageOk img s.flacon.minSvn
    let a : State := if ok then { s with measures := s.measures.put 3 ((img.drop 48).take 32) } else s
    let t := (cpsOf i).foldl (fun s p =>
      (s.resetCp p).setCp p { (s.resetCp p).cp p with wakes := (s.cp p).wakes, taken := (s.cp p).taken, reload := false }) a
    exec .reloadCpDone s =
      .next (((t.svcResult (if ok then svcOk else svcInvalid)).setFld F.PWR_DOM_STATUS_svc_busy 0 0).onPower fun p => { p with svc := none }) := by
  intro img ok a t
  refine checked_next.2 ⟨rfl, ?_⟩
  rw [reloading]

/-! ## The monitor (R464 to R468, R478) -/

section
variable {line : List Byte} {s : State}

theorem exec_consoleLine_off (off : s.monOn = false) : exec (.consoleLine line) s = .next s :=
  checked_next.2 ⟨rfl, if_pos (by simp [off])⟩

section
variable (on : s.monOn = true)
include on

theorem exec_consoleLine_held (sends : s.console.xfer.isSome = true) :
    exec (.consoleLine line) s = .next
      { s with console := { s.console with held := (s.console.held ++ line.filter (fun b => b != 10#8) ++ [13#8]).take 256 } } :=
  checked_next.2 ⟨rfl, (if_neg (by simp [on])).trans (if_pos sends)⟩

section
variable (free : s.console.xfer = none)
include free

theorem exec_consoleLine_long (long : 256 < (s.console.held ++ line.filter fun b => b != 10#8).length) :
    exec (.consoleLine line) s = .next (State.sayErr { s with console := { s.console with held := [] } } "LONG") :=
  checked_next.2 ⟨rfl, (if_neg (by simp [on])).trans ((if_neg (by simp [free])).trans (if_pos long))⟩

theorem exec_consoleLine_runs (short : (s.console.held ++ line.filter fun b => b != 10#8).length ≤ 256) :
    exec (.consoleLine line) s = .next
      (State.runLine { s with console := { s.console with held := [] } } (tokens (s.console.held ++ line.filter fun b => b != 10#8))) :=
  checked_next.2 ⟨rfl, (if_neg (by simp [on])).trans ((if_neg (by simp [free])).trans (if_neg (Nat.not_lt.2 short)))⟩

end

end

theorem exec_ver : exec .ver s = .next (s.monitor 0 State.monVer) := checked_next.2 ⟨rfl, rfl⟩

theorem exec_isl {d : Option Nat} : exec (.isl d) s = .next (s.monitor 0 fun s => s.monIsl d) := checked_next.2 ⟨rfl, rfl⟩

theorem exec_ctr {d : Option Nat} : exec (.ctr d) s = .next (s.monitor 0 fun s => s.monCtr d) := checked_next.2 ⟨rfl, rfl⟩

theorem exec_gasp {d : Option Nat} : exec (.gasp d) s = .next (s.monitor 0 fun s => s.monGasp d) := checked_next.2 ⟨rfl, rfl⟩

theorem exec_tw {w : Nat} : exec (.tw w) s = .next (s.monitor 1 fun s => s.monTw w) := checked_next.2 ⟨rfl, rfl⟩

theorem exec_peek {a n : Nat} : exec (.peek a n) s = .next (s.monitor 1 fun s => s.monPeek a n) := checked_next.2 ⟨rfl, rfl⟩

theorem exec_poke {a : Nat} {v : Word} : exec (.poke a v) s = .next (s.monitor 2 fun s => s.monPoke a v) := checked_next.2 ⟨rfl, rfl⟩

theorem exec_sil {i : Nat} {x : SilReg} {v : Word} : exec (.sil i x v) s = .next (s.monitor 2 fun s => s.monSil i x v) :=
  checked_next.2 ⟨rfl, rfl⟩

theorem exec_dump : exec .dump s = .next (s.monitor 1 State.monDump) := checked_next.2 ⟨rfl, rfl⟩

theorem exec_monLevelWrite_firmware {v : Word} :
    exec (.monLevelWrite .fw v) s = .next (s.setFld F.MON_CFG_level 0 (min 2 (F.MON_CFG_level.of v))) :=
  checked_next.2 ⟨rfl, if_pos rfl⟩

theorem exec_monLevelWrite_virtual {f : Nat} {v : Word} (fn : f < 128) (virtual : f % 64 ≠ 0) :
    exec (.monLevelWrite (.fn f) v) s = .next s :=
  checked_next.2 ⟨decide_eq_true fn, if_neg (by simp [virtual])⟩

/-! ## I3C -/

section
variable (powered : s.aon.powered = true)
include powered

theorem exec_i3cPrivateWrite {bytes : List Byte} (pair : bytes.length = 2) :
    exec (.i3cPrivateWrite bytes) s = .next { s with aon := { s.aon with i3cOff := leNat bytes } } :=
  checked_next.2 ⟨rfl, if_pos (by simp [powered, pair])⟩

theorem exec_i3cPrivateRead :
    exec .i3cPrivateRead s = .next (s.emit (.i3c (leBytes 8 (s.regRead (.fn 0) (0xD00000 + s.aon.i3cOff / 8 * 8) 8).toNat))) :=
  checked_next.2 ⟨rfl, if_pos powered⟩

theorem exec_i3cDynamicAddressAssign {a : Nat} (address : a < 128) :
    exec (.i3cDynamicAddressAssign a) s = .next { s with aon := { s.aon with i3cAddr := a } } :=
  checked_next.2 ⟨decide_eq_true address, if_pos powered⟩

end

end

/-! ## Tile watches (R475 to R478) -/

section
variable {w : Nat} {v : Word} {s : State} (watch : w < 8)
include watch

theorem exec_twClear : exec (.twClear w) s = .next (s.watchClear w) := checked_next.2 ⟨decide_eq_true watch, rfl⟩

section
variable (unclear : F.MON_TW_CFG_clear.of v = 0) (idle : s.fld F.MON_TW_CFG_enable w = 0)
include unclear idle

theorem exec_twEnable_off (off : F.MON_TW_CFG_enable.of v = 0) :
    exec (.twEnable w v) s = .next (s.setReg .MON_TW_CFG w (BitVec.ofNat 64 (F.MON_TW_CFG_freeze.of v * 2 ^ 62 +
      F.MON_TW_CFG_dig_en.of v * 2 ^ 60 + bits v.toNat 59 21 * 2 ^ 21 + bits (s.reg .MON_TW_CFG w).toNat 20 0))) := by
  refine checked_next.2 ⟨decide_eq_true watch, ?_⟩
  simp [unclear, idle, off]

theorem exec_twEnable_on (on : F.MON_TW_CFG_enable.of v = 1) (allowed : s.watchAllowed w v = true) :
    let t := s.setReg .MON_TW_CFG w (BitVec.ofNat 64 (2 ^ 63 + F.MON_TW_CFG_freeze.of v * 2 ^ 62 + F.MON_TW_CFG_dig_en.of v * 2 ^ 60 +
      bits v.toNat 59 21 * 2 ^ 21 + bits (s.reg .MON_TW_CFG w).toNat 20 0))
    exec (.twEnable w v) s = .next { t with twCtx := t.twCtx.put w (bits (t.reg .SCH_CTX_SEL 0).toNat 15 0) } := by
  intro t
  refine checked_next.2 ⟨decide_eq_true watch, ?_⟩
  simp only [unclear, idle, on, allowed, beq_self_eq_true, Bool.or_true, Bool.and_true, if_true]
  rfl

end

theorem exec_twDigEnable_off (off : F.MON_TW_DIG_enable.of v = 0) :
    exec (.twDigEnable w v) s = .next ((s.writeReg .MON_TW_DIG w v.toNat (2 ^ 64 - 1)).setFld F.MON_TW_DIG_enable w 0) :=
  checked_next.2 ⟨decide_eq_true watch, if_pos off⟩

theorem exec_twDigEnable_on (on : F.MON_TW_DIG_enable.of v = 1) :
    let t := s.writeReg .MON_TW_DIG w v.toNat (2 ^ 64 - 1)
    let a := t.fld F.MON_TW_DIG_base w * 4096
    let n := 32 * (4096 * 2 ^ t.fld F.MON_TW_DIG_size w)
    exec (.twDigEnable w v) s = .next (if inPlainMemory a n && !t.meetsBound a n && !t.meetsWindow a n then
      (((t.setFld F.MON_TW_DIG_enable w 1).setReg .MON_TW_DIGWR w 0#64).setReg .MON_TW_DIGRD w 0#64).setReg .MON_TW_DIGLOST w 0#64
      else t.setFld F.MON_TW_DIG_enable w 0) :=
  checked_next.2 ⟨decide_eq_true watch, if_neg (by omega)⟩

end

/-- Settles O59, by what each command does where the condition of its event holds. That a target of DT 0 fires in its command (DEDUCED, log 36), that
a REPAIR is ignored while an operation is in progress (log 98), and how the load follows the feeds (log 39) are the model's readings. -/
theorem powerAndMonitor : Obligations.PowerAndMonitor := by
  unfold Obligations.PowerAndMonitor
  refine ⟨fun b dv s measured => ⟨exec_feedFail_ignored measured, fun fails fed powered => exec_feedFail_both measured fails fed powered,
      fun fails fed powered => exec_feedFail_single measured fails fed powered, exec_feedQualify measured,
      fun good qualifying _ => exec_feedGood_unpowered measured good qualifying, exec_feedGood_afterBoth measured⟩,
    fun s => ⟨fun due => ⟨exec_singleFeedTimeout_goesOn due, exec_singleFeedTimeout_holds due, exec_singleFeedTimeout_drydown due⟩,
      exec_holdupExhausted⟩,
    fun v s commit => ⟨exec_pwrTargetCommit_illegal commit, exec_pwrTargetCommit_tooFar commit, exec_pwrTargetCommit_atOnce commit,
      exec_pwrTargetCommit_tooMany commit, exec_pwrTargetCommit_placed commit⟩,
    fun s t next runs due => ⟨exec_powerTargetFire_onTime next runs due, exec_powerTargetFire_late next runs due,
      exec_drydownStart_target next runs due⟩,
    fun watts s measured => exec_powerWindow_ignored measured, fun watts s measured running fed => ?window,
    fun i temp s isl sensor => ⟨exec_thermalThreshold_trips isl sensor, exec_thermalThreshold_derates isl sensor,
      fun tripped cool _ => exec_tripRecover_wakes isl sensor tripped cool, exec_tripRecover_untripped isl sensor⟩,
    fun s => exec_throttleStep, fun s => ⟨exec_drydownStart_policy rfl, exec_drydownStart_feed⟩,
    fun s drydown => ⟨exec_drydownPark drydown, exec_drydownTwinWaitEnd drydown, exec_drydownPorts drydown, exec_drydownParked drydown⟩,
    fun s => ⟨exec_leaveParked_leaves, exec_leaveParked_stays⟩,
    fun i s isl => ⟨fun busy => ⟨exec_reloadCp_busy isl busy, exec_repair_busy isl busy⟩, exec_reloadCp_invalid isl, exec_reloadCp_begins isl,
      exec_repair_swaps isl⟩,
    fun s n i => exec_reloadCpDone,
    fun line s => ⟨exec_consoleLine_off, exec_consoleLine_held,
      fun on free => ⟨exec_consoleLine_long on free, exec_consoleLine_runs on free⟩⟩,
    fun s => ⟨exec_ver, fun d => exec_isl, fun d => exec_ctr, fun d => exec_gasp, fun w => exec_tw, fun a n => exec_peek, fun a v => exec_poke,
      fun i x v => exec_sil, exec_dump⟩,
    fun v s => ⟨exec_monLevelWrite_firmware, fun f => exec_monLevelWrite_virtual⟩,
    fun s powered => ⟨fun bytes => exec_i3cPrivateWrite powered, exec_i3cPrivateRead powered, fun a => exec_i3cDynamicAddressAssign powered⟩,
    fun w v s watch => ⟨exec_twClear watch, fun unclear off idle => exec_twEnable_off watch unclear idle off,
      fun unclear on idle => exec_twEnable_on watch unclear idle on, exec_twDigEnable_off watch, ?accepted, ?refused⟩⟩
  case window =>
    intro a line target b d d' e
    have same : s.windowMeasured watts = e := windowMeasured_eq s watts
    rw [← same]
    exact ⟨exec_powerWindow_drydown measured running fed, exec_powerWindow_lowers measured running fed,
      exec_powerWindow_raises measured running fed⟩
  case accepted =>
    intro on plain unbound clear
    rw [exec_twDigEnable_on watch on]
    exact congrArg _ (if_pos (by rw [plain, unbound, clear]; rfl))
  case refused =>
    intro on taken
    rw [exec_twDigEnable_on watch on]
    refine congrArg _ (if_neg fun free => ?_)
    simp only [Bool.and_eq_true, Bool.not_eq_true'] at free
    obtain ⟨⟨plain, unbound⟩, clear⟩ := free
    rw [plain, unbound, clear] at taken
    simp at taken

end Sys2Proof.Machine
end

section
/-! PROOFS of the scope: the control registers, the waits of the sequencer, the setup of tiles, queues and streams, and work items (R51 to R61, R81,
R82, R88, R91 to R98). -/

namespace Sys2Proof.Machine

/-! ## Operations that only a core has -/

section
variable {s : State} {n r : Nat} {p : Pred}

/-- An operation of a core that begins, its zero bits zero. -/
theorem checked_coreOp (named : coreNamed n r = true) (issues : s.canIssue n r = true) (holds : (s.core n r).file.holds p = true) {enc : Nat}
    (legal : enc = 0) (f : Nat → Nat → State → State) : checked (seqrOk (.core n r)) (s.coreOp (.core n r) enc p f) = .next (f n r s) := by
  rw [checked_core named, legal, coreOp_runs issues, if_pos holds]

theorem coreOp_fault (issues : s.canIssue n r = true) {enc : Nat} (illegal : enc ≠ 0) (f : Nat → Nat → State → State) :
    s.coreOp (.core n r) enc p f = s.seqFault n r enc := by
  simp [State.coreOp, issues, illegal]

theorem checked_coreBlock (named : coreNamed n r = true) (issues : s.canIssue n r = true) (holds : (s.core n r).file.holds p = true) (code : Nat)
    (o : Ops) {enc : Nat} (legal : enc = 0) (f : Nat → Nat → State → State) :
    checked (seqrOk (.core n r)) (s.coreBlock (.core n r) code enc p o f) = .next (f n r s) := by
  rw [checked_core named, legal, coreBlock_runs issues holds]

end

/-! ## Control registers (R67, R81, R82, R98) -/

section
variable {s : State} {n r : Nat} {p : Pred} {o : Ops}

theorem coreCsr_rank_none (unranked : (s.core n r).rank = none) : s.coreCsr n r 1 = some (BitVec.allOnes 64, s) := by
  simp only [State.coreCsr, unranked, ones64]

theorem coreCsr_rank {k : Nat} (rank : (s.core n r).rank = some k) : s.coreCsr n r 1 = some (BitVec.ofNat 64 k, s) := by
  simp only [State.coreCsr, rank]

theorem coreCsr_item_none (empty : (s.core n r).item = none) : s.coreCsr n r 5 = some (BitVec.allOnes 64, s) := by
  simp only [State.coreCsr, empty, ones64]

theorem coreCsr_item {k : Nat} (item : (s.core n r).item = some k) : s.coreCsr n r 5 = some (BitVec.ofNat 64 k, s) := by
  simp only [State.coreCsr, item]

theorem encCsrw_legal (legal : encCsr o false true = 0)
    (allowed : ob o 11 0 = 7 → ((s.core n r).file.rg (raOf o)).toNat % 4 ≠ 0 ∨ s.ctxRt (s.core n r).ctx = true) : s.encCsrw n r o = 0 := by
  simp only [State.encCsrw, legal, ne_eq, not_true_eq_false, if_false]
  refine if_neg fun ⟨sclass, rt, plain⟩ => ?_
  rcases allowed sclass with lower | real
  · exact lower rt
  · simp [plain] at real

theorem encCsrw_realTime (legal : encCsr o false true = 0) (sclass : ob o 11 0 = 7) (rt : ((s.core n r).file.rg (raOf o)).toNat % 4 = 0)
    (plain : s.ctxRt (s.core n r).ctx = false) : s.encCsrw n r o = fIllegalOp := by
  simp only [State.encCsrw, legal, ne_eq, not_true_eq_false, if_false]
  exact if_pos ⟨sclass, rt, plain⟩

theorem writeCsr_other {k : Nat} (other : k ∉ [4, 6, 7]) (v : Word) : s.writeCsr n r k v = s.pass n r := by
  unfold State.writeCsr
  split
  case h_4 => rfl
  all_goals simp at other

section
variable (named : coreNamed n r = true) (issues : s.canIssue n r = true) (holds : (s.core n r).file.holds p = true)
include named issues holds

theorem exec_seqCsrr_core {t : State} {v : Word} (legal : encCsr o true false = 0) (value : s.coreCsr n r (ob o 11 0) = some (v, t)) :
    exec (.seqCsrr (.core n r) p o) s = .next (t.onCore n r fun x => { x with file := x.file.result o v }) := by
  refine (checked_coreOp named issues holds legal _).trans (congrArg Host.Outcome.next ?_)
  rw [value]
  rfl

theorem exec_seqCsrw_core (legal : s.encCsrw n r o = 0) :
    exec (.seqCsrw (.core n r) p o) s = .next (s.writeCsr n r (ob o 11 0) ((s.core n r).file.rg (raOf o))) :=
  checked_coreOp named issues holds legal _

theorem exec_seqLive_core (legal : encRRuse o false true false = 0) :
    exec (.seqLive (.core n r) p o) s = .next (s.onCore n r fun x =>
      { x with live := (x.file.rg (raOf o)).toNat &&& s.liveMask x.comp, file := x.file.adv }) :=
  checked_coreOp named issues holds legal _

end

theorem exec_seqCsrw_realTime (named : coreNamed n r = true) (issues : s.canIssue n r = true) (illegal : s.encCsrw n r o = fIllegalOp) :
    exec (.seqCsrw (.core n r) p o) s = .next (s.seqFault n r fIllegalOp) := by
  refine (checked_core named _).trans (congrArg Host.Outcome.next ?_)
  dsimp only
  rw [illegal, coreOp_fault issues (by decide)]

end

/-- The oldest wake leaves the list, a doorbell or an event. -/
theorem takeWake_wakes {s : State} {i : Nat} {w : Wake} {rest : List Wake} (wakes : (s.cp i).wakes = w :: rest) : ((s.takeWake i).2.cp i).wakes = rest := by
  cases w <;> simp [State.takeWake, wakes]

section
variable {s : State} {i : Nat} {p : Pred} {o : Ops} (bound : i < 16)
include bound

theorem exec_seqCsrr_cp {t : State} {v : Word} (issues : s.cpCanIssue i = true) (holds : (s.cp i).file.holds p = true)
    (legal : encCS o true false = 0) (value : s.cpCsr i (ob o 11 0) = some (v, t)) :
    exec (.seqCsrr (.cp i) p o) s = .next (t.setCp i { t.cp i with file := (t.cp i).file.result o v }) := by
  refine (checked_cp bound _).trans (congrArg Host.Outcome.next ?_)
  simp only [issues, legal, value, holds, Bool.not_true, Bool.false_eq_true, ne_eq, not_true_eq_false, if_false, if_true]
  rfl

theorem exec_seqCsrw_cp (issues : s.cpCanIssue i = true) (legal : encCS o false true = 0) :
    exec (.seqCsrw (.cp i) p o) s = .next (s.cpFault i fIllegalOp) := by
  refine (checked_cp bound _).trans (congrArg Host.Outcome.next ?_)
  simp [issues, legal]

theorem exec_cpWakeRead (s : State) : exec (.cpWakeRead i) s = .next (s.takeWake i).2 :=
  checked_next.2 ⟨decide_eq_true bound, rfl⟩

end

/-- Settles O12: a core's registers by their numbers, its writes by the faults that come before them, and a command processor's by R98. -/
theorem controlRegisters : Obligations.ControlRegisters := by
  unfold Obligations.ControlRegisters
  refine ⟨fun n r p o s t v named issues holds legal value => exec_seqCsrr_core named issues holds legal value, fun n r s => ?registers,
    fun n r p o s named issues holds legal => ?write, fun n r p o s named issues holds legal => exec_seqLive_core named issues holds legal,
    fun i p o s t v bound issues holds legal value => exec_seqCsrr_cp bound issues holds legal value,
    fun i p o s bound issues legal => exec_seqCsrw_cp bound issues legal,
    fun i w rest s bound wakes => ⟨exec_cpWakeRead bound s, takeWake_wakes wakes⟩⟩
  case registers =>
    exact ⟨rfl, coreCsr_rank_none, fun k => coreCsr_rank, rfl, ⟨_, rfl⟩, rfl, coreCsr_item_none, fun k => coreCsr_item, rfl, rfl, rfl⟩
  case write =>
    have writes (allowed : ob o 11 0 = 7 → ((s.core n r).file.rg (raOf o)).toNat % 4 ≠ 0 ∨ s.ctxRt (s.core n r).ctx = true) :=
      exec_seqCsrw_core named issues holds (encCsrw_legal legal allowed)
    refine ⟨fun live => ?_, fun sflags => ?_, fun sclass allowed => ?_, fun sclass rt plain => ?_, fun other => ?_⟩
    · rw [writes fun sclass => by omega, live]; rfl
    · rw [writes fun sclass => by omega, sflags]; rfl
    · rw [writes fun _ => allowed, sclass]; rfl
    · exact exec_seqCsrw_realTime named issues (encCsrw_realTime legal sclass rt plain)
    · rw [writes fun sclass => absurd sclass (by simp_all), writeCsr_other other]

/-! ## Waits and held setups (R56, R84, R88, R95) -/

section
variable {s : State} {n r : Nat} {p : Pred} {o : Ops}

theorem exec_seqWait (named : coreNamed n r = true) (issues : s.canIssue n r = true) (holds : (s.core n r).file.holds p = true)
    (legal : encW o = 0) :
    exec (.seqWait (.core n r) p o) s = .next (if (s.core n r).stationsDone (ob o 9 0) (s.core n r).seqNo then s.pass n r
      else s.setCore n r { s.core n r with wait := .stations (ob o 9 0) (s.core n r).seqNo }) :=
  checked_coreOp named issues holds legal _

theorem exec_seqUntil_core (named : coreNamed n r = true) (issues : s.canIssue n r = true) (holds : (s.core n r).file.holds p = true)
    (legal : encRRuse o false true false = 0) :
    let t := ((s.core n r).file.rg (raOf o)).toNat
    exec (.seqUntil (.core n r) p o) s =
      .next (if t ≤ s.dtOf (n / 8) then s.pass n r else s.setCore n r { s.core n r with wait := .dt t }) :=
  checked_coreOp named issues holds legal _

theorem exec_seqUntilDtReached_core {t : Nat} (named : coreNamed n r = true) (waits : (s.core n r).wait = .dt t)
    (runs : (s.core n r).status = .running) (due : t ≤ s.dtOf (n / 8)) :
    exec (.seqUntilDtReached (.core n r)) s = .next (s.setCore n r { s.core n r with wait := .none, file := (s.core n r).file.adv }) := by
  refine (checked_core named _).trans (congrArg Host.Outcome.next ?_)
  dsimp only
  rw [waits]
  exact if_pos ⟨runs, due⟩

theorem exec_seqUntil_cp {i : Nat} (bound : i < 16) (issues : s.cpCanIssue i = true) (holds : (s.cp i).file.holds p = true)
    (legal : encRRuse o false true false = 0) :
    let t := ((s.cp i).file.rg (raOf o)).toNat
    exec (.seqUntil (.cp i) p o) s = .next (if t ≤ s.dtOf (cpIsl i) then s.cpPass i else s.setCp i { s.cp i with until_ := some t }) := by
  refine (checked_cp bound _).trans (congrArg Host.Outcome.next ?_)
  simp [issues, holds, legal]

theorem exec_seqUntilDtReached_cp {i t : Nat} (bound : i < 16) (waits : (s.cp i).until_ = some t) (due : t ≤ s.dtOf (cpIsl i)) :
    exec (.seqUntilDtReached (.cp i)) s = .next (s.setCp i { s.cp i with until_ := none, file := (s.cp i).file.adv }) := by
  refine (checked_cp bound _).trans (congrArg Host.Outcome.next ?_)
  dsimp only
  rw [waits]
  exact if_pos due

/-- Each setup row is the setup of its opcode, its zero bits and objects checked as the row says. -/
theorem exec_setupRow {e : (Seqr → Pred → Ops → Instr) × Nat × (Ops → Nat)} (row : e ∈ setupRows) (q : Seqr) (p : Pred) (o : Ops) (s : State) :
    exec (e.1 q p o) s = checked (seqrOk q) (s.setupOp q (e.2.2 o) e.2.1 p o) := by
  simp only [setupRows, List.mem_cons, List.not_mem_nil, or_false] at row
  rcases row with rfl | rfl | rfl | rfl | rfl | rfl | rfl <;> rfl

/-- A setup whose word is legal: R95's faults of its record and objects come before its predicate. -/
theorem setupOp_legal {enc : Nat} (legal : enc = 0) (opc : Nat) :
    s.setupOp (.core n r) enc opc p o = s.coreOp (.core n r) (s.setupFault n r opc o) p fun n r s => s.setup n r opc o := by
  simp [State.setupOp, legal]

theorem exec_setupRelease {opc : Nat} (named : coreNamed n r = true) (waits : (s.core n r).wait = .setup opc o)
    (runs : (s.core n r).status = .running) (free : (s.core n r).setupHeld opc o = false) :
    exec (.setupRelease n r) s = .next ((s.setCore n r { s.core n r with wait := .none }).setupEffect n r opc o) := by
  refine checked_next.2 ⟨named, ?_⟩
  rw [State.releaseSetup]
  dsimp only
  rw [waits]
  exact if_pos ⟨runs, free⟩

end

/-- Settles O13: each wait by its condition, each setup by R95's faults, then its predicate (R76), then what holds it. The order of R95's faults is the
model's choice (DESIGN CHOICE, log 113). -/
theorem sequencerWaits : Obligations.SequencerWaits := by
  unfold Obligations.SequencerWaits
  refine ⟨fun n r p o s named issues holds legal => ?wait, fun n r p o s named issues holds legal => ?until_,
    fun n r t s named waits runs due => exec_seqUntilDtReached_core named waits runs due, fun i p o s bound issues holds legal => ?cpUntil,
    fun i t s bound waits due => exec_seqUntilDtReached_cp bound waits due, fun e row n r p o s named issues legal => ?setup,
    fun n r opc o s named waits runs free => exec_setupRelease named waits runs free⟩
  case wait =>
    intro x
    rw [exec_seqWait named issues holds legal]
    exact ⟨fun done => by rw [if_pos done], fun busy => by rw [if_neg (ne_true_of_eq_false busy)]⟩
  case until_ =>
    intro t
    rw [exec_seqUntil_core named issues holds legal]
    exact ⟨fun due => by rw [if_pos due], fun early => by rw [if_neg (Nat.not_le.2 early)]⟩
  case cpUntil =>
    intro t
    rw [exec_seqUntil_cp bound issues holds legal]
    exact ⟨fun due => by rw [if_pos due], fun early => by rw [if_neg (Nat.not_le.2 early)]⟩
  case setup =>
    rw [exec_setupRow row, checked_core named, setupOp_legal legal]
    refine ⟨fun sound holds free => ?_, fun sound holds held => ?_, fun unsound => by rw [coreOp_fault issues unsound]⟩
    · rw [sound, coreOp_runs issues, if_pos holds, State.setup, free]; rfl
    · rw [sound, coreOp_runs issues, if_pos holds, State.setup, held]; rfl

/-! ## What a setup writes (R37, R41, R45, R91 to R94) -/

section
variable {s : State} {n r : Nat}

theorem setTile_sets {t w : Nat} (ok : (handleRec w).ok (s.spLimit (s.core n r).comp) = true) (free : (s.core n r).handleBusy t = false) :
    s.setTile n r t w = s.setupDone n r fun x => { x with handles := x.handles.put t (handleRec w) } := by
  simp [State.setTile, ok, free]

theorem setScale_sets {t w : Nat} {h : Handle} (set : (s.core n r).handles.find t = some h) (finite : f32Finite w = true)
    (free : (s.core n r).handleBusy t = false) :
    s.setScale n r t w = s.setupDone n r fun x => { x with handles := x.handles.put t { h with scale := w } } := by
  simp [State.setScale, finite, free, set]

theorem setQueue_sets {k w : Nat} (ok : (s.core n r).queueOk k (queueRec w) = true) :
    s.setQueue n r k w = s.setupDone n r fun x => { x.setTq k (queueRec w) with fills := x.fills.filter fun f => f.tq != k } := by
  simp [State.setQueue, ok]

theorem freeQueue_frees {k : Nat} {t : TQueue} (found : (s.core n r).tq k = some t) (empty : t.allEmpty = true)
    (loose : (s.core n r).isTarget k = false) :
    s.freeQueue n r k = s.setupDone n r fun x => { x with queues := x.queues.del k, fills := x.fills.filter fun f => f.tq != k } := by
  simp [State.freeQueue, found, empty, loose]

/-- The resident after a setup, whatever the setup did elsewhere before. -/
theorem core_setupDone (f : Res → Res) :
    (s.setupDone n r f).core n r = { f (s.core n r) with file := (f (s.core n r)).file.adv, actAt := s.aon.dt } := core_setCore_same ..

theorem setStream_streams (k a : Nat) :
    ((s.setStream n r k a).core n r).streams.find k = some (streamRec ((s.core n r).recOf a)) := by
  rw [State.setStream, core_setupDone]
  exact SMap.find_put_same ..

theorem rewindStream_streams {k v : Nat} {st : Stream} (found : (s.core n r).streams.find k = some st) :
    ((s.rewindStream n r k v).core n r).streams.find k = some { st with p := v, held := [] } := by
  simp only [State.rewindStream, found]
  rw [core_setupDone]
  exact SMap.find_put_same ..

theorem streamPos_writes {k d : Nat} {st : Stream} (found : (s.core n r).streams.find k = some st) :
    s.streamPos n r k d = s.setupDone n r fun x => { x with file := x.file.wg d (BitVec.ofNat 64 st.p) } := by
  simp only [State.streamPos, found]

end

/-- Settles O14, by what each setup does where its object is free and its record allowed. -/
theorem setupEffects : Obligations.SetupEffects := by
  unfold Obligations.SetupEffects
  intro n r o s x a w k g kept
  exact ⟨fun ok free => setTile_sets ok free, fun h set finite free => setScale_sets set finite free, fun ok => setQueue_sets ok,
    fun t found empty loose => freeQueue_frees found empty loose, ⟨setStream_streams k a, rfl⟩, fun st found => rewindStream_streams found,
    fun st found => streamPos_writes found⟩

/-! ## Work items (R57 to R61, R179) -/

section
variable {s : State} {n r i : Nat} {p : Pred} {o : Ops} {l : Launch}

theorem exec_seqPull (named : coreNamed n r = true) (issues : s.canIssue n r = true) (holds : (s.core n r).file.holds p = true) :
    exec (.seqPull (.core n r) p 0#48) s = .next (s.corePull n r 0#48) := checked_coreBlock named issues holds _ _ (by decide) _

theorem exec_seqDone (named : coreNamed n r = true) (issues : s.canIssue n r = true) (holds : (s.core n r).file.holds p = true) :
    exec (.seqDone (.core n r) p 0#48) s = .next (s.coreDone n r 0#48) := checked_coreBlock named issues holds _ _ (by decide) _

theorem corePull_held (launch : s.launchOf n r = some l) (item : (s.core n r).item = some i) : s.corePull n r o = s.pullRecord n r o l i := by
  simp only [State.corePull, launch, item]

theorem pullRecord_read :
    let va := l.itemsVa + i * l.itemBytes
    let q := s.vread (s.scalarWho n r) (s.scalarSpace n r false) va l.itemBytes needR
    q.wait = false → q.fail = none →
      s.pullRecord n r o l i = q.s.endSeq n r fun f => (f.pulled i va l.argsVa (wordsOf (l.itemBytes / 8) q.data)).adv := by
  intro va q ready sound
  simp only [q, va] at ready sound ⊢
  simp only [State.pullRecord, ready, sound, Bool.false_eq_true, if_false]

section
variable (launch : s.launchOf n r = some l) (empty : (s.core n r).item = none) (stays : (s.core n r).leaveReq = false) (hands : l.closed = false)
include launch empty stays hands

theorem corePull_claims :
    let c := s.claimItem n r l
    c.wait = false → c.fail = none → c.item = some i →
      s.corePull n r o = (c.s.onCore n r fun x => { x with item := some i }).pullRecord n r o l i := by
  intro c ready sound item
  simp only [c] at ready sound item ⊢
  simp only [State.corePull, launch, empty, stays, hands, ready, sound, item, Bool.or_self, Bool.false_eq_true, if_false]

theorem corePull_parks :
    let c := s.claimItem n r l
    let d := c.s.headerStep n r l hDone 8 id
    c.wait = false → c.fail = none → c.item = none → d.fail = none →
      s.corePull n r o = if d.old = l.count then d.s.leaveLaunch n r else d.s.onCore n r fun x => { x with wait := .parked } := by
  intro c d ready sound item counted
  simp only [c, d] at ready sound item counted ⊢
  simp only [State.corePull, launch, empty, stays, hands, ready, sound, item, counted, Bool.or_self, Bool.false_eq_true, if_false]

end

theorem exec_parkedPullWake (named : coreNamed n r = true) (runs : (s.core n r).status = .running) (parked : (s.core n r).wait = .parked)
    (launch : s.launchOf n r = some l) (released : (s.core n r).leaveReq = true ∨ s.pullReleased l = true) :
    exec (.parkedPullWake n r) s = .next (s.corePull n r 0#48) := by
  refine checked_next.2 ⟨named, ?_⟩
  dsimp only
  rw [launch]
  exact if_pos ⟨runs, parked, released⟩

theorem coreDone_noItem (empty : (s.core n r).item = none) : s.coreDone n r o = s.seqFault n r fNoItem := by
  simp only [State.coreDone, empty]

theorem coreDone_counts (item : (s.core n r).item = some i) (launch : s.launchOf n r = some l) (queued : (s.core n r).sq = [])
    (started : (s.core n r).started = []) (replay : (s.core n r).replay = []) :
    let x := s.core n r
    let c := s.publish n r
    let d := (c.freeClosed (ownerCore n)).headerStep n r l hDone 8 fun v => v + 1
    let t := (d.s.endSeq n r SeqFile.adv).onCore n r fun x => { x with item := none }
    c.groupsClosed (ownerCore n) = true → c.groupsPoisoned (ownerCore n) = false → d.wait = false → d.fail = none →
      s.coreDone n r o = if d.old + 1 = l.count then (t.recordDone x.comp x.lane l).wakeAllParked x.comp x.lane else t := by
  intro x c d t closed sound ready counted
  simp only [c, d, x, t] at closed sound ready counted ⊢
  simp only [State.coreDone, item, launch, queued, started, replay, closed, sound, ready, counted, List.isEmpty_nil, Bool.not_true, Bool.or_self,
    Bool.false_eq_true, if_false]

end

/-- Settles O15: a pull by what its claim gives, a `seq.done` by what stands before it. That a pull with an item held returns with that item is the
model's choice (DESIGN CHOICE, log 124). -/
theorem workItems : Obligations.WorkItems := by
  unfold Obligations.WorkItems
  refine ⟨fun n r i p s l named issues holds launch empty stays hands => ?claims, fun n r i p s l named issues holds launch item => ?held,
    fun n r p s l named issues holds launch empty stays hands => ?parks,
    fun n r s l named runs parked launch released => exec_parkedPullWake named runs parked launch released,
    fun n r p s named issues holds empty => ?noItem,
    fun n r i p s l named issues holds item launch queued started replay => ?counts⟩
  case claims =>
    intro c t va q ready sound item arrived whole
    rw [exec_seqPull named issues holds, corePull_claims launch empty stays hands ready sound item, pullRecord_read arrived whole]
  case held => rw [exec_seqPull named issues holds, corePull_held launch item]
  case parks =>
    intro c d ready sound item counted
    rw [exec_seqPull named issues holds, corePull_parks launch empty stays hands ready sound item counted]
  case noItem => rw [exec_seqDone named issues holds, coreDone_noItem empty]
  case counts =>
    intro x c d t closed sound ready counted
    rw [exec_seqDone named issues holds, coreDone_counts item launch queued started replay closed sound ready counted]

end Sys2Proof.Machine
end

section
/-! PROOFS of the scope: the dispatch of station instructions, their start and completion, read-ahead, the deadlock detector and SYNC (R43 to R49,
R53, R54, R71 to R73, R84 to R86, R99 to R102, R127 to R129). -/

namespace Sys2Proof.Machine

/-! ## The rows of the stations -/

/-- Every form of a row at its opcode satisfies what each form does. -/
theorem forall_formRows {n u op : Nat} {c : Nat → Nat → Nat → Pred → Ops → Bool → Instr} {P : StationRow → Prop}
    (each : ∀ f, f < n → P (fun n r p o b => c n r f p o b, u, op + f)) : ∀ e ∈ formRows n u op c, P e := by
  intro e row
  obtain ⟨f, form, rfl⟩ := List.mem_map.1 row
  exact each f (List.mem_range.1 form)

/-- Whether each form of a row dispatches to its unit at its opcode. -/
def StationRow.dispatched (e : StationRow) : Prop :=
  ∀ (n r : Nat) (p : Pred) (o : Ops) (now : Bool) (s : State), coreNamed n r = true →
    exec (e.1 n r p o now) s = .next (s.dispatch n r e.2.1 e.2.2 p o now)

/-- A form below the number of its forms on a core that exists. -/
theorem checked_form {n r f k : Nat} (named : coreNamed n r = true) (form : f < k) (t : State) :
    checked (coreOk n r && decide (f < k)) t = .next t :=
  checked_next.2 ⟨Bool.and_eq_true_iff.2 ⟨named, decide_eq_true form⟩, rfl⟩

theorem plainRows_dispatched : ∀ e ∈ plainRows, e.dispatched := by
  intro e row n r p o now s named
  simp only [plainRows, List.mem_cons, List.not_mem_nil, or_false] at row
  rcases row with rfl | rfl | rfl | rfl | rfl | rfl | rfl | rfl | rfl | rfl | rfl | rfl | rfl | rfl | rfl | rfl | rfl | rfl | rfl | rfl | rfl |
    rfl | rfl | rfl | rfl <;> exact checked_core named _

theorem suffixRows_dispatched {f : Nat} (suffix : f < 3) : ∀ e ∈ suffixRows f, e.dispatched := by
  intro e row n r p o now s named
  simp only [suffixRows, List.mem_cons, List.not_mem_nil, or_false] at row
  rcases row with rfl | rfl | rfl | rfl | rfl | rfl | rfl | rfl | rfl | rfl <;> refine (checked_form named suffix _).trans ?_ <;>
    simp [Nat.add_comm]

theorem stationRows_dispatched : ∀ e ∈ stationRows, e.dispatched := by
  intro e row
  simp only [stationRows, List.mem_flatten, List.mem_cons, List.not_mem_nil, or_false] at row
  obtain ⟨rows, kind, row⟩ := row
  rcases kind with rfl | rfl | rfl | rfl | rfl | rfl | rfl | rfl
  · exact plainRows_dispatched e row
  · refine forall_formRows (fun f form n r p o now s named => (checked_form named form _).trans ?_) e row
    rw [Nat.zero_add]
  · exact forall_formRows (fun f form n r p o now s named => checked_form named form _) e row
  · refine forall_formRows (fun f form n r p o now s named => (checked_form named (by omega : f < 13) _).trans ?_) e row
    rw [if_pos form, Nat.zero_add]
  · refine forall_formRows (fun f form n r p o now s named => (checked_form named (by omega : 9 + f < 13) _).trans ?_) e row
    rw [if_neg (by omega), show 9 + f + 7 = 0x10 + f by omega]
  · exact forall_formRows (fun f form n r p o now s named => checked_form named form _) e row
  · obtain ⟨f, suffix, row⟩ := List.mem_flatMap.1 row
    exact suffixRows_dispatched (List.mem_range.1 suffix) e row
  · exact forall_formRows (fun f form n r p o now s named => checked_form named form _) e row

theorem stationRows_unit : ∀ e ∈ stationRows, 1 ≤ e.2.1 := by decide

/-! ## Dispatch (R71, R76, R84, R85, R95) -/

section
variable {s : State} {n r u op : Nat} {p : Pred} {o : Ops}

theorem dispatch_fault (issues : s.canIssue n r = true)
    (fault : (s.core n r).stationFault (s.shared (s.core n r).comp) u op o ≠ 0) (now : Bool) :
    s.dispatch n r u op p o now = s.seqFault n r ((s.core n r).stationFault (s.shared (s.core n r).comp) u op o) := by
  simp [State.dispatch, goesOn_of_canIssue issues, issues, fault]

theorem dispatch_discards (issues : s.canIssue n r = true)
    (sound : (s.core n r).stationFault (s.shared (s.core n r).comp) u op o = 0) (discards : (s.core n r).file.holds p = false) (now : Bool) :
    s.dispatch n r u op p o now = s.pass n r := by
  simp [State.dispatch, goesOn_of_canIssue issues, issues, sound, discards]

end

/-- Settles O17, by the cases of a dispatch. That a false predicate discards an instruction even where its queue is full (DESIGN CHOICE, log 125), and
the order of the sequencer's faults (log 126), are the model's choices. -/
theorem stationDispatch : Obligations.StationDispatch := by
  unfold Obligations.StationDispatch
  intro e row n r p o s named
  rw [stationRows_dispatched e row n r p o false s named]
  exact ⟨fun enters => congrArg _ (dispatch_runs enters false),
    fun issues sound discards => congrArg _ (dispatch_discards issues sound discards false),
    fun issues fault => congrArg _ (dispatch_fault issues fault false)⟩

/-! ## The head of a station's queue starts (R43, R45, R65, R69, R102) -/

section
variable {s : State} {n r u op : Nat} {p : Pred} {o : Ops} {i : StIns}

theorem status_of_canIssue (issues : s.canIssue n r = true) : (s.core n r).status = .running := by
  simp only [State.canIssue, Bool.and_eq_true, beq_iff_eq] at issues
  exact issues.1.1

theorem dom_of_canIssue (issues : s.canIssue n r = true) : (s.dom (n / 8)).state = .on := by
  simp only [State.canIssue, Bool.and_eq_true, beq_iff_eq] at issues
  exact issues.1.2

theorem canIssue_of_dispatches (enters : s.dispatches n r u op p o = true) : s.canIssue n r = true := by
  simp only [State.dispatches, Bool.and_eq_true] at enters
  exact enters.1.1.1

/-- The resident after a dispatch. -/
theorem core_dispatched (s : State) (n r u op : Nat) (o : Ops) :
    (s.dispatched n r u op o).core n r =
      { s.core n r with sq := (s.core n r).sq ++ [(s.core n r).stationIns u op o], seqNo := (s.core n r).seqNo + 1,
                        file := (s.core n r).file.adv, wait := .none, actAt := s.aon.dt } := core_setCore_same ..

theorem dispatched_runs (enters : s.dispatches n r u op p o = true) : ((s.dispatched n r u op o).core n r).status = .running := by
  rw [core_dispatched]
  exact status_of_canIssue (canIssue_of_dispatches enters)

theorem dispatched_on (enters : s.dispatches n r u op p o = true) : ((s.dispatched n r u op o).dom (n / 8)).state = .on :=
  dom_of_canIssue (s := s) (canIssue_of_dispatches enters)

theorem headOf_dispatched (idle : s.stationIdle n r u = true) :
    ((s.dispatched n r u op o).core n r).headOf u = some ((s.core n r).stationIns u op o) := by
  simp only [State.stationIdle, Bool.and_eq_true, Option.isNone_iff_eq_none] at idle
  have none : (s.core n r).sq.find? (fun i => i.u == u) = none := idle.1
  rw [core_dispatched]
  simp [Res.headOf, List.find?_append, none, Res.stationIns]

section
variable (runs : (s.core n r).status = .running) (on : (s.dom (n / 8)).state = .on)
include runs on

theorem startHead_work (low : 2 ≤ u) (high : u ≤ 6) (head : (s.core n r).headOf u = some i) : s.startHead n r u = s.startWork n r i := by
  simp [State.startHead, runs, on, head, show u ≠ 1 by omega, show u ≠ 7 by omega, show u ≠ 8 by omega, show u ≠ 9 by omega]

theorem startHead_load (fresh : (s.core n r).replay = []) (head : (s.core n r).headOf 1 = some i) :
    s.startHead n r 1 = s.startWork n r i := by
  simp [State.startHead, State.startLoad, runs, on, fresh, head]

theorem startHead_send (head : (s.core n r).headOf 7 = some i) : s.startHead n r 7 = s.startSend n r i := by
  simp [State.startHead, runs, on, head]

theorem startHead_recv (head : (s.core n r).headOf 8 = some i) : s.startHead n r 8 = s.startRecv n r i := by
  simp [State.startHead, runs, on, head]

theorem startHead_sync (head : (s.core n r).headOf 9 = some i) : s.startHead n r 9 = s.startSync n r i := by
  simp [State.startHead, runs, on, head]

end

theorem bind_map_none {α β γ : Type} {o : Option α} {f : α → Option β} (missing : (o.bind f).isNone = true) (g : α → β → γ) :
    (o.bind fun a => (f a).map (g a)) = none := by
  cases o <;> simp_all

/-- An instruction whose conditions of a start all hold starts. -/
theorem startWork_startable (starts : s.startable n r i = true) : s.startWork n r i = s.begun n r i := by
  simp only [State.startable, Bool.and_eq_true, beq_iff_eq, Bool.not_eq_true'] at starts
  obtain ⟨⟨⟨⟨⟨⟨⟨⟨role, gated⟩, hazards⟩, full⟩, tokens⟩, stream⟩, held⟩, set⟩, unit⟩ := starts
  have noFault := bind_map_none held fun (q : Nat × Stream) m => (⟨m.cause, q.2.address q.2.p⟩ : MemFail)
  have ready := Bool.and_eq_true_iff.2 tokens
  simp only [State.startWork, role, gated, hazards, full, ready, stream, noFault, set, unit, State.begun, ne_eq, not_true_eq_false,
    Bool.or_self, Bool.not_true, Bool.false_eq_true, if_false]

end

/-! ## Completion (R44, R48, R49) -/

section
variable {s : State} {n r u op : Nat} {p : Pred} {o : Ops} {t : Started}

theorem completeHead_work (on : (s.dom (n / 8)).state = .on) (low : 1 ≤ u) (high : u ≤ 6) : s.completeHead n r u = s.completeWork n r u := by
  simp [State.completeHead, on, low, high]

theorem completeHead_sync (s : State) (n r : Nat) : s.completeHead n r 9 = s := by
  simp [State.completeHead]

theorem completeWork_done (oldest : (s.core n r).oldest u = some t) (sound : (s.workOutcome n r t).fail = none)
    (ready : (s.workOutcome n r t).ready = true) : s.completeWork n r u = s.completed n r t := by
  simp only [State.completeWork, oldest, sound, ready, if_true, State.completed]

/-! Taking tokens leaves the started instructions as they are. -/

@[simp] theorem setTok_started (x : Res) (q h : Nat) (t : Tok) : (x.setTok q h t).started = x.started := by
  unfold Res.setTok
  split <;> rfl

theorem takeTokens_started (x : Res) (i : StIns) (dst : Bool) : (x.takeTokens i dst).started = x.started := by
  rw [Res.takeTokens, foldl_keeps (P := Res.started) fun y c => by (repeat' split) <;> simp]
  (repeat' split) <;> simp

/-- An instruction that begins is the last of the started ones. -/
theorem begin_started (x : Res) (i : StIns) (hs : List (Option Nat)) (ah : Option Ahead) (dt : Nat) :
    ∃ t, t.ins = i ∧ (x.begin i hs ah dt).started = x.started ++ [t] := by
  simp only [Res.begin]
  refine ⟨_, ?ins, congrArg (· ++ [_]) ?kept⟩
  case kept => (repeat' split) <;> simp [takeTokens_started]
  case ins => rfl

end

/-- An instruction that begins at a station with none started is the oldest there. -/
theorem oldest_begin {x : Res} {i : StIns} (idle : x.oldest i.u = none) (hs : List (Option Nat)) (ah : Option Ahead) (dt : Nat) :
    ∃ t, t.ins = i ∧ (x.begin i hs ah dt).oldest i.u = some t := by
  obtain ⟨t, ins, started⟩ := begin_started x i hs ah dt
  have fresh : x.started.find? (fun t => t.ins.u == i.u) = none := idle
  exact ⟨t, ins, by simp [Res.oldest, started, List.find?_append, fresh, ins]⟩

theorem oldest_begun {s : State} {n r : Nat} {i : StIns} (idle : (s.core n r).oldest i.u = none) :
    ∃ t, t.ins = i ∧ ((s.begun n r i).core n r).oldest i.u = some t := by
  rw [show s.begun n r i = s.setCore n r _ from rfl, core_setCore_same]
  exact oldest_begin idle ..

/-- The head of a station of units 1 to 6 starts where it can, a LOAD where none has to be replayed first. -/
theorem startHead_startable {s : State} {n r u : Nat} {i : StIns} (runs : (s.core n r).status = .running) (on : (s.dom (n / 8)).state = .on)
    (low : 1 ≤ u) (high : u ≤ 6) (fresh : (s.core n r).replay = []) (head : (s.core n r).headOf u = some i) (starts : s.startable n r i = true) :
    s.startHead n r u = s.begun n r i := by
  rw [← startWork_startable starts]
  rcases low.eq_or_lt with rfl | other
  · exact startHead_load runs on fresh head
  · exact startHead_work runs on other high head

/-- Settles O18: the instruction is dispatched, stands at the head of its station, starts there as the only one, and completes. That its data moves at
its completion is the model's choice (DESIGN CHOICE, log 16). -/
theorem stationWork : Obligations.StationWork := by
  unfold Obligations.StationWork
  intro e row high n r p o s t named enters idle fresh i d b starts oldest sound ready
  have unit := stationRows_unit e row
  have core : d.core n r = _ := core_dispatched s n r e.2.1 e.2.2 o
  have on : (d.dom (n / 8)).state = .on := dispatched_on enters
  have begins : d.startHead n r e.2.1 = b :=
    startHead_startable (dispatched_runs enters) on unit high (by rw [core]; exact fresh) (headOf_dispatched idle) starts
  have completes : b.completeHead n r e.2.1 = b.completed n r t :=
    (completeHead_work (s := b) on unit high).trans (completeWork_done oldest sound ready)
  constructor
  · have none : (d.core n r).oldest i.u = none := by
      rw [core]
      exact Option.isNone_iff_eq_none.1 (Bool.and_eq_true_iff.1 idle).2
    obtain ⟨v, ins, begun⟩ := oldest_begun none
    exact Option.some.inj (oldest.symm.trans begun) ▸ ins
  · rw [stationRows_dispatched e row n r p o true s named, dispatch_runs enters, idle, Bool.and_true, if_pos rfl, ← completes, ← begins]

/-! ## The station events (R43, R47 to R49, R53, R54, R102) -/

theorem checked_station {n r u : Nat} (named : coreNamed n r = true) (low : 1 ≤ u) (high : u ≤ 9) (t : State) :
    checked (coreOk n r && decide (1 ≤ u) && decide (u ≤ 9)) t = .next t :=
  checked_next.2 ⟨by rw [show coreOk n r = true from named, decide_eq_true low, decide_eq_true high]; rfl, rfl⟩

theorem exec_stationInstructionStart {n r u : Nat} (named : coreNamed n r = true) (low : 1 ≤ u) (high : u ≤ 9) (s : State) :
    exec (.stationInstructionStart n r u) s = .next (s.startHead n r u) := checked_station named low high _

theorem exec_stationInstructionComplete {n r u : Nat} (named : coreNamed n r = true) (low : 1 ≤ u) (high : u ≤ 9) (s : State) :
    exec (.stationInstructionComplete n r u) s = .next (s.completeHead n r u) := checked_station named low high _

/-! ### Read-ahead -/

/-- The entry of tile `j` of stream `k` on its way to the head handle of queue `q`. -/
def aheadEntry (k j q h : Nat) : Ahead := { st := k, k := j, tq := q, h := h, arrived := false }

/-- Where every tile read ahead for a stream has come, none of it is on its way. -/
theorem find_arrived {k : Nat} {l : List Ahead} (arrived : (l.all fun a => a.st != k || a.arrived) = true) {f : Ahead → Bool}
    (away : ∀ a, f a = true → a.st = k ∧ a.arrived = false) : l.find? f = none := by
  rw [List.find?_eq_none]
  intro a member here
  obtain ⟨own, still⟩ := away a here
  have := List.all_eq_true.1 arrived a member
  simp [own, still] at this

section
variable {s : State} {n r k q : Nat} {st : Stream} {t : TQueue} {h : Handle}

theorem readAhead_more (found : (s.core n r).streams.find k = some st) (runs : (s.core n r).status = .running)
    (on : (s.dom (n / 8)).state = .on) :
    let p := s.prefetch n r k st
    ((p.core n r).ahead.all fun a => a.st != k || a.arrived) = true → s.readAhead n r k = p.aheadMore n r k := by
  intro p arrived
  simp only [State.readAhead, found, runs, on, bne_self_eq_false, Bool.or_self, Bool.false_eq_true, if_false]
  rw [find_arrived arrived fun a away => by simpa using away]

theorem aheadMore_none (missing : (s.core n r).aheadQueue k = none) : s.aheadMore n r k = s := by
  unfold State.aheadMore
  dsimp only
  rw [missing]
  cases (s.core n r).streams.find k <;> rfl

/-- The next tile is read ahead into the head handle of the target queue, which becomes FILLING, the head moving on. -/
theorem aheadMore_reads (found : (s.core n r).streams.find k = some st) (read : st.write = false) (target : st.target = some q)
    (queue : (s.core n r).tq q = some t) (empty : t.tok t.head = .empty) (set : (s.core n r).handles.find t.head = some h)
    (fits : tileFits h st 0 = 0) :
    let j := (s.core n r).aheadNext k st
    j < st.total → j < st.p + st.depth → st.held.find j = none →
      s.aheadMore n r k = (s.onCore n r fun x =>
        { x.setTq q { (t.setTok t.head .filling) with head := t.next t.head } with
          ahead := x.ahead ++ [aheadEntry k j q t.head], actAt := s.aon.dt }).aheadArrived n r k j := by
  intro j left near unheld
  have aheadQueue : (s.core n r).aheadQueue k = some (q, t) := by simp [Res.aheadQueue, found, target, queue]
  have goes : (st.write || decide (st.total ≤ j) || decide (st.p + st.depth ≤ j) || (st.held.find j).isSome || t.tok t.head != .empty) = false := by
    simp [read, unheld, empty, left, near]
  simp only [j] at goes ⊢
  simp only [State.aheadMore, found, aheadQueue, goes, set, fits, Bool.false_eq_true, ne_eq, not_true_eq_false, if_false, aheadEntry]

/-- A tile that has come whole is marked. -/
theorem aheadArrived_whole {j : Nat} {a : Ahead}
    (away : (s.core n r).ahead.find? (fun a => a.st == k && a.k == j && !a.arrived) = some a)
    (found : (s.core n r).streams.find k = some st) (set : (s.core n r).handles.find a.h = some h) :
    let w := s.loadTile (.ahead n r k j) n r k st j 0 h
    w.fail = none → w.short = false →
      s.aheadArrived n r k j = w.s.onCore n r fun x =>
        { x with ahead := x.ahead.map fun b => if b = a then { b with arrived := true } else b, actAt := s.aon.dt } := by
  intro w sound whole
  simp only [w] at sound whole ⊢
  simp only [State.aheadArrived, away, found, set, sound, whole, Bool.false_eq_true, if_false]

/-- Where every tile read ahead for a stream has come, the one now entered is the one on its way. -/
theorem find_aheadEntry {l : List Ahead} (arrived : (l.all fun a => a.st != k || a.arrived) = true) (j q h : Nat) :
    (l ++ [aheadEntry k j q h]).find? (fun a => a.st == k && a.k == j && !a.arrived) = some (aheadEntry k j q h) := by
  rw [List.find?_append, find_arrived arrived fun a away => by simp_all]
  simp [aheadEntry]

theorem exec_readAheadTile (named : coreNamed n r = true) (bound : k < 16) (s : State) :
    exec (.readAheadTile n r k) s = .next (s.readAhead n r k) :=
  checked_next.2 ⟨Bool.and_eq_true_iff.2 ⟨named, decide_eq_true bound⟩, rfl⟩

end

/-! ### The deadlock detector -/

section
variable {s : State} {n r : Nat}

theorem progFault_first {f : ProgFault} (first : (s.core n r).fault = none) :
    s.progFault n r f = (s.setCore n r { s.core n r with fault := some f, status := .faulting, wait := .none }).finishFault n r := by
  simp [State.progFault, first]

theorem exec_queueDeadlock_faults {i : StIns} {rest : List StIns} (named : coreNamed n r = true) (stuck : (s.core n r).stuck = true)
    (queue : (s.core n r).sq = i :: rest) (due : (s.core n r).actAt + us 1 ≤ s.aon.dt) :
    exec (.queueDeadlock n r) s =
      .next (s.progFault n r { code := fQueueDeadlock, unit := 0, pc := i.pc, pos := 0, cause := 0, addr := 0 }) := by
  refine checked_next.2 ⟨named, ?_⟩
  simp [stuck, queue, due]

theorem exec_queueDeadlock_early (named : coreNamed n r = true) (early : (s.core n r).stuck = false ∨ s.aon.dt < (s.core n r).actAt + us 1) :
    exec (.queueDeadlock n r) s = .next s := by
  refine checked_next.2 ⟨named, if_neg fun due => ?_⟩
  simp only [Bool.and_eq_true, decide_eq_true_eq] at due
  rcases early with moves | early
  · simp [moves] at due
  · omega

end

/-- Settles O19, by what each event does where its condition holds. One microsecond is 2,000 ticks, as `us` counts. That the deadlock's fault stands at
the oldest queued instruction is the model's choice (DESIGN CHOICE, log 133). -/
theorem stationSteps : Obligations.StationSteps := by
  unfold Obligations.StationSteps
  refine ⟨fun n r u s i named low high runs on head _ starts => ?start, fun n r u s t named low high on oldest sound ready => ?complete,
    fun n r k q s st t h named bound found runs on => ?reads, fun n r k s st named bound found runs on => ?translations,
    fun n r s i rest named stuck first queue due => ?deadlock, fun n r s named early => exec_queueDeadlock_early named early⟩
  case start =>
    rw [exec_stationInstructionStart named (by omega) (by omega), startHead_work runs on low high head, startWork_startable starts]
  case complete =>
    rw [exec_stationInstructionComplete named low (by omega), completeHead_work on low high, completeWork_done oldest sound ready]
  case reads =>
    intro p x arrived v stream read target queue empty set fits j a u w left near unheld sound whole
    have core : u.core n r = _ := core_setCore_same ..
    have streams : (u.core n r).streams.find k = some v := by rw [core]; exact stream
    have handles : (u.core n r).handles.find a.h = some h := by rw [core]; exact set
    have away : (u.core n r).ahead.find? (fun a => a.st == k && a.k == j && !a.arrived) = some a := by
      rw [core]
      exact find_aheadEntry arrived ..
    rw [exec_readAheadTile named bound, readAhead_more found runs on arrived,
      aheadMore_reads stream read target queue empty set fits left near unheld]
    exact congrArg Host.Outcome.next (aheadArrived_whole away streams handles sound whole)
  case translations =>
    intro p arrived missing
    rw [exec_readAheadTile named bound, readAhead_more found runs on arrived, aheadMore_none missing]
  case deadlock =>
    intro f
    rw [exec_queueDeadlock_faults named stuck queue due, progFault_first first]

/-! ## SYNC (R72, R73, R127 to R129, R179) -/

section
variable {s : State} {n r op : Nat} {p : Pred} {o : Ops} {i : StIns}

/-- An instruction dispatched to an idle SYNC station does at once what it can. -/
theorem dispatch_sync (enters : s.dispatches n r 9 op p o = true) (idle : s.stationIdle n r 9 = true) :
    s.dispatch n r 9 op p o true = (s.dispatched n r 9 op o).startSync n r ((s.core n r).stationIns 9 op o) := by
  rw [dispatch_runs enters, idle, Bool.and_true, if_pos rfl, completeHead_sync,
    startHead_sync (dispatched_runs enters) (dispatched_on enters) (headOf_dispatched idle)]

/-! ### What the head of SYNC does, by its operation -/

theorem startSync_barrier (op : i.op ≤ 2) : s.startSync n r i = s.barrierOp n r i := if_pos op

theorem startSync_flagWrite (op : i.op = 8 ∨ i.op = 9) : s.startSync n r i = s.flagWrite n r i := by
  rw [State.startSync, if_neg (by omega), if_pos op]

theorem startSync_flagCheck (op : i.op = 0x0A) : s.startSync n r i = s.flagCheck n r i := by
  rw [State.startSync, if_neg (by omega), if_neg (by omega), if_pos op]

theorem startSync_fenceMem (op : i.op = 0x10) : s.startSync n r i = s.fenceMemOp n r i := by
  rw [State.startSync, if_neg (by omega), if_neg (by omega), if_neg (by omega), if_pos op]

theorem startSync_fenceCheck (op : i.op = 0x18) : s.startSync n r i = s.fenceCheck n r i := by
  rw [State.startSync, if_neg (by omega), if_neg (by omega), if_neg (by omega), if_neg (by omega)]

/-! ### Fences -/

theorem fenceMemOp_visible (stored : (s.core n r).storesDone i = true) (closed : (s.publish n r).groupsClosed (ownerCore n) = true)
    (sound : (s.publish n r).groupsPoisoned (ownerCore n) = false) :
    s.fenceMemOp n r i = ((s.publish n r).freeClosed (ownerCore n)).syncPass n r i := by
  simp [State.fenceMemOp, stored, closed, sound]

theorem fenceCheck_reached {f : Fence} (found : s.fence (i.val 0) = some f) (small : i.val 0 < 2 ^ 32)
    (own : (s.ctxs.find (s.core n r).ctx).map (·.fn) = some f.fn) (live : f.abandoned = false) (reached : i.val 1 ≤ f.value) :
    s.fenceCheck n r i = s.syncPass n r i := by
  have owned : ¬(some f.fn ≠ (s.ctxs.find (s.core n r).ctx).map (·.fn) ∨ i.val 0 ≥ 2 ^ 32) := by
    rw [own]
    exact fun denied => denied.elim (absurd rfl) (Nat.not_le.2 small)
  simp only [State.fenceCheck, found, owned, live, reached, Bool.false_eq_true, if_false, if_true]

/-! ### Flags -/

section
variable {u : State} {pa leaf : Nat}

theorem flagWrite_add (lies : s.flagAt n r (i.val 0) true = .here u pa leaf) (op : i.op = 9) :
    s.flagWrite n r i = u.flagChange n r i := by
  simp [State.flagWrite, lies, op]

theorem flagWrite_set (lies : s.flagAt n r (i.val 0) true = .here u pa leaf) (op : i.op = 8) (stored : (s.core n r).storesDone i = true)
    (closed : (u.publish n r).groupsClosed (ownerCore n) = true) (sound : (u.publish n r).groupsPoisoned (ownerCore n) = false) :
    s.flagWrite n r i = ((u.publish n r).freeClosed (ownerCore n)).flagChange n r i := by
  simp [State.flagWrite, lies, op, stored, closed, sound]

/-- The flag's controller makes the change at once. -/
theorem flagChange_made {f : Nat → Nat} (change : (fun v => if i.op = 8 then i.val 1 else (v + i.val 1) % 2 ^ 64) = f) :
    let q := s.atomicAt (s.scalarWho n r) true (.store n) (.scalar r) (s.ctxTag (s.core n r).ctx) (i.val 0) 8 f
    q.wait = false → q.fail = none → s.flagChange n r i = q.s.syncPass n r i := by
  intro q ready sound
  simp only [q] at ready sound ⊢
  simp only [State.flagChange, change, ready, sound, Bool.false_eq_true, if_false]

theorem flagCheck_holds (lies : s.flagAt n r (i.val 0) false = .here u pa leaf)
    (awake : u.sleepWait (s.scalarWho n r) (leafSel leaf) pa = none) :
    let w := s.scalarWho n r
    let q := (((u.unhold w.own pa).placeWatch n r (memIsl pa - 84)).syncWait n r i).readPhys w (leafSel leaf) pa 8
    q.st = .ok → flagCond (bits (modOf i.ops) 1 0) (leNat q.data) (i.val 1) = true →
      s.flagCheck n r i = (q.s.dropWatch n r).syncPass n r i := by
  intro w q ok holds
  simp only [w, q] at ok holds ⊢
  simp only [State.flagCheck, lies, awake, ok, holds, ne_eq, not_true_eq_false, if_false, if_true]

end

/-! ### Barriers -/

section
variable {l : Launch} (launch : s.launchOf n r = some l) (fixed : l.fixed = true) (whole : l.broken = false)
include launch fixed whole

theorem barrierOp_wait (op : i.op = 2) (released : (s.core n r).passed (bits (modOf i.ops) 1 0) = true) :
    s.barrierOp n r i =
      (s.onCore n r fun x => { x with arrived := x.arrived.set (bits (modOf i.ops) 1 0) none }).syncPass n r i := by
  simp [State.barrierOp, launch, fixed, whole, op, released]

/-- A core that arrives, its writes visible: `bar.arrive` is over, `bar.sync` waits for the release. -/
theorem barrierOp_arrives (op : i.op ≤ 1) (begins : (s.core n r).syncOn ≠ some i.seq)
    (away : (s.core n r).arrived.getD (bits (modOf i.ops) 1 0) none = none) (stored : (s.core n r).storesDone i = true) :
    let c := s.publish n r
    let d := (c.freeClosed (ownerCore n)).coreArrive n r (bits (modOf i.ops) 1 0) l
    c.writesVisible n r i = true → c.groupsPoisoned (ownerCore n) = false →
      s.barrierOp n r i = if i.op = 1 then d.syncPass n r i else d.syncWait n r i := by
  intro c d visible sound
  simp only [c, d] at visible sound ⊢
  have begun : ((s.core n r).syncOn == some i.seq) = false := beq_eq_false_iff_ne.2 begins
  simp only [State.barrierOp, launch, fixed, whole, begun, away, stored, visible, sound, State.when, show i.op ≠ 2 by omega, Option.isSome_none,
    Bool.not_true, Bool.false_eq_true, if_false, if_true]

end
end

/-- Settles O20: each operation is the head of SYNC as it enters, and its condition holds. That `bar.wait` passes where no arrival was made is the
model's choice (DESIGN CHOICE, log 132); that read-ahead is discarded where an operation that orders reads passes is its reading (DEDUCED, log 131). -/
theorem syncOps : Obligations.SyncOps := by
  unfold Obligations.SyncOps
  intro n r p o s named idle at_ i own
  have runs {op : Nat} (enters : s.dispatches n r 9 op p o = true) :
      s.dispatch n r 9 op p o true = (at_ op).startSync n r (i op) := dispatch_sync enters idle
  refine ⟨fun enters stored closed sound => ?fenceMem, fun f enters found small own live reached => ?fenWait, fun u pa leaf enters lies => ?flagAdd,
    fun u pa leaf enters lies stored => ?flagSet, fun u pa leaf enters lies => ?flagWait, fun l enters launch fixed whole released => ?barWait,
    fun l op low enters launch fixed whole begins away stored => ?arrives⟩
  case fenceMem =>
    refine (checked_core named _).trans (congrArg Host.Outcome.next ?_)
    rw [runs enters, startSync_fenceMem rfl, fenceMemOp_visible stored closed sound]
  case fenWait =>
    refine (checked_core named _).trans (congrArg Host.Outcome.next ?_)
    rw [runs enters, startSync_fenceCheck rfl, fenceCheck_reached found small own live reached]
  case flagAdd =>
    intro q ready sound
    refine (checked_core named _).trans (congrArg Host.Outcome.next ?_)
    rw [runs enters, startSync_flagWrite (.inr rfl), flagWrite_add lies rfl]
    exact flagChange_made rfl ready sound
  case flagSet =>
    intro c d q closed sound ready made
    refine (checked_core named _).trans (congrArg Host.Outcome.next ?_)
    rw [runs enters, startSync_flagWrite (.inl rfl), flagWrite_set lies rfl stored closed sound]
    exact flagChange_made rfl ready made
  case flagWait =>
    intro w awake v q ok holds
    refine (checked_core named _).trans (congrArg Host.Outcome.next ?_)
    rw [runs enters, startSync_flagCheck rfl, flagCheck_holds lies awake ok holds]
  case barWait =>
    refine (checked_core named _).trans (congrArg Host.Outcome.next ?_)
    rw [runs enters, startSync_barrier (le_refl _)]
    exact barrierOp_wait launch fixed whole rfl released
  case arrives =>
    intro c d visible sound
    have arrives := barrierOp_arrives (i := i op) launch fixed whole low begins away stored visible sound
    refine ⟨?_, ?_⟩ <;> rintro rfl <;> refine (checked_core named _).trans (congrArg Host.Outcome.next ?_)
    · exact (runs enters).trans ((startSync_barrier (Nat.le_succ 1)).trans (arrives.trans (if_pos rfl)))
    · exact (runs enters).trans ((startSync_barrier (Nat.zero_le 2)).trans (arrives.trans (if_neg Nat.zero_ne_one)))

end Sys2Proof.Machine
end

section
/-! PROOFS of the scope: the steps of a change of map, slices, and the repair of a cluster (R323 to R337, R345). -/
namespace Sys2Proof.Machine

/-! ## The steps of a change (R323, R327, R329, R330) -/

section
variable {c : Nat} (bound : c < 64)
include bound

section
variable {s : State} {h : MapChange} (change : (s.comp c).change = some h)
include change

theorem exec_epochAdvance_over (third : h.step = 3) (done : s.stepThreeOver c h = true) : exec (.epochAdvance c) s = .next (s.advance c h) := by
  have started : ¬(h.step = 2 ∧ (!s.fixedHeld c) = true) := by omega
  refine checked_next.2 ⟨decide_eq_true bound, ?_⟩
  simp only [change]
  simp only [started, if_false, change]
  exact if_pos ⟨third, done⟩

theorem exec_drainDeadline_squashes (fifth : h.step = 5) (due : h.drainAt + s.drainTicks c ≤ s.aon.dt) (busy : s.leavingIdle c = false) :
    let a := s.setComp c { s.comp c with change := some { h with step := 6, status := if h.status = 0 then 8 else h.status } }
    let b := (leaving a.coreOwner c).foldl (fun s n => [0, 1].foldl (fun s r => if s.busyFor c n r then s.squashCore n r true else s) s) a
    let d := (leaving b.chanOwner c).foldl (fun s x => s.squashReqs (ofChan x)) b
    exec (.drainDeadline c) s = .next ((d.outst.filter fun e => d.drains c e.2.req).foldl (fun s e => s.finishEntry e.1 .epochNack []) d) := by
  have passed : ¬(h.step ≠ 5 ∨ s.aon.dt < h.drainAt + s.drainTicks c ∨ s.leavingIdle c = true) := by
    simp [fifth, due, busy]
  refine checked_next.2 ⟨decide_eq_true bound, ?_⟩
  simp only [change]
  exact if_neg passed

theorem exec_mapChangeEnd_ends (done : h.step = 6 ∨ (h.step = 5 ∧ s.leavingIdle c = true)) :
    exec (.mapChangeEnd c) s = .next (s.endChange c h) := by
  refine checked_next.2 ⟨decide_eq_true bound, ?_⟩
  simp only [change]
  exact if_pos done

end

end

/-- In step 3 of a RESUME a joining core that is ready is filled from its own slot. -/
theorem exec_coreResumeFill_resume {n r slot : Nat} {s : State} {b : Bound} {sv : Saved} {h : MapChange} {l : Launch}
    (named : coreNamed n r = true) (owner : s.coreOwner.find n = some b) (saved : s.saved.find (savedKey b.comp (slot / 2) r) = some sv)
    (change : (s.comp b.comp).change = some h) (launch : s.launches.find (laneKey b.comp r) = some l) (joins : b.phase = .preparing)
    (third : h.step = 3) (half : slot % 2 = r) (resume : h.cmd = 4) (place : h.record.cores[slot / 2]? = some n)
    (ready : s.coreReadyNow n b.comp = true) (began : sv.res.status ≠ .armed) :
    let t := (s.fillCore n r b.comp sv).onCore n r fun x => { x with status := .stopped .inPlace }
    exec (.coreResumeFill n r slot) s = .next { t with saved := t.saved.del (savedKey b.comp (slot / 2) r) } := by
  refine checked_next.2 ⟨named, ?_⟩
  simp [owner, saved, change, launch, joins, third, half, resume, place, ready, began]

/-! ## Repair (R18, R328, R336, R337) -/

section
variable {c cl : Nat} {spare : Option Nat} {s : State}

theorem exec_clusterRepair_repairs {spillOk : Bool} (bound : cl < 84) (serves : s.clState cl = 0) (sound : s.failing.find cl = none) :
    let spare := if spillOk then s.spareFor cl else none
    let t : State := { s with failing := s.failing.put cl spare }
    let held := (List.range 64).filter fun c => s.compHolds c cl
    exec (.clusterRepair cl spillOk) s =
      .next ((held.foldl (fun s c => s.repairComp c cl spare) (t.reportDev 255 0x14 (engineCode 7 cl) 0 cl [])).settleFailing) := by
  have repairs : ¬(s.clState cl ≠ 0 ∨ (s.failing.find cl).isSome = true) := by simp [serves, sound]
  exact checked_next.2 ⟨decide_eq_true bound, if_neg repairs⟩

theorem repairComp_waits (busy : s.fld F.CMP_STATUS_busy c = 1) :
    s.repairComp c cl spare = s.setComp c { s.comp c with repairs := (s.comp c).repairs ++ [(cl, spare)] } := if_pos busy

theorem repairComp_begins (idle : s.fld F.CMP_STATUS_busy c ≠ 1) : s.repairComp c cl spare = s.repairNow c cl spare := if_neg idle

end

/-! ## Promotion (R345) -/

theorem promote_lacking {c : Nat} {s : State} (lacks : s.promoteRecord c = none) : s.promote c = (s.cmpRefuse c 4, false) := by
  unfold State.promote
  rw [lacks]

theorem promote_found {c : Nat} {s : State} {r : MapRec} (found : s.promoteRecord c = some r) : (s.promote c).2 = true := by
  unfold State.promote
  rw [found]

/-- A promotion that finds too little free changes no time. -/
theorem promote_fails_aon {c : Nat} {s : State} (fails : (s.promote c).2 = false) : (s.promote c).1.aon = s.aon := by
  cases found : s.promoteRecord c with
  | none => rw [promote_lacking found, State.cmpRefuse, setFld_aon]
  | some r => rw [promote_found found] at fails; contradiction

theorem exec_promoteRetry_tries {c t : Nat} {s : State} (bound : c < 64) (promoting : (s.comp c).promoting = some t)
    (due : t + us 10000 ≤ s.aon.dt) (standby : s.cmpBlocked c [9] = false) :
    let q := s.promote c
    exec (.promoteRetry c) s = .next (if q.2 then q.1 else q.1.setComp c { q.1.comp c with promoting := some q.1.aon.dt }) := by
  intro q
  have tries : ¬(s.aon.dt < t + us 10000 ∨ s.cmpBlocked c [9] = true) := by
    simp [due, standby]
  refine checked_next.2 ⟨decide_eq_true bound, ?_⟩
  simp only [promoting]
  rw [if_neg tries]
  cases done : (s.promote c).2
  · simp [q, promote_fails_aon done]
  · simp [q]

/-- Settles O50, by what each command does where the condition of its event holds (R323, R327 to R330, R334 to R337, R345). When step 3 begins is the
model's reading (DEDUCED, log 82), and so is that a repair begins with its command (log 76). -/
theorem mapChanges : Obligations.MapChanges := by
  unfold Obligations.MapChanges
  exact ⟨fun c s h bound change third done => exec_epochAdvance_over bound change third done,
    fun c s h bound change fifth due busy => exec_drainDeadline_squashes bound change fifth due busy,
    fun c s h bound change done => exec_mapChangeEnd_ends bound change done,
    fun n r slot s b sv h l named owner saved change launch joins third half resume place ready began =>
      exec_coreResumeFill_resume named owner saved change launch joins third half resume place ready began,
    fun s => rfl, fun cl spillOk s bound serves sound => exec_clusterRepair_repairs bound serves sound,
    fun c cl spare s => ⟨repairComp_waits, repairComp_begins⟩,
    fun c t s bound promoting due standby => exec_promoteRetry_tries bound promoting due standby⟩

end Sys2Proof.Machine
end

section
/-! PROOFS of the scope: pre-emption to the tile boundary, the instruction cache's fill, and what a waiting SYNC station hears (R61, R65, R66, R83,
R90, R95, R127, R128, R250, R251, R262). -/
namespace Sys2Proof.Machine

/-! ## Pre-emption (R61, R65, R66, R90) -/

section
variable {s : State} {n r : Nat} {toward : StopTo}

/-- Forgetting what partners have brought touches no resident. -/
theorem core_remoteForget (s : State) (o : Owner) (n r : Nat) : (s.remoteForget o).core n r = s.core n r := by
  simp only [State.remoteForget, State.remoteDrop, State.core]

/-- Discarding read-ahead changes of the residents that one's tokens and read-ahead alone. -/
theorem core_dropAhead (s : State) (n r : Nat) (f : Ahead → Bool) : (s.dropAhead n r f).core n r = (s.core n r).discardAhead f := by
  unfold State.dropAhead
  refine (core_setCore_same ..).trans (congrArg (Res.discardAhead · f) ?_)
  exact foldl_keeps (P := fun t : State => t.core n r) (fun _ _ => core_remoteForget ..) _ s

theorem exec_preemptionRequest_stops (named : coreNamed n r = true) (request : (s.core n r).stopReq = some toward)
    (runs : (s.core n r).status = .running) :
    exec (.preemptionRequest n r) s =
      .next ((s.dropAhead n r fun _ => true).onCore n r fun x => x.preempted toward (s.dtOf (n / 8))) := by
  refine checked_next.2 ⟨named, ?_⟩
  dsimp only
  rw [request]
  exact if_pos runs

section
variable (named : coreNamed n r = true) (stops : (s.core n r).status = .stopping toward)
include named stops

theorem exec_tileBoundaryReached_reaches (started : (s.core n r).started = []) (free : (s.core n r).holdsBoundary = false) :
    exec (.tileBoundaryReached n r) s = .next (s.reachBoundary n r toward) := by
  refine checked_next.2 ⟨named, ?_⟩
  dsimp only
  rw [stops]
  exact if_pos (by rw [started, free]; rfl)

theorem exec_tileBudgetExpire_overruns (started : (s.core n r).started ≠ [])
    (due : (s.core n r).stopAt + us (s.fld F.SCH_COMP_CFG_tile_budget_us (s.core n r).comp) ≤ s.dtOf (n / 8)) :
    exec (.tileBudgetExpire n r) s = .next (s.setCore n r { s.core n r with overrun := true }) := by
  refine checked_next.2 ⟨named, ?_⟩
  dsimp only
  rw [stops]
  refine if_pos (Bool.and_eq_true_iff.2 ⟨?_, decide_eq_true due⟩)
  simpa using started

end
end

/-! ## The instruction cache's fill (R83, R95) -/

section
variable {s : State} {n r va : Nat} {ok : Bool} (named : coreNamed n r = true) (issues : s.canIssue n r = true)
include named issues

theorem exec_icacheLineFill_misaligned (misaligned : (s.core n r).file.pc % 8 ≠ 0) :
    exec (.icacheLineFill n r va ok) s = .next (s.seqFault n r fFetchAlign) := by
  refine checked_next.2 ⟨named, ?_⟩
  simp [issues, misaligned]

section
variable (aligned : (s.core n r).file.pc % 8 = 0)
include aligned

/-- A line that the pc does not stand in, or that is cached, changes nothing. -/
theorem exec_icacheLineFill_idle
    (idle : va / 64 ≠ (s.core n r).file.pc / 64 ∨ s.lineIn n (s.ctxTag (s.core n r).ctx) va = true) :
    exec (.icacheLineFill n r va ok) s = .next s := by
  have skips : (va / 64 ≠ (s.core n r).file.pc / 64 || s.lineIn n (s.ctxTag (s.core n r).ctx) va) = true := by simpa using idle
  exact checked_next.2 ⟨named, (if_neg (by simp [issues])).trans ((if_neg (absurd aligned)).trans (if_pos skips))⟩

/-- The line that is awaited arrives. -/
theorem exec_icacheLineFill_awaited (line : va / 64 = (s.core n r).file.pc / 64)
    (missing : s.lineIn n (s.ctxTag (s.core n r).ctx) va = false) :
    exec (.icacheLineFill n r va ok) s = .next (if ok then s.fetchLine n r else s.seqFault n r fFetchFault) := by
  refine checked_next.2 ⟨named, ?_⟩
  cases ok <;> simp [issues, aligned, line, missing]

end
end

section
variable {s : State} {n r : Nat}

/-- The read of the 64 bytes about the pc with execute permission (R83). -/
def State.fetchRead (s : State) (n r : Nat) : VResult :=
  s.vread (s.scalarWho n r) (.virt (.load n) (.fetch r) (s.ctxTag (s.core n r).ctx)) ((s.core n r).file.pc / 64 * 64) 64 needX

theorem fetchLine_waits (waits : (s.fetchRead n r).wait = true) : s.fetchLine n r = (s.fetchRead n r).s := if_pos waits

section
variable (arrived : (s.fetchRead n r).wait = false)
include arrived

theorem fetchLine_fails {m : MemFail} (failed : (s.fetchRead n r).fail = some m) :
    s.fetchLine n r = (s.fetchRead n r).s.seqFault n r fFetchFault := by
  unfold State.fetchRead at *
  simp only [State.fetchLine, arrived, failed, Bool.false_eq_true, if_false]

theorem fetchLine_installs (sound : (s.fetchRead n r).fail = none) :
    let q := s.fetchRead n r
    let line : ICacheLine := ⟨s.ctxTag (s.core n r).ctx, (s.core n r).file.pc / 64 * 64, q.data⟩
    s.fetchLine n r = { q.s with icache := q.s.icache.put n (installLine (q.s.lines n) line) } := by
  unfold State.fetchRead at *
  simp only [State.fetchLine, arrived, sound, Bool.false_eq_true, if_false]

end
end

/-! ## What a waiting SYNC station hears (R127, R128, R250, R251, R262) -/

/-- A cluster whose cores have all arrived counts at the root, which completes the generation with the last cluster. -/
theorem exec_barrierArrival_counts {c lane cl : Nat} {s : State} {l : Launch} (comp : c < 64) (half : lane < 2) (cluster : cl < 84)
    (launch : s.launches.find (laneKey c lane) = some l) (all : (l.router (84 + cl)).arrivals = (l.inCluster cl).length)
    (present : (l.router (84 + cl)).arrivals ≠ 0) (once : cl ∉ l.root.clusters) :
    exec (.barrierArrival c lane ⟨cl, none⟩) s = .next (s.setLaunch c lane
      { l with
        clBars := l.clBars.put (84 + cl) { l.router (84 + cl) with arrivals := 0 },
        bars := [if l.root.clusters.length + 1 = l.clusters.length then { l.root with gen := l.root.gen + 1, clusters := [] }
                 else { l.root with clusters := cl :: l.root.clusters }] }) := by
  have counts : ¬((l.router (84 + cl)).arrivals = 0 ∨ (l.router (84 + cl)).arrivals ≠ (l.inCluster cl).length ∨
      l.root.clusters.contains cl = true) := by
    simp [all ▸ present, all, once]
  refine checked_next.2 ⟨by simp [comp, half, cluster], ?_⟩
  dsimp only
  rw [launch]
  exact if_neg counts

section
variable {s : State} {n r : Nat} {i : StIns}

/-- The waiting head of SYNC that a notice selects does what it can now. -/
theorem recheckSync_head {f : StIns → Bool} (head : (s.core n r).headOf 9 = some i) (runs : (s.core n r).status = .running)
    (waits : (s.core n r).syncOn = some i.seq) (selected : f i = true) : s.recheckSync n r f = s.startSync n r i := by
  simp [State.recheckSync, head, runs, waits, selected]

theorem exec_barrierRelease_heard {scope : Nat} {l : Launch} (named : coreNamed n r = true) (bound : scope < 2)
    (launch : s.launchOf n r = some l) :
    let t := s.onCore n r fun x => { x with released := x.released.set scope (l.generation scope n) }
    exec (.barrierRelease n r ⟨scope, none⟩) s = .next (t.recheckSync n r fun i => i.op == 0 || i.op == 2) := by
  refine checked_next.2 ⟨Bool.and_eq_true_iff.2 ⟨named, decide_eq_true bound⟩, ?_⟩
  dsimp only
  rw [launch]

section
variable (named : coreNamed n r = true) (head : (s.core n r).headOf 9 = some i) (runs : (s.core n r).status = .running)
  (waits : (s.core n r).syncOn = some i.seq)
include named head runs waits

theorem exec_flagNotify_heard (op : i.op = 0x0A) (watched : (s.flagWatch.find (watchKey n r)).isSome = true) :
    exec (.flagNotify n ⟨r, none⟩) s = .next (s.startSync n r i) :=
  checked_next.2 ⟨named, (if_pos watched).trans (recheckSync_head head runs waits (beq_iff_eq.2 op))⟩

theorem exec_flagReread_reads (op : i.op = 0x0A) (unwatched : (s.flagWatch.find (watchKey n r)).isSome = false) :
    exec (.flagReread n r) s = .next (s.startSync n r i) :=
  checked_next.2 ⟨named, (if_neg (ne_true_of_eq_false unwatched)).trans (recheckSync_head head runs waits (beq_iff_eq.2 op))⟩

theorem exec_syncTimeout_due (op : i.op = 0x0A ∨ i.op = 0x18) (bounded : s2Of i.ops ≠ 0xFF) (due : i.val 2 ≤ s.dtOf (n / 8)) :
    let t := s.startSync n r i
    exec (.syncTimeout n r) s =
      .next (if (t.core n r).syncOn = some i.seq then (t.dropWatch n r).syncFault n r i fSyncTimeout else t) := by
  have expires : ((s.core n r).status == .running && (s.core n r).syncOn == some i.seq && (i.op == 0x0A || i.op == 0x18) &&
      s2Of i.ops != 0xFF && decide (i.val 2 ≤ s.dtOf (n / 8))) = true := by
    simp [runs, waits, op, bounded, due]
  refine checked_next.2 ⟨named, ?_⟩
  dsimp only
  rw [head]
  exact if_pos expires

end
end

/-- Settles O52, by what each event does where its condition holds (R61, R65, R66, R83, R90, R95, R127, R250, R251, R262). That a `seq.done` waiting
for what cannot start does not hold the boundary (DESIGN CHOICE, log 120), that a request is withdrawn there (log 130), and which line of a full set a
fill replaces (log 23), are the model's choices. -/
theorem coreEvents : Obligations.CoreEvents := by
  unfold Obligations.CoreEvents
  refine ⟨fun n r toward s named request runs => ?stops, fun n r toward s named stops started free => ?boundary,
    fun n r toward s named stops started due => exec_tileBudgetExpire_overruns named stops started due,
    fun n r va ok s named issues => ?fill, fun c lane cl s l comp half cluster launch all present once => ?arrival,
    fun n r scope s l named bound launch => exec_barrierRelease_heard named bound launch,
    fun c lane cl n r scope seg s comp half cluster named bound => ?lost,
    fun n r s i named head runs waits op => ⟨exec_flagNotify_heard named head runs waits op, exec_flagReread_reads named head runs waits op⟩,
    fun n r s i named head runs waits op bounded due => ?timeout⟩
  case stops =>
    refine ⟨_, exec_preemptionRequest_stops named request runs, ?_⟩
    refine (core_setCore_same ..).trans ?_
    rw [core_dropAhead]
    rfl
  case boundary =>
    intro b
    have reaches := exec_tileBoundaryReached_reaches named stops started free
    refine ⟨?_, ?_, fun k half => ?_⟩ <;> rintro rfl <;> exact reaches
  case fill =>
    intro x tag
    refine ⟨exec_icacheLineFill_misaligned named issues, fun aligned idle => exec_icacheLineFill_idle named issues aligned idle,
      fun aligned line missing => ?_⟩
    rw [exec_icacheLineFill_awaited named issues aligned line missing]
    refine ⟨fun bad => by rw [bad]; rfl, fun good => ?_⟩
    intro a q
    rw [good, if_pos rfl]
    exact ⟨fun waits => congrArg _ (fetchLine_waits waits), fun m arrived failed => congrArg _ (fetchLine_fails arrived failed),
      fun arrived sound => congrArg _ (fetchLine_installs arrived sound)⟩
  case arrival =>
    intro routers
    rw [exec_barrierArrival_counts comp half cluster launch all present once]
    exact ⟨fun last => by rw [if_pos last], fun more => by rw [if_neg more]⟩
  case lost =>
    exact ⟨checked_next.2 ⟨by simp [comp, half, cluster], rfl⟩,
      checked_next.2 ⟨Bool.and_eq_true_iff.2 ⟨named, decide_eq_true bound⟩, rfl⟩, checked_next.2 ⟨named, rfl⟩⟩
  case timeout =>
    intro t
    rw [exec_syncTimeout_due named head runs waits op bounded due]
    exact ⟨fun still => by rw [if_pos still], fun passed => by rw [if_neg passed]⟩

end Sys2Proof.Machine
end

section
/-! PROOFS of the scope: SEND and RECV: asking, granting, the bytes of a tile, reduction on the way, and a lost partner (R50, R63, R80, R122 to R126,
R130, R283, R289, R325). -/
namespace Sys2Proof.Machine

/-! ## Asking (R50, R63, R123, R130) -/

section
variable {s : State} {n r : Nat} {i : StIns} {l : Launch} {h : Handle}

theorem fixedLaunch_of_launchOf (launch : s.launchOf n r = some l) (fixed : l.fixed = true) : s.fixedLaunch n r = true := by
  simp only [State.fixedLaunch, launch, fixed]

section
variable (launch : s.launchOf n r = some l) (fixed : l.fixed = true) (role : (s.core n r).roleFault i = 0)
  (dest : s.destOk (s.core n r) l (i.val 0) (i.op == 8) = true) (full : (s.core n r).srcReady i (s1Of i.ops) = true)
  (source : (s.core n r).tile ((s.core n r).handleOf (s1Of i.ops) false) = some h)
include launch fixed role dest full source

/-- A `snd.radd.f32` toward a queue that no RECV fills. -/
theorem startSend_radd_bad (op : i.op = 8) (format : h.format = 0)
    (recv : ¬((l.destCore (i.val 0)).any fun m => (s.core m r).recvQueue (destQueue (i.val 0))) = true) :
    s.startSend n r i = s.queuedFault n r i (i.fault fSendDest 0) := by
  rw [op] at dest
  have refused := Bool.eq_false_iff.2 recv
  simp only [State.startSend, fixedLaunch_of_launchOf launch fixed, role, launch, op, dest, full, source, format, refused, ne_eq,
    not_true_eq_false, Bool.not_true, Bool.not_false, Bool.false_eq_true, if_false, if_true]

section
variable (room : ((s.core n r).started.filter fun t => t.ins.u == 7).length < 8)
include room

theorem startSend_radd_starts (op : i.op = 8) (format : h.format = 0)
    (recv : ((l.destCore (i.val 0)).any fun m => (s.core m r).recvQueue (destQueue (i.val 0))) = true) :
    s.startSend n r i = s.setCore n r ((s.core n r).begin i ((s.core n r).handlesFor i none) none (s.dtOf (n / 8))) := by
  rw [op] at dest
  simp only [State.startSend, fixedLaunch_of_launchOf launch fixed, role, launch, op, dest, full, source, format, recv, Nat.not_le.2 room,
    ne_eq, not_true_eq_false, Bool.not_true, Bool.false_eq_true, if_false, if_true]

/-- A `snd.tile` asks for its reservation, of a partner with a RESERVE. -/
theorem startSend_asks (op : i.op = 0) (fresh : (s.core n r).asked ≠ some i.seq) :
    let t := s.setCore n r { s.core n r with asked := some i.seq, askedTwice := false, answer := none, askedAt := s.dtOf (n / 8) }
    s.startSend n r i = if destRemote (i.val 0) then t.sendReserve n r i h else t := by
  rw [op] at dest
  have asks : ¬((s.core n r).asked = some i.seq ∨ ((s.core n r).started.filter fun t => t.ins.u == 7).length ≥ 8) :=
    fun waits => waits.elim fresh (Nat.not_le.2 room)
  simp only [State.startSend, fixedLaunch_of_launchOf launch fixed, role, launch, op, dest, full, source, asks, ne_eq, not_true_eq_false,
    Bool.not_true, Bool.false_eq_true, if_false, show ¬(0 : Nat) = 8 by decide]

end
end

/-! ## Starting a RECV (R122, R124, R130) -/

section
variable (fixed : s.fixedLaunch n r = true) (role : (s.core n r).roleFault i = 0)
include fixed role

theorem startRecv_tile (op : i.op = 0) : s.startRecv n r i = s.tryGrant 65 n r := by
  simp [State.startRecv, fixed, role, op]

theorem startRecv_radd (op : i.op = 8) (low : 1 ≤ i.val 1) (high : i.val 1 ≤ 64) (empty : (s.core n r).dstReady i = true)
    (dest : (s.core n r).tile (((s.core n r).handlesFor i none).getD 0 none) = some h) (format : h.format = 0) :
    let x := (s.core n r).begin i ((s.core n r).handlesFor i none) none (s.dtOf (n / 8))
    let x := { x with started := x.started.map fun t => if t.ins.seq = i.seq then { t with k := i.val 1 } else t }
    s.startRecv n r i = ((s.setCore n r x).feedRadd 65 n r).settleRecvs 9 n r := by
  have count : ¬(i.val 1 < 1 ∨ 64 < i.val 1) := by omega
  simp only [State.startRecv, fixed, role, op, count, empty, dest, format, ne_eq, not_true_eq_false, Bool.not_true, Bool.false_eq_true, if_false,
    show ¬(8 : Nat) = 0 by decide]

end

/-! ## Completing a SEND and a RECV (R125) -/

theorem completeHead_send (on : (s.dom (n / 8)).state = .on) : s.completeHead n r 7 = s.completeSend n r := by
  simp [State.completeHead, on]

theorem completeHead_recv (on : (s.dom (n / 8)).state = .on) : s.completeHead n r 8 = s.settleRecvs 9 n r := by
  simp [State.completeHead, on]

theorem completeSend_done {t : Started}
    (oldest : ((s.core n r).started.find? fun t => t.ins.u == 7 && !t.done && t.ins.op == 0 && destRemote (t.ins.val 0)) = some t) :
    s.completeSend n r = s.sendDone n r t.ins.seq := by
  simp only [State.completeSend, oldest]

end

/-! ## Reduction on the way (R130) -/

/-- One contribution meets nothing on its way. -/
theorem meeting_one (ctr : Nat) : meeting ctr 1 = [0] := by
  unfold meeting
  dsimp only
  split
  case isTrue order =>
    obtain ⟨length, whole⟩ := order
    obtain ⟨a, single⟩ := List.length_eq_one_iff.1 length
    simp_all
  case isFalse => rfl

section
variable {s : State} {n r tq : Nat} {c : Contributor} {h : Handle} (dest : (s.core n r).raddHandle tq = some h)
include dest

theorem contribute_fits (rows : h.rows = c.h.rows) (rowBytes : h.rowBytes = c.h.rowBytes) :
    let d := (s.linearBytes c.n r c.h).1
    let t : State := { s.setCore n r { s.core n r with contribs := (s.core n r).contribs ++ [(tq, 1, d)] } with freeCtr := s.freeCtr + 1 }
    s.contribute n r tq [c] = ((t.sendDone c.n r c.t.ins.seq).feedRadd 65 n r).settleRecvs 9 n r := by
  simp [State.contribute, dest, rows, rowBytes, meeting_one]

theorem contribute_refused (other : h.rows ≠ c.h.rows ∨ h.rowBytes ≠ c.h.rowBytes) :
    let u : State := { s.setCore n r (s.core n r) with freeCtr := s.freeCtr + 1 }
    let v := (u.onCore c.n r fun y => y.unstart c.t).progFault c.n r (c.t.ins.fault fSendShape 0)
    s.contribute n r tq [c] = (v.feedRadd 65 n r).settleRecvs 9 n r := by
  have differs : ¬(h.rows = c.h.rows ∧ h.rowBytes = c.h.rowBytes) := fun same => other.elim (absurd same.1) (absurd same.2)
  simp [State.contribute, dest, differs]

end

/-! ## Requests and grants (R50, R80, R124, R283, R289, R324, R325) -/

section
variable {s : State} {n r : Nat} {q : Reservation}

theorem exec_reserve_request {g : Reservation} (named : coreNamed n r = true) (request : s.requestOf n r q = some g) :
    exec (.reserve n r q) s = .next (if s.requestAway g then s.answerGrant g 6 0 else s.reserve n r g) := by
  refine checked_next.2 ⟨named, ?_⟩
  rw [request]

theorem requestOf_partner {k : Nat} (port : q.port = some k) : s.requestOf n r q = some q := if_pos (by rw [port]; rfl)

theorem requestOf_local (port : q.port = none) : s.requestOf n r q = s.localRequest n r q := if_neg (by rw [port]; exact Bool.false_ne_true)

/-- A port that is not held in the map is not going away. -/
theorem requestAway_iff {k : Nat} (port : q.port = some k) : s.requestAway q = true ↔ (s.port k).away ≠ 0 := by
  rw [State.requestAway, port, Option.any_some, State.port, SMap.get]
  cases s.ports.find k <;> simp [Port.init]

theorem requestAway_local (port : q.port = none) : s.requestAway q = false := by rw [State.requestAway, port]; rfl

section
variable {t : TQueue} (accepted : s.accepts (s.coreOwner.find n) q.comp q.epoch = true) (queue : (s.core n r).tq q.tq = some t)
include accepted queue

theorem reserve_refused (other : t.producer ≠ 8) : s.reserve n r q = s.answerGrant q 1 0 := by
  simp only [State.reserve, accepted, queue, other, ne_eq, not_false_eq_true, Bool.not_true, Bool.false_eq_true, if_false, if_true]

theorem reserve_waits (recv : t.producer = 8) (room : (s.core n r).reqs.length < 64) :
    s.reserve n r q = (s.setCore n r { s.core n r with reqs := (s.core n r).reqs ++ [q] }).tryGrant 65 n r := by
  simp only [State.reserve, accepted, queue, recv, Nat.not_le.2 room, ne_eq, not_true_eq_false, Bool.not_true, Bool.false_eq_true, if_false]

end

theorem tryGrant_grants {fuel : Nat} {i : StIns} {qk : Nat × Bool} {t : TQueue} {g : Reservation} {h : Handle}
    (head : (s.core n r).headOf 8 = some i) (op : i.op = 0) (code : queueCode (dstOf i.ops) = some qk) (queue : (s.core n r).tq qk.1 = some t)
    (oldest : ((s.core n r).reqs.find? fun g => g.tq == qk.1) = some g) (runs : (s.core n r).status = .running) (empty : t.tok t.head = .empty)
    (set : (s.core n r).handles.find t.head = some h) (fits : fitsHandle g h = true) :
    let x := { s.core n r with reqs := (s.core n r).reqs.erase g }
    let x := x.begin i (x.handlesFor i none) none (s.dtOf (n / 8))
    s.tryGrant (fuel + 1) n r =
      (s.setCore n r { x with granted := x.granted ++ [{ req := g, h := t.head, got := 0, at_ := s.dtOf (n / 8) }] }).answerGrant g 0 0 := by
  have goes : (i.op ≠ 0 || (s.core n r).status != .running || t.tok t.head != .empty) = false := by simp [op, runs, empty]
  obtain ⟨k, sfx⟩ := qk
  simp only at queue oldest
  simp only [State.tryGrant, head, code, queue, oldest, goes, set, fits, Bool.not_true, Bool.false_eq_true, if_false]

end

section
variable {s : State} {n r : Nat} {i : StIns} (named : coreNamed n r = true) (runs : (s.core n r).status = .running)
  (asking : (s.core n r).asking = some i)

section
include named runs asking

theorem exec_grant_partner (remote : destRemote (i.val 0) = true) (st : MemStatus) (ok : Bool) :
    exec (.grant n r st ok) s = .next (if st = .ok then (if ok then s.startGranted n r i else s.refusedSend n r i fSendShape)
      else s.refusedSend n r i fSendDest) := by
  refine checked_next.2 ⟨named, ?_⟩
  cases st <;> simp [asking, runs, remote]

section
variable (near : destRemote (i.val 0) = false) (st : MemStatus) (ok : Bool)
include near

theorem exec_grant_granted (answer : (s.core n r).answer = some 0) : exec (.grant n r st ok) s = .next (s.startGranted n r i) := by
  refine checked_next.2 ⟨named, ?_⟩
  simp [asking, runs, near, answer]

theorem exec_grant_shape (answer : (s.core n r).answer = some 16) : exec (.grant n r st ok) s = .next (s.refusedSend n r i fSendShape) := by
  refine checked_next.2 ⟨named, ?_⟩
  simp [asking, runs, near, answer]

theorem exec_grant_dest (answer : (s.core n r).answer = some 1) : exec (.grant n r st ok) s = .next (s.refusedSend n r i fSendDest) := by
  refine checked_next.2 ⟨named, ?_⟩
  simp [asking, runs, near, answer]

theorem exec_grant_nack (answer : (s.core n r).answer = some 9) : exec (.grant n r st ok) s =
    .next (if (s.core n r).askedTwice then s.refusedSend n r i fSendDest
      else s.setCore n r { s.core n r with askedTwice := true, answer := none }) := by
  refine checked_next.2 ⟨named, ?_⟩
  simp [asking, runs, near, answer]

end
end

/-- A grant starts the `snd.tile`; one through a port sends its bytes. -/
theorem startGranted_starts {h : Handle} (source : (s.core n r).tile ((s.core n r).handleOf (s1Of i.ops) false) = some h) :
    let x := s.core n r
    let t := s.setCore n r { x.begin i (x.handlesFor i none) none (s.dtOf (n / 8)) with asked := none, answer := none }
    let q := t.linearBytes n r h
    s.startGranted n r i =
      if destRemote (i.val 0) then q.2.sendTiles 1040 (destPort (i.val 0)) (sendTag n r i.seq) 0 q.1 else t := by
  simp only [State.startGranted, source]

end

/-! ## The bytes of a tile (R122, R124 to R126, R262) -/

section
variable {s : State} {n r tq tag off : Nat} {data : List Byte}

section
variable (named : coreNamed n r = true)
include named

theorem exec_tile_abandoned {poison : Bool} (gone : ((s.core n r).granted.find? fun g => g.req.tq == tq && reqTag g.req == tag) = none) :
    exec (.tile n r tq ⟨tag, off, poison⟩ data) s =
      .next (s.setCore n r { s.core n r with droppedBytes := (s.core n r).droppedBytes + data.length }) := by
  refine checked_next.2 ⟨named, ?_⟩
  dsimp only
  rw [gone]

section
variable {g : Granted} (found : ((s.core n r).granted.find? fun g => g.req.tq == tq && reqTag g.req == tag) = some g)
include found

theorem exec_tile_poisoned : exec (.tile n r tq ⟨tag, off, true⟩ data) s = .next (s.poisonedTile n r g) := by
  refine checked_next.2 ⟨named, ?_⟩
  dsimp only
  rw [found]
  rfl

theorem exec_tile_arrives {h : Handle} {b : List Byte} (set : (s.core n r).handles.find g.h = some h) (bytes : s.tileBytes g off data = some b) :
    exec (.tile n r tq ⟨tag, off, false⟩ data) s = .next (s.tileArrives n r g h off b) := by
  refine checked_next.2 ⟨named, ?_⟩
  simp only [found, set, bytes, Bool.false_eq_true, if_false]

end
end

theorem tileBytes_partner {g : Granted} (port : g.req.port.isSome = true) : s.tileBytes g off data = some data := if_pos port

/-- The bytes of a sender of this device are those of its source tile, in order. -/
theorem tileBytes_sender {g : Granted} {v : Started} {h : Handle} (port : g.req.port = none) (sender : s.senderOf g.req = some v)
    (source : (s.core g.req.src g.req.srcR).tile (v.hs.getD 1 none) = some h) (order : off = g.got) :
    s.tileBytes g off data = some (((s.linearBytes g.req.src g.req.srcR h).1.drop off).take data.length) := by
  simp only [State.tileBytes, port, sender, source, order, Option.isSome_none, Option.bind_some, Bool.false_eq_true, if_false, if_true]

end

/-! ## A lost partner (R126) -/

/-- Whether 50 µs have passed since a transfer began whose partner is lost. -/
def State.transferLost (s : State) (n k since : Nat) : Bool := decide (since + us 50 ≤ s.dtOf (n / 8)) && s.partnerLost k since

/-- The oldest started `snd.tile` through a port whose partner is lost. -/
def State.lostSend (s : State) (n r : Nat) : Option Started :=
  (s.core n r).started.find? fun t =>
    t.ins.u == 7 && t.ins.op == 0 && !t.done && destRemote (t.ins.val 0) && s.transferLost n (destPort (t.ins.val 0)) t.at_

section
variable {s : State} {n r : Nat} (named : coreNamed n r = true)
include named

theorem exec_sendFailed_started {t : Started} (gone : s.lostSend n r = some t) :
    exec (.sendFailed n r) s = .next ((s.sendDone n r t.ins.seq).progFault n r (t.ins.fault fSendFailed 0)) := by
  unfold State.lostSend State.transferLost at gone
  refine checked_next.2 ⟨named, ?_⟩
  simp only [gone, State.sendLost]

theorem exec_sendFailed_asking {i : StIns} (none : s.lostSend n r = none) (asking : (s.core n r).asking = some i)
    (remote : destRemote (i.val 0) = true) (late : s.transferLost n (destPort (i.val 0)) (s.core n r).askedAt = true) :
    exec (.sendFailed n r) s = .next (s.refusedSend n r i fSendFailed) := by
  unfold State.lostSend State.transferLost at none
  unfold State.transferLost at late
  refine checked_next.2 ⟨named, ?_⟩
  simp only [none, asking, remote, late, Bool.and_self, if_true]

theorem exec_recvReservationTimeout_abandons {tq : Nat} {g : Granted} {t : Started}
    (oldest : ((s.core n r).granted.find? fun g => g.req.tq == tq && g.req.port.isSome) = some g) (due : g.at_ + us 50 ≤ s.dtOf (n / 8))
    (started : ((s.core n r).started.find? fun t => t.ins.u == 8 && t.hs.getD 0 none == some g.h) = some t) :
    let x := ((s.core n r).setTok tq g.h .empty).unstart t
    exec (.recvReservationTimeout n r tq) s =
      .next ((s.setCore n r { x with granted := x.granted.erase g, abandoned := x.abandoned + 1, sq := t.ins :: x.sq }).tryGrant 65 n r) := by
  have queue : g.req.tq = tq := by
    have named := List.find?_some oldest
    simp only [Bool.and_eq_true, beq_iff_eq] at named
    exact named.1
  subst queue
  refine checked_next.2 ⟨named, ?_⟩
  simp only [oldest, Nat.not_lt.2 due, if_false, State.abandonGrant, started]

end

/-- Settles O53, by what each command does where the condition of its event holds (R50, R63, R80, R122 to R126, R130, R283, R289, R325). The places of a
RESERVE's fields (DESIGN CHOICE, log 22), and that a contribution of another shape raises SEND_SHAPE and the order in which contributions meet (log
121), are the model's choices. -/
theorem sendAndReceive : Obligations.SendAndReceive := by
  unfold Obligations.SendAndReceive
  refine ⟨fun n r s i l h named runs on head launch fixed role dest full source => ?send,
    fun n r s i named runs on head fixed role => ?recv, fun n r s named on => ?complete, fun n r tq count behind s named => ?contribution,
    fun n r tq c s h dest => ⟨contribute_fits dest, contribute_refused dest⟩, fun n r q s named => ?reserve,
    fun n r q s t accepted queue => ⟨reserve_refused accepted queue, reserve_waits accepted queue⟩,
    fun n r fuel s i qk t g h named head op code queue oldest runs empty set rows rowBytes format => ?grants,
    fun n r s i h named runs asking source => ?grant, fun n r tq tag off data poison s named => ?tile,
    fun g off data s => ⟨tileBytes_partner, fun v h => tileBytes_sender⟩, fun n r s named => ?lost,
    fun n r tq s g t named oldest due started => exec_recvReservationTimeout_abandons named oldest due started⟩
  case send =>
    intro room recv
    rw [exec_stationInstructionStart named (by decide) (by decide), startHead_send runs on head]
    exact ⟨fun op format bad => congrArg _ (startSend_radd_bad launch fixed role dest full source op format (ne_true_of_eq_false bad)),
      fun op format good space => congrArg _ (startSend_radd_starts launch fixed role dest full source space op format good),
      fun op fresh space => congrArg _ (startSend_asks launch fixed role dest full source space op fresh)⟩
  case recv =>
    rw [exec_stationInstructionStart named (by decide) (by decide), startHead_recv runs on head]
    exact ⟨fun op => congrArg _ (startRecv_tile fixed role op),
      fun h op low high empty dest format => congrArg _ (startRecv_radd fixed role op low high empty dest format)⟩
  case complete =>
    rw [exec_stationInstructionComplete named (by decide) (by decide), exec_stationInstructionComplete named (by decide) (by decide),
      completeHead_send on, completeHead_recv on]
    exact ⟨fun t oldest => congrArg _ (completeSend_done oldest), rfl⟩
  case contribution => exact checked_next.2 ⟨named, rfl⟩
  case reserve =>
    refine ⟨fun k port here => ?_, fun k port away => ?_, fun g port request near => ?_⟩
    · rw [exec_reserve_request named (requestOf_partner port), if_neg fun away => (requestAway_iff port).1 away here]
    · rw [exec_reserve_request named (requestOf_partner port), if_pos ((requestAway_iff port).2 away)]
    · rw [exec_reserve_request named ((requestOf_local port).trans request), requestAway_local near, if_neg Bool.false_ne_true]
  case grants =>
    exact tryGrant_grants head op code queue oldest runs empty set (by simp [fitsHandle, rows, rowBytes, format])
  case grant =>
    intro x t q bad
    have starts : s.startGranted n r i =
        if destRemote (i.val 0) then q.2.sendTiles 1040 (destPort (i.val 0)) (sendTag n r i.seq) 0 q.1 else t := startGranted_starts source
    refine ⟨fun st ok remote => ?_, fun st ok near => ?_⟩
    · rw [exec_grant_partner named runs asking remote, starts, if_pos remote]
      rfl
    · rw [if_neg (ne_true_of_eq_false near)] at starts
      exact ⟨fun answer => (exec_grant_granted named runs asking near st ok answer).trans (congrArg _ starts),
        exec_grant_shape named runs asking near st ok, exec_grant_dest named runs asking near st ok,
        exec_grant_nack named runs asking near st ok⟩
  case tile =>
    intro found
    refine ⟨exec_tile_abandoned named, fun g here bad => ?_, fun g h b here good set bytes => ?_⟩
    · subst bad
      exact exec_tile_poisoned named here
    · intro d t
      subst good
      rw [exec_tile_arrives named here set bytes]
      exact ⟨fun more => congrArg _ (if_pos more), fun last => congrArg _ (if_neg (Nat.not_lt.2 last))⟩
  case lost =>
    intro late gone
    exact ⟨fun t started => exec_sendFailed_started named started,
      fun i none asking remote due => exec_sendFailed_asking named none asking remote due⟩

end Sys2Proof.Machine
end
